-- ==== Sys2Proof/Word.lean ====
section
/-!
DEFINITION. The plain data the model is made of: bytes, and tables kept as strictly rising key lists.
-/

namespace Sys2Proof

/-- One byte. -/
abbrev Byte := BitVec 8

/-- A run of bytes, lowest address first. -/
abbrev Bytes := List Byte

/-- A table: keys strictly rising, absent keys read as the reader's default. -/
abbrev Tab (α : Type) := List (Nat × α)

namespace Tab

/-- The value at a key, if the table lists it. -/
def find {α : Type} : Tab α → Nat → Option α
  | [], _ => none
  | (j, v) :: t, k => if k = j then some v else find t k

/-- The value at a key, `d` where the table lists none. -/
def get {α : Type} (d : α) (t : Tab α) (k : Nat) : α := (find t k).getD d

/-- The table with key `k` holding `v`. -/
def set {α : Type} : Tab α → Nat → α → Tab α
  | [], k, v => [(k, v)]
  | (j, w) :: t, k, v =>
    if k = j then (j, v) :: t else if k < j then (k, v) :: (j, w) :: t else (j, w) :: set t k v

/-- The table without key `k`. -/
def del {α : Type} (t : Tab α) (k : Nat) : Tab α := t.filter (fun e => e.1 != k)

/-- The value at `k` changed by `f`, from `d` where none is listed. -/
def upd {α : Type} (d : α) (f : α → α) (t : Tab α) (k : Nat) : Tab α := t.set k (f (t.get d k))

/-- Keys strictly rising, all above a bound when one is given. -/
def sortedFrom {α : Type} : Option Nat → Tab α → Bool
  | _, [] => true
  | none, (j, _) :: t => sortedFrom (some j) t
  | some b, (j, _) :: t => decide (b < j) && sortedFrom (some j) t

/-- The canonical form: keys strictly rising. -/
def wf {α : Type} (t : Tab α) : Bool := sortedFrom none t

/-- The entries whose keys satisfy `p`. -/
def keep {α : Type} (p : Nat → Bool) (t : Tab α) : Tab α := t.filter (fun e => p e.1)

/-- The keys a table lists. -/
def keys {α : Type} (t : Tab α) : List Nat := t.map (·.1)

end Tab

end Sys2Proof
end

