-- ==== Sys2Proof/Syntax.lean ====
section
/-!
DEFINITION. The commands of the block: one constructor of `Instr` for each row of opcode_table.json, with the
operands the row's event carries. An engine row names the running command whose work it does (its parameters lie in
the Sheet), a Gazetteer row carries the request as it arrived, a protocol row the message, a physical row what was
measured or sensed.
-/

namespace Sys2Proof

/-- A command of a Sheet: its Inset and its index in the Sheet that Inset has in force. -/
structure CmdRef where
  inset : Nat
  idx   : Nat
deriving DecidableEq, Repr

/-- What the on-die hardware reports while an engine row runs (R22, R76, Table 18-11): nothing, an uncorrectable
Graticule flit, an uncorrectable operand-buffer word, a residue mismatch or register fault of cube `c` of the tile,
a tile sequencer fault, or an uncorrectable word of the engine's own working SRAM. -/
inductive Hw where
  | ok | noc | opbuf | sequencer | sram
  | residue (c : Nat) | register (c : Nat)
deriving DecidableEq, Repr

/-- The path a Gazetteer request came by (R362, R363). -/
inductive GazPath where
  /-- Mailbox of function `f`. -/
  | mailbox (f : Nat)
  /-- Field port, from a source MAC. -/
  | field (src : Nat)
  /-- Torus management channel, from node `src` with the tag mask of R303. -/
  | torus (src mask : Nat)
deriving DecidableEq, Repr

/-- A Gazetteer request: its path, the 32-byte header of Table 17-5 as a number, and its data. -/
structure GazReq where
  path : GazPath
  hdr  : Nat
  data : Bytes
deriving DecidableEq, Repr

/-- A torus message as it arrives: logical port, domain tag of its flits, the 32-byte header of Table 13-6, payload. -/
structure Msg where
  port    : Nat
  tag     : Nat
  hdr     : Nat
  payload : Bytes
deriving DecidableEq, Repr

/-- What a boundary message declares for a domain tag (Table 13-11): SEQ_t and STATE_t. -/
structure TagDecl where
  seq   : Nat
  state : Nat
deriving DecidableEq, Repr

/-- What a boundary brings with it that the node does not hold: the members of each domain by tag (used while the node
is master), the smallest monitor margin of the closing tick in ps, the package energy of the tick in µJ, and the Insets
whose next Sheet has an uncorrectable word in the Sheet store. -/
structure BoundaryIn where
  members  : List (Nat × List Nat)
  marginPs : Nat
  energyUj : Nat
  badStore : List Nat
deriving DecidableEq, Repr

/-- A TICK flit as it arrives (Table 13-11): the node port, the 64-byte header part, and the deviation of the boundary
it names from the node's own, in ns. -/
structure TickIn where
  port      : Nat
  tickNo    : Nat
  periodUs  : Nat
  master    : Nat
  hops      : Nat
  remainPs  : Nat
  residePs  : Nat
  offsetNs  : Int
  decls     : List TagDecl
deriving DecidableEq, Repr

/-- What CXL.cache returned for a DM_HOST_READ: one element per 64-byte line, its bytes, or none where the line
came back poisoned. -/
abbrev HostData := List (Option Bytes)

/-- What the flash array returned for one page or codeword read: the read retry step that decoded it (0 first), or none
where every step and the soft decode failed (R271). -/
abbrev FlashRead := Option Nat

/-- What the flash dies reported during a window or a write: outcomes of successive program operations (true: passed)
and of successive reads. -/
structure FlashPhys where
  programs : List Bool
  reads    : List FlashRead
deriving DecidableEq, Repr

/-- What a training step saw: the state the port leaves, the lanes seen, lane order and polarity, the presets chosen by
the receiver per lane, and the node and port that IDENT reported. -/
structure TrainIn where
  lanes    : List Nat
  polarity : Nat
  presets  : List Nat
  node     : Nat
  farPort  : Nat
deriving DecidableEq, Repr

/-- A flit on an active port: none where its codeword failed decode; otherwise its 64-bit header and 256-byte payload. -/
structure FlitIn where
  body : Option (Nat × Bytes)
deriving DecidableEq, Repr

/-- An access of a control core: the core, the node physical address, the data of a store (none for a load), the length
of a load, and whether a flit that carries it decodes as uncorrectable (R22). -/
structure CoreAccess where
  core : Nat
  addr : Nat
  len  : Nat
  data : Option Bytes
  noc  : Bool
deriving DecidableEq, Repr

/-- What a scrub read found at the scrubber's position: the word as it stands, or bit errors sensed in it. -/
inductive ScrubFound where
  | asStored | single | uncorrectable
deriving DecidableEq, Repr

/-- What the board rails or the regulators report: per rail, mV, mA, m°C and STATUS_WORD, or none where the bus link to
the regulator failed. -/
abbrev RailIn := List (Option (Nat × Nat × Int × Nat))

/-- Temperatures in 1/16 °C: the die maximum, then the eight stacks. -/
abbrev TempIn := List Int

/-- What a start-up phase ends with: the elapsed time in µs since t0, and what the phase read from flash and the PUF
(used in the ROM and IDLE_CAL phases). -/
structure PhaseIn where
  atUs     : Nat
  pufOk    : Bool
  slots    : List Bytes
  repair   : List Bytes
  owner    : Bytes
  mfgCert  : Bytes
  idleUj   : List Nat
deriving DecidableEq, Repr

/-- The commands of the block, in the order of opcode_table.json. -/
inductive Instr where
  | tickBoundary (b : BoundaryIn)
  | boundaryMessage (m : TickIn)
  | holdover
  | tickUnlock
  | masterFailover
  | masterWait
  | tickSend (members : List (Nat × List Nat))
  | commandIssue (c : CmdRef)
  | commitPoint (c : CmdRef)
  | drainEnd (c : CmdRef) (badStage : List Nat)
  | overrunAbandon (inset : Nat)
  | matmul (c : CmdRef) (hw : Hw)
  | add (c : CmdRef) (hw : Hw)
  | sub (c : CmdRef) (hw : Hw)
  | mul (c : CmdRef) (hw : Hw)
  | fma (c : CmdRef) (hw : Hw)
  | min (c : CmdRef) (hw : Hw)
  | max (c : CmdRef) (hw : Hw)
  | abs (c : CmdRef) (hw : Hw)
  | neg (c : CmdRef) (hw : Hw)
  | relu (c : CmdRef) (hw : Hw)
  | cmpGt (c : CmdRef) (hw : Hw)
  | vectorSelect (c : CmdRef) (hw : Hw)
  | cvt (c : CmdRef) (hw : Hw)
  | exp (c : CmdRef) (hw : Hw)
  | log (c : CmdRef) (hw : Hw)
  | recip (c : CmdRef) (hw : Hw)
  | rsqrt (c : CmdRef) (hw : Hw)
  | tanh (c : CmdRef) (hw : Hw)
  | sigmoid (c : CmdRef) (hw : Hw)
  | gelu (c : CmdRef) (hw : Hw)
  | rowSum (c : CmdRef) (hw : Hw)
  | rowMax (c : CmdRef) (hw : Hw)
  | rowSumsq (c : CmdRef) (hw : Hw)
  | quant (c : CmdRef) (hw : Hw)
  | dequant (c : CmdRef) (hw : Hw)
  | range (c : CmdRef) (hw : Hw)
  | select (c : CmdRef) (hw : Hw)
  | sort (c : CmdRef) (hw : Hw)
  | merge (c : CmdRef) (hw : Hw)
  | kth (c : CmdRef) (hw : Hw)
  | searchStart (c : CmdRef) (hw : Hw)
  | searchExpand (c : CmdRef) (hw : Hw)
  | searchFetchList (c : CmdRef) (hw : Hw)
  | searchFinish (c : CmdRef) (hw : Hw)
  | insertLink (c : CmdRef) (hw : Hw)
  | delete (c : CmdRef) (hw : Hw)
  | consolidate (c : CmdRef) (hw : Hw)
  | embRoute (c : CmdRef) (hw : Hw)
  | embFetchList (c : CmdRef) (hw : Hw)
  | embServe (c : CmdRef) (hw : Hw)
  | embPool (c : CmdRef) (hw : Hw)
  | embScatter (c : CmdRef) (hw : Hw)
  | embApply (c : CmdRef) (hw : Hw)
  | rowReplace (c : CmdRef) (hw : Hw)
  | surveyClose (c : CmdRef) (hw : Hw)
  | placeDecide (c : CmdRef) (hw : Hw)
  | migFetchList (c : CmdRef) (hw : Hw)
  | migSend (c : CmdRef) (hw : Hw)
  | chartCommit (c : CmdRef) (hw : Hw)
  | atlasSwitch (c : CmdRef) (hw : Hw)
  | bsuMode (c : CmdRef)
  | modeChangeSequence (channel : Nat)
  | bsuRun (c : CmdRef) (hw : Hw)
  | bsuQload (c : CmdRef) (hw : Hw)
  | scoreSketch (c : CmdRef) (op : Nat) (hw : Hw)
  | dotI8 (c : CmdRef) (op : Nat) (hw : Hw)
  | l2I8 (c : CmdRef) (op : Nat) (hw : Hw)
  | cmpSelect (c : CmdRef) (op : Nat) (hw : Hw)
  | poolRows (c : CmdRef) (op : Nat) (hw : Hw)
  | fill (c : CmdRef) (op : Nat) (hw : Hw)
  | copy (c : CmdRef) (op : Nat) (hw : Hw)
  | bsuHoldPoison (channel : Nat)
  | apertureEnqueue (channel : Nat) (slot : Nat) (data : Bytes)
  | apFlush (channel : Nat)
  | dmCopy (c : CmdRef) (hw : Hw)
  | dmFill (c : CmdRef) (hw : Hw)
  | dmHostRead (c : CmdRef) (reply : HostData)
  | blockTranspose (c : CmdRef) (hw : Hw)
  | ckptCapture (c : CmdRef) (hw : Hw)
  | hostAdmit (c : CmdRef) (hw : Hw)
  | hostComplete (c : CmdRef) (hw : Hw)
  | scribeGather (c : CmdRef) (reads : List FlashRead)
  | scribeWrite (c : CmdRef) (phys : FlashPhys)
  | ckptWindow (c : CmdRef) (phys : FlashPhys)
  | ckptManifest (inset : Nat) (programmed : Bool)
  | bgWindow (c : CmdRef) (phys : FlashPhys)
  | zqCal (channel : Nat)
  | flashChannelReset (channel : Nat) (trained : List Nat)
  | rebuild (phys : List FlashRead)
  | flashFormat (r : GazReq)
  | ckptRestore (r : GazReq)
  | restoreEnd (inset : Nat) (phys : List FlashRead)
  | portTraining (port : Nat) (t : TrainIn)
  | trainingTimeout (port : Nat)
  | flitReceive (port : Nat) (flit : FlitIn)
  | nak (port : Nat) (seq : Nat)
  | laneSerWindow (port : Nat) (lane : Nat) (errors : Nat) (symbols : Nat) (lockLost : Bool)
  | laneSwap (port : Nat) (lane : Nat) (spare : Nat) (codeword : Nat)
  | linkDown (port : Nat)
  | portSwap (port : Nat) (spare : Nat)
  | probe (port : Nat) (t1 : Nat) (t2 : Nat) (t3 : Nat) (t4 : Nat)
  | delayProbe (port : Nat) (t1 : Nat)
  | presetReq (port : Nat) (lane : Nat) (preset : Nat) (codeword : Nat)
  | retrain (port : Nat)
  | put (m : Msg)
  | a2aSlot (m : Msg)
  | done (m : Msg)
  | token (m : Msg)
  | lease (m : Msg)
  | barrier (m : Msg)
  | mgmtReq (m : Msg)
  | mgmtRsp (m : Msg)
  | event (m : Msg)
  | torusPut (c : CmdRef)
  | torusWait (c : CmdRef)
  | torusA2a (c : CmdRef)
  | sqTail (fn : Nat) (queue : Nat) (value : Nat)
  | queueConfig (fn : Nat) (queue : Nat) (field : Nat) (value : Nat)
  | shaperRelease (flow : Nat)
  | egressSelect (port : Nat)
  | gateEntry (port : Nat)
  | tmSample (inset : Nat)
  | depthSample
  | switchEnd (inset : Nat)
  | preempt (r : GazReq)
  | insetReset (r : GazReq)
  | leaseRevoked (sync : Nat)
  | intHoldoff (inset : Nat) (vector : Nat)
  | cxlMemRead (hpa : Nat) (noc : Bool)
  | cxlMemWrite (hpa : Nat) (data : Bytes) (mask : Nat) (poison : Bool)
  | controlCoreAccess (a : CoreAccess)
  | hdmCommit (decoder : Nat) (base : Nat) (size : Nat) (ways : Nat)
  | cxlSnoop (addr : Nat)
  | cxlConfigRequest (addr : Nat)
  | getSupportedLogs (fn : Nat)
  | getLog (fn : Nat) (uuid : Bytes) (offset : Nat) (length : Nat)
  | getTimestamp (fn : Nat)
  | setTimestamp (fn : Nat) (ns : Nat)
  | mailboxUnsupported (fn : Nat) (opcode : Nat)
  | switchInstant (inset : Nat)
  | bindRelease (r : GazReq)
  | hostLinkLost
  | orphanAbort (inset : Nat)
  | roleChange (r : GazReq)
  | fieldFrame (frame : Bytes) (fcsOk : Bool)
  | announce
  | read (r : GazReq)
  | write (r : GazReq)
  | readStaged (r : GazReq)
  | check (r : GazReq)
  | apply (r : GazReq)
  | discard (r : GazReq)
  | setState (r : GazReq)
  | scrubRead (mc : Nat) (inst : Nat) (found : ScrubFound)
  | remapApplied (mc : Nat) (inst : Nat) (row : Nat)
  | channelSpared (channel : Nat)
  | channelFill (channel : Nat)
  | repairRecordWrite (ok : Bool)
  | suspectClear (r : GazReq)
  | dumpRecord
  | counterClear (r : GazReq)
  | sampleReset (r : GazReq)
  | attestNonce (r : GazReq)
  | attestReport (inset : Nat) (ok : Bool)
  | floorCert (r : GazReq)
  | ownerKey (r : GazReq)
  | imageWrite (r : GazReq)
  | measureExtend (r : GazReq)
  | debugToken (r : GazReq)
  | pwrGoodRise (rails : RailIn)
  | pwrGoodFall
  | resetN (bootSrc : Nat)
  | startPhaseEnd (p : PhaseIn)
  | vrPoll (rails : RailIn)
  | vrAlert (rails : RailIn)
  | vcoreEmergency (marginPs : Nat)
  | vcoreMargin (marginPs : Nat)
  | thermalSample (temps : TempIn)
  | refclkCheck (ppb : Int) (spreadPpb : Nat) (cxlPpb : Int)
  | insetStart (r : GazReq)
  | apertureOperation (channel : Nat) (hw : Hw)
  | rehearsalSwapReturn (port : Nat)
  | resetNAssert
  | dynamicAddressAssignment (addr : Nat)
deriving DecidableEq, Repr

end Sys2Proof
end

