-- ==== Sys2Proof/Decode.lean ====
section
/-!
DEFINITION. Decoding of table words: opcode_table.json gives no row any bits, so no word spells a command.
-/

namespace Sys2Proof

/-- The command an opcode-table word spells. The table's rows carry no bits: none, for every word. -/
def decodeTableWord (_nbits _w : Nat) : Option Instr := none

end Sys2Proof
end

