-- ==== Sys2Proof/Machine/Bits.lean ====
section
/-!
DEFINITION. Bit fields in the manual's [msb:lsb] notation, little-endian bytes, sign extension and the small
list functions the meanings share.
-/

namespace Sys2Proof

/-- The bit field `[hi:lo]` of a record held as a number (R6: bit 0 is the least significant). -/
def bf (x hi lo : Nat) : Nat := (x >>> lo) % 2 ^ (hi + 1 - lo)

/-- Bit `i` of a record as a truth value. -/
def bit (x i : Nat) : Bool := (x >>> i) % 2 == 1

/-- A record with field `[hi:lo]` replaced by `v` (cut to the field's width). -/
def setBf (x hi lo v : Nat) : Nat :=
  x - (bf x hi lo) * 2 ^ lo + (v % 2 ^ (hi + 1 - lo)) * 2 ^ lo

/-- Little-endian value of bytes (R6). -/
def leNat : Bytes → Nat
  | [] => 0
  | b :: bs => b.toNat + 256 * leNat bs

/-- `n` bytes of `x`, little-endian (R6). -/
def toLe : Nat → Nat → Bytes
  | 0, _ => []
  | n + 1, x => BitVec.ofNat 8 x :: toLe n (x / 256)

/-- Two's complement reading of the low `w` bits. -/
def sext (w x : Nat) : Int :=
  let y := x % 2 ^ w
  if y < 2 ^ (w - 1) then (y : Int) else (y : Int) - (2 ^ w : Nat)

/-- The low `w` bits of an integer. -/
def wrapInt (w : Nat) (i : Int) : Nat := (i % ((2 ^ w : Nat) : Int)).toNat

/-- Saturation of an integer to the two's complement range of `w` bits. -/
def satInt (w : Nat) (i : Int) : Int :=
  let hi : Int := ((2 ^ (w - 1) : Nat) : Int) - 1
  let lo : Int := -((2 ^ (w - 1) : Nat) : Int)
  if i > hi then hi else if i < lo then lo else i

/-- Rounding up of a quotient; division by zero gives 0 and is never used. -/
def ceilDiv (a b : Nat) : Nat := (a + b - 1) / b

/-- `x` rounded up to a multiple of `m`. -/
def roundUp (x m : Nat) : Nat := ceilDiv x m * m

/-- The numbers `a, a+1, …` (n of them). -/
def rangeFrom : Nat → Nat → List Nat
  | _, 0 => []
  | a, n + 1 => a :: rangeFrom (a + 1) n

/-- The numbers below `n`, ascending. -/
def upto (n : Nat) : List Nat := rangeFrom 0 n

/-- Element `i` of a list, or a default past its end. -/
def nth {α : Type} (d : α) : List α → Nat → α
  | [], _ => d
  | a :: _, 0 => a
  | _ :: as, i + 1 => nth d as i

/-- A list with element `i` changed; unchanged past its end. -/
def modNth {α : Type} (f : α → α) : List α → Nat → List α
  | [], _ => []
  | a :: as, 0 => f a :: as
  | a :: as, i + 1 => a :: modNth f as i

/-- Cut a list into chunks of `n`, at most `fuel` of them. -/
def chunks {α : Type} (n : Nat) : Nat → List α → List (List α)
  | 0, _ => []
  | _ + 1, [] => []
  | f + 1, l => l.take n :: chunks n f (l.drop n)

/-- All of a list satisfies `p`, with the index given. -/
def allIdx {α : Type} (p : Nat → α → Bool) : Nat → List α → Bool
  | _, [] => true
  | i, a :: as => p i a && allIdx p (i + 1) as

/-- Map with the index given. -/
def mapIdxFrom {α β : Type} (f : Nat → α → β) : Nat → List α → List β
  | _, [] => []
  | i, a :: as => f i a :: mapIdxFrom f (i + 1) as

/-- Stable insertion into a list ordered by `le`. -/
def insertBy {α : Type} (le : α → α → Bool) (a : α) : List α → List α
  | [] => [a]
  | b :: bs => if le a b then a :: b :: bs else b :: insertBy le a bs

/-- Stable insertion sort: structural, so the kernel can run it. -/
def sortBy {α : Type} (le : α → α → Bool) : List α → List α
  | [] => []
  | a :: as => insertBy le a (sortBy le as)

/-- A list without repeats, first occurrences kept in order. -/
def nub {α : Type} [BEq α] : List α → List α
  | [] => []
  | a :: as => a :: (nub as).filter (fun b => !(b == a))

/-- The first failure of a list of checks, in order. -/
def firstSome {α : Type} : List (Option α) → Option α
  | [] => none
  | some a :: _ => some a
  | none :: r => firstSome r

/-- A check: the code when the condition is violated. -/
def failIf {α : Type} (b : Bool) (a : α) : Option α := if b then some a else none

/-- Number of set bits among the low `n`. -/
def popCount : Nat → Nat → Nat
  | 0, _ => 0
  | n + 1, x => x % 2 + popCount n (x / 2)

/-- Positions of the set bits of `x` among the low `n`, ascending, from `i`. -/
def setBits : Nat → Nat → Nat → List Nat
  | 0, _, _ => []
  | n + 1, i, x => if x % 2 = 1 then i :: setBits n (i + 1) (x / 2) else setBits n (i + 1) (x / 2)

end Sys2Proof
end

