-- ==== Sys2Proof/Machine/Check.lean ====
section
/-!
DEFINITION. The check codes the manual gives by polynomial or matrix: CRC-32C, the two CRC-16s, and the stack word's
check field with its decoding (R229, R230).
-/

namespace Sys2Proof.Machine

/-- Eight steps of a reflected CRC register. -/
def crcReflStep (poly : Nat) : Nat → Nat → Nat
  | 0, r => r
  | n + 1, r => crcReflStep poly n (if r % 2 = 1 then Nat.xor (r / 2) poly else r / 2)

/-- CRC-32C of bytes: reflected polynomial 0x82F6_3B78, initial value and final inversion of all ones. -/
def crc32c (bs : Bytes) : Nat :=
  Nat.xor 0xFFFFFFFF
    (bs.foldl (fun r b => crcReflStep 0x82F63B78 8 (Nat.xor r b.toNat)) 0xFFFFFFFF)

/-- The CRC of bytes with the four at `o` taken as 0. -/
def crcHole (bs : Bytes) (o : Nat) : Nat := crc32c (bs.take o ++ List.replicate 4 0 ++ bs.drop (o + 4))

/-- A table with the 16-byte header of INDEX_TABLE: magic, count in [47:32], CRC-32C in [127:96]. -/
def tableImage (magic count : Nat) (records : Bytes) : Bytes :=
  let head := toLe 12 (magic + count % 65536 * 2 ^ 32)
  head ++ toLe 4 (crc32c (head ++ List.replicate 4 0 ++ records)) ++ records

/-- Steps of a 16-bit register shifted left, polynomial 0x1021. -/
def crc16Step : Nat → Nat → Nat
  | 0, r => r
  | n + 1, r => crc16Step n (if r ≥ 0x8000 then Nat.xor (r * 2 % 0x10000) 0x1021 else r * 2 % 0x10000)

/-- CRC-16, polynomial 0x1021, most significant bit first, no final inversion, from an initial value. -/
def crc16 (init : Nat) (bs : Bytes) : Nat :=
  bs.foldl (fun r b => crc16Step 8 (Nat.xor r (b.toNat * 256))) init

/-- R229 step 2: the 11-bit values of weight 3 or 5, ascending; position p takes the (p + 1)-th. -/
def hTable : List Nat :=
  (upto 2048).filter (fun v => decide (popCount 11 v = 3) || decide (popCount 11 v = 5))

/-- XOR of the codes of the set bits of `x`. -/
def hXor : List Nat → Nat → Nat → Nat
  | [], _, acc => acc
  | h :: hs, x, acc => hXor hs (x / 2) (if x % 2 = 1 then Nat.xor acc h else acc)

/-- The h field of data `d` with CRC bits `r` (R229 step 3). -/
def hField (d r : Nat) : Nat := hXor (hTable.take 528) (d + r * 2 ^ 512) 0

/-- The check field R229 forms for a 64-byte word. -/
def checkField (d : Nat) : Nat :=
  let r := crc16 0 (toLe 64 d)
  hField d r + r * 2048

/-- The check field of a poisoned word (R229 step 4). -/
def poisonField (d : Nat) : Nat :=
  let r := crc16 0 (toLe 64 d)
  Nat.xor (hField d r) 0x7FF + r * 2048

/-- Outcome of decoding a word (Table 10-12). -/
inductive WordState where
  | clean
  | corrected (d : Nat)
  | poisoned
  | uncorrectable
deriving DecidableEq, Repr

/-- The position of a code in the table, from `i`. -/
def hPos : List Nat → Nat → Nat → Option Nat
  | [], _, _ => none
  | h :: hs, s, i => if h = s then some i else hPos hs s (i + 1)

/-- Decoding a stack word: data `d`, check field `e` (R230, Table 10-12). -/
def decodeWord (d e : Nat) : WordState :=
  let r := bf e 26 11
  let s := Nat.xor (hField d r) (bf e 10 0)
  if s = 0 then (if crc16 0 (toLe 64 d) = r then .clean else .uncorrectable)
  else if s = 0x7FF then .poisoned
  else match hPos (hTable.take 528) s 0 with
    | some p =>
      let d' := if p < 512 then Nat.xor d (2 ^ p) else d
      let r' := if p < 512 then r else Nat.xor r (2 ^ (p - 512))
      if crc16 0 (toLe 64 d') = r' then .corrected d' else .uncorrectable
    | none =>
      -- a unit vector: the flipped bit lies in h itself
      if popCount 11 s = 1 then (if crc16 0 (toLe 64 d) = r then .corrected d else .uncorrectable)
      else .uncorrectable

end Sys2Proof.Machine
end

