-- ==== Sys2Proof/Machine/Codes.lean ====
section
/-!
DEFINITION. The Legend codes of Table 18-14 (R388), each under the manual's own name.
-/

namespace Sys2Proof.Machine.Code

/-- R11: the value 0x0000. -/
def SUCCESS : Nat := 0x0000
def RESERVED_SET : Nat := 0x1001
def ENTRY_UNKNOWN : Nat := 0x1002
def ACCESS_DENIED : Nat := 0x1003
def RESOURCE_CONFLICT : Nat := 0x1004
def APPLY_LATE : Nat := 0x1005
def VALUE_RANGE : Nat := 0x1006
def STAGE_STATE : Nat := 0x1007
def STAGE_STALE : Nat := 0x1008
def STAGE_FULL : Nat := 0x1009
def FRAME_FORMAT : Nat := 0x100A
def GAZ_BUSY : Nat := 0x100B
def TICK_RANGE : Nat := 0x1010
def CLOSE_GUARD_SHORT : Nat := 0x1011
def SHEET_FORMAT : Nat := 0x1012
def SHEET_ENGINE : Nat := 0x1013
def SHEET_WINDOW : Nat := 0x1014
def SHEET_SYNC : Nat := 0x1015
def SHEET_OPERAND : Nat := 0x1016
def SHEET_PERIOD : Nat := 0x1017
def SHEET_STORE_FULL : Nat := 0x1018
def SHEET_HAZARD : Nat := 0x1019
def SHEET_STAGING : Nat := 0x101A
def SHEET_LINK : Nat := 0x101B
def NOC_OVERSUBSCRIBED : Nat := 0x1020
def REL_FORMAT : Nat := 0x1030
def RESOURCE_FILLING : Nat := 0x1031
def REHEARSAL_FORMAT : Nat := 0x1032
def TILE_SHAPE : Nat := 0x1040
def TILE_LAYOUT : Nat := 0x1041
def TILE_OPERAND : Nat := 0x1042
def TILE_PARAM : Nat := 0x1043
def PROJ_PARAM : Nat := 0x1044
def PROJ_LAYER : Nat := 0x1045
def PROJ_RERUN_LIMIT : Nat := 0x1046
def PROJ_CALIB_FORMAT : Nat := 0x1047
def SELECT_PARAM : Nat := 0x1050
def SELECT_LENGTH : Nat := 0x1051
def SELECT_OPERAND : Nat := 0x1052
def TRAV_PARAM : Nat := 0x1060
def TRAV_OPERAND : Nat := 0x1061
def INDEX_FORMAT : Nat := 0x1062
def QCACHE_RANGE : Nat := 0x1063
def INDEX_IN_USE : Nat := 0x1064
def MAINT_FORMAT : Nat := 0x1065
def MAINT_CHAIN : Nat := 0x1066
def MAINT_FV_UNPAIRED : Nat := 0x1067
def EMB_PARAM : Nat := 0x1070
def EMB_OPERAND : Nat := 0x1071
def EMB_TABLE_FORMAT : Nat := 0x1072
def EMB_APPLY_DUP : Nat := 0x1073
def EMB_TABLE_IN_USE : Nat := 0x1074
def PLACE_PARAM : Nat := 0x1080
def PLACE_HAZARD : Nat := 0x1081
def VERSION_SPACING : Nat := 0x1082
def ROWVER_FORMAT : Nat := 0x1083
def ATLAS_OWNS_TABLES : Nat := 0x1084
def MIG_UNPAIRED : Nat := 0x1085
def BSU_PARAM : Nat := 0x1090
def BSU_OPERAND : Nat := 0x1091
def BSU_POWER : Nat := 0x1092
def BSU_MODE_CONFLICT : Nat := 0x1093
def BSU_MAP_FORMAT : Nat := 0x1094
def CKPT_HAZARD : Nat := 0x10A0
def CKPT_MISMATCH : Nat := 0x10A1
def QUOTA_FORMAT : Nat := 0x10A2
def QUOTA_REFUSED : Nat := 0x10A3
def RESTORE_BUSY : Nat := 0x10A4
def SCRIBE_PARAM : Nat := 0x10B0
def SCRIBE_OPERAND : Nat := 0x10B1
def FLASH_SEQ_FORMAT : Nat := 0x10B2
def FLASH_LAYOUT : Nat := 0x10B3
def FLASH_BUSY : Nat := 0x10B4
def TORUS_PARAM : Nat := 0x10C0
def TORUS_OPERAND : Nat := 0x10C1
def TORUS_ROUTE : Nat := 0x10C2
def TORUS_TABLE_FORMAT : Nat := 0x10C3
def TORUS_LANDING : Nat := 0x10C4
def TORUS_OVERSUBSCRIBED : Nat := 0x10C5
def TM_FORMAT : Nat := 0x10D0
def TM_PLAN_CONFLICT : Nat := 0x10D1
def GATE_FORMAT : Nat := 0x10D2
def FLOW_UNKNOWN : Nat := 0x10D3
def FLOW_POLICED : Nat := 0x10D4
def FLOW_REMOVED : Nat := 0x10D5
def GATE_TAKEOVER_PAST : Nat := 0x10D6
def INSET_FORMAT : Nat := 0x10E0
def PREEMPT_LATE : Nat := 0x10E1
def PREEMPT_PRIORITY : Nat := 0x10E2
def SYNC_FORMAT : Nat := 0x10E3
def SUBMIT_FORMAT : Nat := 0x10F0
def REQ_DUPLICATE : Nat := 0x10F1
def BIND_FORMAT : Nat := 0x10F2
def BIND_STALE : Nat := 0x10F3
def ROLE_REFUSED : Nat := 0x10F4
def QUEUE_CONFIG : Nat := 0x10F5
def COUNTER_FORMAT : Nat := 0x1100
def COUNTER_EVENT : Nat := 0x1101
def SAMPLE_FORMAT : Nat := 0x1102
def CART_FORMAT : Nat := 0x1110
def ATTEST_BUSY : Nat := 0x1111
def FLOOR_PENDING : Nat := 0x1113
def IMAGE_BELOW_FLOOR : Nat := 0x1114
def PWR_FORMAT : Nat := 0x1120
def REBUILD_PENDING : Nat := 0x1130
def START_NOT_READY : Nat := 0x1131
def START_UNLOCKED : Nat := 0x1132
def STAGE_RELOCKED : Nat := 0x1133
def START_FORMAT : Nat := 0x1134
def OVERRUN_ABANDON : Nat := 0x2010
def BACKUP_LOST : Nat := 0x2011
def ENGINE_RETIRED : Nat := 0x2012
def CUBE_FAULT : Nat := 0x2020
def TILE_SHARED_FAULT : Nat := 0x2021
def PROJ_BAD_PARAM : Nat := 0x2022
def SELECT_INPUT : Nat := 0x2030
def SLOT_BUSY : Nat := 0x2040
def INDEX_CORRUPT : Nat := 0x2041
def INDEX_FULL : Nat := 0x2042
def GRANULE_FULL : Nat := 0x2043
def DELETE_NOT_FOUND : Nat := 0x2044
def MAINT_STATE : Nat := 0x2045
def INSERT_RECORD : Nat := 0x2046
def EMB_BATCH : Nat := 0x2050
def EMB_OVERFLOW : Nat := 0x2051
def EMB_OWNER : Nat := 0x2052
def EMB_NOT_OWNER : Nat := 0x2053
def CHANGE_LIST : Nat := 0x2060
def ATLAS_BUSY : Nat := 0x2061
def LOOKUP_EXPIRED : Nat := 0x2062
def ATLAS_IMAGE : Nat := 0x2063
def ATLAS_MISMATCH : Nat := 0x2064
def VERSION_TOO_SOON : Nat := 0x2065
def EMB_PARAM_ROW : Nat := 0x2066
def BSU_NOT_PROC : Nat := 0x2070
def BSU_APERTURE_REFUSED : Nat := 0x2071
def STAGE_OVERFLOW : Nat := 0x2080
def SCRIBE_ENTRY : Nat := 0x2090
def TORUS_DEST : Nat := 0x20A0
def TORUS_OVERFLOW : Nat := 0x20A1
def TORUS_LAND_FULL : Nat := 0x20A2
def PREEMPTED : Nat := 0x20B0
def LEASE_REVOKED : Nat := 0x20B1
def INSET_RESET_KILL : Nat := 0x20B2
def NODE_FAULT : Nat := 0x20C0
def SUSPECT_MARKED : Nat := 0x20C1
def THERMAL_TRIP : Nat := 0x2100
def VCORE_MARGIN : Nat := 0x2101
def THERMAL_WARN : Nat := 0x2102
def START_SEQ_MISMATCH : Nat := 0x2110
def TIER_LATE : Nat := 0x3001
def TIER_FAILED : Nat := 0x3002
def RERANK_VECTOR_LOST : Nat := 0x3010
def EMB_FLASH_LOST : Nat := 0x3020
def EMB_FLASH_UPDATE : Nat := 0x3021
def CKPT_COW_FULL : Nat := 0x3030
def CKPT_BUSY : Nat := 0x3031
def CKPT_FLASH_FAIL : Nat := 0x3032
def CKPT_POISON_FULL : Nat := 0x3033
def CKPT_CAPTURE_LOST : Nat := 0x3034
def CKPT_PREEMPTED : Nat := 0x3035
def FLASH_READ_FAIL : Nat := 0x3040
def FLASH_OVER : Nat := 0x3041
def FLASH_PROG_FAIL : Nat := 0x3043
def FLASH_NO_SPACE : Nat := 0x3044
def FLASH_CHANNEL_DOWN : Nat := 0x3045
def RESTORE_GROUP_LOST : Nat := 0x3100
def TICK_UNLOCK : Nat := 0x4010
def MASTER_FAILOVER : Nat := 0x4011
def PERIOD_MISMATCH : Nat := 0x4012
def LANE_SWAPPED : Nat := 0x4020
def PORT_SWAPPED : Nat := 0x4021
def LINK_DOWN : Nat := 0x4022
def TORUS_MSG_CRC : Nat := 0x4023
def NEIGHBOUR_MISMATCH : Nat := 0x4024
def MGMT_DENIED : Nat := 0x4025
def VR_LINK_FAIL : Nat := 0x4100
def REFCLK_OUT : Nat := 0x4101
def RAIL_FAULT : Nat := 0x4102
def STACK_UNCORRECTABLE : Nat := 0x5001
def SRAM_UNCORRECTABLE : Nat := 0x5002
def POISON_EXPORT : Nat := 0x5003
def CHART_UNCORRECTABLE : Nat := 0x5004
def SHEET_STORE_UNCORRECTABLE : Nat := 0x5005
def SYNC_UNCORRECTABLE : Nat := 0x5006
def VOTE_FAIL : Nat := 0x5007
def REMAP_APPLIED : Nat := 0x5008
def REMAP_FULL : Nat := 0x5009
def CHANNEL_SPARED : Nat := 0x500A
def SCRUB_SLOW : Nat := 0x500B
def REPAIR_WRITE_FAIL : Nat := 0x500C
def NOC_UNCORRECTABLE : Nat := 0x5020
def COMMIT_POISON : Nat := 0x5030
def OPBUF_UNCORRECTABLE : Nat := 0x5040
def SELECT_SRAM_UNCORRECTABLE : Nat := 0x5050
def INDEX_UNCORRECTABLE : Nat := 0x5060
def TRAV_SRAM_UNCORRECTABLE : Nat := 0x5061
def EMB_ROW_UNCORRECTABLE : Nat := 0x5070
def POOL_SRAM_UNCORRECTABLE : Nat := 0x5071
def BSU_UNCORRECTABLE : Nat := 0x5080
def BSU_HOLD_POISON : Nat := 0x5081
def BSU_SRAM_UNCORRECTABLE : Nat := 0x5082
def SCRIBE_MAP_UNCORRECTABLE : Nat := 0x5090
def REPAIR_ENTRY_BAD : Nat := 0x5100
def ORPHANED : Nat := 0x6001
def ORPHAN_HANDOVER : Nat := 0x6002
def ORPHAN_ABORT : Nat := 0x6003
def HOST_LINK_LOST : Nat := 0x6004
def IMAGE_AUTH_FAIL : Nat := 0x7001
def NO_VALID_IMAGE : Nat := 0x7002
def FLOOR_SIG_FAIL : Nat := 0x7003
def FLOOR_ABOVE_IMAGE : Nat := 0x7004
def OWNER_KEY_FAIL : Nat := 0x7005
def PUF_FAIL : Nat := 0x7006
def REPAIR_SIG_FAIL : Nat := 0x7007
def DEBUG_TOKEN_FAIL : Nat := 0x7008
def DEBUG_UNLOCKED : Nat := 0x7009
def ATTEST_SIGN_FAIL : Nat := 0x700A
def FIELD_BYTES : Nat := 0xC100

end Sys2Proof.Machine.Code
end

