-- ==== Sys2Proof/Config.lean ====
section
/-!
DEFINITION. What the manual fixes outside its pages: per-part and per-stepping constants it names without giving,
standards it names without describing, and values it leaves open. Each is an opaque constant, so nothing can be
proved of its value.
-/

namespace Sys2Proof.Config

/-- A value the manual leaves open, of the given number of bits, by draw. Marked DESIGN CHOICE in the assumption log:
a free value. -/
opaque freeValue : Nat → Nat → Nat

/-- G 0x1000.02, per part (R3). -/
opaque orderingCode : Bytes
/-- G 0x1080.01 (R17), fixed for stepping B1. -/
opaque nocStopMap : Bytes
/-- G 0x3031.01, the reference set of R337. -/
opaque energyCurvesReference : Bytes
/-- G 0x8000.01, the reference table of R255. -/
opaque flashSeqReference : Bytes
/-- PE_LIMIT and PE_LIMIT_PSLC of the reference table (R255 does not list them). -/
opaque peLimitReference : Nat → Nat
/-- G 0x9010.01, the reference set of R282. -/
opaque eqPresetsReference : Bytes
/-- G 0xE001.01, set by the board. -/
opaque vrAddrBoard : Bytes
/-- G 0xB001.01, the matrix of stepping B1 (R368). -/
opaque sramCodeMatrix : Bytes
/-- G 0xC000.01, the catalogue of stepping B1 (R390). -/
opaque eventCatalogue : Bytes
/-- G 0xD000.01, per grade (R403). -/
opaque rootHash : Bytes
/-- G 0xD000.02, per part (R3). -/
opaque grade : Nat
/-- The Woresk manufacturing public key and the engineering or production root key held by the ROM. -/
opaque manufacturingKey : Bytes
/-- Key hash of the Woresk debug key, held in ROM (R414). -/
opaque debugKeyHash : Bytes
/-- The ROM version word measured into MR0. -/
opaque romVersion : Bytes

/-- Forwarded flits beyond LINK_PLAN (R289), whose format the manual does not give: plan, logical port, FCLK cycle in the
tick, flits of the message. -/
opaque forwardOver : Bytes → Nat → Nat → Nat → Nat

/-- Flits that LINK_PLAN, whose format the manual does not give, reserves for a logical port, domain tag and VC from one
FCLK cycle of the tick to another: plan, port, tag, VC, from, to. -/
opaque planFlits : Bytes → Nat → Nat → Nat → Nat → Nat → Nat

/-- UUID and contents of the Command Effects Log (R339 names the log and does not give it). -/
opaque celUuid : Bytes
opaque commandEffectsLog : Bytes

/-- Condition of a state event of the catalogue (R390, R391) in an FCLK cycle: event, Inset filter, instance, cycle. -/
opaque stateCondition : Nat → Nat → Nat → Nat → Bool

/-- SHA3-512 of FIPS 202 (R402). -/
opaque sha3 : Bytes → Bytes
/-- ML-DSA-87 verification of FIPS 204 (R402): public key, message, signature. -/
opaque mldsaVerify : Bytes → Bytes → Bytes → Bool
/-- ML-DSA-87 signing with the node's identity key: message. -/
opaque mldsaSign : Bytes → Bytes
/-- The PUF-derived identity public key of this part (R404). -/
opaque identityKey : Bytes
/-- The nonce drawn at a boot, by boot number (R411). -/
opaque bootNonce : Nat → Bytes

/-- Modelled energy of R337 for a count: event, count, setpoint in mV; in µJ. The real power V^VEXP has no exact form. -/
opaque modelledUj : Bytes → Nat → Nat → Nat → Nat

end Sys2Proof.Config
end

