-- ==== Sys2Proof/Machine/State.lean ====
section
/-!
DEFINITION. The state of the CL9 block as plain data: every register, memory, queue, counter, mode and pin the
manual gives it, the queue of waiting commands, the faults and refusals, and the state right after reset.
-/

namespace Sys2Proof.Machine

/-- Why the block stops. -/
inductive Fault where
  /-- A command names an instance the node does not have (an Inset above 15, a channel above 255, …). Raised by the
  meanings whose operand is such a number. Safe: the hardware has no such event. -/
  | noSuchInstance
deriving DecidableEq, Repr

/-- Why a command has no meaning. -/
inductive Refusal where
  /-- The command's row is not modelled yet; raised by the arms of `exec` only. Safe: nothing is claimed of it. -/
  | notModelled (mnemonic : String)
deriving DecidableEq, Repr

/-- The value of a Gazetteer entry (Table 17-1): a scalar held as its unsigned bits, or a STRING or DOMAIN. -/
inductive GVal where
  | num (n : Nat)
  | blob (b : Bytes)
deriving DecidableEq, Repr

/-! ### What the block puts out -/

/-- An outward effect, appended to `State.out` in order. -/
inductive Out where
  /-- A Gazetteer response: path, header of Table 17-5, data. -/
  | gazResp (path : GazPath) (hdr : Nat) (data : Bytes)
  /-- A field-port frame to a MAC, carrying a Gazetteer frame. -/
  | fieldFrame (dst : Nat) (payload : Bytes)
  /-- MSI-X vector of a function (R333). -/
  | msix (fn vector : Nat)
  /-- A CXL.io write to host memory. -/
  | hostWrite (addr : Nat) (data : Bytes)
  /-- CXL.mem read data, with CXL data poison. -/
  | cxlData (hpa : Nat) (data : Bytes) (poison : Bool)
  /-- A CXL.mem write completion. -/
  | cxlDone (hpa : Nat)
  /-- A CXL.mem request no decoder serves. -/
  | cxlUnserved (hpa : Nat)
  /-- RspIHitI to an H2D snoop (R339). -/
  | cxlRspIHitI (addr : Nat)
  /-- A configuration response: Request Retry Status (true) or a successful completion (R431). -/
  | cxlConfig (addr : Nat) (retry : Bool)
  /-- HDM decoder commit result: committed, or Error Not Committed. -/
  | hdmResult (decoder : Nat) (ok : Bool)
  /-- A mailbox reply: function, return code (0 Success, 0x15 Unsupported), payload. -/
  | mailbox (fn code : Nat) (data : Bytes)
  /-- A CXL.cache RdCurr request. -/
  | rdCurr (addr len : Nat)
  /-- A torus message handed to a port (logical), with domain tag and VC: 32-byte header and payload. -/
  | message (port tag vc hdr : Nat) (payload : Bytes)
  /-- Flits resent after a NAK: port, first SEQ, count. -/
  | resend (port seq count : Nat)
  /-- A CTRL flit (Table 13-5): port, operation, operands. -/
  | ctrlFlit (port op : Nat) (args : List Nat)
  /-- An acknowledgement and credit return in the next flit header: port, ACK, VC, tag, flits. -/
  | credit (port ack vc tag n : Nat)
  /-- A TICK flit: port, TICK_NO, PERIOD_US, MASTER, HOPS, REMAIN_PS, and the declarations by tag. -/
  | tickFlit (port tickNo period master hops remainPs : Nat) (decls : List TagDecl)
  /-- A training frame request on a physical port: the port, its state. -/
  | training (port state : Nat)
  /-- Data returned to a control core, or a load error. -/
  | coreData (core addr : Nat) (data : Option Bytes)
  /-- The core rail setpoint in mV written on the regulator bus. -/
  | railSet (mv : Nat)
  /-- THERM_TRIP_N level: true while asserted. -/
  | thermTrip (asserted : Bool)
  /-- A regulator command: rail, PMBus-class command code. -/
  | regulator (rail code : Nat)
deriving DecidableEq, Repr

/-! ### Clocks, power and start-up (chapters 21, 22) -/

structure ClkState where
  /-- FCLK cycles counted (R2). -/
  cycle       : Nat
  pwrGood     : Bool
  resetN      : Bool
  /-- Cycle of t0 (R431). -/
  t0          : Nat
  /-- BOOT_STATE of Table 21-5. -/
  bootState   : Nat
  bootSrc     : Nat
  /-- The node holds the recovery state (R409). -/
  recovery    : Bool
  dynAddr     : Option Nat
  /-- LAST_CODE of the I3C status block: last Legend code of class 0x4 or 0x7, or of R409. -/
  lastCode    : Nat
  setpointMv  : Nat
  /-- Consecutive ticks with m_min above the target by 15 ps. -/
  quietTicks  : Nat
  /-- TICK_NO of the last emergency step (R421). -/
  emergencyAt : Option Nat
  thermWarn   : List Bool
  thermTripN  : Bool
  refBad      : Bool
  refGoodMs   : Nat
  /-- Rails whose regulator cannot be reached; a rail was outside its window when PWR_GOOD rose (R417, R419). -/
  vrFails     : List Nat
  railFault   : Bool
  /-- Setpoint in mV times cycles of the running tick, up to the cycle of the last change. -/
  setpointSum : Nat
  setpointAt  : Nat
  /-- E_idle in µJ at each of the 41 steps (R337). -/
  idleUj      : List Nat
deriving DecidableEq, Repr

/-! ### The Meridian tick (chapters 2, 13, 22) -/

/-- A boundary message held for its boundary. -/
structure TickMsg where
  tickNo   : Nat
  periodUs : Nat
  master   : Nat
  decls    : List TagDecl
deriving DecidableEq, Repr

/-- A Sheet DONE recorded by the master: tag, node, SHEET_SEQ, cycle of arrival, and the boundary before which it does not
count (R437; 0 for a Sheet or a switch). -/
structure DoneRec where
  tag   : Nat
  node  : Nat
  seq   : Nat
  at_   : Nat
  bound : Nat
deriving DecidableEq, Repr

structure TickState where
  /-- Cycle of the last boundary. -/
  lastAt      : Nat
  /-- Next local boundary, as set by R24. -/
  nextAt      : Nat
  msg         : Option TickMsg
  /-- Boundaries in a row without a message. -/
  missed      : Nat
  holdoverAt  : Option Nat
  /-- Boundary number of the last message that matched under R27 or R435. -/
  matched     : Option Nat
  /-- Linear id of the master last heard. -/
  master      : Option Nat
  /-- Highest TICK_NO forwarded (R302). -/
  forwarded   : Option Nat
  /-- The node has held lock since start-up (R433). -/
  everLocked  : Bool
  /-- Lock is to be gained under R435: before the first lock, and for a master that has given up the role. -/
  joining     : Bool
  /-- Cycle at which the last port left training (R435). -/
  trainedAt   : Option Nat
  done        : List DoneRec
  /-- SEQ last declared by tag, while master. -/
  declared    : Tab Nat
  /-- Tags for which START_SEQ_MISMATCH stands. -/
  mismatch    : List Nat
  /-- Timed rehearsal entries fired: boundary messages left to ignore (DET_ID 0x013). -/
  ignore      : Nat
deriving DecidableEq, Repr

/-! ### The Gazetteer (chapter 17) -/

/-- A staged set (R356): 0 EMPTY, 1 OPEN, 2 CHECKED, 3 PENDING. -/
structure StageSet where
  state  : Nat
  bound  : Nat
  /-- Another set became PENDING since this one's CHECK. -/
  stale  : Bool
  staged : Tab GVal
deriving DecidableEq, Repr

def StageSet.empty : StageSet := ⟨0, 0, false, []⟩

/-- A DOMAIN image being written in segments (R362). -/
structure ImageIn where
  path  : GazPath
  inst  : Nat
  key   : Nat
  total : Nat
  /-- Segments, latest first: offset and bytes. -/
  segs  : List (Nat × Bytes)
deriving DecidableEq, Repr

structure GazState where
  /-- Values of entries that differ from their defaults, by instance × 2^24 + index × 256 + subindex; instance 0–15 is
  an Inset, 16 the node. -/
  regs    : Tab GVal
  /-- The 17 staged sets; 16 is the node set. -/
  sets    : Tab StageSet
  images  : List ImageIn
  /-- Requests accepted on their path and not yet served. -/
  queue   : List GazReq
  /-- CHECK_DETAIL, a 256-bit record of Table 17-4 per set. -/
  details : Tab Nat
  /-- Cycle from which the next ANNOUNCE frame is due (R364). -/
  announceAt : Nat
deriving DecidableEq, Repr

/-! ### Memory (chapters 10, 11, 18) -/

/-- The addressed memories: stacks (pinned view), tile operand buffers and shared scratch (Table 11-2). -/
structure MemState where
  /-- Bytes, strictly rising, no zero listed: an unlisted byte reads as 0 (R372). -/
  bytes  : List Host.Cell
  /-- Stack words (address / 64) whose stored check field is not the one R229 forms from their data: the field. -/
  chk    : Tab Nat
  /-- On-die words (address / 64) that decode as uncorrectable. -/
  t0bad  : Tab Nat
  /-- Granules (address / 4096) in the current dirty set, and in the snapshot set. -/
  dirty  : Tab Nat
  snap   : Tab Nat
deriving DecidableEq, Repr

/-! ### Sheets and the scheduler (chapters 2, 15) -/

/-- Command states of Table 2-6; a running command whose engine has finished is `finished`. -/
inductive Phase where
  | pending | running | finished | draining | committed | killed
deriving DecidableEq, Repr

/-- A torus message to be sent: destination port class, header, payload. -/
structure TxMsg where
  tag     : Nat
  vc      : Nat
  hdr     : Nat
  payload : Bytes
deriving DecidableEq, Repr

/-- One entry of a query slot's pool (Table 6-1). -/
structure PoolEnt where
  vertex   : Nat
  score    : Int
  expanded : Bool
  tomb     : Bool
deriving DecidableEq, Repr

/-- A bound query slot of a traverse engine (Table 6-1). A slot that is FREE is not listed. -/
structure Slot where
  queryId    : Nat
  datum      : Nat
  index      : Nat
  classId    : Nat
  /-- 1 LIVE, 2 SPENT, 3 FETCHED. -/
  state      : Nat
  expansions : Nat
  descent    : Nat
  bsuScored  : Nat
  engScored  : Nat
  earlyExit  : Bool
  qrec       : Nat
  code       : Nat
  qcode      : Bytes
  visited    : Nat
  pool       : List PoolEnt
  /-- Inset that owns the engine, and the stream whose Sheet bound the slot. -/
  inset      : Nat
  stream     : Nat
  /-- Vertex whose granule is prefetched (R136). -/
  prefetch   : Option Nat
  /-- BSU_SCORE was 1; the query cache line; PROC_EPOCH recorded by channel (R216). -/
  bsu        : Bool
  qline      : Nat
  epochs     : Tab Nat
deriving DecidableEq, Repr

/-- An effect of a command that is no memory write, applied at its commit point or at the end of its drain. -/
inductive Eff where
  /-- An entry of the dictionary set, or increased, by instance and key. -/
  | setReg (inst key val : Nat)
  | addReg (inst key delta : Nat)
  | setBlob (inst key : Nat) (b : Bytes)
  /-- A traverse slot written or freed. -/
  | setSlot (n : Nat) (s : Option Slot)
  /-- A Chart entry written. -/
  | setChart (n val : Nat)
  /-- An event record: code, source detail, tag or address. -/
  | raise (inset code detail addr : Nat)
  /-- A torus message queued for egress. -/
  | send (m : TxMsg)
  /-- A sync object advanced (MISS_SYNC of R96). -/
  | syncAdd (obj : Nat) (n : Nat)
  /-- A host write queued on the Inset's port-9 flow. -/
  | host (inset : Nat) (addr : Nat) (data : Bytes)
  /-- A landed message freed: Inset, SRC, XFER_TAG, STAMP, SLOT. -/
  | freeLanded (inset src xfer stamp slot : Nat)
  /-- A mode change requested for a stack channel: mode and READ_CAP. -/
  | modeChange (channel mode : Nat)
  /-- A query cache line of a channel loaded. -/
  | qcLine (channel line val : Nat)
  /-- Bytes written to a unit's result region. -/
  | resRegion (channel off : Nat) (b : Bytes)
  /-- A page map entry written. -/
  | flashMap (lpn ppn : Nat)
  /-- A request admitted: the submission entry, its admission Datum, stream, yellow, fallback. -/
  | hostAdmit (inset queue index entry datum stream : Nat) (yellow fallback : Bool)
  /-- A request completed by HOST_COMPLETE: the entry, the code and the four counts, SHORTFALL and TRUNC. -/
  | complete (inset entry code : Nat) (words : List Nat) (shortfall trunc : Bool)
  /-- A submission entry rejected by HOST_ADMIT. -/
  | reject (inset queue index entry code : Nat)
  /-- SQ_HEAD of a queue pair moved over its leading admitted and rejected entries. -/
  | sqHead (inset queue : Nat)
  /-- A Survey counter of a table raised, saturating, or lowered by what a SURVEY_CLOSE took: counter number in the
  three arrays of R197. -/
  | survey (inset table key delta : Nat)
  | surveyTake (inset table key delta : Nat)
  /-- SHARD_LOAD of a table's SURVEY_CLOSE, for SURVEY_REPORT. -/
  | surveyLoad (inset table : Nat) (b : Bytes)
  /-- Number of entries on a table's settle list (R201). -/
  | settled (inset table n : Nat)
  /-- A count of PROJ_LAYER_STATS, by LAYER_ID × 4 + column (0 saturated elements, 1 misses, 2 re-runs). -/
  | layer (inset key delta : Nat)
  /-- A lookup of the plan admitted for a table, or completed where none is given, by its LOOKUP_TAG. -/
  | lookup (inset tag : Nat) (table : Option Nat)
deriving DecidableEq, Repr

/-- One command of a running Sheet. -/
structure Cmd where
  /-- The 64-byte record of Table 2-3. -/
  word      : Nat
  /-- Its operand descriptors (Table 2-5). -/
  descs     : List Nat
  params    : Bytes
  phase     : Phase
  /-- Completion code. -/
  code      : Nat
  issueAt   : Nat
  commitAt  : Nat
  /-- TIER_LATE has been counted for it (R243), and the cause its engine reports to consumers. -/
  lateDone  : Bool
  lateCause : Nat
  /-- A lease was acquired at issue: newly, or as a renewal (R329). -/
  leaseNew  : Bool
  leaseHeld : Bool
  /-- Commit token: 0 not asked, 1 asked of HOME, 2 granted, 3 denied (R331). -/
  token     : Nat
  /-- Staged writes, in order: address and bytes; and words to be written as poison. -/
  writes    : List (Nat × Bytes)
  poison    : List Nat
  onCommit  : List Eff
  onDrain   : List Eff
  /-- A rehearsal detector forced in it (R385): 0 none. -/
  rehearsed : Nat
  /-- Engine-specific progress: operations of a BSU_RUN done, messages of an A2A sent, … -/
  progress  : List Nat
  /-- Cycle at which it reached COMMITTED. -/
  endAt     : Nat
deriving DecidableEq, Repr

structure Sheet where
  /-- The 64-byte header of Table 2-2. -/
  header  : Nat
  seq     : Nat
  startAt : Nat
  slips   : Nat
  /-- DONE has been reported. -/
  done    : Bool
  cmds    : List Cmd
  /-- The capture of a CKPT_MARK Sheet was killed (R247). -/
  captureLost : Bool
deriving DecidableEq, Repr

/-- An open request: admitted and not yet completed (R44). -/
structure OpenReq where
  /-- The submission entry of Table 16-4. -/
  entry    : Nat
  datum    : Nat
  stream   : Nat
  overrun  : Bool
  yellow   : Bool
  fallback : Bool
deriving DecidableEq, Repr

/-- A stream switch in progress (R325), and whether its end has been reported. -/
structure Switch where
  target   : Nat
  source   : Nat
  reported : Bool
deriving DecidableEq, Repr

/-- A pre-emption or role change waiting for its boundary (R326, R352). -/
structure PreemptReq where
  bound  : Nat
  stream : Nat
  /-- none for PREEMPT; the ATLAS_ID of a ROLE_CHANGE. -/
  role   : Option Nat
deriving DecidableEq, Repr

/-- Checkpoint progress of an Inset (R246 to R252). -/
structure Ckpt where
  /-- Groups of W not yet written, ascending. -/
  left      : List Nat
  total     : Nat
  /-- Groups written so far, with the slot state each takes in the new map (1 A, 2 B). -/
  written   : List (Nat × Nat)
  /-- Saved copies: group, its nonzero bytes, its bad words. -/
  saved     : List (Nat × List Host.Cell × List Nat)
  poison    : List Nat
  /-- Manifest and map programmed; takes effect at the next Datum. -/
  programmed : Bool
  /-- Header fields of Sheet s: NEXT_SHEET_ID, PERIOD_US, PLAN_TAG, ATLAS_GEN. -/
  nextId    : Nat
  periodUs  : Nat
  planTag   : Nat
  atlasGen  : Nat
  captureAt : Nat
  captureLen : Nat
  /-- Area of the committed manifest: 0 A, 1 B, 2 none. -/
  area      : Nat
  /-- Restore running: the manifest area being restored. -/
  restoring : Option Nat
deriving DecidableEq, Repr

def Ckpt.idle : Ckpt := ⟨[], 0, [], [], [], false, 0, 0, 0, 0, 0, 0, 2, none⟩

/-- What an Inset's scheduler holds. -/
structure InsetSt where
  sheet     : Option Sheet
  /-- NEXT_IN_STREAM: next SHEET_ID of streams 0–3. -/
  nextId    : List Nat
  sliceIdx  : Nat
  sliceLeft : Nat
  switch    : Option Switch
  preempt   : Option PreemptReq
  /-- Resident stream + 1 by stack channel (R325). -/
  residents : Tab Nat
  /-- Boundary of an accepted INSET_START (R437). -/
  startAt   : Option Nat
  opens     : List OpenReq
  /-- Interrupt mask of R334, cycle of each vector's last firing, vectors with gathered events. -/
  masked    : Bool
  fired     : Tab Nat
  gathered  : Tab Nat
  /-- Event records and accounting records written since the ring was applied. -/
  events    : Nat
  acctRecs  : Nat
  /-- Busy counts of Table 15-5, CUBE_CYC to HOST_BYTES, in the running tick. -/
  busy      : List Nat
  /-- Barrier ranks of the last SUSPECT_WINDOW barriers: was this node last? -/
  window    : List Bool
  ckpt      : Ckpt
  /-- SHEET_SEQ of the last Sheet that wrote each embedding table or index (R193), by table. -/
  lastWrite : Tab Nat
  /-- SURVEY_BANK, SHARD_LOAD of the last SURVEY_CLOSE, and entries on the settle list, by TABLE_ID (R197, R201). -/
  banks     : Tab Nat
  loads     : Tab Bytes
  settled   : Tab Nat
  /-- Counts of PROJ_LAYER_STATS, by LAYER_ID × 4 + column. -/
  layers    : Tab Nat
  /-- OLDEST_LIVE_DATUM of INDEX_ID 0–15 as it stood where the running Sheet started (R149). -/
  oldest    : List Nat
  /-- Lookups that an EMB_ROUTE admitted and that are not completed: TABLE_ID by LOOKUP_TAG. -/
  lookups   : Tab Nat
deriving DecidableEq, Repr

/-- A sync object (Table 15-3). `held` tells a lease or token held by node 0 from a free one. -/
structure SyncObj where
  value     : Nat
  kind      : Nat
  owner     : Nat
  home      : Nat
  share     : Nat
  held      : Bool
  holder    : Nat
  hInset    : Nat
  renewTick : Nat
  renewAt   : Nat
  expect    : Nat
  lastRank  : Nat
  /-- The word decodes as uncorrectable (R370). -/
  bad       : Bool
deriving DecidableEq, Repr

def SyncObj.zero : SyncObj := ⟨0, 0, 0, 0, 0, false, 0, 0, 0, 0, 0, 0, false⟩

structure SchedState where
  insets    : Tab InsetSt
  sync      : Tab SyncObj
  /-- Commit log: Inset, SHEET_SEQ, command index; oldest first. -/
  commitLog : List (Nat × Nat × Nat)
  /-- Barrier arrivals at HOME: object, node and Inset, oldest first. -/
  arrivals  : List (Nat × Nat × Nat)
  /-- Token and lease requests sent to another HOME: object, Inset, command. -/
  asked     : List (Nat × CmdRef)
  /-- Node stopped by a node fault (R383): no Sheet starts. -/
  halted    : Bool
deriving DecidableEq, Repr

/-! ### Search, Chart and bank-side units (chapters 6 to 10) -/

structure SearchState where
  /-- Bound query slots, by engine × 2048 + slot. -/
  slots : Tab Slot
deriving DecidableEq, Repr

/-- One stack channel's unit (chapter 10). -/
structure StackUnit where
  /-- MODE in bit 0, READ_CAP in [6:1] (the format of BSU_BASE_MAP). -/
  mode     : Nat
  /-- A mode change waiting for the channel's rotation slot: the mode to reach. -/
  change   : Option Nat
  epoch    : Nat
  /-- Query cache lines loaded since the channel entered PROC: 64-byte line by line number. -/
  qcache   : Tab Nat
  /-- Result region, by byte. -/
  result   : Tab Nat
  /-- Aperture command slots, by offset / 8. -/
  slots    : Tab Nat
  /-- Queued aperture operations: 32-byte command and its sequence. -/
  queue    : List (Nat × Nat)
  apSeq    : Nat
  apDone   : Nat
  apCode   : Nat
  apCodeSeq : Nat
  /-- Zero fill running (R373), spare copy running, physical spare in service. -/
  filling  : Bool
  sparing  : Bool
  /-- Cycle at which the channel entered PROC. -/
  procAt   : Nat
deriving DecidableEq, Repr

def StackUnit.reset : StackUnit := ⟨0, none, 0, [], [], [], [], 0, 0, 0, 0, false, false, 0⟩

structure BsuState where
  units : Tab StackUnit
deriving DecidableEq, Repr

/-! ### Flash (chapter 12) -/

/-- One programmed page: the LPN, KIND and SEQ of its OOB record, and its data bytes. -/
structure FlashPage where
  lpn   : Nat
  kind  : Nat
  seq   : Nat
  bytes : Bytes
deriving DecidableEq, Repr

/-- One erase block. -/
structure FlashBlock where
  /-- 0 erased, 1 open, 2 closed, 3 bad, 4 closed without a summary by the rebuild (collected first). -/
  state  : Nat
  /-- 0 native, 1 pseudo-SLC cache, 2 checkpoint. -/
  kind   : Nat
  erases : Nat
  /-- SCRIBE_SEQ when it was closed. -/
  closeSeq : Nat
  /-- Learned retry step (R271), and pages programmed. -/
  retry  : Nat
  fill   : Nat
deriving DecidableEq, Repr

structure FlashState where
  /-- FLASH_MODE by channel; 0xFF, the value of a channel not listed, is down. -/
  modes   : Tab Nat
  /-- Sequence table in use by channel, where it is not the one applied (R255). -/
  seqs    : Tab Bytes
  /-- Dies fitted by channel, as a 16-bit set; a channel not listed has 16. -/
  dies    : Tab Nat
  /-- Cycle of the last ZQ calibration by channel. -/
  zqAt    : Tab Nat
  /-- The page map: logical page to physical page. -/
  map     : Tab Nat
  /-- Logical pages whose map word decodes as uncorrectable, until the rescan of R260. -/
  mapBad  : Tab Nat
  /-- Erase count of a plane's blocks that are not listed. -/
  wear    : Tab Nat
  /-- Programmed pages by PPN, and blocks by PPN / 1024. -/
  pages   : Tab FlashPage
  blocks  : Tab FlashBlock
  /-- SCRIBE_SEQ. -/
  seq     : Nat
  /-- Format record in force (none before FLASH_FORMAT). -/
  format  : Option Bytes
  /-- REBUILD: 0 before the node profile is applied, 2 running, 1 complete; and the cycle of the profile's boundary. -/
  rebuilt : Nat
  rebuildAt : Nat
  /-- SEQ values listed by the void records, and records in the void area, by plane (die × 4 + plane). -/
  void    : List Nat
  voidN   : Tab Nat
  /-- Planes and modes in collection (GC_LOW reached, GC_HIGH not yet), by plane × 4 + kind. -/
  gcOn    : Tab Nat
  /-- Dies whose next map word read is forced uncorrectable (DET_ID 0x016). -/
  forced  : List Nat
  /-- The boot area of chapter 20: image slots, owner record, certificates, Repair Record copies. -/
  boot    : Tab Bytes
deriving DecidableEq, Repr

/-! ### Torus (chapter 13) -/

/-- One physical port. -/
structure Port where
  /-- 0 down, 1 DETECT … 5 IDENT, 6 ACTIVE. -/
  train    : Nat
  restarts : Nat
  stateAt  : Nat
  txSeq    : Nat
  rxNext   : Nat
  /-- First unacknowledged SEQ, and the messages with unacknowledged flits: last SEQ and message. -/
  txAcked  : Nat
  replay   : List (Nat × TxMsg)
  /-- Credits held toward the neighbour, by tag × 8 + VC, and of the management pool; negative while the flits of a
  message that has started wait for more. -/
  credits  : Tab Int
  mgmtCred : Int
  /-- Credits owed: flits received and not yet returned, by tag × 8 + VC. -/
  owed     : Tab Nat
  /-- Physical lane of each of the 16 traffic lanes; lanes failed; polarity. -/
  lanes    : List Nat
  failed   : List Nat
  polarity : Nat
  presets  : List Nat
  /-- Codewords in a row that failed. -/
  fecRun   : Nat
  farNode  : Nat
  farPort  : Nat
  /-- Link delay samples in ps, latest first, at most 8; t1 of the probe outstanding. -/
  delays   : List Nat
  probe    : Option Nat
  probeAt  : Nat
  /-- Cycle at which a rehearsal swap returns: failing lane or port, spare. -/
  rehearse : Option (Nat × Nat × Nat × Bool)
deriving DecidableEq, Repr

def Port.reset : Port :=
  ⟨0, 0, 0, 0, 0, 0, [], [], 32, [], (List.range 16), [], 0, List.replicate 18 0, 0, 0, 0, [], none, 0, none⟩

/-- A message landed and not yet freed: domain Inset, header, payload. -/
structure Landed where
  inset   : Nat
  hdr     : Nat
  payload : Bytes
deriving DecidableEq, Repr

structure TorusState where
  /-- Physical ports 0–7. -/
  ports   : Tab Port
  /-- Physical port of each logical port. -/
  logical : List Nat
  landed  : List Landed
  /-- Messages that have landed: Inset, SRC, XFER_TAG, STAMP and SLOT, for the duplicate row of Table 13-8. -/
  seen    : List (Nat × Nat × Nat × Nat × Nat)
deriving DecidableEq, Repr

/-! ### Traffic manager (chapter 14) -/

/-- An item waiting in a flow queue: size in units, cycle of arrival, yellow, released, what it
sends. -/
structure Item where
  units    : Nat
  at_      : Nat
  yellow   : Bool
  released : Bool
  what     : Out
deriving DecidableEq, Repr

/-- A flow context: the RW fields of Table 14-2 as written, and the bucket and deficit state. -/
structure Flow where
  word    : Nat
  tokC    : Int
  tokP    : Int
  remC    : Nat
  remP    : Nat
  last    : Nat
  deficit : Nat
  queue   : List Item
deriving DecidableEq, Repr

def Flow.reset : Flow := ⟨1 <<< 17, 0, 0, 0, 0, 0, 0, []⟩

structure Service where
  word    : Nat
  tok     : Int
  rem     : Nat
  last    : Nat
  deficit : Nat
  /-- Flow being visited, plus 1 (R312). -/
  turn    : Nat
deriving DecidableEq, Repr

def Service.reset : Service := ⟨1 <<< 16, 0, 0, 0, 0, 0⟩

/-- The gates of one egress port: list in force, pending list and its takeover, entry running and its start. -/
structure Gate where
  cur     : Bytes
  pending : Option Bytes
  entry   : Nat
  startAt : Nat
  /-- Cycle until which the item started last transmits. -/
  busyTo  : Nat
  /-- Flows whose head item's deferral has been counted. -/
  deferred : List Nat
  /-- Service being visited, plus 1, by class (R312). -/
  turn    : Tab Nat
deriving DecidableEq, Repr

def Gate.reset : Gate := ⟨[], none, 0, 0, 0, [], []⟩

/-- Depth samples of one queue in the running interval: count, sum, max of depth; count, sum, max of head age. -/
structure DepthAcc where
  n : Nat
  sum : Nat
  max : Nat
  dn : Nat
  dsum : Nat
  dmax : Nat
deriving DecidableEq, Repr

structure TmState where
  flows    : Tab Flow
  services : Tab Service
  gates    : Tab Gate
  /-- Samples by queue (flow number, or 2^31 + service). -/
  acc      : Tab DepthAcc
  /-- Red and yellow items of the interval by queue. -/
  red      : Tab Nat
  yellow   : Tab Nat
  /-- Cycle of the last TM_SAMPLE per Inset, records written per Inset, last DEPTH_SAMPLE. -/
  sampleAt : Tab Nat
  records  : Tab Nat
  depthAt  : Nat
deriving DecidableEq, Repr

/-! ### Host port (chapter 16) -/

/-- A queue pair (Table 16-3). -/
structure QueuePair where
  sqBase : Nat
  sqLog  : Nat
  sqTail : Nat
  sqHead : Nat
  cqBase : Nat
  cqLog  : Nat
  cqHead : Nat
  cqTail : Nat
  phase  : Bool
  /-- Base and size writes waiting for SQ_HEAD = SQ_TAIL: field number and value. -/
  pend   : List (Nat × Nat)
deriving DecidableEq, Repr

def QueuePair.reset : QueuePair := ⟨0, 0, 0, 0, 0, 0, 0, 0, false, []⟩

/-- Binding state of an Inset (R346 to R350). -/
structure Binding where
  /-- 0 UNBOUND, 1 BOUND, 2 GRACE, 3 ORPHAN, 4 DRAINING. -/
  state     : Nat
  epoch     : Nat
  binder    : Nat
  curBound  : Bool
  oldEpoch  : Nat
  oldBinder : Nat
  oldBound  : Bool
  /-- Completion rings of the old binder during grace. -/
  oldQueues : List QueuePair
  /-- BIND_REQ record applied and not yet in force. -/
  request   : Option Nat
  /-- Cycle of the switch instant, or of the end of the orphan grace. -/
  deadline  : Option Nat
  xlogHead  : Nat
  xlogTail  : Nat
deriving DecidableEq, Repr

def Binding.reset : Binding := ⟨0, 0, 0, false, 0, 0, false, [], none, none, 0, 0⟩

/-- A submission entry marked at its doorbell: Inset, queue, ring index, flow, colour (0 green, 1 yellow, 2 red, 3 flow
unknown, 4 admitted or rejected already), cycle of arrival, released by its shaper. -/
structure SubMark where
  inset : Nat
  queue : Nat
  index : Nat
  flow  : Nat
  colour : Nat
  at_   : Nat
  released : Bool
deriving DecidableEq, Repr

/-- An HDM decoder. -/
structure Hdm where
  base      : Nat
  size      : Nat
  committed : Bool
  error     : Bool
deriving DecidableEq, Repr

/-- A CXL.mem or control-core access that waits: in its ingress flow, behind a drain (R37), or for a channel in PROC
(R217). `core` is none for CXL.mem; `write` gives data, byte mask and CXL data poison. -/
structure Held where
  core   : Option Nat
  inset  : Nat
  hpa    : Nat
  addr   : Nat
  len    : Nat
  write  : Option (Bytes × Nat × Bool)
  /-- Cycle of arrival. -/
  at_    : Nat
deriving DecidableEq, Repr

structure HostState where
  /-- Queue pairs by function × 4 + queue. -/
  queues  : Tab QueuePair
  binds   : Tab Binding
  subs    : List SubMark
  hdm     : Tab Hdm
  /-- CXL.mem requests waiting in their flows (R309), and accesses held by R37 and R217, in arrival order. -/
  waiting : List Held
  held    : List Held
  linkUp  : Bool
  /-- Timestamp set by the mailbox, and the cycle at which it was set. -/
  stamp   : Nat
  stampAt : Nat
deriving DecidableEq, Repr

/-! ### Reliability, counters, security (chapters 18 to 20) -/

/-- A repair entry in use or pending (Table 18-8), as its 128-bit record. -/
abbrev RepairEntry := Nat

/-- The scrubber's position in one instance. -/
structure Scrub where
  next   : Nat
  lapAt  : Nat
  lapMs  : Nat
  laps   : Nat
  slow   : Bool
  /-- Corrected words by row or line in this lap. -/
  ce     : Tab Nat
  lastAt : Nat
deriving DecidableEq, Repr

def Scrub.reset : Scrub := ⟨0, 0, 0, 0, false, [], 0⟩

structure RelState where
  /-- Scrub position by memory class × 2^16 + instance. -/
  scrubs   : Tab Scrub
  /-- CORRECTED and UNCORR by memory class. -/
  corrected : Tab Nat
  uncorr   : Tab Nat
  /-- Words corrected by readers, by memory class. -/
  readCorr : Tab Nat
  /-- Remap entries used, and copies running, by class × 2^32 + instance × 2^16 + …: row or line. -/
  remaps   : List (Nat × Nat × Nat)
  remapping : List (Nat × Nat × Nat)
  /-- Spares in service: kind, unit, failed, spare. -/
  spares   : List (Nat × Nat × Nat × Nat)
  /-- Faults of a unit since start-up, by kind × 2^16 + number; units retired. -/
  faults   : Tab Nat
  retired  : List (Nat × Nat)
  pendingRepairs : List RepairEntry
  /-- The Repair Record in force. -/
  record   : Bytes
  /-- Timed rehearsal entries already fired, by their index. -/
  fired    : List Nat
deriving DecidableEq, Repr

/-- A captured counter dump waiting to be written: the TICK_NO of its boundary and the record. -/
structure DumpStage where
  tickNo : Nat
  bytes  : Bytes
deriving DecidableEq, Repr

structure CtrState where
  /-- Counter values and WRAPPED flags, by number. -/
  values  : Tab Nat
  wrapped : Tab Nat
  stages  : List DumpStage
  dumpSeq : Nat
  /-- DUMP_SKIPPED as it stood at the last record written. -/
  skipMark : Nat
  /-- Precise sample ring: records by index modulo its size. -/
  samples : Tab Nat
  sampleN : Nat
  /-- Commands ended since the last periodic sample, per engine type. -/
  sampleCount : Tab Nat
  /-- Port byte counts of the bandwidth window, and the ns of its ticks that have closed. -/
  bw      : Tab Nat
  bwNs    : Nat
deriving DecidableEq, Repr

structure SecState where
  /-- Measurement registers MR0–MR7; MR6 is held per Inset in the dictionary. -/
  mr      : List Bytes
  /-- Attestation reports to be signed, in order of request: Inset, and the nonce with the 8 bytes of TICK_NO. -/
  signing : List (Nat × Bytes)
  /-- Boots so far, which tell one BOOT_NONCE from another. -/
  boots   : Nat
  /-- An accepted IMAGE_WRITE that waits for flash channel 0 (R412). -/
  image   : Option Bytes
deriving DecidableEq, Repr

/-! ### The whole block -/

structure State where
  clk    : ClkState
  tick   : TickState
  gaz    : GazState
  mem    : MemState
  sched  : SchedState
  search : SearchState
  chart  : Tab Nat
  /-- Chart entries that decode as uncorrectable. -/
  chartBad : Tab Nat
  bsu    : BsuState
  flash  : FlashState
  torus  : TorusState
  tm     : TmState
  host   : HostState
  rel    : RelState
  ctr    : CtrState
  sec    : SecState
  out    : List Out
  /-- Free values drawn so far (the model's own field). -/
  draws  : Nat
  /-- Commands waiting, first in first out. -/
  pending : List Instr
deriving DecidableEq, Repr

def ClkState.reset : ClkState :=
  ⟨0, true, true, 0, 0, 0, false, none, 0, 750, 0, none, List.replicate 9 false, false, false, 0, [], false, 0,
   0, []⟩

def TickState.reset : TickState :=
  ⟨0, 0, none, 0, none, none, none, none, false, true, none, [], [], [], 0⟩

def GazState.reset : GazState := ⟨[], [], [], [], [], 0⟩

def MemState.reset : MemState := ⟨[], [], [], [], []⟩

def InsetSt.reset : InsetSt :=
  ⟨none, [0xFFFF, 0xFFFF, 0xFFFF, 0xFFFF], 0, 0, none, none, [], none, [], false, [], [], 0, 0,
   List.replicate 10 0, [], Ckpt.idle, [], [], [], [], [], List.replicate 16 0xFFFFFFFFFFFFFFFF, []⟩

def SchedState.reset : SchedState := ⟨[], [], [], [], [], false⟩

def FlashState.reset : FlashState := ⟨[], [], [], [], [], [], [], [], [], 0, none, 0, 0, [], [], [], [], []⟩

def TorusState.reset : TorusState := ⟨[], [0, 1, 2, 3, 4, 5], [], []⟩

def TmState.reset : TmState := ⟨[], [], [], [], [], [], [], [], 0⟩

def HostState.reset : HostState := ⟨[], [], [], [], [], [], true, 0, 0⟩

def RelState.reset : RelState := ⟨[], [], [], [], [], [], [], [], [], [], [], []⟩

def CtrState.reset : CtrState := ⟨[], [], [], 0, 0, [], 0, [], [], 0⟩

def SecState.reset : SecState := ⟨List.replicate 8 (List.replicate 64 0), [], 0, none⟩

/-- The block right after reset: t0 of R431, phase 0 of start-up, every memory empty, every entry at its default. -/
def State.reset : State :=
  ⟨ClkState.reset, TickState.reset, GazState.reset, MemState.reset, SchedState.reset, ⟨[]⟩, [], [], ⟨[]⟩,
   FlashState.reset, TorusState.reset, TmState.reset, HostState.reset, RelState.reset, CtrState.reset, SecState.reset,
   [], 0, []⟩

end Sys2Proof.Machine
end

