-- ==== Sys2Proof/Machine/Entries.lean ====
section
/-!
DEFINITION. The Gazetteer's index map (R366): every entry's name, type, access class, scope, default and the
range its listing gives, from the entry tables of the chapters.
-/

namespace Sys2Proof.Machine

/-- R354: the access classes. -/
inductive Acc where
  | const | ro | rw | rws | wo
deriving DecidableEq, Repr

/-- One row of an entry table: `count` consecutive subindices from `key` (index × 256 + subindex). -/
structure EntryRow where
  key   : Nat
  count : Nat
  /-- Type code of Table 17-5: 1 BOOL, 2 U8, 3 U16, 4 U32, 5 U64, 6 I32, 7 F32, 8 STRING, 9 DOMAIN. -/
  ty    : Nat
  acc   : Acc
  /-- Node scope (else Inset scope). -/
  node  : Bool
  dflt  : GVal
  /-- Range and alignment that the listing gives a scalar. -/
  lo    : Nat
  hi    : Nat
  mult  : Nat
deriving DecidableEq, Repr

/-- `n` bytes of zero. -/
def zeros (n : Nat) : Bytes := List.replicate n 0

/-- `n` bytes of 0xFF. -/
def ones (n : Nat) : Bytes := List.replicate n 0xFF

/-- R268: the default weights of native and checkpoint blocks: 1.0, 0.25, 0.25 and AGE_SPAN 0xFFFF_FFFF. -/
def gcWeightsDefault : Bytes :=
  let e := 0x3F800000 + 0x3E800000 * 2 ^ 32 + 0x3E800000 * 2 ^ 64 + 0xFFFFFFFF * 2 ^ 96
  tableImage 0x47435754 2 (toLe 16 e ++ toLe 16 e)

/-- BSU_POWER_RULES: Table 10-3 in the format of R219: rule, quantity, scope, window and limit of each. -/
def bsuPowerRules : Bytes :=
  tableImage 0x50575452 6 (([(1, 0, 1, 0, 16), (2, 1, 1, 64, 1875), (3, 2, 0, 48, 4), (4, 2, 1, 48, 96),
    (5, 3, 1, 1200, 8), (6, 4, 2, 0, 192)] : List (Nat × Nat × Nat × Nat × Nat)).flatMap (fun r =>
      toLe 16 (r.1 + r.2.1 * 2 ^ 8 + r.2.2.1 * 2 ^ 12 + r.2.2.2.1 * 2 ^ 16 + r.2.2.2.2 * 2 ^ 48)))

/-! Entry keys, index × 256 + subindex of the first instance, under the manual's names. -/
namespace G

def DEVICE_NAME : Nat := 0x100001
def ORDERING_CODE : Nat := 0x100002
def STEPPING : Nat := 0x100003
def NODE_MAC : Nat := 0x100004
def FIELD_ETHERTYPE : Nat := 0x101001
def RACK_CONTROLLER_MAC : Nat := 0x101002
def PLCA_NODE_ID : Nat := 0x101101
def PLCA_TO_TIMER : Nat := 0x101102
def PLCA_BURST_COUNT : Nat := 0x101103
def PLCA_BURST_TIMER : Nat := 0x101104
def PF_NODE_RIGHTS : Nat := 0x102001
def TORUS_MGMT_RIGHTS : Nat := 0x102002
def GAZ_STORE_BASE : Nat := 0x103001
def GAZ_STORE_BYTES : Nat := 0x103002
def STAGE_STATUS : Nat := 0x103101
def CHECK_DETAIL : Nat := 0x103102
def RESOURCE_TABLE : Nat := 0x104001
def FIELD_DROPPED : Nat := 0x105001
def FIELD_REFUSED : Nat := 0x105002
def NOC_STOP_MAP : Nat := 0x108001
def BIND_REQ : Nat := 0x110001
def BIND_RELEASE : Nat := 0x110101
def BIND_STATE : Nat := 0x110201
def REBIND_GRACE_US : Nat := 0x110301
def ORPHAN_GRACE_US : Nat := 0x110302
def XLOG_BASE : Nat := 0x110401
def XLOG_BYTES : Nat := 0x110402
def FALLBACK_MODE : Nat := 0x110501
def FALLBACK_CLASS_MAP : Nat := 0x110502
def ROLE_CHANGE : Nat := 0x110601
def HDM_OWNER : Nat := 0x110701
def HDM_TARGET : Nat := 0x110705
def ORPHAN_ABORTS : Nat := 0x111001
def XLOG_WRITTEN : Nat := 0x111002
def FALLBACK_SEARCH : Nat := 0x111003
def FALLBACK_LOOKUP : Nat := 0x111004
def BIND_STALE_COUNT : Nat := 0x111005
def XLOG_HOLD : Nat := 0x111006
def CQ_FULL_DIVERT : Nat := 0x111007
def TICK_PERIOD : Nat := 0x200001
def TICK_MASTER_LIST : Nat := 0x200101
def CLOSE_GUARD : Nat := 0x200201
def OVERRUN_LIMIT : Nat := 0x200301
def ADMIT_LEAD : Nat := 0x200401
def TICK_NO : Nat := 0x201001
def TICK_ERROR_NS : Nat := 0x201002
def TICK_LOCK : Nat := 0x201003
def SHEET_SEQ : Nat := 0x201101
def DATUM_SEQ : Nat := 0x201102
def SLIP_COUNT : Nat := 0x201103
def OVERRUN_COUNT : Nat := 0x201104
def WINDOW_MISS : Nat := 0x201105
def EST_EXCEEDED : Nat := 0x201106
def SHEET_IMAGE : Nat := 0x210001
def SHEET_ENTRY : Nat := 0x210002
def START_PHASE : Nat := 0x220001
def BOOT_TIMES : Nat := 0x220002
def REPAIR_SKIPPED : Nat := 0x220003
def MASTER_WAIT_MS : Nat := 0x220101
def INSET_START : Nat := 0x221001
def START_WAIT : Nat := 0x221002
def RESTORE_GROUPS_LOST : Nat := 0x221003
def INSET_PRIVILEGED : Nat := 0x300001
def INSET_CUBE_GROUPS : Nat := 0x300101
def INSET_TILE_UNITS : Nat := 0x300102
def INSET_TRAVERSE : Nat := 0x300103
def INSET_SELECT : Nat := 0x300104
def INSET_POOL : Nat := 0x300105
def INSET_FLASH_CH : Nat := 0x300106
def INSET_CORES : Nat := 0x300107
def DM_SHARE : Nat := 0x300108
def CHART_ENGINE_OWNER : Nat := 0x300109
def SYNC_Q_BASE : Nat := 0x300201
def SYNC_Q_COUNT : Nat := 0x300202
def SYNC_CONFIG : Nat := 0x300203
def STREAM_ENTRY : Nat := 0x301001
def STREAM_PRIORITY : Nat := 0x301101
def SLICE_TABLE : Nat := 0x301201
def STREAM_SAVE_T1 : Nat := 0x301301
def STREAM_SWAP_LPN : Nat := 0x301305
def STREAM_CHANNELS : Nat := 0x301309
def PREEMPT : Nat := 0x301401
def ACTIVE_STREAM : Nat := 0x301501
def NEXT_IN_STREAM : Nat := 0x301502
def LEASE_TIMEOUT : Nat := 0x302001
def INSET_RESET : Nat := 0x302101
def INT_MAP : Nat := 0x302201
def INT_HOLDOFF_NS : Nat := 0x302202
def EVENT_RING_BASE : Nat := 0x302301
def EVENT_RING_BYTES : Nat := 0x302302
def ACCT_RING_BASE : Nat := 0x303001
def ACCT_RING_BYTES : Nat := 0x303002
def ENERGY_CURVES : Nat := 0x303101
def SWITCH_TICKS : Nat := 0x304001
def PREEMPTIONS : Nat := 0x304002
def PREEMPT_KILLED : Nat := 0x304003
def SLICE_LATE : Nat := 0x304004
def LEASE_REVOKED : Nat := 0x304005
def BACKUP_WON : Nat := 0x304006
def BACKUP_LOST_COUNT : Nat := 0x304007
def BARRIER_LAST : Nat := 0x304008
def EVENT_OVERWRITE : Nat := 0x304009
def NODE_UNCHARGED_UJ : Nat := 0x304101
def T1_CHANNELS : Nat := 0x310001
def SCRATCH_BASE : Nat := 0x310002
def SCRATCH_PAGES : Nat := 0x310003
def STAGE_POOL_PAGES : Nat := 0x310004
def CHART_Q_BASE : Nat := 0x310005
def CHART_Q_COUNT : Nat := 0x310006
def STAGE_T1_BASE : Nat := 0x310101
def STAGE_T1_BYTES : Nat := 0x310102
def STAGE_T1_WORK : Nat := 0x310103
def T2_LPN_BASE : Nat := 0x310201
def T2_LPN_COUNT : Nat := 0x310202
def T3_PEERS : Nat := 0x310301
def T3_HOST_WINDOWS : Nat := 0x310302
def TIER_LATE_DETAIL : Nat := 0x311001
def TIER_FAILED_COUNT : Nat := 0x311002
def CUBE_NAN : Nat := 0x401001
def PROJ_CALIB : Nat := 0x410001
def PROJ_RERUN_MAX : Nat := 0x410101
def PROJ_SAT_TOTAL : Nat := 0x411001
def CALIB_MISS_COUNT : Nat := 0x411002
def RERUN_COUNT : Nat := 0x411003
def PROJ_NAN : Nat := 0x411004
def PROJ_LAYER_STATS : Nat := 0x411101
def INDEX_TABLE : Nat := 0x500001
def SEARCH_CLASSES : Nat := 0x500101
def MAINT_TABLE : Nat := 0x500201
def SEARCH_EXPANSIONS : Nat := 0x501001
def PREFETCH_HIT : Nat := 0x501002
def PREFETCH_MISS : Nat := 0x501003
def BSU_SCORED_TOTAL : Nat := 0x501004
def ENGINE_SCORED_TOTAL : Nat := 0x501005
def SEARCH_SHORTFALL : Nat := 0x501006
def SEARCH_BUDGET_CUT : Nat := 0x501007
def SEARCH_QUERY_FAULTS : Nat := 0x501008
def OLDEST_LIVE_DATUM : Nat := 0x502001
def SLOTS_BOUND : Nat := 0x502101
def MAINT_INSERTS : Nat := 0x504001
def MAINT_DELETES : Nat := 0x504002
def REV_DEFERRED : Nat := 0x504003
def REV_DROPPED : Nat := 0x504004
def SCAN_BLOCKED : Nat := 0x504005
def SCAN_SKIPPED : Nat := 0x504006
def TOMB_RECLAIMED : Nat := 0x504007
def LAPS_DONE : Nat := 0x504008
def SELECT_CMDS : Nat := 0x530001
def SELECT_SHORTFALL : Nat := 0x530002
def SELECT_DUPS : Nat := 0x530003
def SELECT_DUP_BELOW_CUT : Nat := 0x530004
def SELECT_INVALID : Nat := 0x530005
def SELECT_INPUT_FAULTS : Nat := 0x530006
def EMB_TABLES : Nat := 0x600001
def WIDTH_CLASSES : Nat := 0x600101
def EMB_NODES : Nat := 0x600201
def EMB_LOOKUPS : Nat := 0x601001
def EMB_DEFAULTED : Nat := 0x601002
def EMB_DROPPED : Nat := 0x601003
def EMB_FLASH_OVER : Nat := 0x601004
def EMB_EMPTY_BAGS : Nat := 0x601005
def EMB_COLLAPSED : Nat := 0x601006
def SET_CONFLICT : Nat := 0x601007
def EMB_ROWS_APPLIED : Nat := 0x601008
def EMB_SAT : Nat := 0x601009
def UPDATE_SKIPPED : Nat := 0x60100A
def ROW_VERSIONS : Nat := 0x603001
def ATLAS_DIR : Nat := 0x603101
def ATLAS_CURRENT : Nat := 0x603102
def ATLAS_GEN : Nat := 0x603103
def PLACE_OWNER : Nat := 0x604001
def PLACE_CLASS_MIN : Nat := 0x604002
def PLACE_CLASS_MAX : Nat := 0x604003
def PLACE_MOVE_MAX : Nat := 0x604004
def PLACE_OWNER_SET : Nat := 0x604005
def PLACE_IMBALANCE : Nat := 0x604006
def POLICY_HOLD : Nat := 0x604101
def PLACE_MOVED : Nat := 0x604102
def PLACE_RECLASSED : Nat := 0x604103
def PLACE_REFUSED : Nat := 0x604104
def PLACE_OVERFLOW : Nat := 0x604105
def MIG_STALE_UPDATE : Nat := 0x604106
def REPLACE_ROWS : Nat := 0x604107
def SURVEY_REPORT : Nat := 0x604201
def BSU_BASE_MAP : Nat := 0x700001
def BSU_POWER_RULES : Nat := 0x700101
def BSU_HOLD_BOUND : Nat := 0x700201
def BSU_QC_SPLIT : Nat := 0x700301
def BSU_RES_SPLIT : Nat := 0x700302
def BSU_APERTURE_BASE : Nat := 0x700401
def BSU_MODE_MAP : Nat := 0x701001
def PROC_EPOCH : Nat := 0x701002
def BSU_MODE_CHANGES : Nat := 0x702001
def BSU_MODE_RESTORE : Nat := 0x702002
def BSU_HOLD_COUNT : Nat := 0x702003
def BSU_HOLD_POISON : Nat := 0x702004
def BSU_CORRECTED : Nat := 0x702005
def BSU_UNCORR : Nat := 0x702006
def BSU_RMW : Nat := 0x702007
def BSU_ACT_DELAY : Nat := 0x702008
def BSU_APERTURE_REFUSED : Nat := 0x702009
def FLASH_SEQ : Nat := 0x800001
def FLASH_MODE_TARGET : Nat := 0x800101
def FLASH_MODE : Nat := 0x800102
def ZQ_INTERVAL : Nat := 0x800103
def SCRIBE_CHANNELS : Nat := 0x800201
def SCRIBE_REGION_BASE : Nat := 0x800301
def SCRIBE_REGION_BYTES : Nat := 0x800302
def SCRIBE_REBUILD_BASE : Nat := 0x800303
def FLASH_LAYOUT : Nat := 0x800401
def FLASH_FORMAT : Nat := 0x800501
def GC_WEIGHTS : Nat := 0x801001
def GC_LOW : Nat := 0x801101
def GC_HIGH : Nat := 0x801102
def WL_GAP : Nat := 0x801103
def RETRY_REFRESH : Nat := 0x801104
def CACHE_READY : Nat := 0x801105
def RETRY_OWNER : Nat := 0x802001
def RETRY_STEP_MIN : Nat := 0x802002
def RETRY_STEP_MAX : Nat := 0x802003
def RETRY_POLICY_HOLD : Nat := 0x802101
def RETRY_PIN : Nat := 0x802201
def FLASH_READS : Nat := 0x803001
def FLASH_OVER : Nat := 0x803002
def FLASH_READ_FAIL : Nat := 0x803003
def FLASH_FOREIGN : Nat := 0x803004
def FLASH_UNWRITTEN : Nat := 0x803005
def FLASH_PAGES_WRITTEN : Nat := 0x803006
def SCRIBE_ENTRY_COUNT : Nat := 0x803007
def CACHE_EXTEND : Nat := 0x803101
def GC_PAGES_MOVED : Nat := 0x803102
def BLOCKS_RETIRED : Nat := 0x803103
def FLASH_MODE_FALLBACK : Nat := 0x803104
def VOID_RECORDS : Nat := 0x803105
def REBUILD_MS : Nat := 0x804001
def SUM_LOST : Nat := 0x804002
def CKPT_LPN_BASE : Nat := 0x820001
def CKPT_LPN_COUNT : Nat := 0x820002
def CKPT_COW_BASE : Nat := 0x820101
def CKPT_COW_BYTES : Nat := 0x820201
def CKPT_STATE : Nat := 0x821001
def CKPT_LAST_SEQ : Nat := 0x821002
def CKPT_OPEN_SEQ : Nat := 0x821003
def CKPT_GROUPS_LEFT : Nat := 0x821004
def CKPT_SKIPPED : Nat := 0x821005
def CKPT_ABORTED : Nat := 0x821006
def CKPT_SAVE_WAIT : Nat := 0x821007
def CKPT_COW_PEAK : Nat := 0x821008
def CKPT_RESTORE : Nat := 0x821101
def TORUS_DIMS : Nat := 0x900001
def NODE_ID : Nat := 0x900002
def PORT_MAP : Nat := 0x900101
def SPARE_PORT_ROLE : Nat := 0x900102
def SPARE_PORT_FOR : Nat := 0x900103
def DOMAIN_MAP : Nat := 0x900201
def LINK_CREDITS : Nat := 0x900301
def LINK_PLAN : Nat := 0x900401
def TORUS_LAND_BYTES : Nat := 0x900501
def EQ_PRESETS : Nat := 0x901001
def EQ_OWNER : Nat := 0x902001
def EQ_PRESET_MIN : Nat := 0x902002
def EQ_PRESET_MAX : Nat := 0x902003
def EQ_POLICY_HOLD : Nat := 0x902101
def EQ_PIN : Nat := 0x902201
def LINK_STATE : Nat := 0x903001
def LINK_DELAY_PS : Nat := 0x903002
def LANE_SER_LIMIT : Nat := 0x903101
def DELAY_INTERVAL : Nat := 0x903102
def TORUS_MGMT_ALLOW : Nat := 0x904001
def FLIT_RETRY : Nat := 0x905001
def FEC_UNCORR : Nat := 0x905002
def FWD_OVER : Nat := 0x905003
def LANE_SWAPS : Nat := 0x905004
def PORT_SWAPS : Nat := 0x905005
def TORUS_DUP : Nat := 0x905101
def TORUS_UNCLAIMED : Nat := 0x905102
def TORUS_CRC_DROP : Nat := 0x905103
def TORUS_BAD_MSG : Nat := 0x905104
def TORUS_LAND_DROP : Nat := 0x905105
def TM_FLOW_EDIT : Nat := 0xA00001
def TM_FIXED_EDIT : Nat := 0xA00002
def TM_FLOW_VIEW : Nat := 0xA00003
def TM_SERVICES : Nat := 0xA00101
def FLOW_Q_BASE : Nat := 0xA00201
def FLOW_Q_COUNT : Nat := 0xA00202
def SERVICE_Q_BASE : Nat := 0xA00203
def SERVICE_Q_COUNT : Nat := 0xA00204
def TM_QUANTUM : Nat := 0xA00301
def TIME_GATES : Nat := 0xA01001
def GATE_STATE : Nat := 0xA01101
def SAMPLE_INTERVAL : Nat := 0xA02001
def SAMPLE_SET : Nat := 0xA02002
def SAMPLE_RING_BASE : Nat := 0xA02003
def SAMPLE_RING_BYTES : Nat := 0xA02004
def TM_GREEN : Nat := 0xA03001
def TM_YELLOW : Nat := 0xA03002
def TM_RED : Nat := 0xA03003
def SHAPER_WAIT : Nat := 0xA03004
def CREDIT_LOST : Nat := 0xA03005
def RING_OVERWRITE : Nat := 0xA03006
def GATE_DEFER : Nat := 0xA03101
def GATE_OVERRUN : Nat := 0xA03102
def GATE_LATE : Nat := 0xA03103
def REPAIR_RECORD : Nat := 0xB00001
def REPAIR_PENDING : Nat := 0xB00002
def SRAM_CODE_MATRIX : Nat := 0xB00101
def SCRUB_INTERVAL_NS : Nat := 0xB01001
def SCRUB_LAP_LIMIT_S : Nat := 0xB01002
def SCRUB_REPORT : Nat := 0xB01101
def REMAP_CE_LIMIT : Nat := 0xB02001
def RETIRE_LIMIT : Nat := 0xB02002
def REMAP_USED : Nat := 0xB02101
def REHEARSAL_TABLE : Nat := 0xB03001
def REHEARSAL_TIMED : Nat := 0xB03002
def REHEARSAL_COUNT : Nat := 0xB03101
def SUSPECT_WINDOW : Nat := 0xB04001
def SUSPECT_FRACTION : Nat := 0xB04002
def SUSPECT : Nat := 0xB04003
def SUSPECT_CLEAR : Nat := 0xB04004
def VOTE_CORRECTED : Nat := 0xB05001
def STACK_RMW : Nat := 0xB05002
def POISON_PROPAGATED : Nat := 0xB05003
def QC_UNLOADED : Nat := 0xB05004
def READ_CORRECTED : Nat := 0xB05005
def EVENT_CATALOGUE : Nat := 0xC00001
def COUNTER_CONFIG : Nat := 0xC00101
def COUNTER_VALUES : Nat := 0xC00201
def COUNTER_CLEAR : Nat := 0xC00202
def DUMP_INTERVAL : Nat := 0xC01001
def DUMP_STAGE_MODE : Nat := 0xC01002
def DUMP_RING_INSET : Nat := 0xC01003
def DUMP_RING_BASE : Nat := 0xC01004
def DUMP_RING_BYTES : Nat := 0xC01005
def DUMP_READ_PTR : Nat := 0xC01006
def DUMP_WRITE_PTR : Nat := 0xC01007
def DUMP_SKIPPED : Nat := 0xC01101
def DUMP_OVERWRITE : Nat := 0xC01102
def BW_WINDOW_TICKS : Nat := 0xC02001
def PORT_BW : Nat := 0xC02002
def SAMPLE_ENABLE : Nat := 0xC10001
def SAMPLE_PERIOD : Nat := 0xC10002
def SAMPLE_ENGINES : Nat := 0xC10003
def SAMPLE_INSETS : Nat := 0xC10004
def SAMPLE_WRAP : Nat := 0xC10005
def SAMPLE_BUFFER : Nat := 0xC10101
def SAMPLE_HEAD : Nat := 0xC10102
def SAMPLE_READ : Nat := 0xC10103
def SAMPLE_LOST : Nat := 0xC10104
def SAMPLE_RESET : Nat := 0xC10105
def ROOT_HASH : Nat := 0xD00001
def GRADE : Nat := 0xD00002
def IDENTITY_PUBKEY : Nat := 0xD00101
def IDENTITY_TAG : Nat := 0xD00102
def MFG_CERT : Nat := 0xD00103
def BOOT_NONCE : Nat := 0xD00104
def IMAGE_SVN : Nat := 0xD00201
def IMAGE_SLOT : Nat := 0xD00202
def IMAGE_WRITE : Nat := 0xD00203
def FLOOR_CERT : Nat := 0xD00301
def FLOOR_SVN : Nat := 0xD00302
def FLOOR_STATE : Nat := 0xD00303
def OWNER_KEY : Nat := 0xD00401
def FLOOR_KEY_HASH : Nat := 0xD00402
def MEASUREMENT : Nat := 0xD00501
def MEASURE_EXTEND : Nat := 0xD00509
def ATTEST_NONCE : Nat := 0xD00601
def ATTEST_REPORT : Nat := 0xD00602
def MR6 : Nat := 0xD00603
def RECOVERY_PORT : Nat := 0xD01001
def DEBUG_CHALLENGE : Nat := 0xD01101
def DEBUG_TOKEN : Nat := 0xD01102
def DEBUG_LEVEL : Nat := 0xD01103
def DEBUG_POLICY : Nat := 0xD01104
def RAIL_TELEMETRY : Nat := 0xE00001
def VR_ADDR : Nat := 0xE00101
def VR_POLL_US : Nat := 0xE00102
def VCORE_OWNER : Nat := 0xE02001
def VCORE_MIN : Nat := 0xE02002
def VCORE_MAX : Nat := 0xE02003
def VCORE_SET : Nat := 0xE02004
def VCORE_PIN : Nat := 0xE02005
def VMARGIN_TARGET_PS : Nat := 0xE02006
def VMARGIN_FLOOR_PS : Nat := 0xE02007
def VCORE_POLICY_HOLD : Nat := 0xE02101
def VCORE_NOW : Nat := 0xE02102
def VCORE_EMERGENCY : Nat := 0xE02103
def TEMP_MAX : Nat := 0xE03001
def THERMAL_WARN_C : Nat := 0xE03002
def REF_STATUS : Nat := 0xE04001
def I3C_ENABLE : Nat := 0xE10001
def I3C_STATIC_ADDR : Nat := 0xE10002
def EDGE_RATE : Nat := 0xE11001

end G

def entryRows0 : List EntryRow := [
  ⟨G.DEVICE_NAME, 1, 8, .const, true, .blob ([0x57, 0x43, 0x4C, 0x39]), 0, 0, 1⟩,
  ⟨G.ORDERING_CODE, 1, 8, .const, true, .blob (Config.orderingCode), 0, 0, 1⟩,
  ⟨G.STEPPING, 1, 3, .const, true, .num 177, 0, 65535, 1⟩,
  ⟨G.NODE_MAC, 1, 5, .ro, true, .num 0, 0, 18446744073709551615, 1⟩,
  ⟨G.FIELD_ETHERTYPE, 1, 3, .rws, true, .num 34997, 1536, 65535, 1⟩,
  ⟨G.RACK_CONTROLLER_MAC, 1, 5, .rws, true, .num 0, 0, 281474976710655, 1⟩,
  ⟨G.PLCA_NODE_ID, 1, 2, .rws, true, .num 255, 1, 255, 1⟩,
  ⟨G.PLCA_TO_TIMER, 1, 2, .rws, true, .num 32, 1, 255, 1⟩,
  ⟨G.PLCA_BURST_COUNT, 1, 2, .rws, true, .num 0, 0, 255, 1⟩,
  ⟨G.PLCA_BURST_TIMER, 1, 2, .rws, true, .num 128, 1, 255, 1⟩,
  ⟨G.PF_NODE_RIGHTS, 1, 1, .rws, true, .num 0, 0, 1, 1⟩,
  ⟨G.TORUS_MGMT_RIGHTS, 1, 2, .rws, true, .num 0, 0, 2, 1⟩,
  ⟨G.GAZ_STORE_BASE, 1, 5, .rw, true, .num 0, 0, 18446744073709551615, 65536⟩,
  ⟨G.GAZ_STORE_BYTES, 1, 5, .rw, true, .num 0, 0, 18446744073709551615, 65536⟩,
  ⟨G.STAGE_STATUS, 1, 9, .ro, true, .blob ([]), 0, 0, 1⟩,
  ⟨G.CHECK_DETAIL, 1, 9, .ro, true, .blob ([]), 0, 0, 1⟩,
  ⟨G.RESOURCE_TABLE, 1, 9, .ro, true, .blob ([]), 0, 0, 1⟩,
  ⟨G.FIELD_DROPPED, 1, 5, .ro, true, .num 0, 0, 18446744073709551615, 1⟩,
  ⟨G.FIELD_REFUSED, 1, 5, .ro, true, .num 0, 0, 18446744073709551615, 1⟩,
  ⟨G.NOC_STOP_MAP, 1, 9, .const, true, .blob (Config.nocStopMap), 0, 0, 1⟩,
  ⟨G.BIND_REQ, 1, 9, .rws, true, .blob ([]), 0, 0, 1⟩,
  ⟨G.BIND_RELEASE, 1, 4, .wo, false, .num 0, 0, 4294967295, 1⟩,
  ⟨G.BIND_STATE, 1, 9, .ro, false, .blob ([]), 0, 0, 1⟩,
  ⟨G.REBIND_GRACE_US, 1, 4, .rws, false, .num 2000, 0, 10000000, 1⟩,
  ⟨G.ORPHAN_GRACE_US, 1, 4, .rws, false, .num 50000, 1000, 10000000, 1⟩,
  ⟨G.XLOG_BASE, 1, 5, .rws, false, .num 0, 0, 18446744073709551615, 64⟩,
  ⟨G.XLOG_BYTES, 1, 5, .rws, false, .num 0, 0, 18446744073709551615, 64⟩,
  ⟨G.FALLBACK_MODE, 1, 1, .rws, false, .num 0, 0, 1, 1⟩,
  ⟨G.FALLBACK_CLASS_MAP, 1, 9, .rws, false, .blob ((upto 16).map (BitVec.ofNat 8)), 0, 0, 1⟩,
  ⟨G.ROLE_CHANGE, 1, 9, .wo, false, .blob ([]), 0, 0, 1⟩,
  ⟨G.HDM_OWNER, 4, 2, .rws, true, .num 255, 0, 255, 1⟩,
  ⟨G.HDM_TARGET, 4, 5, .rws, true, .num 0, 0, 18446744073709551615, 1⟩,
  ⟨G.ORPHAN_ABORTS, 1, 5, .ro, false, .num 0, 0, 18446744073709551615, 1⟩,
  ⟨G.XLOG_WRITTEN, 1, 5, .ro, false, .num 0, 0, 18446744073709551615, 1⟩,
  ⟨G.FALLBACK_SEARCH, 1, 5, .ro, false, .num 0, 0, 18446744073709551615, 1⟩,
  ⟨G.FALLBACK_LOOKUP, 1, 5, .ro, false, .num 0, 0, 18446744073709551615, 1⟩,
  ⟨G.BIND_STALE_COUNT, 1, 5, .ro, false, .num 0, 0, 18446744073709551615, 1⟩,
  ⟨G.XLOG_HOLD, 1, 5, .ro, false, .num 0, 0, 18446744073709551615, 1⟩,
  ⟨G.CQ_FULL_DIVERT, 1, 5, .ro, false, .num 0, 0, 18446744073709551615, 1⟩,
  ⟨G.TICK_PERIOD, 1, 4, .rws, true, .num 500, 125, 8000, 1⟩
]

def entryRows1 : List EntryRow := [
  ⟨G.TICK_MASTER_LIST, 4, 3, .rws, true, .num 0, 0, 65535, 1⟩,
  ⟨G.CLOSE_GUARD, 1, 4, .rws, false, .num 20000, 2000, 1000000, 1⟩,
  ⟨G.OVERRUN_LIMIT, 1, 3, .rws, false, .num 16, 1, 1024, 1⟩,
  ⟨G.ADMIT_LEAD, 1, 4, .rws, false, .num 5000, 0, 4294967295, 1⟩,
  ⟨G.TICK_NO, 1, 5, .ro, true, .num 0, 0, 18446744073709551615, 1⟩,
  ⟨G.TICK_ERROR_NS, 1, 6, .ro, true, .num 0, 0, 4294967295, 1⟩,
  ⟨G.TICK_LOCK, 1, 2, .ro, true, .num 0, 0, 255, 1⟩,
  ⟨G.SHEET_SEQ, 1, 5, .ro, false, .num 0, 0, 18446744073709551615, 1⟩,
  ⟨G.DATUM_SEQ, 1, 5, .ro, false, .num 0, 0, 18446744073709551615, 1⟩,
  ⟨G.SLIP_COUNT, 1, 5, .ro, false, .num 0, 0, 18446744073709551615, 1⟩,
  ⟨G.OVERRUN_COUNT, 1, 4, .ro, false, .num 0, 0, 4294967295, 1⟩,
  ⟨G.WINDOW_MISS, 1, 5, .ro, false, .num 0, 0, 18446744073709551615, 1⟩,
  ⟨G.EST_EXCEEDED, 1, 5, .ro, false, .num 0, 0, 18446744073709551615, 1⟩,
  ⟨G.SHEET_IMAGE, 1, 9, .rws, false, .blob ([]), 0, 0, 1⟩,
  ⟨G.SHEET_ENTRY, 1, 3, .rws, false, .num 0, 0, 65535, 1⟩,
  ⟨G.START_PHASE, 1, 2, .ro, true, .num 0, 0, 255, 1⟩,
  ⟨G.BOOT_TIMES, 1, 9, .ro, true, .blob (zeros 28), 0, 0, 1⟩,
  ⟨G.REPAIR_SKIPPED, 1, 3, .ro, true, .num 0, 0, 65535, 1⟩,
  ⟨G.MASTER_WAIT_MS, 1, 3, .rws, true, .num 10, 1, 1000, 1⟩,
  ⟨G.INSET_START, 1, 5, .wo, false, .num 0, 0, 18446744073709551615, 1⟩,
  ⟨G.START_WAIT, 1, 4, .ro, false, .num 0, 0, 4294967295, 1⟩,
  ⟨G.RESTORE_GROUPS_LOST, 1, 5, .ro, false, .num 0, 0, 18446744073709551615, 1⟩,
  ⟨G.INSET_PRIVILEGED, 1, 1, .rws, false, .num 0, 0, 1, 1⟩,
  ⟨G.INSET_CUBE_GROUPS, 1, 9, .rws, false, .blob (zeros 16), 0, 0, 1⟩,
  ⟨G.INSET_TILE_UNITS, 1, 4, .rws, false, .num 0, 0, 4294967295, 1⟩,
  ⟨G.INSET_TRAVERSE, 1, 5, .rws, false, .num 0, 0, 18446744073709551615, 1⟩,
  ⟨G.INSET_SELECT, 1, 3, .rws, false, .num 0, 0, 65535, 1⟩,
  ⟨G.INSET_POOL, 1, 4, .rws, false, .num 0, 0, 4294967295, 1⟩,
  ⟨G.INSET_FLASH_CH, 1, 4, .rws, false, .num 0, 0, 4294967295, 1⟩,
  ⟨G.INSET_CORES, 1, 3, .rws, false, .num 0, 0, 65535, 1⟩,
  ⟨G.DM_SHARE, 1, 2, .rws, false, .num 0, 0, 255, 1⟩,
  ⟨G.CHART_ENGINE_OWNER, 1, 2, .rws, true, .num 0xFF, 0, 255, 1⟩,
  ⟨G.SYNC_Q_BASE, 1, 3, .rws, false, .num 0, 0, 65535, 1⟩,
  ⟨G.SYNC_Q_COUNT, 1, 3, .rws, false, .num 0, 0, 65535, 1⟩,
  ⟨G.SYNC_CONFIG, 1, 9, .rws, false, .blob ([]), 0, 0, 1⟩,
  ⟨G.STREAM_ENTRY, 4, 3, .rws, false, .num 65535, 0, 65535, 1⟩,
  ⟨G.STREAM_PRIORITY, 4, 2, .rws, false, .num 0, 0, 7, 1⟩,
  ⟨G.SLICE_TABLE, 1, 9, .rws, false, .blob ([]), 0, 0, 1⟩,
  ⟨G.STREAM_SAVE_T1, 4, 5, .rws, false, .num 0, 0, 18446744073709551615, 65536⟩,
  ⟨G.STREAM_SWAP_LPN, 4, 4, .rws, false, .num 0, 0, 4294967295, 1⟩
]

def entryRows2 : List EntryRow := [
  ⟨G.STREAM_CHANNELS, 4, 9, .rws, false, .blob (zeros 32), 0, 0, 1⟩,
  ⟨G.PREEMPT, 1, 9, .wo, false, .blob ([]), 0, 0, 1⟩,
  ⟨G.ACTIVE_STREAM, 1, 2, .ro, false, .num 0, 0, 255, 1⟩,
  ⟨G.NEXT_IN_STREAM, 1, 9, .ro, false, .blob ([]), 0, 0, 1⟩,
  ⟨G.LEASE_TIMEOUT, 1, 4, .rws, false, .num 10000, 500, 10000000, 1⟩,
  ⟨G.INSET_RESET, 1, 1, .wo, false, .num 0, 0, 1, 1⟩,
  ⟨G.INT_MAP, 1, 9, .rws, false, .blob (ones 16), 0, 0, 1⟩,
  ⟨G.INT_HOLDOFF_NS, 1, 4, .rws, false, .num 10000, 0, 10000000, 1⟩,
  ⟨G.EVENT_RING_BASE, 1, 5, .rws, false, .num 0, 0, 18446744073709551615, 1⟩,
  ⟨G.EVENT_RING_BYTES, 1, 4, .rws, false, .num 0, 0, 4294967295, 32⟩,
  ⟨G.ACCT_RING_BASE, 1, 5, .rws, false, .num 0, 0, 18446744073709551615, 1⟩,
  ⟨G.ACCT_RING_BYTES, 1, 4, .rws, false, .num 0, 0, 4294967295, 128⟩,
  ⟨G.ENERGY_CURVES, 1, 9, .rws, true, .blob (Config.energyCurvesReference), 0, 0, 1⟩,
  ⟨G.SWITCH_TICKS, 1, 5, .ro, false, .num 0, 0, 18446744073709551615, 1⟩,
  ⟨G.PREEMPTIONS, 1, 4, .ro, false, .num 0, 0, 4294967295, 1⟩,
  ⟨G.PREEMPT_KILLED, 1, 5, .ro, false, .num 0, 0, 18446744073709551615, 1⟩,
  ⟨G.SLICE_LATE, 1, 5, .ro, false, .num 0, 0, 18446744073709551615, 1⟩,
  ⟨G.LEASE_REVOKED, 1, 5, .ro, false, .num 0, 0, 18446744073709551615, 1⟩,
  ⟨G.BACKUP_WON, 1, 5, .ro, false, .num 0, 0, 18446744073709551615, 1⟩,
  ⟨G.BACKUP_LOST_COUNT, 1, 5, .ro, false, .num 0, 0, 18446744073709551615, 1⟩,
  ⟨G.BARRIER_LAST, 1, 5, .ro, false, .num 0, 0, 18446744073709551615, 1⟩,
  ⟨G.EVENT_OVERWRITE, 1, 5, .ro, false, .num 0, 0, 18446744073709551615, 1⟩,
  ⟨G.NODE_UNCHARGED_UJ, 1, 5, .ro, true, .num 0, 0, 18446744073709551615, 1⟩,
  ⟨G.T1_CHANNELS, 1, 9, .rws, false, .blob (zeros 32), 0, 0, 1⟩,
  ⟨G.SCRATCH_BASE, 1, 3, .rws, false, .num 0, 0, 1535, 1⟩,
  ⟨G.SCRATCH_PAGES, 1, 3, .rws, false, .num 0, 0, 65535, 1⟩,
  ⟨G.STAGE_POOL_PAGES, 1, 3, .rws, false, .num 0, 0, 65535, 1⟩,
  ⟨G.CHART_Q_BASE, 1, 4, .rws, false, .num 0, 0, 4294967295, 1⟩,
  ⟨G.CHART_Q_COUNT, 1, 4, .rws, false, .num 0, 0, 4294967295, 1⟩,
  ⟨G.STAGE_T1_BASE, 1, 5, .rws, false, .num 0, 0, 18446744073709551615, 65536⟩,
  ⟨G.STAGE_T1_BYTES, 1, 5, .rws, false, .num 0, 0, 18446744073709551615, 65536⟩,
  ⟨G.STAGE_T1_WORK, 1, 5, .rws, false, .num 0, 0, 18446744073709551615, 1⟩,
  ⟨G.T2_LPN_BASE, 1, 4, .rws, false, .num 0, 0, 4294967295, 1⟩,
  ⟨G.T2_LPN_COUNT, 1, 4, .rws, false, .num 0, 0, 4294967295, 1⟩,
  ⟨G.T3_PEERS, 1, 9, .rws, false, .blob ([]), 0, 0, 1⟩,
  ⟨G.T3_HOST_WINDOWS, 1, 9, .rws, false, .blob ([]), 0, 0, 1⟩,
  ⟨G.TIER_LATE_DETAIL, 1, 9, .ro, false, .blob (zeros 168), 0, 0, 1⟩,
  ⟨G.TIER_FAILED_COUNT, 1, 5, .ro, false, .num 0, 0, 18446744073709551615, 1⟩,
  ⟨G.CUBE_NAN, 1, 5, .ro, false, .num 0, 0, 18446744073709551615, 1⟩,
  ⟨G.PROJ_CALIB, 1, 9, .rws, false, .blob ([]), 0, 0, 1⟩
]

def entryRows3 : List EntryRow := [
  ⟨G.PROJ_RERUN_MAX, 1, 3, .rws, false, .num 8, 0, 64, 1⟩,
  ⟨G.PROJ_SAT_TOTAL, 1, 5, .ro, false, .num 0, 0, 18446744073709551615, 1⟩,
  ⟨G.CALIB_MISS_COUNT, 1, 5, .ro, false, .num 0, 0, 18446744073709551615, 1⟩,
  ⟨G.RERUN_COUNT, 1, 5, .ro, false, .num 0, 0, 18446744073709551615, 1⟩,
  ⟨G.PROJ_NAN, 1, 5, .ro, false, .num 0, 0, 18446744073709551615, 1⟩,
  ⟨G.PROJ_LAYER_STATS, 1, 9, .ro, false, .blob ([]), 0, 0, 1⟩,
  ⟨G.INDEX_TABLE, 1, 9, .rws, false, .blob ([]), 0, 0, 1⟩,
  ⟨G.SEARCH_CLASSES, 1, 9, .rws, false, .blob ([]), 0, 0, 1⟩,
  ⟨G.MAINT_TABLE, 1, 9, .rws, false, .blob ([]), 0, 0, 1⟩,
  ⟨G.SEARCH_EXPANSIONS, 1, 5, .ro, false, .num 0, 0, 18446744073709551615, 1⟩,
  ⟨G.PREFETCH_HIT, 1, 5, .ro, false, .num 0, 0, 18446744073709551615, 1⟩,
  ⟨G.PREFETCH_MISS, 1, 5, .ro, false, .num 0, 0, 18446744073709551615, 1⟩,
  ⟨G.BSU_SCORED_TOTAL, 1, 5, .ro, false, .num 0, 0, 18446744073709551615, 1⟩,
  ⟨G.ENGINE_SCORED_TOTAL, 1, 5, .ro, false, .num 0, 0, 18446744073709551615, 1⟩,
  ⟨G.SEARCH_SHORTFALL, 1, 5, .ro, false, .num 0, 0, 18446744073709551615, 1⟩,
  ⟨G.SEARCH_BUDGET_CUT, 1, 5, .ro, false, .num 0, 0, 18446744073709551615, 1⟩,
  ⟨G.SEARCH_QUERY_FAULTS, 1, 5, .ro, false, .num 0, 0, 18446744073709551615, 1⟩,
  ⟨G.OLDEST_LIVE_DATUM, 16, 5, .ro, false, .num 0xFFFFFFFFFFFFFFFF, 0, 18446744073709551615, 1⟩,
  ⟨G.SLOTS_BOUND, 1, 4, .ro, false, .num 0, 0, 4294967295, 1⟩,
  ⟨G.MAINT_INSERTS, 1, 5, .ro, false, .num 0, 0, 18446744073709551615, 1⟩,
  ⟨G.MAINT_DELETES, 1, 5, .ro, false, .num 0, 0, 18446744073709551615, 1⟩,
  ⟨G.REV_DEFERRED, 1, 5, .ro, false, .num 0, 0, 18446744073709551615, 1⟩,
  ⟨G.REV_DROPPED, 1, 5, .ro, false, .num 0, 0, 18446744073709551615, 1⟩,
  ⟨G.SCAN_BLOCKED, 1, 5, .ro, false, .num 0, 0, 18446744073709551615, 1⟩,
  ⟨G.SCAN_SKIPPED, 1, 5, .ro, false, .num 0, 0, 18446744073709551615, 1⟩,
  ⟨G.TOMB_RECLAIMED, 1, 5, .ro, false, .num 0, 0, 18446744073709551615, 1⟩,
  ⟨G.LAPS_DONE, 1, 5, .ro, false, .num 0, 0, 18446744073709551615, 1⟩,
  ⟨G.SELECT_CMDS, 1, 5, .ro, false, .num 0, 0, 18446744073709551615, 1⟩,
  ⟨G.SELECT_SHORTFALL, 1, 5, .ro, false, .num 0, 0, 18446744073709551615, 1⟩,
  ⟨G.SELECT_DUPS, 1, 5, .ro, false, .num 0, 0, 18446744073709551615, 1⟩,
  ⟨G.SELECT_DUP_BELOW_CUT, 1, 5, .ro, false, .num 0, 0, 18446744073709551615, 1⟩,
  ⟨G.SELECT_INVALID, 1, 5, .ro, false, .num 0, 0, 18446744073709551615, 1⟩,
  ⟨G.SELECT_INPUT_FAULTS, 1, 5, .ro, false, .num 0, 0, 18446744073709551615, 1⟩,
  ⟨G.EMB_TABLES, 1, 9, .rws, false, .blob ([]), 0, 0, 1⟩,
  ⟨G.WIDTH_CLASSES, 1, 9, .rws, false, .blob ([]), 0, 0, 1⟩,
  ⟨G.EMB_NODES, 1, 9, .rws, false, .blob ([]), 0, 0, 1⟩,
  ⟨G.EMB_LOOKUPS, 1, 5, .ro, false, .num 0, 0, 18446744073709551615, 1⟩,
  ⟨G.EMB_DEFAULTED, 1, 5, .ro, false, .num 0, 0, 18446744073709551615, 1⟩,
  ⟨G.EMB_DROPPED, 1, 5, .ro, false, .num 0, 0, 18446744073709551615, 1⟩,
  ⟨G.EMB_FLASH_OVER, 1, 5, .ro, false, .num 0, 0, 18446744073709551615, 1⟩
]

def entryRows4 : List EntryRow := [
  ⟨G.EMB_EMPTY_BAGS, 1, 5, .ro, false, .num 0, 0, 18446744073709551615, 1⟩,
  ⟨G.EMB_COLLAPSED, 1, 5, .ro, false, .num 0, 0, 18446744073709551615, 1⟩,
  ⟨G.SET_CONFLICT, 1, 5, .ro, false, .num 0, 0, 18446744073709551615, 1⟩,
  ⟨G.EMB_ROWS_APPLIED, 1, 5, .ro, false, .num 0, 0, 18446744073709551615, 1⟩,
  ⟨G.EMB_SAT, 1, 5, .ro, false, .num 0, 0, 18446744073709551615, 1⟩,
  ⟨G.UPDATE_SKIPPED, 1, 5, .ro, false, .num 0, 0, 18446744073709551615, 1⟩,
  ⟨G.ROW_VERSIONS, 1, 9, .rws, false, .blob ([]), 0, 0, 1⟩,
  ⟨G.ATLAS_DIR, 1, 9, .rws, false, .blob ([]), 0, 0, 1⟩,
  ⟨G.ATLAS_CURRENT, 1, 2, .ro, false, .num 255, 0, 255, 1⟩,
  ⟨G.ATLAS_GEN, 1, 5, .ro, false, .num 0, 0, 18446744073709551615, 1⟩,
  ⟨G.PLACE_OWNER, 1, 2, .rws, false, .num 0, 0, 2, 1⟩,
  ⟨G.PLACE_CLASS_MIN, 1, 2, .rws, false, .num 0, 0, 3, 1⟩,
  ⟨G.PLACE_CLASS_MAX, 1, 2, .rws, false, .num 3, 0, 3, 1⟩,
  ⟨G.PLACE_MOVE_MAX, 1, 4, .rws, false, .num 4294967295, 0, 4294967295, 1⟩,
  ⟨G.PLACE_OWNER_SET, 1, 9, .rws, false, .blob ([]), 0, 0, 1⟩,
  ⟨G.PLACE_IMBALANCE, 1, 7, .rws, false, .num 0x3DCCCCCD, 0, 4294967295, 1⟩,
  ⟨G.POLICY_HOLD, 1, 5, .ro, false, .num 0, 0, 18446744073709551615, 1⟩,
  ⟨G.PLACE_MOVED, 1, 5, .ro, false, .num 0, 0, 18446744073709551615, 1⟩,
  ⟨G.PLACE_RECLASSED, 1, 5, .ro, false, .num 0, 0, 18446744073709551615, 1⟩,
  ⟨G.PLACE_REFUSED, 1, 5, .ro, false, .num 0, 0, 18446744073709551615, 1⟩,
  ⟨G.PLACE_OVERFLOW, 1, 5, .ro, false, .num 0, 0, 18446744073709551615, 1⟩,
  ⟨G.MIG_STALE_UPDATE, 1, 5, .ro, false, .num 0, 0, 18446744073709551615, 1⟩,
  ⟨G.REPLACE_ROWS, 1, 5, .ro, false, .num 0, 0, 18446744073709551615, 1⟩,
  ⟨G.SURVEY_REPORT, 1, 9, .ro, false, .blob ([]), 0, 0, 1⟩,
  ⟨G.BSU_BASE_MAP, 1, 9, .rws, false, .blob (zeros 256), 0, 0, 1⟩,
  ⟨G.BSU_POWER_RULES, 1, 9, .const, true, .blob bsuPowerRules, 0, 0, 1⟩,
  ⟨G.BSU_HOLD_BOUND, 1, 4, .rws, true, .num 20000, 1000, 1000000, 1⟩,
  ⟨G.BSU_QC_SPLIT, 1, 3, .rws, false, .num 4096, 0, 4096, 1⟩,
  ⟨G.BSU_RES_SPLIT, 1, 4, .rws, false, .num 655360, 0, 4294967295, 64⟩,
  ⟨G.BSU_APERTURE_BASE, 1, 5, .const, true, .num 2199023255552, 0, 18446744073709551615, 1⟩,
  ⟨G.BSU_MODE_MAP, 1, 9, .ro, true, .blob ([]), 0, 0, 1⟩,
  ⟨G.PROC_EPOCH, 1, 9, .ro, true, .blob (zeros 1024), 0, 0, 1⟩,
  ⟨G.BSU_MODE_CHANGES, 1, 5, .ro, true, .num 0, 0, 18446744073709551615, 1⟩,
  ⟨G.BSU_MODE_RESTORE, 1, 5, .ro, true, .num 0, 0, 18446744073709551615, 1⟩,
  ⟨G.BSU_HOLD_COUNT, 1, 5, .ro, true, .num 0, 0, 18446744073709551615, 1⟩,
  ⟨G.BSU_HOLD_POISON, 1, 5, .ro, true, .num 0, 0, 18446744073709551615, 1⟩,
  ⟨G.BSU_CORRECTED, 1, 5, .ro, true, .num 0, 0, 18446744073709551615, 1⟩,
  ⟨G.BSU_UNCORR, 1, 5, .ro, true, .num 0, 0, 18446744073709551615, 1⟩,
  ⟨G.BSU_RMW, 1, 5, .ro, true, .num 0, 0, 18446744073709551615, 1⟩,
  ⟨G.BSU_ACT_DELAY, 1, 5, .ro, true, .num 0, 0, 18446744073709551615, 1⟩
]

def entryRows5 : List EntryRow := [
  ⟨G.BSU_APERTURE_REFUSED, 1, 5, .ro, true, .num 0, 0, 18446744073709551615, 1⟩,
  ⟨G.FLASH_SEQ, 1, 9, .rws, true, .blob (Config.flashSeqReference), 0, 0, 1⟩,
  ⟨G.FLASH_MODE_TARGET, 1, 2, .rws, true, .num 5, 0, 255, 1⟩,
  ⟨G.FLASH_MODE, 1, 9, .ro, true, .blob ([]), 0, 0, 1⟩,
  ⟨G.ZQ_INTERVAL, 1, 4, .rws, true, .num 1000, 0, 4294967295, 1⟩,
  ⟨G.SCRIBE_CHANNELS, 1, 9, .rws, true, .blob (zeros 32), 0, 0, 1⟩,
  ⟨G.SCRIBE_REGION_BASE, 1, 5, .rws, true, .num 0, 0, 18446744073709551615, 1⟩,
  ⟨G.SCRIBE_REGION_BYTES, 1, 5, .rws, true, .num 0, 0, 18446744073709551615, 1⟩,
  ⟨G.SCRIBE_REBUILD_BASE, 1, 5, .rws, true, .num 0, 0, 18446744073709551615, 1⟩,
  ⟨G.FLASH_LAYOUT, 1, 9, .ro, true, .blob ([]), 0, 0, 1⟩,
  ⟨G.FLASH_FORMAT, 1, 9, .wo, true, .blob ([]), 0, 0, 1⟩,
  ⟨G.GC_WEIGHTS, 1, 9, .rws, true, .blob (gcWeightsDefault), 0, 0, 1⟩,
  ⟨G.GC_LOW, 1, 3, .rws, true, .num 8, 0, 65535, 1⟩,
  ⟨G.GC_HIGH, 1, 3, .rws, true, .num 16, 0, 65535, 1⟩,
  ⟨G.WL_GAP, 1, 4, .rws, true, .num 200, 0, 4294967295, 1⟩,
  ⟨G.RETRY_REFRESH, 1, 2, .rws, true, .num 8, 0, 255, 1⟩,
  ⟨G.CACHE_READY, 1, 3, .rws, true, .num 2, 1, 64, 1⟩,
  ⟨G.RETRY_OWNER, 1, 2, .rws, true, .num 0, 0, 2, 1⟩,
  ⟨G.RETRY_STEP_MIN, 1, 2, .rws, true, .num 1, 0, 255, 1⟩,
  ⟨G.RETRY_STEP_MAX, 1, 2, .rws, true, .num 15, 0, 255, 1⟩,
  ⟨G.RETRY_POLICY_HOLD, 1, 5, .ro, true, .num 0, 0, 18446744073709551615, 1⟩,
  ⟨G.RETRY_PIN, 1, 9, .rws, true, .blob (ones 512), 0, 0, 1⟩,
  ⟨G.FLASH_READS, 1, 5, .ro, false, .num 0, 0, 18446744073709551615, 1⟩,
  ⟨G.FLASH_OVER, 1, 5, .ro, false, .num 0, 0, 18446744073709551615, 1⟩,
  ⟨G.FLASH_READ_FAIL, 1, 5, .ro, false, .num 0, 0, 18446744073709551615, 1⟩,
  ⟨G.FLASH_FOREIGN, 1, 5, .ro, false, .num 0, 0, 18446744073709551615, 1⟩,
  ⟨G.FLASH_UNWRITTEN, 1, 5, .ro, false, .num 0, 0, 18446744073709551615, 1⟩,
  ⟨G.FLASH_PAGES_WRITTEN, 1, 5, .ro, false, .num 0, 0, 18446744073709551615, 1⟩,
  ⟨G.SCRIBE_ENTRY_COUNT, 1, 5, .ro, false, .num 0, 0, 18446744073709551615, 1⟩,
  ⟨G.CACHE_EXTEND, 1, 5, .ro, true, .num 0, 0, 18446744073709551615, 1⟩,
  ⟨G.GC_PAGES_MOVED, 1, 5, .ro, true, .num 0, 0, 18446744073709551615, 1⟩,
  ⟨G.BLOCKS_RETIRED, 1, 4, .ro, true, .num 0, 0, 4294967295, 1⟩,
  ⟨G.FLASH_MODE_FALLBACK, 1, 4, .ro, true, .num 0, 0, 4294967295, 1⟩,
  ⟨G.VOID_RECORDS, 1, 5, .ro, true, .num 0, 0, 18446744073709551615, 1⟩,
  ⟨G.REBUILD_MS, 1, 4, .ro, true, .num 0, 0, 4294967295, 1⟩,
  ⟨G.SUM_LOST, 1, 4, .ro, true, .num 0, 0, 4294967295, 1⟩,
  ⟨G.CKPT_LPN_BASE, 1, 4, .rws, false, .num 0, 0, 4294967295, 1⟩,
  ⟨G.CKPT_LPN_COUNT, 1, 4, .rws, false, .num 0, 0, 4294967295, 1⟩,
  ⟨G.CKPT_COW_BASE, 8, 5, .rws, false, .num 0, 0, 18446744073709551615, 1⟩,
  ⟨G.CKPT_COW_BYTES, 8, 5, .rws, false, .num 0, 0, 18446744073709551615, 16384⟩
]

def entryRows6 : List EntryRow := [
  ⟨G.CKPT_STATE, 1, 2, .ro, false, .num 0, 0, 255, 1⟩,
  ⟨G.CKPT_LAST_SEQ, 1, 5, .ro, false, .num 0, 0, 18446744073709551615, 1⟩,
  ⟨G.CKPT_OPEN_SEQ, 1, 5, .ro, false, .num 0, 0, 18446744073709551615, 1⟩,
  ⟨G.CKPT_GROUPS_LEFT, 1, 5, .ro, false, .num 0, 0, 18446744073709551615, 1⟩,
  ⟨G.CKPT_SKIPPED, 1, 5, .ro, false, .num 0, 0, 18446744073709551615, 1⟩,
  ⟨G.CKPT_ABORTED, 1, 5, .ro, false, .num 0, 0, 18446744073709551615, 1⟩,
  ⟨G.CKPT_SAVE_WAIT, 1, 5, .ro, false, .num 0, 0, 18446744073709551615, 1⟩,
  ⟨G.CKPT_COW_PEAK, 1, 4, .ro, false, .num 0, 0, 4294967295, 1⟩,
  ⟨G.CKPT_RESTORE, 1, 5, .wo, false, .num 0, 0, 18446744073709551615, 1⟩,
  ⟨G.TORUS_DIMS, 1, 3, .rws, true, .num 0, 0, 65535, 1⟩,
  ⟨G.NODE_ID, 1, 3, .rws, true, .num 0, 0, 65535, 1⟩,
  ⟨G.PORT_MAP, 1, 9, .ro, true, .blob ([]), 0, 0, 1⟩,
  ⟨G.SPARE_PORT_ROLE, 1, 9, .rws, true, .blob ([0, 0]), 0, 0, 1⟩,
  ⟨G.SPARE_PORT_FOR, 1, 9, .rws, true, .blob (ones 2), 0, 0, 1⟩,
  ⟨G.DOMAIN_MAP, 1, 9, .rws, true, .blob (ones 16), 0, 0, 1⟩,
  ⟨G.LINK_CREDITS, 1, 9, .rws, true, .blob ([]), 0, 0, 1⟩,
  ⟨G.LINK_PLAN, 1, 9, .rws, true, .blob ([]), 0, 0, 1⟩,
  ⟨G.TORUS_LAND_BYTES, 1, 5, .rws, false, .num 0, 0, 18446744073709551615, 65536⟩,
  ⟨G.EQ_PRESETS, 1, 9, .rws, true, .blob (Config.eqPresetsReference), 0, 0, 1⟩,
  ⟨G.EQ_OWNER, 1, 2, .rws, true, .num 0, 0, 2, 1⟩,
  ⟨G.EQ_PRESET_MIN, 1, 2, .rws, true, .num 0, 0, 15, 1⟩,
  ⟨G.EQ_PRESET_MAX, 1, 2, .rws, true, .num 15, 0, 15, 1⟩,
  ⟨G.EQ_POLICY_HOLD, 1, 5, .ro, true, .num 0, 0, 18446744073709551615, 1⟩,
  ⟨G.EQ_PIN, 1, 9, .rws, true, .blob (ones 144), 0, 0, 1⟩,
  ⟨G.LINK_STATE, 1, 9, .ro, true, .blob ([]), 0, 0, 1⟩,
  ⟨G.LINK_DELAY_PS, 1, 9, .ro, true, .blob ([]), 0, 0, 1⟩,
  ⟨G.LANE_SER_LIMIT, 1, 7, .rws, true, .num 0x38D1B717, 0, 4294967295, 1⟩,
  ⟨G.DELAY_INTERVAL, 1, 4, .rws, true, .num 1000, 100, 100000, 1⟩,
  ⟨G.TORUS_MGMT_ALLOW, 1, 9, .rws, true, .blob ([]), 0, 0, 1⟩,
  ⟨G.FLIT_RETRY, 1, 5, .ro, true, .num 0, 0, 18446744073709551615, 1⟩,
  ⟨G.FEC_UNCORR, 1, 5, .ro, true, .num 0, 0, 18446744073709551615, 1⟩,
  ⟨G.FWD_OVER, 1, 5, .ro, true, .num 0, 0, 18446744073709551615, 1⟩,
  ⟨G.LANE_SWAPS, 1, 4, .ro, true, .num 0, 0, 4294967295, 1⟩,
  ⟨G.PORT_SWAPS, 1, 4, .ro, true, .num 0, 0, 4294967295, 1⟩,
  ⟨G.TORUS_DUP, 1, 5, .ro, false, .num 0, 0, 18446744073709551615, 1⟩,
  ⟨G.TORUS_UNCLAIMED, 1, 5, .ro, false, .num 0, 0, 18446744073709551615, 1⟩,
  ⟨G.TORUS_CRC_DROP, 1, 5, .ro, false, .num 0, 0, 18446744073709551615, 1⟩,
  ⟨G.TORUS_BAD_MSG, 1, 5, .ro, true, .num 0, 0, 18446744073709551615, 1⟩,
  ⟨G.TORUS_LAND_DROP, 1, 5, .ro, false, .num 0, 0, 18446744073709551615, 1⟩,
  ⟨G.TM_FLOW_EDIT, 1, 9, .rws, false, .blob ([]), 0, 0, 1⟩
]

def entryRows7 : List EntryRow := [
  ⟨G.TM_FIXED_EDIT, 1, 9, .rws, true, .blob ([]), 0, 0, 1⟩,
  ⟨G.TM_FLOW_VIEW, 1, 9, .ro, false, .blob ([]), 0, 0, 1⟩,
  ⟨G.TM_SERVICES, 1, 9, .rws, false, .blob ([]), 0, 0, 1⟩,
  ⟨G.FLOW_Q_BASE, 1, 4, .rws, false, .num 0, 0, 4294967295, 1⟩,
  ⟨G.FLOW_Q_COUNT, 1, 4, .rws, false, .num 0, 0, 4294967295, 1⟩,
  ⟨G.SERVICE_Q_BASE, 1, 3, .rws, false, .num 0, 0, 65535, 1⟩,
  ⟨G.SERVICE_Q_COUNT, 1, 3, .rws, false, .num 0, 0, 65535, 1⟩,
  ⟨G.TM_QUANTUM, 1, 4, .rws, true, .num 16, 1, 65536, 1⟩,
  ⟨G.TIME_GATES, 12, 9, .rws, true, .blob ([]), 0, 0, 1⟩,
  ⟨G.GATE_STATE, 1, 9, .ro, true, .blob ([]), 0, 0, 1⟩,
  ⟨G.SAMPLE_INTERVAL, 1, 4, .rws, false, .num 100, 10, 100000, 1⟩,
  ⟨G.SAMPLE_SET, 1, 9, .rws, false, .blob ([]), 0, 0, 1⟩,
  ⟨G.SAMPLE_RING_BASE, 1, 5, .rws, false, .num 0, 0, 18446744073709551615, 64⟩,
  ⟨G.SAMPLE_RING_BYTES, 1, 4, .rws, false, .num 0, 0, 4294967295, 32⟩,
  ⟨G.TM_GREEN, 1, 5, .ro, false, .num 0, 0, 18446744073709551615, 1⟩,
  ⟨G.TM_YELLOW, 1, 5, .ro, false, .num 0, 0, 18446744073709551615, 1⟩,
  ⟨G.TM_RED, 1, 5, .ro, false, .num 0, 0, 18446744073709551615, 1⟩,
  ⟨G.SHAPER_WAIT, 1, 5, .ro, false, .num 0, 0, 18446744073709551615, 1⟩,
  ⟨G.CREDIT_LOST, 1, 5, .ro, false, .num 0, 0, 18446744073709551615, 1⟩,
  ⟨G.RING_OVERWRITE, 1, 5, .ro, false, .num 0, 0, 18446744073709551615, 1⟩,
  ⟨G.GATE_DEFER, 1, 5, .ro, true, .num 0, 0, 18446744073709551615, 1⟩,
  ⟨G.GATE_OVERRUN, 1, 5, .ro, true, .num 0, 0, 18446744073709551615, 1⟩,
  ⟨G.GATE_LATE, 1, 4, .ro, true, .num 0, 0, 4294967295, 1⟩,
  ⟨G.REPAIR_RECORD, 1, 9, .ro, true, .blob ([]), 0, 0, 1⟩,
  ⟨G.REPAIR_PENDING, 1, 3, .ro, true, .num 0, 0, 65535, 1⟩,
  ⟨G.SRAM_CODE_MATRIX, 1, 9, .const, true, .blob (Config.sramCodeMatrix), 0, 0, 1⟩,
  ⟨G.SCRUB_INTERVAL_NS, 1, 4, .rws, true, .num 200, 50, 100000, 1⟩,
  ⟨G.SCRUB_LAP_LIMIT_S, 1, 4, .rws, true, .num 60, 1, 86400, 1⟩,
  ⟨G.SCRUB_REPORT, 1, 9, .ro, true, .blob ([]), 0, 0, 1⟩,
  ⟨G.REMAP_CE_LIMIT, 1, 3, .rws, true, .num 8, 1, 65535, 1⟩,
  ⟨G.RETIRE_LIMIT, 1, 2, .rws, true, .num 3, 1, 255, 1⟩,
  ⟨G.REMAP_USED, 1, 9, .ro, true, .blob ([]), 0, 0, 1⟩,
  ⟨G.REHEARSAL_TABLE, 1, 9, .rws, false, .blob ([]), 0, 0, 1⟩,
  ⟨G.REHEARSAL_TIMED, 1, 9, .rws, true, .blob ([]), 0, 0, 1⟩,
  ⟨G.REHEARSAL_COUNT, 1, 5, .ro, false, .num 0, 0, 18446744073709551615, 1⟩,
  ⟨G.SUSPECT_WINDOW, 1, 3, .rws, false, .num 64, 8, 4096, 1⟩,
  ⟨G.SUSPECT_FRACTION, 1, 7, .rws, false, .num 0x3E800000, 0, 4294967295, 1⟩,
  ⟨G.SUSPECT, 1, 2, .ro, false, .num 0, 0, 255, 1⟩,
  ⟨G.SUSPECT_CLEAR, 1, 1, .wo, false, .num 0, 0, 1, 1⟩,
  ⟨G.VOTE_CORRECTED, 1, 5, .ro, true, .num 0, 0, 18446744073709551615, 1⟩
]

def entryRows8 : List EntryRow := [
  ⟨G.STACK_RMW, 1, 5, .ro, true, .num 0, 0, 18446744073709551615, 1⟩,
  ⟨G.POISON_PROPAGATED, 1, 5, .ro, true, .num 0, 0, 18446744073709551615, 1⟩,
  ⟨G.QC_UNLOADED, 1, 5, .ro, true, .num 0, 0, 18446744073709551615, 1⟩,
  ⟨G.READ_CORRECTED, 1, 9, .ro, true, .blob ([]), 0, 0, 1⟩,
  ⟨G.EVENT_CATALOGUE, 1, 9, .const, true, .blob (Config.eventCatalogue), 0, 0, 1⟩,
  ⟨G.COUNTER_CONFIG, 1, 9, .rws, true, .blob ([]), 0, 0, 1⟩,
  ⟨G.COUNTER_VALUES, 1, 9, .ro, true, .blob ([]), 0, 0, 1⟩,
  ⟨G.COUNTER_CLEAR, 1, 9, .wo, true, .blob ([]), 0, 0, 1⟩,
  ⟨G.DUMP_INTERVAL, 1, 4, .rws, true, .num 0, 0, 1000000, 1⟩,
  ⟨G.DUMP_STAGE_MODE, 1, 2, .rws, true, .num 0, 0, 1, 1⟩,
  ⟨G.DUMP_RING_INSET, 1, 2, .rws, true, .num 255, 0, 255, 1⟩,
  ⟨G.DUMP_RING_BASE, 1, 5, .rws, true, .num 0, 0, 18446744073709551615, 64⟩,
  ⟨G.DUMP_RING_BYTES, 1, 5, .rws, true, .num 0, 0, 18446744073709551615, 64⟩,
  ⟨G.DUMP_READ_PTR, 1, 5, .rw, true, .num 0, 0, 18446744073709551615, 1⟩,
  ⟨G.DUMP_WRITE_PTR, 1, 5, .ro, true, .num 0, 0, 18446744073709551615, 1⟩,
  ⟨G.DUMP_SKIPPED, 1, 5, .ro, true, .num 0, 0, 18446744073709551615, 1⟩,
  ⟨G.DUMP_OVERWRITE, 1, 5, .ro, true, .num 0, 0, 18446744073709551615, 1⟩,
  ⟨G.BW_WINDOW_TICKS, 1, 4, .rws, true, .num 2000, 1, 1000000, 1⟩,
  ⟨G.PORT_BW, 1, 9, .ro, true, .blob ([]), 0, 0, 1⟩,
  ⟨G.SAMPLE_ENABLE, 1, 1, .rws, true, .num 0, 0, 1, 1⟩,
  ⟨G.SAMPLE_PERIOD, 1, 4, .rws, true, .num 1024, 1, 4294967295, 1⟩,
  ⟨G.SAMPLE_ENGINES, 1, 3, .rws, true, .num 8190, 0, 65535, 1⟩,
  ⟨G.SAMPLE_INSETS, 1, 3, .rws, true, .num 65535, 0, 65535, 1⟩,
  ⟨G.SAMPLE_WRAP, 1, 1, .rws, true, .num 1, 0, 1, 1⟩,
  ⟨G.SAMPLE_BUFFER, 1, 9, .ro, true, .blob ([]), 0, 0, 1⟩,
  ⟨G.SAMPLE_HEAD, 1, 4, .ro, true, .num 0, 0, 4294967295, 1⟩,
  ⟨G.SAMPLE_READ, 1, 4, .rw, true, .num 0, 0, 4294967295, 1⟩,
  ⟨G.SAMPLE_LOST, 1, 5, .ro, true, .num 0, 0, 18446744073709551615, 1⟩,
  ⟨G.SAMPLE_RESET, 1, 1, .wo, true, .num 0, 0, 1, 1⟩,
  ⟨G.ROOT_HASH, 1, 9, .const, true, .blob (Config.rootHash), 0, 0, 1⟩,
  ⟨G.GRADE, 1, 2, .const, true, .num Config.grade, 0, 255, 1⟩,
  ⟨G.IDENTITY_PUBKEY, 1, 9, .ro, true, .blob ([]), 0, 0, 1⟩,
  ⟨G.IDENTITY_TAG, 1, 5, .ro, true, .num 0, 0, 18446744073709551615, 1⟩,
  ⟨G.MFG_CERT, 1, 9, .ro, true, .blob ([]), 0, 0, 1⟩,
  ⟨G.BOOT_NONCE, 1, 9, .ro, true, .blob ([]), 0, 0, 1⟩,
  ⟨G.IMAGE_SVN, 1, 4, .ro, true, .num 0, 0, 4294967295, 1⟩,
  ⟨G.IMAGE_SLOT, 1, 2, .ro, true, .num 0, 0, 255, 1⟩,
  ⟨G.IMAGE_WRITE, 1, 9, .wo, true, .blob ([]), 0, 0, 1⟩,
  ⟨G.FLOOR_CERT, 1, 9, .wo, true, .blob ([]), 0, 0, 1⟩,
  ⟨G.FLOOR_SVN, 1, 4, .ro, true, .num 0, 0, 4294967295, 1⟩
]

def entryRows9 : List EntryRow := [
  ⟨G.FLOOR_STATE, 1, 2, .ro, true, .num 0, 0, 255, 1⟩,
  ⟨G.OWNER_KEY, 1, 9, .wo, true, .blob ([]), 0, 0, 1⟩,
  ⟨G.FLOOR_KEY_HASH, 1, 9, .ro, true, .blob (zeros 64), 0, 0, 1⟩,
  ⟨G.MEASUREMENT, 8, 9, .ro, true, .blob ([]), 0, 0, 1⟩,
  ⟨G.MEASURE_EXTEND, 1, 9, .wo, true, .blob ([]), 0, 0, 1⟩,
  ⟨G.ATTEST_NONCE, 1, 9, .wo, false, .blob ([]), 0, 0, 1⟩,
  ⟨G.ATTEST_REPORT, 1, 9, .ro, false, .blob ([]), 0, 0, 1⟩,
  ⟨G.MR6, 1, 9, .ro, false, .blob (zeros 64), 0, 0, 1⟩,
  ⟨G.RECOVERY_PORT, 1, 1, .rws, true, .num 0, 0, 1, 1⟩,
  ⟨G.DEBUG_CHALLENGE, 1, 9, .ro, true, .blob ([]), 0, 0, 1⟩,
  ⟨G.DEBUG_TOKEN, 1, 9, .wo, true, .blob ([]), 0, 0, 1⟩,
  ⟨G.DEBUG_LEVEL, 1, 2, .ro, true, .num 0, 0, 255, 1⟩,
  ⟨G.DEBUG_POLICY, 1, 2, .ro, true, .num 0, 0, 255, 1⟩,
  ⟨G.RAIL_TELEMETRY, 1, 9, .ro, true, .blob ([]), 0, 0, 1⟩,
  ⟨G.VR_ADDR, 1, 9, .rws, true, .blob (Config.vrAddrBoard), 0, 0, 1⟩,
  ⟨G.VR_POLL_US, 1, 4, .rws, true, .num 100, 20, 10000, 1⟩,
  ⟨G.VCORE_OWNER, 1, 2, .rws, true, .num 0, 0, 2, 1⟩,
  ⟨G.VCORE_MIN, 1, 3, .rws, true, .num 620, 0, 65535, 1⟩,
  ⟨G.VCORE_MAX, 1, 3, .rws, true, .num 820, 0, 65535, 1⟩,
  ⟨G.VCORE_SET, 1, 3, .rws, true, .num 750, 0, 65535, 1⟩,
  ⟨G.VCORE_PIN, 1, 3, .rws, true, .num 0, 0, 65535, 1⟩,
  ⟨G.VMARGIN_TARGET_PS, 1, 3, .rws, true, .num 25, 10, 200, 1⟩,
  ⟨G.VMARGIN_FLOOR_PS, 1, 3, .rws, true, .num 5, 1, 100, 1⟩,
  ⟨G.VCORE_POLICY_HOLD, 1, 5, .ro, true, .num 0, 0, 18446744073709551615, 1⟩,
  ⟨G.VCORE_NOW, 1, 3, .ro, true, .num 0, 0, 65535, 1⟩,
  ⟨G.VCORE_EMERGENCY, 1, 5, .ro, true, .num 0, 0, 18446744073709551615, 1⟩,
  ⟨G.TEMP_MAX, 1, 9, .ro, true, .blob ([]), 0, 0, 1⟩,
  ⟨G.THERMAL_WARN_C, 1, 2, .rws, true, .num 95, 70, 105, 1⟩,
  ⟨G.REF_STATUS, 1, 9, .ro, true, .blob ([]), 0, 0, 1⟩,
  ⟨G.I3C_ENABLE, 1, 1, .rws, true, .num 1, 0, 1, 1⟩,
  ⟨G.I3C_STATIC_ADDR, 1, 2, .rws, true, .num 42, 8, 119, 1⟩,
  ⟨G.EDGE_RATE, 1, 9, .rws, true, .blob ([2, 0]), 0, 0, 1⟩
]

/-- Every entry the manual lists. -/
def entryRows : List EntryRow :=
  entryRows0 ++ entryRows1 ++ entryRows2 ++ entryRows3 ++ entryRows4 ++ entryRows5 ++ entryRows6 ++ entryRows7 ++ entryRows8 ++ entryRows9

/-- The row that lists an index and subindex (R366); none for an unknown entry. -/
def entryOf (key : Nat) : Option EntryRow :=
  entryRows.find? (fun r => decide (r.key ≤ key) && decide (key < r.key + r.count))

/-- Bytes of a scalar type (Table 17-1); 0 for STRING and DOMAIN. -/
def typeBytes : Nat → Nat
  | 1 => 1
  | 2 => 1
  | 3 => 2
  | 4 => 4
  | 5 => 8
  | 6 => 4
  | 7 => 4
  | _ => 0

/-- The default of one entry. TICK_MASTER_LIST lists four defaults for its four subindices (Table 2-1). -/
def entryDefault (key : Nat) : GVal :=
  if key = G.TICK_MASTER_LIST then .num 0x000
  else if key = G.TICK_MASTER_LIST + 1 then .num 0x001
  else if key = G.TICK_MASTER_LIST + 2 then .num 0x010
  else if key = G.TICK_MASTER_LIST + 3 then .num 0x100
  else match entryOf key with
    | some r => r.dflt
    | none => .num 0

end Sys2Proof.Machine
end

