-- ==== Sys2Proof/Machine/Ops.lean ====
section
/-!
DEFINITION. The named operations over the state: the dictionary, Inset state, addresses and memory with its check
words, dirty sets and checkpoint saves, events, interrupts and outward effects.
-/

namespace Sys2Proof.Machine

/-! ### Time -/

/-- The part is powered and out of reset: no clock runs else (R417, R418, R424). -/
def State.alive (s : State) : Bool := s.clk.pwrGood && s.clk.resetN && !s.clk.railFault

/-- An image runs, or is being loaded: the node is not held in reset or in the recovery state (R409). -/
def State.serves (s : State) : Bool := s.alive && !s.clk.recovery

/-- FCLK cycles of `n` ns (2.4 GHz), rounded down. -/
def nsCycles (n : Nat) : Nat := n * 12 / 5

/-- FCLK cycles of `n` µs. -/
def usCycles (n : Nat) : Nat := n * 2400

/-! ### Free values -/

/-- A free value of `w` bits, and the state with the draw counted. -/
def State.draw (s : State) (w : Nat) : Nat × State :=
  (Config.freeValue w s.draws % 2 ^ w, { s with draws := s.draws + 1 })

/-! ### The dictionary -/

/-- An entry's value as a number (a DOMAIN reads little-endian). -/
def GVal.toNat : GVal → Nat
  | .num n => n
  | .blob b => leNat b

/-- An entry's value as bytes; a scalar takes none. -/
def GVal.toBytes : GVal → Bytes
  | .num _ => []
  | .blob b => b

/-- A dictionary: applied values, or an overlay of staged ones on them (R357). -/
abbrev Dict := Tab GVal

/-- Key of an entry instance: instance 0–15 an Inset, 16 the node. -/
def rkey (inst key : Nat) : Nat := inst * 2 ^ 24 + key

/-- Value of an entry instance, its default where none has been set. -/
def Dict.val (d : Dict) (inst key : Nat) : GVal :=
  match Tab.find d (rkey inst key) with
  | some v => v
  | none => entryDefault key

def Dict.num (d : Dict) (inst key : Nat) : Nat := (Dict.val d inst key).toNat
def Dict.blob (d : Dict) (inst key : Nat) : Bytes := (Dict.val d inst key).toBytes
/-- A node-scope scalar. -/
def Dict.node (d : Dict) (key : Nat) : Nat := Dict.num d 16 key
def Dict.nodeBlob (d : Dict) (key : Nat) : Bytes := Dict.blob d 16 key

def State.num (s : State) (inst key : Nat) : Nat := Dict.num s.gaz.regs inst key
def State.blob (s : State) (inst key : Nat) : Bytes := Dict.blob s.gaz.regs inst key
def State.node (s : State) (key : Nat) : Nat := s.num 16 key

/-- The dictionary with an entry instance set. -/
def State.setReg (s : State) (inst key : Nat) (v : GVal) : State :=
  { s with gaz := { s.gaz with regs := s.gaz.regs.set (rkey inst key) v } }

/-- Modulus of an entry's type. -/
def typeMod (key : Nat) : Nat :=
  match entryOf key with
  | some r => 2 ^ (8 * typeBytes r.ty)
  | none => 1

/-- A scalar entry set, cut to its type. -/
def State.setNum (s : State) (inst key n : Nat) : State := s.setReg inst key (.num (n % typeMod key))

/-! ### The counter block (R389 to R392) -/

/-- `n` bytes of a run from `o`. -/
def slice (bs : Bytes) (o n : Nat) : Bytes := (bs.drop o).take n

/-- Little-endian number of `n` bytes from `o`. -/
def sliceNat (bs : Bytes) (o n : Nat) : Nat := leNat (slice bs o n)

/-- Configuration record of a counter (Table 19-1); its default where COUNTER_CONFIG is shorter. -/
def counterCfg (cfg : Bytes) (c : Nat) : Nat :=
  if 8 * c + 8 ≤ cfg.length then sliceNat cfg (8 * c) 8 else 16 * 2 ^ 20 + 0xFFFF * 2 ^ 32

/-- Counters that a configuration lists. -/
def cfgCounters (cfg : Bytes) : List Nat := upto (min 4096 (cfg.length / 8))

/-- Records of the event catalogue (Table 19-4), as numbers. -/
def catalogue : List Nat := (chunks 32 4096 Config.eventCatalogue).map leNat

/-- The event codes that a Gazetteer counter stands for (R390). -/
def eventIsKey (key e : Nat) : Bool :=
  catalogue.any (fun r => bf r 15 0 == e && bf r 63 48 * 256 + bf r 71 64 == key)

/-- `n` added to a counter (R392). -/
def CtrState.add (t : CtrState) (c n : Nat) : CtrState :=
  let v := t.values.get 0 c + n
  { t with values := t.values.set c (v % 2 ^ 48)
           wrapped := if v ≥ 2 ^ 48 then t.wrapped.set c 1 else t.wrapped }

/-- An occurrence of weight `n` counted by every EDGE counter that selects it (R391): `sel` says which event codes it
is, `inst` the Inset charged (16 none), `unit` the instance of the block (0xFFFF unknown). -/
def State.countWith (s : State) (sel : Nat → Bool) (inst unit n : Nat) : State :=
  match Tab.find s.gaz.regs (rkey 16 G.COUNTER_CONFIG) with
  | none => s
  | some v =>
    let cfg := v.toBytes
    let hit := (cfgCounters cfg).filter (fun c =>
      let r := counterCfg cfg c
      bit r 16 && !bit r 17 && sel (bf r 15 0)
        && (bf r 24 20 == 16 || bf r 24 20 == inst)
        && (bf r 47 32 == 0xFFFF || bf r 47 32 == unit))
    { s with ctr := hit.foldl (fun t c => t.add c n) s.ctr }

/-- A byte event of Table 19-5, counted and added to the bandwidth window (R400): port of Table 19-8, direction. -/
def State.countBytes (s : State) (event unit inst port dir n : Nat) : State :=
  let s := s.countWith (· == event) inst unit n
  { s with ctr := { s.ctr with bw := s.ctr.bw.upd 0 (· + n) (2 * port + dir) } }

/-- A counter entry advanced by `n`; it is also an event of the counter block (R390). -/
def State.bump (s : State) (inst key n : Nat) : State :=
  if n = 0 then s
  else (s.setNum inst key (s.num inst key + n)).countWith (eventIsKey key) inst 0xFFFF n

def State.bumpNode (s : State) (key n : Nat) : State := s.bump 16 key n

/-! ### Insets and outward effects -/

def State.inset (s : State) (i : Nat) : InsetSt := s.sched.insets.get InsetSt.reset i

def State.setInset (s : State) (i : Nat) (t : InsetSt) : State :=
  { s with sched := { s.sched with insets := s.sched.insets.set i t } }

def State.modInset (s : State) (i : Nat) (f : InsetSt → InsetSt) : State := s.setInset i (f (s.inset i))

/-- Count `k` of Table 15-5 (0 CUBE_CYC to 9 HOST_BYTES) of the running tick raised for an Inset; 16 is none. -/
def State.charge (s : State) (i k n : Nat) : State :=
  if i ≥ 16 ∨ n = 0 then s else s.modInset i (fun t => { t with busy := modNth (· + n) t.busy k })

def State.emit (s : State) (o : Out) : State := { s with out := s.out ++ [o] }

def State.syncObj (s : State) (n : Nat) : SyncObj := s.sched.sync.get SyncObj.zero n

def State.setSync (s : State) (n : Nat) (o : SyncObj) : State :=
  { s with sched := { s.sched with sync := s.sched.sync.set n o } }

def State.unit (s : State) (ch : Nat) : StackUnit := s.bsu.units.get StackUnit.reset ch

def State.setUnit (s : State) (ch : Nat) (u : StackUnit) : State :=
  { s with bsu := { s.bsu with units := s.bsu.units.set ch u } }

/-- This node's linear id. -/
def State.nodeId (s : State) : Nat := s.node G.NODE_ID

/-- Number of the current tick. -/
def State.tickNo (s : State) : Nat := s.node G.TICK_NO

/-- TICK_LOCK: 0 unlocked, 1 locked, 2 holdover, 3 master. -/
def State.lock (s : State) : Nat := s.node G.TICK_LOCK

def State.seq (s : State) (i : Nat) : Nat := s.num i G.SHEET_SEQ
def State.datum (s : State) (i : Nat) : Nat := s.num i G.DATUM_SEQ

/-! ### Addresses (R210, R236, R240) -/

def channelBytes : Nat := 0xC0000000
def stackTop : Nat := 0xC000000000
def interBase : Nat := 0x10000000000
def apertureBase : Nat := 0x20000000000
def tileBase : Nat := 0x30000000000
def scratchBase : Nat := 0x30008000000
def onDieTop : Nat := 0x3000E000000

/-- The storage a node physical address names: the pinned-view address of a stack byte (R210), the address itself
on-die; none where Table 11-2 lists nothing that is storage. -/
def storageOf (a : Nat) : Option Nat :=
  if a < stackTop then some a
  else if interBase ≤ a ∧ a < interBase + stackTop then
    let x := a - interBase
    let q := x / 0x600000000
    let r := x % 0x600000000
    let j := r / 256
    some ((8 * q + j % 8) * channelBytes + 256 * (j / 8) + r % 256)
  else if tileBase ≤ a ∧ a < onDieTop then some a
  else none

/-- Storage in the stacks. -/
def isT1 (st : Nat) : Bool := decide (st < stackTop)

def channelOf (st : Nat) : Nat := st / channelBytes
def channelOff (st : Nat) : Nat := st % channelBytes

/-- R240: the top 256 KiB of every channel. -/
def reservedStack (st : Nat) : Bool := isT1 st && decide (channelOff st ≥ 0xBFFC0000)

/-- First bytes of the 64-byte words that a range touches, as node addresses. -/
def wordStarts (a n : Nat) : List Nat :=
  if n = 0 then [] else (rangeFrom (a / 64) ((a + n - 1) / 64 + 1 - a / 64)).map (· * 64)

/-- Every byte of the range is storage. -/
def rangeExists (a n : Nat) : Bool := (wordStarts a n).all (fun w => (storageOf w).isSome)

/-- Storage words of a range. -/
def storageWords (a n : Nat) : List Nat := (wordStarts a n).filterMap (fun w => (storageOf w).map (· / 64))

/-- A range of stack addresses, of either view, touches a channel (R210, R211). -/
def touches (a n ch : Nat) : Bool :=
  if n = 0 then false
  else if a < stackTop then decide (a / channelBytes ≤ ch) && decide (ch ≤ (a + n - 1) / channelBytes)
  else if interBase ≤ a ∧ a < interBase + stackTop then
    let lo := max (a - interBase) (ch / 8 * 0x600000000)
    let hi := min (a - interBase + n) ((ch / 8 + 1) * 0x600000000)
    if hi ≤ lo then false else
    let r0 := lo % 0x600000000 / 256
    let r1 := r0 + (hi - 1) / 256 - lo / 256
    decide (7 ≤ r1 - r0) || (rangeFrom r0 (r1 + 1 - r0)).any (fun j => j % 8 == ch % 8)
  else false

/-! ### Memory -/

/-- One byte of memory: 0 where none is listed (R372). -/
def MemState.byte (m : MemState) (st : Nat) : Byte := Tab.get 0 m.bytes st

/-- Memory with a byte written; zero is not listed, so equal memories are equal lists. -/
def MemState.setByte (m : MemState) (st : Nat) (b : Byte) : MemState :=
  { m with bytes := if b = 0 then Tab.del m.bytes st else Tab.set m.bytes st b }

/-- The canonical form of memory: addresses strictly rising, no zero listed. -/
def MemState.wf (m : MemState) : Bool := Tab.wf m.bytes && m.bytes.all (fun c => c.2 != 0)

/-- The 64 bytes of a storage word as they stand. -/
def MemState.rawWord (m : MemState) (w : Nat) : Nat := leNat ((upto 64).map (fun i => m.byte (w * 64 + i)))

/-- How a storage word decodes. -/
def MemState.wordState (m : MemState) (w : Nat) : WordState :=
  if w * 64 < stackTop then
    match Tab.find m.chk w with
    | none => .clean
    | some e => decodeWord (m.rawWord w) e
  else match Tab.find m.t0bad w with
    | none => .clean
    | some _ => .uncorrectable

/-- A word that a reader treats as uncorrectable (Table 10-12). -/
def WordState.isBad : WordState → Bool
  | .poisoned => true
  | .uncorrectable => true
  | _ => false

def WordState.isCorrected : WordState → Bool
  | .corrected _ => true
  | _ => false

/-- A byte as a reader sees it: corrected where its word corrects (R370). -/
def MemState.readByte (m : MemState) (st : Nat) : Byte :=
  match m.wordState (st / 64) with
  | .corrected d => BitVec.ofNat 8 (d >>> (8 * (st % 64)))
  | _ => m.byte st

/-- `n` bytes at a node physical address; bytes that are no storage read as 0 (callers check first). -/
def State.readBytes (s : State) (a n : Nat) : Bytes :=
  (rangeFrom a n).map (fun x => match storageOf x with
    | some st => s.mem.readByte st
    | none => 0)

/-- A little-endian number of `n` bytes at an address. -/
def State.readNat (s : State) (a n : Nat) : Nat := leNat (s.readBytes a n)

/-- The range holds a word that is poisoned or uncorrectable. -/
def State.rangeBad (s : State) (a n : Nat) : Bool :=
  (storageWords a n).any (fun w => (s.mem.wordState w).isBad)

/-- Words of the range that a reader corrects, in the stacks and on-die. -/
def State.rangeCorrected (s : State) (a n : Nat) : Nat :=
  ((storageWords a n).filter (fun w => (s.mem.wordState w).isCorrected)).length

/-- READ_CORRECTED advanced for a read of a range (R370). -/
def State.noteRead (s : State) (a n : Nat) : State :=
  let k := s.rangeCorrected a n
  if k = 0 then s else
    { s with rel := { s.rel with readCorr := s.rel.readCorr.upd 0 (· + k) (if a < interBase + stackTop then 0 else 1) } }

/-! ### Quotas (R238, R239) -/

/-- Channels of an Inset, ascending. -/
def Dict.channels (d : Dict) (i : Nat) : List Nat := setBits 256 0 (leNat (Dict.blob d i G.T1_CHANNELS))

def Dict.ownsChannel (d : Dict) (i ch : Nat) : Bool := bit (leNat (Dict.blob d i G.T1_CHANNELS)) ch

/-- The Inset that owns a stack channel. -/
def Dict.channelOwner (d : Dict) (ch : Nat) : Option Nat := (upto 16).find? (fun i => Dict.ownsChannel d i ch)

/-- A storage byte inside the Inset's T0 or T1 quota (Table 11-3); the stack staging region and the reserved bytes are
outside it for every operand and access. -/
def Dict.inQuota (d : Dict) (i st : Nat) : Bool :=
  if isT1 st then Dict.ownsChannel d i (channelOf st) && !reservedStack st
  else if st < scratchBase then
    let o := st - tileBase
    bit (leNat (Dict.blob d i G.INSET_CUBE_GROUPS)) (o / 0x100000)
  else
    let p := (st - scratchBase) / 65536
    decide (Dict.num d i G.SCRATCH_BASE ≤ p)
      && decide (p < Dict.num d i G.SCRATCH_BASE + Dict.num d i G.SCRATCH_PAGES)

/-- Regions that set no dirty bit (R245): stack staging regions and saved-copy regions, as base and size. -/
def Dict.untracked (d : Dict) : List (Nat × Nat) :=
  (upto 16).flatMap (fun i =>
    (match Tab.find d (rkey i G.STAGE_T1_BYTES) with
      | some v => [(Dict.num d i G.STAGE_T1_BASE, v.toNat)]
      | none => [])
    ++ (upto 8).filterMap (fun k => (Tab.find d (rkey i (G.CKPT_COW_BYTES + k))).map
        (fun v => (Dict.num d i (G.CKPT_COW_BASE + k), v.toNat))))

def inRegion (rs : List (Nat × Nat)) (st : Nat) : Bool := rs.any (fun r => decide (r.1 ≤ st) && decide (st < r.1 + r.2))

/-! ### Interrupts and events (R333) -/

/-- A vector fires. -/
def State.fireVector (s : State) (i v : Nat) : State :=
  (s.modInset i (fun t => { t with fired := t.fired.set v (s.clk.cycle + 1), gathered := t.gathered.del v })).emit (.msix i v)

/-- The holdoff of a vector still runs. -/
def State.inHoldoff (s : State) (i v : Nat) : Bool :=
  match Tab.find (s.inset i).fired v with
  | some c => decide (s.clk.cycle + 1 < c + nsCycles (s.num i G.INT_HOLDOFF_NS))
  | none => false

/-- An event of a source of Table 15-4: its vector fires, or the event is gathered. -/
def State.interrupt (s : State) (i src : Nat) : State :=
  let v := (nth 0xFF (s.blob i G.INT_MAP) src).toNat
  if v ≥ 128 then s
  else if (s.inset i).masked || s.inHoldoff i v then
    s.modInset i (fun t => { t with gathered := t.gathered.upd 0 (· + 1) v })
  else s.fireVector i v

/-- The interrupt source of a code's class (Table 15-4). -/
def classSource (code : Nat) : Option Nat :=
  let c := code / 0x1000
  if 2 ≤ c ∧ c ≤ 8 then some (c + 2) else none

/-- The 32-byte event record of R333. The source class is the class digit of the code (DEDUCED, log entry 12). -/
def eventRecord (code tickNo detail addr : Nat) (rehearsal : Bool) : Nat :=
  code % 65536 + (if rehearsal then 1 else 0) * 2 ^ 16 + (code / 0x1000 % 16) * 2 ^ 20
    + (tickNo % 2 ^ 64) * 2 ^ 64 + (detail % 2 ^ 64) * 2 ^ 128 + (addr % 2 ^ 64) * 2 ^ 192

/-! ### Writing memory -/

/-- Bytes at storage addresses, with no side of the write. -/
def MemState.setBytes (m : MemState) (l : List (Nat × Byte)) : MemState :=
  l.foldl (fun m c => m.setByte c.1 c.2) m

/-- Bytes of a storage word written, by offset rising: the whole word, or a part merged into what the word decodes to
(R371). A part merged into a bad stack word is written as poison, and says so; on-die the word stays uncorrectable. -/
def MemState.writeWord (m : MemState) (w : Nat) (cells : Tab Byte) : MemState × Bool :=
  let placed := cells.map (fun c => (w * 64 + c.1, c.2))
  match m.wordState w with
  | .clean => ({ m.setBytes placed with chk := m.chk.del w }, false)
  | .corrected d =>
    ({ (m.setBytes (mapIdxFrom (fun k b => (w * 64 + k, b)) 0 (toLe 64 d))).setBytes placed with chk := m.chk.del w }, false)
  | _ =>
    let m' := m.setBytes placed
    if cells.length = 64 then ({ m' with chk := m'.chk.del w, t0bad := m'.t0bad.del w }, false)
    else if w * 64 < stackTop then ({ m' with chk := m'.chk.set w (poisonField (m'.rawWord w)) }, true)
    else (m', false)

/-- A word made poison (R229 step 4); on-die it is marked uncorrectable. Its data bytes stay (log entry 14). -/
def MemState.poisonWord (m : MemState) (w : Nat) : MemState :=
  if w * 64 < stackTop then { m with chk := m.chk.set w (poisonField (m.rawWord w)) }
  else { m with t0bad := m.t0bad.set w 1 }

/-- Granule of a write marked dirty unless the region is untracked (R245). -/
def State.markDirty (s : State) (st : Nat) : State :=
  if isT1 st && !inRegion (Dict.untracked s.gaz.regs) st then
    { s with mem := { s.mem with dirty := s.mem.dirty.set (st / 4096) 1 } }
  else s

/-- Group of an Inset that holds a storage byte (R248). -/
def Dict.groupOf (d : Dict) (i st : Nat) : Option Nat :=
  let chs := Dict.channels d i
  match chs.findIdx? (· == channelOf st) with
  | some k => some (196592 * k + channelOff st / 16384)
  | none => none

/-- First storage byte of group `g` of an Inset (R248). -/
def Dict.groupBase (d : Dict) (i g : Nat) : Nat :=
  nth 0 (Dict.channels d i) (g / 196592) * channelBytes + g % 196592 * 16384

/-- Granules of an Inset's channels in a dirty set. -/
def Dict.granulesOf (d : Dict) (i : Nat) (t : Tab Nat) : Tab Nat :=
  t.keep (fun g => Dict.ownsChannel d i (channelOf (g * 4096)))

/-- R250, without its event: snapshot bits return to the current set, saved copies are freed, the restart point stays. -/
def State.dropCkpt (s : State) (i : Nat) : State :=
  let back := Dict.granulesOf s.gaz.regs i s.mem.snap
  let mem := { s.mem with
    dirty := back.foldl (fun t e => t.set e.1 1) s.mem.dirty
    snap := s.mem.snap.keep (fun g => !Dict.ownsChannel s.gaz.regs i (channelOf (g * 4096))) }
  let s := ({ s with mem := mem }).modInset i (fun t =>
    { t with ckpt := { Ckpt.idle with area := t.ckpt.area } })
  let s := s.setNum i G.CKPT_STATE 0
  s.setNum i G.CKPT_GROUPS_LEFT 0

/-- R249: the group a write is about to change is saved first, or its stack's saved-copy region is full. -/
def State.saveGroup (s : State) (st : Nat) : State × Option Nat :=
  if !isT1 st then (s, none) else
  match Dict.channelOwner s.gaz.regs (channelOf st) with
  | none => (s, none)
  | some i =>
    let t := s.inset i
    match Dict.groupOf s.gaz.regs i st with
    | none => (s, none)
    | some g =>
      if !t.ckpt.left.contains g || t.ckpt.saved.any (fun e => e.1 == g) then (s, none)
      else
        let stack := channelOf st / 32
        let slots := s.num i (G.CKPT_COW_BYTES + stack) / 16384
        let held := (t.ckpt.saved.filter (fun e =>
          decide (channelOf (Dict.groupBase s.gaz.regs i e.1) / 32 = stack))).length
        if held < slots then
          let base := Dict.groupBase s.gaz.regs i g
          let cells := s.mem.bytes.filter (fun c => decide (base ≤ c.1) && decide (c.1 < base + 16384))
          let bad := (rangeFrom (base / 64) 256).filter (fun w => (s.mem.wordState w).isBad)
          let saved := t.ckpt.saved ++ [(g, cells, bad)]
          let s := s.setInset i { t with ckpt := { t.ckpt with saved := saved } }
          let s := s.bump i G.CKPT_SAVE_WAIT 1
          (s.setNum i G.CKPT_COW_PEAK (max (s.num i G.CKPT_COW_PEAK) saved.length), none)
        else (s.dropCkpt i, some i)

/-- A storage word written, whole or in part, with the save of R249, the dirty bit of R245 and the count of a
read-modify-write (R371; R231 on a channel in PROC). Answers the state, whether a bad word was merged, and an Inset
whose checkpoint the save aborted. -/
def State.storeWord (s : State) (w : Nat) (cells : Tab Byte) : State × Bool × Option Nat :=
  let (s, ab) := s.saveGroup (w * 64)
  let (m, bad) := s.mem.writeWord w cells
  let s := ({ s with mem := m }).markDirty (w * 64)
  let s := if isT1 (w * 64) && decide (cells.length < 64) then
      s.bumpNode (if bit (s.unit (channelOf (w * 64))).mode 0 then G.BSU_RMW else G.STACK_RMW) 1 else s
  (s, bad, ab)

/-- A range cut at the ends of 64-byte words: address and bytes of each piece. -/
def splitWords : Nat → Nat → Bytes → List (Nat × Bytes)
  | 0, _, _ => []
  | _ + 1, _, [] => []
  | f + 1, a, bs =>
    let k := 64 - a % 64
    (a, bs.take k) :: splitWords f (a + k) (bs.drop k)

/-- Later cells over earlier ones of one word. -/
def overlayCells (old new : Tab Byte) : Tab Byte :=
  if new.length = 64 then new else new.foldl (fun t c => t.set c.1 c.2) old

/-- A piece put into the words to be written, latest word first. -/
def putPiece (w : Nat) (cells : Tab Byte) : List (Nat × Tab Byte) → List (Nat × Tab Byte)
  | [] => [(w, cells)]
  | (v, old) :: rest =>
    if v < w then (w, cells) :: (v, old) :: rest
    else if v = w then (v, overlayCells old cells) :: rest
    else (v, old) :: putPiece w cells rest

/-- Storage words that writes at node addresses change, ascending: what each holds anew. Writes to one word are one
write of it (R36), a later byte over an earlier one; bytes that are no storage are dropped. -/
def wordWrites (ws : List (Nat × Bytes)) : List (Nat × Tab Byte) :=
  let pieces := ws.flatMap (fun w => splitWords (w.2.length + 1) w.1 w.2)
  (pieces.foldl (fun acc p => match storageOf p.1 with
    | none => acc
    | some st => putPiece (st / 64) (mapIdxFrom (fun k b => (k, b)) (st % 64) p.2) acc) []).reverse

/-- Storage words written; the flags of every word are joined. -/
def State.storeWords (s : State) (ws : List (Nat × Tab Byte)) : State × Bool × List Nat :=
  ws.foldl (fun acc c =>
    let (s, bad, ab) := acc.1.storeWord c.1 c.2
    (s, acc.2.1 || bad, acc.2.2 ++ ab.toList)) (s, false, [])

/-- Bytes stored at a node address, word by word. -/
def State.storeRaw (s : State) (a : Nat) (bs : Bytes) : State × Bool × List Nat := s.storeWords (wordWrites [(a, bs)])

/-- An event record written to an Inset's ring and its interrupt raised (R333). A record older than one lap counts as
unread (log entry 13). The write of the record itself saves no checkpoint group a second time. -/
def State.eventFull (s : State) (i code detail addr : Nat) (rehearsal : Bool) : State :=
  let size := s.num i G.EVENT_RING_BYTES / 32
  let n := (s.inset i).events
  let s := if size = 0 then s else
    let s := if n ≥ size then s.bump i G.EVENT_OVERWRITE 1 else s
    let (s, _, ab) := s.storeRaw (s.num i G.EVENT_RING_BASE + 32 * (n % size))
      (toLe 32 (eventRecord code s.tickNo detail addr rehearsal))
    let s := ab.foldl (fun s j => s.bump j G.CKPT_ABORTED 1) s
    s.modInset i (fun t => { t with events := t.events + 1 })
  let s := if code / 0x1000 = 4 ∨ code / 0x1000 = 7 then { s with clk := { s.clk with lastCode := code } } else s
  match classSource code with
  | some src => s.interrupt i src
  | none => s

def State.event (s : State) (i code detail addr : Nat) : State := s.eventFull i code detail addr false

/-- An event of the node, on the ring of every Inset (R359 gives this for the node set; DEDUCED elsewhere, log entry
15). -/
def State.nodeEvent (s : State) (code detail addr : Nat) : State :=
  (upto 16).foldl (fun s i => s.event i code detail addr) s

/-- R250: a checkpoint of the Inset is aborted with a code. -/
def State.abortCkpt (s : State) (i code : Nat) : State :=
  ((s.dropCkpt i).bump i G.CKPT_ABORTED 1).event i code 0 0

/-- Storage words written by any writer; checkpoints aborted by a full saved-copy region raise their event. Answers
whether a bad word was merged into poison. -/
def State.storeAll (s : State) (ws : List (Nat × Tab Byte)) : State × Bool :=
  let (s, bad, ab) := s.storeWords ws
  (ab.foldl (fun s j => (s.bump j G.CKPT_ABORTED 1).event j Code.CKPT_COW_FULL 0 0) s, bad)

/-- Bytes stored at a node address. -/
def State.store (s : State) (a : Nat) (bs : Bytes) : State × Bool := s.storeAll (wordWrites [(a, bs)])

/-- As `store`, where the poison flag is not wanted. -/
def State.storeBytes (s : State) (a : Nat) (bs : Bytes) : State := (s.store a bs).1

/-- The words of a range written as poison. -/
def State.poisonRange (s : State) (a n : Nat) : State :=
  (storageWords a n).foldl (fun s w =>
    let (s, _) := s.saveGroup (w * 64)
    ({ s with mem := s.mem.poisonWord w }).markDirty (w * 64)) s

/-- Storage of a range made zero, clean and with no side (R372, R373): fills by the CL9 itself. -/
def MemState.clear (m : MemState) (lo n : Nat) : MemState :=
  { m with
    bytes := m.bytes.filter (fun c => decide (c.1 < lo) || decide (lo + n ≤ c.1))
    chk := m.chk.keep (fun w => decide (w * 64 < lo) || decide (lo + n ≤ w * 64))
    t0bad := m.t0bad.keep (fun w => decide (w * 64 < lo) || decide (lo + n ≤ w * 64)) }

end Sys2Proof.Machine
end

