-- ==== Sys2Proof/Machine/Clock.lean ====
section
/-!
DEFINITION. What one FCLK cycle does when no command waits: the cycle counter, and the counters of state events
(R391).
-/

namespace Sys2Proof.Machine

/-- The event code is a state event of the catalogue (Table 19-4, KIND). -/
def isStateEvent (e : Nat) : Bool := catalogue.any (fun r => bf r 15 0 == e && bit r 16)

/-- What an enabled counter of a state event adds in a cycle: LEVEL while the condition holds, EDGE at its rise. -/
def levelStep (r cycle : Nat) : Nat :=
  let on := Config.stateCondition (bf r 15 0) (bf r 24 20) (bf r 47 32)
  if bit r 16 && isStateEvent (bf r 15 0) && on cycle && (bit r 17 || !on (cycle - 1)) then 1 else 0

/-- The counters after a cycle. -/
def CtrState.cycle (t : CtrState) (cfg : Bytes) (cycle : Nat) : CtrState :=
  (cfgCounters cfg).foldl (fun t c =>
    let n := levelStep (counterCfg cfg c) cycle
    if n = 0 then t else t.add c n) t

/-- One FCLK cycle passes. -/
def State.idleCycle (s : State) : State :=
  let s := { s with clk := { s.clk with cycle := s.clk.cycle + 1 } }
  match Tab.find s.gaz.regs (rkey 16 G.COUNTER_CONFIG) with
  | none => s
  | some v => { s with ctr := s.ctr.cycle v.toBytes s.clk.cycle }

end Sys2Proof.Machine
end

