-- ==== Sys2Proof/Machine/Operands.lean ====
section
/-!
DEFINITION. Sheet images and the operand forms of their commands: header, command record, operand descriptor,
reservation and parameter block (Tables 2-2, 2-3, 2-5, 2-11), and what a command reads through its descriptors.
-/

namespace Sys2Proof.Machine

/-! ### Sheet header (Table 2-2) -/

namespace Hdr
def magic (h : Nat) : Nat := bf h 31 0
def version (h : Nat) : Nat := bf h 47 32
def inset (h : Nat) : Nat := bf h 51 48
def sheetId (h : Nat) : Nat := bf h 79 64
def nextId (h : Nat) : Nat := bf h 95 80
def cmdCount (h : Nat) : Nat := bf h 111 96
def periodUs (h : Nat) : Nat := bf h 127 112
def operandOffset (h : Nat) : Nat := bf h 159 128
def paramOffset (h : Nat) : Nat := bf h 191 160
def resvOffset (h : Nat) : Nat := bf h 223 192
def operandCount (h : Nat) : Nat := bf h 239 224
def resvCount (h : Nat) : Nat := bf h 255 240
def imageBytes (h : Nat) : Nat := bf h 287 256
def planTag (h : Nat) : Nat := bf h 351 288
def crc (h : Nat) : Nat := bf h 511 480
/-- Reserved bits are zero. -/
def reservedOk (h : Nat) : Bool := bf h 63 52 == 0 && bf h 479 352 == 0
end Hdr

/-! ### Command record (Table 2-3) -/

namespace CmdW
def engine (w : Nat) : Nat := bf w 7 0
def index (w : Nat) : Nat := bf w 15 8
def opcode (w : Nat) : Nat := bf w 31 16
def winOpen (w : Nat) : Nat := bf w 63 32
def winClose (w : Nat) : Nat := bf w 95 64
def est (w : Nat) : Nat := bf w 127 96
def waitSync (w : Nat) : Nat := bf w 141 128
def waitCond (w : Nat) : Nat := bf w 143 142
def waitValue (w : Nat) : Nat := bf w 175 144
def signalSync (w : Nat) : Nat := bf w 189 176
def signalOp (w : Nat) : Nat := bf w 191 190
def signalValue (w : Nat) : Nat := bf w 223 192
def operandBase (w : Nat) : Nat := bf w 239 224
def operandNum (w : Nat) : Nat := bf w 243 240
def cubeGroups (w : Nat) : Nat := bf w 247 244
def stagePages (w : Nat) : Nat := bf w 271 256
def paramLen (w : Nat) : Nat := bf w 287 272
def paramAt (w : Nat) : Nat := bf w 319 288
def rehearsal (w : Nat) : Bool := bit w 320
def admitBit (w : Nat) : Bool := bit w 321
def ckptMark (w : Nat) : Bool := bit w 322
def tag (w : Nat) : Nat := bf w 383 352
/-- Reserved bits are zero. -/
def reservedOk (w : Nat) : Bool := bf w 255 248 == 0 && bf w 351 323 == 0 && bf w 511 384 == 0
end CmdW

/-! ### Operand descriptor (Table 2-5) -/

namespace Desc
def tier (d : Nat) : Nat := bf d 1 0
def isOut (d : Nat) : Bool := bit d 2
def datumRead (d : Nat) : Bool := bit d 3
def producer (d : Nat) : Nat := bf d 23 8
def addr (d : Nat) : Nat := bf d 95 32
def len (d : Nat) : Nat := bf d 127 96
def reservedOk (d : Nat) : Bool := bf d 7 4 == 0 && bf d 31 24 == 0
/-- In T0 or T1. -/
def onNode (d : Nat) : Bool := decide (tier d ≤ 1)
end Desc

/-! ### Reservation record (Table 2-11) -/

namespace Resv
def x (r : Nat) : Nat := bf r 2 0
def y (r : Nat) : Nat := bf r 5 3
def link (r : Nat) : Nat := bf r 8 6
def winStart (r : Nat) : Nat := bf r 63 32
def winEnd (r : Nat) : Nat := bf r 95 64
def flits (r : Nat) : Nat := bf r 127 96
/-- The directed link named: router and direction. -/
def linkOf (r : Nat) : Nat := bf r 8 0
def reservedOk (r : Nat) : Bool := bf r 31 9 == 0
/-- The link exists in the 8 × 8 mesh. -/
def exists_ (r : Nat) : Bool :=
  !(link r == 0 && x r == 7) && !(link r == 1 && x r == 0)
    && !(link r == 2 && y r == 7) && !(link r == 3 && y r == 0)
end Resv

/-! ### Images (R30) -/

/-- One Sheet image: its header and its bytes. -/
structure Image where
  header : Nat
  bytes  : Bytes
deriving DecidableEq, Repr

/-- The images of a SHEET_IMAGE blob, one after another, each from the first 64-byte boundary after the last (R30). An
image whose IMAGE_BYTES is below its header ends the list; what follows cannot be located. -/
def parseImages : Nat → Bytes → List Image
  | 0, _ => []
  | f + 1, bs =>
    if bs.isEmpty then [] else
    let h := sliceNat bs 0 64
    let n := Hdr.imageBytes h
    if n < 64 then [⟨h, bs.take n⟩]
    else ⟨h, bs.take n⟩ :: parseImages f (bs.drop (roundUp n 64))

def Dict.images (d : Dict) (i : Nat) : List Image :=
  let b := Dict.blob d i G.SHEET_IMAGE
  parseImages (b.length / 64 + 1) b

def Image.cmdWord (m : Image) (k : Nat) : Nat := sliceNat m.bytes (64 + 64 * k) 64
def Image.cmdWords (m : Image) : List Nat := (upto (Hdr.cmdCount m.header)).map m.cmdWord
def Image.desc (m : Image) (j : Nat) : Nat := sliceNat m.bytes (Hdr.operandOffset m.header + 16 * j) 16
def Image.descsOf (m : Image) (w : Nat) : List Nat :=
  (rangeFrom (CmdW.operandBase w) (CmdW.operandNum w)).map m.desc
def Image.resvs (m : Image) : List Nat :=
  (upto (Hdr.resvCount m.header)).map (fun j => sliceNat m.bytes (Hdr.resvOffset m.header + 16 * j) 16)
/-- The parameter area. -/
def Image.area (m : Image) : Bytes := m.bytes.drop (Hdr.paramOffset m.header)
/-- A command's parameter block; PARAM_AT counts from the parameter area (Table 2-3). -/
def Image.paramsOf (m : Image) (w : Nat) : Bytes :=
  slice m.bytes (Hdr.paramOffset m.header + CmdW.paramAt w) (CmdW.paramLen w)

/-- The image of an Inset with a SHEET_ID. -/
def Dict.imageOf (d : Dict) (i sheetId : Nat) : Option Image :=
  (Dict.images d i).find? (fun m => Hdr.sheetId m.header == sheetId)

/-- Commands of a Sheet at its start: every one PENDING (Table 2-6). -/
def Image.cmds (m : Image) : List Cmd :=
  m.cmdWords.map (fun w =>
    ⟨w, m.descsOf w, m.paramsOf w, .pending, 0, 0, 0, false, 0, false, false, 0, [], [], [], [], 0, [], 0⟩)

/-! ### Commands of a running Sheet -/

def Cmd.engine (c : Cmd) : Nat := CmdW.engine c.word
def Cmd.index (c : Cmd) : Nat := CmdW.index c.word
def Cmd.opcode (c : Cmd) : Nat := CmdW.opcode c.word
def Cmd.tag (c : Cmd) : Nat := CmdW.tag c.word
/-- Bits `[hi:lo]` of the parameter block. -/
def Cmd.par (c : Cmd) (hi lo : Nat) : Nat := bf (leNat c.params) hi lo
def Cmd.inputs (c : Cmd) : List Nat := c.descs.filter (fun d => !Desc.isOut d)
def Cmd.outputs (c : Cmd) : List Nat := c.descs.filter Desc.isOut

/-- An address range inside one descriptor of a list. -/
def inDescs (ds : List Nat) (a n : Nat) : Bool :=
  ds.any (fun d => Desc.onNode d && decide (Desc.addr d ≤ a) && decide (a + n ≤ Desc.addr d + Desc.len d))

def Cmd.inInputs (c : Cmd) (a n : Nat) : Bool := inDescs c.inputs a n
def Cmd.inOutputs (c : Cmd) (a n : Nat) : Bool := inDescs c.outputs a n

/-- The command reached its end. -/
def Phase.ended : Phase → Bool
  | .committed => true
  | .killed => true
  | _ => false

/-- Past its commit point. -/
def Phase.past : Phase → Bool
  | .draining => true
  | .committed => true
  | _ => false

/-- Issued and not past its commit point. -/
def Phase.live : Phase → Bool
  | .running => true
  | .finished => true
  | _ => false

/-- The command a reference names. -/
def State.cmd (s : State) (r : CmdRef) : Option Cmd :=
  match (s.inset r.inset).sheet with
  | some sh => sh.cmds[r.idx]?
  | none => none

/-- The Sheet that a reference's Inset has in force. -/
def State.sheetOf (s : State) (r : CmdRef) : Option Sheet := (s.inset r.inset).sheet

/-- A command of a Sheet changed. -/
def State.modCmd (s : State) (r : CmdRef) (f : Cmd → Cmd) : State :=
  s.modInset r.inset (fun t =>
    { t with sheet := t.sheet.map (fun sh => { sh with cmds := modNth f sh.cmds r.idx }) })

/-- The command of an engine row: running, of the row's engine type and opcode. Rows that name no such command change
nothing (log entry 2). -/
def State.running (s : State) (r : CmdRef) (engine opcode : Nat) : Option Cmd :=
  match s.cmd r with
  | some c => if c.phase = .running ∧ c.engine = engine ∧ c.opcode = opcode then some c else none
  | none => none

/-- Sheet time: FCLK cycles since the Sheet started. -/
def State.sheetTime (s : State) (sh : Sheet) : Nat := s.clk.cycle - sh.startAt

/-- A command's parameter area beyond its own block, found through the applied image (R30). -/
def State.areaOf (s : State) (r : CmdRef) : Bytes :=
  match s.sheetOf r with
  | some sh =>
    match Dict.imageOf s.gaz.regs r.inset (Hdr.sheetId sh.header) with
    | some m => m.area
    | none => []
  | none => []

/-- The domain tag that DOMAIN_MAP gives an Inset (R287). -/
def Dict.tagOf (d : Dict) (i : Nat) : Option Nat :=
  (Dict.nodeBlob d G.DOMAIN_MAP).findIdx? (fun b => b.toNat == i)


end Sys2Proof.Machine
end

