-- ==== Sys2Proof/Machine/TmOps.lean ====
section
/-!
DEFINITION. The traffic manager's shared operations: contexts, token buckets, marking, shaping and queueing
(R305 to R311, R313).
-/

namespace Sys2Proof.Machine

/-! ### Contexts (Tables 14-2 and 14-3) -/

namespace FlowW
def service (w : Nat) : Nat := bf w 11 0
def valid (w : Nat) : Bool := bit w 12
def mode (w : Nat) : Nat := bf w 15 14
def resetFull (w : Nat) : Bool := bit w 16
def weight (w : Nat) : Nat := bf w 23 17
def cir (w : Nat) : Nat := bf w 63 24
def pir (w : Nat) : Nat := bf w 103 64
def cbs (w : Nat) : Nat := bf w 127 104
def pbs (w : Nat) : Nat := bf w 151 128
/-- The fields a write carries; the others are RO and ignored. -/
def rw (w : Nat) : Nat := bf w 151 0
def reservedOk (w : Nat) : Bool := !bit w 13
end FlowW

namespace SvcW
def port (w : Nat) : Nat := bf w 3 0
def owner (w : Nat) : Nat := bf w 11 4
def gateClass (w : Nat) : Nat := bf w 13 12
def shaped (w : Nat) : Bool := bit w 14
def resetFull (w : Nat) : Bool := bit w 15
def weight (w : Nat) : Nat := bf w 22 16
def rate (w : Nat) : Nat := bf w 63 24
def burst (w : Nat) : Nat := bf w 87 64
def rw (w : Nat) : Nat := bf w 87 0
def reservedOk (w : Nat) : Bool := !bit w 23
end SvcW

def State.flow (s : State) (n : Nat) : Flow := s.tm.flows.get Flow.reset n
def State.service (s : State) (n : Nat) : Service := s.tm.services.get Service.reset n
def State.setFlow (s : State) (n : Nat) (f : Flow) : State := { s with tm := { s.tm with flows := s.tm.flows.set n f } }
def State.setService (s : State) (n : Nat) (v : Service) : State :=
  { s with tm := { s.tm with services := s.tm.services.set n v } }

/-- Flow number of a torus port, tag and VC (Table 14-1). -/
def torusFlow (port tag vc : Nat) : Nat := 128 * port + 8 * tag + vc

/-- Port node of a flow (Table 14-1); none for a flow never used. -/
def flowPort (n : Nat) : Option Nat :=
  if n < 768 then some (n / 128)
  else if n < 776 then some 6
  else if n ≥ 4096 then some 7
  else if 1024 ≤ n ∧ n < 1040 then some 8
  else if 1040 ≤ n ∧ n < 1056 then some 9
  else if n = 1056 then some 10
  else if n = 1057 then some 11
  else none

/-- The Inset a flow's items are charged to, if any. -/
def Dict.flowInset (d : Dict) (n : Nat) : Option Nat :=
  if n < 768 then
    let b := (nth 0xFF (Dict.nodeBlob d G.DOMAIN_MAP) (n % 128 / 8)).toNat
    if b < 16 then some b else none
  else if 1024 ≤ n ∧ n < 1040 then some (n - 1024)
  else if 1040 ≤ n ∧ n < 1056 then some (n - 1040)
  else if n ≥ 4096 then
    (upto 16).find? (fun i => decide (Dict.num d i G.FLOW_Q_BASE ≤ n)
      && decide (n < Dict.num d i G.FLOW_Q_BASE + Dict.num d i G.FLOW_Q_COUNT))
  else none

/-- A counter of the Inset a flow belongs to. -/
def State.bumpFlow (s : State) (flow key n : Nat) : State :=
  match Dict.flowInset s.gaz.regs flow with
  | some i => s.bump i key n
  | none => s

/-! ### Token buckets (R307) -/

/-- Refill of a bucket of rate ρ and burst β over Δ FCLK cycles: the tokens in 1/256 unit and the carried remainder.
The remainder survives a cap (DEDUCED, log entry 21). -/
def refill (tok : Int) (rem rate burst delta : Nat) : Int × Nat :=
  let p := 256 * rate * delta + rem
  let t := tok + ((p / 2400000000 : Nat) : Int)
  (min ((256 * burst : Nat) : Int) t, p % 2400000000)

def Flow.refilled (f : Flow) (now : Nat) : Flow :=
  let d := now - f.last
  let (c, rc) := refill f.tokC f.remC (FlowW.cir f.word) (FlowW.cbs f.word) d
  let (p, rp) := refill f.tokP f.remP (FlowW.pir f.word) (FlowW.pbs f.word) d
  { f with tokC := c, remC := rc, tokP := p, remP := rp, last := now }

def Service.refilled (v : Service) (now : Nat) : Service :=
  let (t, r) := refill v.tok v.rem (SvcW.rate v.word) (SvcW.burst v.word) (now - v.last)
  { v with tok := t, rem := r, last := now }

/-- R308: the buckets after a change of the rates: full or empty. -/
def Flow.resetTokens (f : Flow) (now : Nat) : Flow :=
  let full := FlowW.resetFull f.word
  { f with tokC := if full then ((256 * FlowW.cbs f.word : Nat) : Int) else 0
           tokP := if full then ((256 * FlowW.pbs f.word : Nat) : Int) else 0
           remC := 0, remP := 0, last := now }

def Service.resetTokens (v : Service) (now : Nat) : Service :=
  { v with tok := if SvcW.resetFull v.word then ((256 * SvcW.burst v.word : Nat) : Int) else 0
           rem := 0, last := now }

/-! ### Marking (R311) -/

/-- The colour of an item of `b` units: 0 green, 1 yellow, 2 red, and the flow after it. MODE 0 and 1 mark green. -/
def Flow.mark (f : Flow) (now pre b : Nat) : Nat × Flow :=
  let mode := FlowW.mode f.word
  if mode < 2 then (0, f) else
  let f := f.refilled now
  let need : Int := ((256 * b : Nat) : Int)
  if (mode = 3 ∧ pre = 2) ∨ f.tokP < need then (2, f)
  else if (mode = 3 ∧ pre = 1) ∨ f.tokC < need then (1, { f with tokP := f.tokP - need })
  else (0, { f with tokP := f.tokP - need, tokC := f.tokC - need })

/-! ### Shaping (R309) -/

/-- A bucket lets an item of `b` units go: it holds the size, or it is full and the item larger than its burst. -/
def bucketHolds (tok : Int) (burst b : Nat) : Bool :=
  decide (((256 * b : Nat) : Int) ≤ tok) || (decide (burst < b) && decide (((256 * burst : Nat) : Int) ≤ tok))

/-- A flow and its service release an item of `b` units now: the state with both buckets lowered, or none. -/
def State.release (s : State) (flow b : Nat) : Option State :=
  let now := s.clk.cycle
  let f := (s.flow flow).refilled now
  let sv := FlowW.service f.word
  let v := (s.service sv).refilled now
  let fs := FlowW.valid f.word && FlowW.mode f.word == 1
  let vs := FlowW.valid f.word && SvcW.shaped v.word
  let okF := !fs || bucketHolds f.tokC (FlowW.cbs f.word) b
  let okV := !vs || bucketHolds v.tok (SvcW.burst v.word) b
  if okF && okV then
    let need : Int := ((256 * b : Nat) : Int)
    let s := if fs then s.setFlow flow { f with tokC := f.tokC - need } else s
    some (if vs then s.setService sv { v with tok := v.tok - need } else s)
  else none

/-- BOUND_VOID with cause HOST_PATH set in a completion entry that waits in its port-9 flow (R53, R345). -/
def Out.delayed : Out → Out
  | .hostWrite a b =>
    if b.length = 64 then
      let x := leNat b
      let x := setBf x 85 85 1
      .hostWrite a (toLe 64 (if bf x 87 86 = 0 then setBf x 87 86 3 else x))
    else .hostWrite a b
  | o => o

/-- An egress item joins its flow's queue: released at once when nothing waits before it and the buckets hold it (R309);
a queue newly backlogged starts with no deficit (R313). -/
def State.enqueue (s : State) (flow units : Nat) (what : Out) : State :=
  let f := s.flow flow
  let s := if f.queue.isEmpty ∧ f.deficit ≠ 0 then s.bumpFlow flow G.CREDIT_LOST f.deficit else s
  let ahead := f.queue.any (fun it => !it.released)
  match (if ahead then none else s.release flow units) with
  | some s' =>
    let f := s'.flow flow
    s'.setFlow flow { f with deficit := if f.queue.isEmpty then 0 else f.deficit
                             queue := f.queue ++ [⟨units, s.clk.cycle, false, true, what⟩] }
  | none =>
    let f := s.flow flow
    (s.setFlow flow { f with deficit := if f.queue.isEmpty then 0 else f.deficit
                             queue := f.queue ++ [⟨units, s.clk.cycle, false, false, what.delayed⟩] }).bumpFlow
      flow G.SHAPER_WAIT 1

end Sys2Proof.Machine
end

