-- ==== Sys2Proof/Machine/Flags.lean ====
section
/-!
DEFINITION. Status and flag computations: completion entries with their flags and destination (Tables 16-5, 16-6,
R344, R347, R350, R53), precise sample records (R396 to R398), and the codes of forced detectors (R385).
-/

namespace Sys2Proof.Machine

/-! ### Queue pairs and bindings -/

def State.queue (s : State) (fn q : Nat) : QueuePair := s.host.queues.get QueuePair.reset (4 * fn + q)
def State.setQueue (s : State) (fn q : Nat) (p : QueuePair) : State :=
  { s with host := { s.host with queues := s.host.queues.set (4 * fn + q) p } }
def State.binding (s : State) (i : Nat) : Binding := s.host.binds.get Binding.reset i
def State.setBinding (s : State) (i : Nat) (b : Binding) : State :=
  { s with host := { s.host with binds := s.host.binds.set i b } }

/-! ### Submission entry (Table 16-4) -/

namespace Sub
def kind (e : Nat) : Nat := bf e 3 0
def preColour (e : Nat) : Nat := bf e 5 4
def target (e : Nat) : Nat := bf e 13 8
def classId (e : Nat) : Nat := bf e 19 16
def cq (e : Nat) : Nat := bf e 21 20
def epoch (e : Nat) : Nat := bf e 63 32
def flow (e : Nat) : Nat := bf e 83 64
def reqId (e : Nat) : Nat := bf e 159 96
def recAddr (e : Nat) : Nat := bf e 223 160
def recBytes (e : Nat) : Nat := bf e 255 224
def resultAddr (e : Nat) : Nat := bf e 319 256
def resultBytes (e : Nat) : Nat := bf e 351 320
def reservedOk (e : Nat) : Bool :=
  bf e 7 6 == 0 && bf e 15 14 == 0 && bf e 31 22 == 0 && bf e 95 84 == 0 && bf e 511 352 == 0
end Sub

/-! ### Completion entry (Table 16-5) -/

/-- What a completion says beside what its submission entry gives. -/
structure Completion where
  code      : Nat
  void      : Bool
  cause     : Nat
  shortfall : Bool
  fallback  : Bool
  trunc     : Bool
  datum     : Nat
  words     : List Nat
  doneTick  : Nat
deriving DecidableEq, Repr

def flagBit (b : Bool) : Nat := if b then 1 else 0

/-- The 64-byte entry with its PHASE and FROM_LOG. -/
def completionWord (e : Nat) (c : Completion) (phase fromLog : Bool) : Nat :=
  Sub.reqId e + (c.code % 65536) * 2 ^ 64 + Sub.kind e * 2 ^ 80 + flagBit phase * 2 ^ 84 + flagBit c.void * 2 ^ 85
    + (c.cause % 4) * 2 ^ 86 + flagBit c.shortfall * 2 ^ 88 + flagBit c.fallback * 2 ^ 89 + flagBit fromLog * 2 ^ 90
    + flagBit c.trunc * 2 ^ 91 + Sub.epoch e * 2 ^ 96 + (c.datum % 2 ^ 42) * 2 ^ 128
    + (nth 0 c.words 0 % 2 ^ 32) * 2 ^ 192 + (nth 0 c.words 1 % 2 ^ 32) * 2 ^ 224
    + (nth 0 c.words 2 % 2 ^ 32) * 2 ^ 256 + (nth 0 c.words 3 % 2 ^ 32) * 2 ^ 288
    + (c.doneTick % 2 ^ 64) * 2 ^ 320

/-- R53: the lowest nonzero cause when several apply. -/
def joinCause (a b : Nat) : Nat := if a = 0 then b else if b = 0 then a else min a b

/-- A completion written to the transfer log (R344, R348): FROM_LOG, BOUND_VOID and cause HOST_PATH. -/
def State.logCompletion (s : State) (i e : Nat) (c : Completion) : State :=
  let n := s.num i G.XLOG_BYTES / 64
  if n = 0 then s else
  let b := s.binding i
  let w := completionWord e { c with void := true, cause := joinCause c.cause 3 } false true
  let s := s.storeBytes (s.num i G.XLOG_BASE + 64 * (b.xlogTail % n)) (toLe 64 w)
  let s := s.setBinding i { b with xlogTail := (b.xlogTail + 1) % 2 ^ 32 }
  let s := s.bump i G.XLOG_WRITTEN 1
  s.interrupt i (Sub.cq e)

/-- A completion written to a queue pair's ring, or diverted to the log when the ring is full (R344). -/
def State.ringCompletion (s : State) (i e : Nat) (q : QueuePair) (c : Completion) : State × QueuePair :=
  let size := 2 ^ q.cqLog
  if q.cqLog = 0 ∨ (q.cqTail + 1) % size = q.cqHead then
    ((s.logCompletion i e c).bump i G.CQ_FULL_DIVERT 1, q)
  else
    let w := completionWord e c (!q.phase) false
    let s := s.enqueue (1040 + i) 1 (.hostWrite (q.cqBase + 64 * q.cqTail) (toLe 64 w))
    let t := (q.cqTail + 1) % size
    (s.interrupt i (Sub.cq e), { q with cqTail := t, phase := if t = 0 then !q.phase else q.phase })

/-- A completion to the destination the binding rules give (R344, R347, R348, R350): the rings of the binder of the
request's epoch, or the transfer log. An entry that was never admitted goes to a ring when one is bound. -/
def State.complete (s : State) (i e : Nat) (c : Completion) : State :=
  let b := s.binding i
  let cq := Sub.cq e
  if b.oldBound ∧ Sub.epoch e ≤ b.oldEpoch then
    let (s, q) := s.ringCompletion i e (nth QueuePair.reset b.oldQueues cq) c
    s.setBinding i { s.binding i with oldQueues := modNth (fun _ => q) b.oldQueues cq }
  else if b.curBound ∧ (Sub.epoch e ≥ b.epoch ∨ c.datum = 0) then
    let (s, q) := s.ringCompletion i e (s.queue i cq) c
    s.setQueue i cq q
  else s.logCompletion i e c

/-- The boundary that closes the running tick. -/
def State.doneTick (s : State) : Nat := s.tickNo + 1

/-- Completion of an open request with nothing returned (R27, R29, R49, R327, R334, R350, R383). -/
def State.closeReq (s : State) (i code : Nat) (void : Bool) (r : OpenReq) : State :=
  let isOver := void || r.overrun
  let cause := if isOver then 1 else if r.yellow then 2 else 0
  s.complete i r.entry ⟨code, isOver || r.yellow, cause, false, r.fallback, false, r.datum, [0, 0, 0, 0], s.doneTick⟩

/-! ### Rehearsal (R384, R385) -/

/-- Entries of a table with the 16-byte header of INDEX_TABLE: `n`-byte records after it. -/
def tableEntries (b : Bytes) (n : Nat) : List Nat :=
  let count := sliceNat b 4 2
  (upto count).map (fun k => sliceNat b (16 + n * k) n)

/-- The detector bound to a command, 0 where none. -/
def Dict.detector (d : Dict) (i sheetId idx : Nat) : Nat :=
  match (tableEntries (Dict.blob d i G.REHEARSAL_TABLE) 16).find?
      (fun e => bf e 1 0 == 0 && bf e 47 32 == sheetId && bf e 31 16 == idx) with
  | some e => bf e 15 4
  | none => 0

/-- The detector forced in a running command (its REHEARSAL bit set). -/
def State.detector (s : State) (r : CmdRef) (c : Cmd) : Nat :=
  if CmdW.rehearsal c.word then
    match s.sheetOf r with
    | some sh => Dict.detector s.gaz.regs r.inset (Hdr.sheetId sh.header) r.idx
    | none => 0
  else 0

/-- Index of a timed injection of a detector that is due on an instance and has not fired (R384). -/
def State.timedEntry (s : State) (det inst : Nat) : Option Nat :=
  let es := tableEntries (s.blob 16 G.REHEARSAL_TIMED) 16
  (upto es.length).find? (fun k =>
    let e := nth 0 es k
    bf e 1 0 == 1 && bf e 15 4 == det && bf e 63 48 == inst && decide (bf e 127 64 ≤ s.tickNo) && !s.rel.fired.contains k)

/-- A timed injection fires: its event carries the rehearsal code, with the simulated code in the detail word. -/
def State.fireTimed (s : State) (k det sim addr : Nat) : State :=
  let s := { s with rel := { s.rel with fired := s.rel.fired ++ [k] } }
  (upto 16).foldl (fun s i => (s.eventFull i (0x8000 + det) sim addr true).bump i G.REHEARSAL_COUNT 1) s

/-! ### Precise samples (R396 to R398) -/

/-- Capacity of the sample ring. -/
def State.ringSize (s : State) : Nat := if s.node G.DUMP_STAGE_MODE = 1 then 1024 else 65536

/-- A record written to the ring, or lost. -/
def State.pushSample (s : State) (rec : Nat) : State :=
  let cap := s.ringSize
  let full := decide (s.ctr.sampleN ≥ cap)
  if full ∧ s.node G.SAMPLE_WRAP = 0 then s.bumpNode G.SAMPLE_LOST 1
  else
    let h := s.node G.SAMPLE_HEAD
    let s := if full then s.bumpNode G.SAMPLE_LOST 1 else s
    let s := { s with ctr := { s.ctr with samples := s.ctr.samples.set h rec
                                          sampleN := if full then cap else s.ctr.sampleN + 1 } }
    s.setNum 16 G.SAMPLE_HEAD ((h + 1) % cap)

def sat (w x : Nat) : Nat := min x (2 ^ w - 1)

/-- The record of an ended command (Table 19-7). -/
def sampleRecord (r : CmdRef) (sh : Sheet) (c : Cmd) (reason drain now : Nat) : Nat :=
  let killed := decide (c.phase = .killed)
  let run := (if killed then now else c.commitAt) - c.issueAt
  let addr := match c.outputs.head?, c.inputs.head? with
    | some d, _ => Desc.addr d
    | none, some d => Desc.addr d
    | none, none => 0
  c.engine + c.index * 2 ^ 8 + (r.inset % 16) * 2 ^ 16 + reason * 2 ^ 20
    + flagBit (decide (0x8000 ≤ c.code)) * 2 ^ 23 + (r.idx % 65536) * 2 ^ 24
    + (if killed then c.code % 65536 else 0) * 2 ^ 40 + (Hdr.planTag sh.header % 256) * 2 ^ 56
    + c.tag * 2 ^ 64 + (sh.seq % 2 ^ 32) * 2 ^ 96 + sat 26 (c.issueAt - sh.startAt) * 2 ^ 128
    + sat 32 run * 2 ^ 160 + (if killed then 0 else sat 16 drain) * 2 ^ 192 + (addr % 2 ^ 48) * 2 ^ 208

/-- The record written when an issued command has ended, with the first reason that applies (R397). -/
def State.sampleCmd (s : State) (r : CmdRef) (sh : Sheet) (c : Cmd) (drain : Nat) : State :=
  let now := s.clk.cycle
  let cls := c.code / 0x1000
  let faulted := decide (c.phase = .killed) && (decide (2 ≤ cls ∧ cls ≤ 8) || cls == 15)
  let exceeded := decide (c.phase = .committed) && decide (CmdW.est c.word < now - c.issueAt)
  let on := decide (s.node G.SAMPLE_ENABLE = 1)
  let miss := on && decide (CmdW.winClose c.word < c.issueAt - sh.startAt)
  let counted := bit (s.node G.SAMPLE_ENGINES) c.engine && bit (s.node G.SAMPLE_INSETS) r.inset
  let n := s.ctr.sampleCount.get 0 0 + (if counted then 1 else 0)
  let periodic := on && counted && decide (s.node G.SAMPLE_PERIOD ≤ n)
  let s := { s with ctr := { s.ctr with sampleCount := s.ctr.sampleCount.set 0 n } }
  if faulted then s.pushSample (sampleRecord r sh c 3 drain now)
  else if exceeded then s.pushSample (sampleRecord r sh c 1 drain now)
  else if miss then s.pushSample (sampleRecord r sh c 2 drain now)
  else if periodic then
    ({ s with ctr := { s.ctr with sampleCount := s.ctr.sampleCount.set 0 0 } }).pushSample
      (sampleRecord r sh c 0 drain now)
  else s

end Sys2Proof.Machine
end

