-- ==== Sys2Proof/Machine/Float.lean ====
section
/-!
DEFINITION. Binary floating-point numbers by exact arithmetic: decoding, and one rounding to nearest even, for fp16,
bf16, fp32, fp64 and the two fp8 formats.
-/

namespace Sys2Proof.Machine

/-- A number as its format's value: a finite value is (−1)^neg · m · 2^e. -/
inductive Fl where
  | nan
  | inf (neg : Bool)
  | fin (neg : Bool) (m : Nat) (e : Int)
deriving DecidableEq, Repr

/-- A binary format: exponent bits, fraction bits, and whether the top exponent holds infinities and NaNs as IEEE 754
gives (else only the all-ones code is NaN, as E4M3). -/
structure Fmt where
  ebits : Nat
  fbits : Nat
  ieee  : Bool
deriving DecidableEq, Repr

def fmt16 : Fmt := ⟨5, 10, true⟩
def fmtBf : Fmt := ⟨8, 7, true⟩
def fmt32 : Fmt := ⟨8, 23, true⟩
def fmt64 : Fmt := ⟨11, 52, true⟩
def fmtE4M3 : Fmt := ⟨4, 3, false⟩
def fmtE5M2 : Fmt := ⟨5, 2, true⟩

def Fmt.width (f : Fmt) : Nat := 1 + f.ebits + f.fbits
def Fmt.bias (f : Fmt) : Int := 2 ^ (f.ebits - 1) - 1
def Fmt.top (f : Fmt) : Nat := 2 ^ f.ebits - 1
/-- Exponent of the unit of the last place of the smallest numbers. -/
def Fmt.qmin (f : Fmt) : Int := 1 - f.bias - (f.fbits : Int)

/-- The value of a code. -/
def Fmt.decode (f : Fmt) (x : Nat) : Fl :=
  let neg := bit x (f.ebits + f.fbits)
  let e := bf x (f.ebits + f.fbits - 1) f.fbits
  let m := x % 2 ^ f.fbits
  if f.ieee ∧ e = f.top then (if m = 0 then .inf neg else .nan)
  else if !f.ieee ∧ e = f.top ∧ m = 2 ^ f.fbits - 1 then .nan
  else if e = 0 then .fin neg m f.qmin
  else .fin neg (2 ^ f.fbits + m) (f.qmin + ((e : Int) - 1))

def Fmt.signBit (f : Fmt) (neg : Bool) : Nat := if neg then 2 ^ (f.ebits + f.fbits) else 0
/-- The quiet NaN with a clear sign and only the top fraction bit set (all fraction bits for E4M3). -/
def Fmt.qnan (f : Fmt) : Nat :=
  if f.ieee then f.top * 2 ^ f.fbits + 2 ^ (f.fbits - 1) else f.top * 2 ^ f.fbits + (2 ^ f.fbits - 1)
def Fmt.infCode (f : Fmt) (neg : Bool) : Nat := f.signBit neg + f.top * 2 ^ f.fbits

/-- x · 2^k as a natural quotient by `d`, with the remainder test: floor and the position of the rest against half. -/
def roundDiv (n d : Nat) : Nat :=
  let q := n / d
  let r := n % d
  if 2 * r > d then q + 1 else if 2 * r < d then q else if q % 2 = 1 then q + 1 else q

/-- Floor of log2 of n / d, for n, d > 0. -/
def log2Rat (n d : Nat) : Int :=
  let k : Int := (Nat.log2 n : Int) - (Nat.log2 d : Int)
  -- 2^k ≤ n/d < 2^(k+1), or one less
  if k ≥ 0 then (if d * 2 ^ k.toNat ≤ n then k else k - 1)
  else (if d ≤ n * 2 ^ (-k).toNat then k else k - 1)

/-- n / d rounded to a whole multiple of 2^q: the multiple (RNE). -/
def roundAt (n d : Nat) (q : Int) : Nat :=
  if q ≥ 0 then roundDiv n (d * 2 ^ q.toNat) else roundDiv (n * 2 ^ (-q).toNat) d

/-- Magnitude code of the nearest number to n / d, and whether the value overflowed the largest finite number. -/
def Fmt.roundMag (f : Fmt) (n d : Nat) : Nat × Bool :=
  if n = 0 then (0, false) else
  let k := log2Rat n d
  let q := max (k - (f.fbits : Int)) f.qmin
  let t := roundAt n d q
  -- t ≤ 2^(fbits+1); its code is the exponent step of q plus t
  let code := (q - f.qmin).toNat * 2 ^ f.fbits + t
  let maxCode := if f.ieee then f.top * 2 ^ f.fbits - 1 else f.top * 2 ^ f.fbits + (2 ^ f.fbits - 2)
  if code > maxCode then (maxCode + 1, true) else (code, false)

/-- The nearest code to (−1)^neg · n / d, RNE; past the largest finite number, infinity (NaN where the format has
none). -/
def Fmt.roundRat (f : Fmt) (neg : Bool) (n d : Nat) : Nat :=
  let (c, isOver) := f.roundMag n d
  f.signBit neg + (if isOver then (if f.ieee then f.top * 2 ^ f.fbits else f.qnan) else c)

/-- A dyadic value as a fraction. -/
def fracOf (m : Nat) (e : Int) : Nat × Nat :=
  if e ≥ 0 then (m * 2 ^ e.toNat, 1) else (m, 2 ^ (-e).toNat)

/-- A value rounded once to a format. -/
def Fmt.encode (f : Fmt) : Fl → Nat
  | .nan => f.qnan
  | .inf neg => if f.ieee then f.infCode neg else f.qnan
  | .fin neg m e => let (n, d) := fracOf m e; f.roundRat neg n d

def Fl.isNan : Fl → Bool
  | .nan => true
  | _ => false

def Fl.isInf : Fl → Bool
  | .inf _ => true
  | _ => false

def Fl.neg : Fl → Fl
  | .nan => .nan
  | .inf n => .inf (!n)
  | .fin n m e => .fin (!n) m e

def Fl.abs : Fl → Fl
  | .nan => .nan
  | .inf _ => .inf false
  | .fin _ m e => .fin false m e

/-- The signed integer multiple of 2^q, q at most e, of a finite value. -/
def scaled (neg : Bool) (m : Nat) (e q : Int) : Int :=
  let v : Int := ((m * 2 ^ (e - q).toNat : Nat) : Int)
  if neg then -v else v

/-- The value s · 2^q with the sign of a zero given. -/
def ofScaled (s : Int) (q : Int) (zeroNeg : Bool) : Fl :=
  if s = 0 then .fin zeroNeg 0 q else .fin (decide (s < 0)) s.natAbs q

/-- Exact sum. The sum of opposite numbers is +0, of two negative zeros −0 (RNE of IEEE 754). -/
def Fl.add : Fl → Fl → Fl
  | .nan, _ => .nan
  | _, .nan => .nan
  | .inf a, .inf b => if a = b then .inf a else .nan
  | .inf a, _ => .inf a
  | _, .inf b => .inf b
  | .fin n1 m1 e1, .fin n2 m2 e2 =>
    let q := min e1 e2
    ofScaled (scaled n1 m1 e1 q + scaled n2 m2 e2 q) q (n1 && n2 && m1 == 0 && m2 == 0)

/-- Exact product. -/
def Fl.mul : Fl → Fl → Fl
  | .nan, _ => .nan
  | _, .nan => .nan
  | .inf a, .inf b => .inf (xor a b)
  | .inf a, .fin n m _ => if m = 0 then .nan else .inf (xor a n)
  | .fin n m _, .inf b => if m = 0 then .nan else .inf (xor n b)
  | .fin n1 m1 e1, .fin n2 m2 e2 => .fin (xor n1 n2) (m1 * m2) (e1 + e2)

/-- Order of two numbers: a < b. NaN is below nothing. -/
def Fl.lt : Fl → Fl → Bool
  | .nan, _ => false
  | _, .nan => false
  | .inf a, .inf b => a && !b
  | .inf a, _ => a
  | _, .inf b => !b
  | .fin n1 m1 e1, .fin n2 m2 e2 =>
    let q := min e1 e2
    decide (scaled n1 m1 e1 q < scaled n2 m2 e2 q)

def Fl.isZero : Fl → Bool
  | .fin _ m _ => m == 0
  | _ => false

def Fl.isNeg : Fl → Bool
  | .inf n => n
  | .fin n _ _ => n
  | .nan => false

def Fl.ofInt (i : Int) : Fl := .fin (decide (i < 0)) i.natAbs 0
def Fl.ofNat (n : Nat) : Fl := .fin false n 0

/-- Quotient of two values rounded once to a format. -/
def Fmt.div (f : Fmt) : Fl → Fl → Nat
  | .nan, _ => f.qnan
  | _, .nan => f.qnan
  | .inf _, .inf _ => f.qnan
  | .inf a, .fin n _ _ => f.encode (.inf (xor a n))
  | .fin n _ _, .inf b => f.signBit (xor n b)
  | .fin n1 m1 e1, .fin n2 m2 e2 =>
    if m2 = 0 then (if m1 = 0 then f.qnan else f.encode (.inf (xor n1 n2)))
    else
      let (a, b) := fracOf m1 e1
      let (c, d) := fracOf m2 e2
      f.roundRat (xor n1 n2) (a * d) (b * c)

/-- A finite value rounded to an integer, RNE. -/
def roundInt (neg : Bool) (m : Nat) (e : Int) : Int :=
  let (n, d) := fracOf m e
  let v : Int := (roundDiv n d : Int)
  if neg then -v else v

/-- fp32 helpers on codes. -/
def f32 (x : Nat) : Fl := fmt32.decode x
def f32add (a b : Nat) : Nat := fmt32.encode ((f32 a).add (f32 b))
def f32mul (a b : Nat) : Nat := fmt32.encode ((f32 a).mul (f32 b))
def f32fma (a b c : Nat) : Nat := fmt32.encode (((f32 a).mul (f32 b)).add (f32 c))
def f32sub (a b : Nat) : Nat := fmt32.encode ((f32 a).add (f32 b).neg)

/-- Pairs of two lists, element by element. -/
def pairUp {α β : Type} : List α → List β → List (α × β)
  | a :: as, b :: bs => (a, b) :: pairUp as bs
  | _, _ => []

/-- Order key of a non-NaN fp32 code, −0 below +0 (R82). -/
def orderKey (x : Nat) : Int := if x < 2 ^ 31 then (x : Int) else -((x - 2 ^ 31 : Nat) : Int) - 1

def f32min (a b : Nat) : Nat :=
  if (f32 a).isNan || (f32 b).isNan then fmt32.qnan else if orderKey b < orderKey a then b else a
def f32max (a b : Nat) : Nat :=
  if (f32 a).isNan || (f32 b).isNan then fmt32.qnan else if orderKey a < orderKey b then b else a

end Sys2Proof.Machine
end

