-- ==== Sys2Proof/Machine/FlashCore.lean ====
section
/-!
DEFINITION. The Scribe's shared operations (chapter 12): geometry, binding, blocks, page programs with their
summaries, array reads with the retry policy, the page map and void records.
-/

namespace Sys2Proof.Machine

def pageBytes : Nat := 16384

/-! ### Physical page number (Table 12-5) -/
namespace Ppn
def page (p : Nat) : Nat := bf p 9 0
def plane (p : Nat) : Nat := bf p 11 10
def block (p : Nat) : Nat := bf p 22 12
def die (p : Nat) : Nat := bf p 31 23
def channel (p : Nat) : Nat := die p / 16
/-- Plane of the node: die × 4 + plane. -/
def planeKey (p : Nat) : Nat := 4 * die p + plane p
end Ppn

/-- Key of a block: the PPN of its page 0 over 1,024. -/
def blockKey (die plane block : Nat) : Nat := die * 8192 + block * 4 + plane
def keyDie (k : Nat) : Nat := k / 8192
def keyPlane (k : Nat) : Nat := k % 4
def keyBlock (k : Nat) : Nat := k / 4 % 2048

/-! ### Sequence table (Table 12-3) -/

/-- What the Scribe takes from FLASH_SEQ. -/
structure Geo where
  progPages   : Nat
  pages       : Nat
  pslc        : Nat
  blocks      : Nat
  retrySteps  : Nat
  modeMax     : Nat
  tRead       : Nat
  tReadPslc   : Nat
  tProg       : Nat
  tProgPslc   : Nat
  tErase      : Nat
  tSuspend    : Nat
  pe          : Nat
  pePslc      : Nat
deriving DecidableEq, Repr

/-- The reference table of stepping B1 (R255). -/
def refGeo : Geo :=
  ⟨4, 1024, 256, 2048, 12, 5, 25000, 20000, 1600000, 200000, 5000000, 50000, Config.peLimitReference 0,
   Config.peLimitReference 1⟩

/-- The fields of a table; an empty one is the reference table. -/
def geoOf (b : Bytes) : Geo :=
  if b.length < 128 then refGeo else
  let h := sliceNat b 0 128
  ⟨bf h 55 52, bf h 74 64, bf h 90 80, bf h 107 96, bf h 111 108, bf h 114 112, bf h 159 128, bf h 191 160,
   bf h 223 192, bf h 255 224, bf h 287 256, bf h 319 288, bf h 351 320, bf h 383 352⟩

/-- The applied table; empty while the reference table has not been replaced. -/
def Dict.flashSeq (d : Dict) : Bytes :=
  match Tab.find d (rkey 16 G.FLASH_SEQ) with
  | some v => v.toBytes
  | none => []

/-- The table in use on a channel (R255). -/
def State.geo (s : State) (ch : Nat) : Geo :=
  match Tab.find s.flash.seqs ch with
  | some b => geoOf b
  | none => geoOf (Dict.flashSeq s.gaz.regs)

/-! ### Channels (R254, Table 12-2) -/

/-- FLASH_MODE; 0xFF while down. -/
def State.flashMode (s : State) (ch : Nat) : Nat := s.flash.modes.get 0xFF ch
def State.flashUp (s : State) (ch : Nat) : Bool := decide (s.flashMode ch < 6)

/-- MB/s of a mode. -/
def modeRate (m : Nat) : Nat := nth 800 [800, 1200, 1600, 2400, 3200, 3600] m

/-- Dies that the format recorded on a channel, as a 16-bit set (log entry 68). -/
def State.diesOf (s : State) (ch : Nat) : Nat := s.flash.dies.get 0xFFFF ch

/-! ### Format record (R276) -/
namespace Lay
def pages (b : Bytes) : Nat := sliceNat b 0 4
def ckptStart (b : Bytes) : Nat := sliceNat b 4 4
def cache (b : Bytes) : Nat := sliceNat b 8 2
def ckpt (b : Bytes) : Nat := sliceNat b 10 2
def reserve (b : Bytes) : Nat := sliceNat b 12 2
end Lay

def State.layout (s : State) : Bytes := s.flash.format.getD []

/-! ### Binding (R256) -/

def Dict.flashChannels (d : Dict) (i : Nat) : List Nat := setBits 32 0 (Dict.num d i G.INSET_FLASH_CH)

/-- The binding die list: by die position, then channel. -/
def State.dieList (s : State) (i : Nat) : List Nat :=
  let chs := Dict.flashChannels s.gaz.regs i
  (upto 16).flatMap (fun p => (chs.filter (fun ch => bit (s.diesOf ch) p)).map (fun ch => 16 * ch + p))

/-- Offset of a page in the Inset's T2 quota or checkpoint space. -/
def Dict.lpnOffset (d : Dict) (i lpn : Nat) : Option Nat :=
  let b := Dict.num d i G.T2_LPN_BASE
  let c := Dict.num d i G.CKPT_LPN_BASE
  if b ≤ lpn ∧ lpn < b + Dict.num d i G.T2_LPN_COUNT then some (lpn - b)
  else if c ≤ lpn ∧ lpn < c + Dict.num d i G.CKPT_LPN_COUNT then some (lpn - c)
  else none

/-- Die and plane a page binds to, as a plane key. -/
def State.bindPage (s : State) (i lpn : Nat) : Option Nat :=
  let dies := s.dieList i
  match Dict.lpnOffset s.gaz.regs i lpn with
  | some k => if dies.isEmpty then none else
      some (4 * nth 0 dies (k % dies.length) + k / dies.length % 4)
  | none => none

/-- The Inset whose T2 quota or checkpoint space holds a page. -/
def Dict.lpnOwner (d : Dict) (lpn : Nat) : Option Nat :=
  (upto 16).find? (fun i => (Dict.lpnOffset d i lpn).isSome)

/-! ### Blocks -/

/-- Data blocks of a plane: every block but the last, and the boot area (R258). -/
def State.planeBlocks (s : State) (pk : Nat) : List Nat :=
  let n := min ((s.geo (pk / 64)).blocks - 1) 2047
  let lo := if pk = 0 then 16 else 0
  (rangeFrom lo (n - lo)).map (fun b => blockKey (pk / 4) (pk % 4) b)

/-- Kind of a block that has never been written: the first of each plane are cache blocks, the next checkpoint blocks
(DESIGN CHOICE, log entry 69). -/
def defaultKind (lay : Bytes) (k : Nat) : Nat :=
  let b := keyBlock k - (if k / 8192 = 0 ∧ k % 4 = 0 then 16 else 0)
  if b < Lay.cache lay then 1 else if b < Lay.cache lay + Lay.ckpt lay then 2 else 0

def State.blockAt (s : State) (k : Nat) : FlashBlock :=
  match Tab.find s.flash.blocks k with
  | some b => b
  | none => ⟨0, defaultKind s.layout k, s.flash.wear.get 0 (4 * keyDie k + keyPlane k), 0, 0, 0⟩

def State.setBlock (s : State) (k : Nat) (b : FlashBlock) : State :=
  { s with flash := { s.flash with blocks := s.flash.blocks.set k b } }

/-- Pages of a block of a kind, and those that carry data (R273). -/
def Geo.blockPages (g : Geo) (kind : Nat) : Nat := if kind = 0 then g.pages else g.pslc
def Geo.dataPages (g : Geo) (kind : Nat) : Nat := if kind = 0 then g.pages - g.progPages else g.pslc - 1

/-- Erased blocks of a kind on a plane. -/
def State.erased (s : State) (pk kind : Nat) : List Nat :=
  (s.planeBlocks pk).filter (fun k => let b := s.blockAt k; b.state == 0 && b.kind == kind)

/-- Listed blocks of a plane that satisfy `p`. -/
def State.blocksOf (s : State) (pk : Nat) (p : FlashBlock → Bool) : List Nat :=
  (s.flash.blocks.filter (fun e => 4 * keyDie e.1 + keyPlane e.1 == pk && p e.2)).map (·.1)

/-- The open block of a kind, or the lowest erased one opened (log entry 69). -/
def State.openBlock (s : State) (pk kind : Nat) : Option (Nat × FlashBlock) :=
  match (s.blocksOf pk (fun b => b.state == 1 && b.kind == kind)).head? with
  | some k => some (k, s.blockAt k)
  | none => ((s.planeBlocks pk).find? (fun k => let b := s.blockAt k; b.state == 0 && b.kind == kind)).map
      (fun k => (k, { s.blockAt k with state := 1, fill := 0 }))

/-! ### The map -/

def State.mapOf (s : State) (lpn : Nat) : Option Nat := Tab.find s.flash.map lpn
def State.setMap (s : State) (lpn ppn : Nat) : State :=
  { s with flash := { s.flash with map := s.flash.map.set lpn ppn } }

/-- A programmed page that the map names. -/
def State.valid (s : State) (ppn : Nat) : Bool :=
  match Tab.find s.flash.pages ppn with
  | some p => p.kind == 0 && s.mapOf p.lpn == some ppn
  | none => false

/-- Pages of a block that hold something, ascending. -/
def State.pagesIn (s : State) (k : Nat) : Tab FlashPage := s.flash.pages.filter (fun e => e.1 / 1024 == k)

/-- Valid pages of a block. -/
def State.validIn (s : State) (k : Nat) : Tab FlashPage :=
  (s.pagesIn k).filter (fun e => e.2.kind == 0 && s.mapOf e.2.lpn == some e.1)

/-! ### Programs (R259, R263, R270, R273) -/

/-- A page moved on its channel: FLASH_BUS_BYTES, and T2_BYTES of the page's Inset. -/
def State.flashBytes (s : State) (ppn lpn : Nat) : State :=
  let i := (Dict.lpnOwner s.gaz.regs lpn).getD 16
  (s.countBytes 0x6100 (Ppn.channel ppn) i (16 + Ppn.channel ppn) 0 pageBytes).charge i 7 pageBytes

/-- A page put down with the next SCRIBE_SEQ. -/
def State.putPage (s : State) (ppn lpn kind : Nat) (bytes : Bytes) : State :=
  let s := s.flashBytes ppn lpn
  { s with flash := { s.flash with
      pages := s.flash.pages.set ppn ⟨lpn, kind, s.flash.seq, bytes⟩
      seq := s.flash.seq + 1 } }

/-- The summary page of a block (Table 12-9). -/
def State.summary (s : State) (k : Nat) (b : FlashBlock) : Bytes :=
  let ps := s.pagesIn k
  let seqs := ps.map (fun e => e.2.seq)
  let n := (s.geo (k / 8192 / 16)).dataPages b.kind
  let ents := (upto n).flatMap (fun j => match Tab.find ps (1024 * k + j) with
    | some p => toLe 4 (if p.kind = 0 then p.lpn else 0xFFFFFFFF) ++ toLe 8 p.seq
    | none => toLe 4 0xFFFFFFFF ++ toLe 8 0)
  let h := 0x53554D42 + 1024 * k * 2 ^ 32 + b.kind * 2 ^ 64 + n * 2 ^ 80 + b.erases % 2 ^ 24 * 2 ^ 96
    + seqs.foldl min (seqs.headD 0) % 2 ^ 64 * 2 ^ 128 + seqs.foldl max 0 % 2 ^ 64 * 2 ^ 192
  toLe 60 h ++ toLe 4 (crc32c (toLe 64 h ++ ents)) ++ ents

/-- A block whose data pages are full gets its pads and its summary, and is closed. -/
def State.closeFull (s : State) (k : Nat) : State :=
  let b := s.blockAt k
  let g := s.geo (k / 8192 / 16)
  if b.fill < g.dataPages b.kind then s else
  let sum := s.summary k b
  let last := g.blockPages b.kind - 1
  let s := (rangeFrom b.fill (last - b.fill)).foldl (fun s j => s.putPage (1024 * k + j) 0xFFFFFFFF 2 []) s
  let s := s.putPage (1024 * k + last) 0xFFFFFFFF 1 sum
  s.setBlock k { b with state := 2, fill := last + 1, closeSeq := s.flash.seq }

/-- A block whose program or erase failed is retired; its pages are copied out in the next background window. -/
def State.retireBlock (s : State) (k : Nat) (b : FlashBlock) : State :=
  (s.setBlock k { b with state := 3 }).bumpNode G.BLOCKS_RETIRED 1

/-- Why a program could not be made. -/
inductive ProgErr where
  | fail | space
deriving DecidableEq, Repr

/-- One page programmed on a plane in a block of a kind, with at most `n` attempts; `outs` are the outcomes the dies
report, a program not listed passing. Answers the PPN. -/
def State.program : Nat → State → Nat → Nat → Nat → Nat → Bytes → List Bool →
    State × List Bool × Except ProgErr Nat
  | 0, s, _, _, _, _, _, outs => (s, outs, .error .fail)
  | n + 1, s, pk, kind, lpn, oob, bytes, outs =>
    match s.openBlock pk kind with
    | none => (s, outs, .error .space)
    | some (k, b) =>
      match outs with
      | false :: os => (s.retireBlock k b).program n pk kind lpn oob bytes os
      | _ =>
        let ppn := 1024 * k + b.fill
        let s := s.putPage ppn lpn oob bytes
        let s := (s.setBlock k { b with fill := b.fill + 1 }).closeFull k
        (s, outs.drop 1, .ok ppn)

/-! ### Array reads (R271) -/

/-- The first retry step tried on a block, and whether the setting, a bound or a pin changed the learned one. -/
def State.firstStep (s : State) (k : Nat) : Nat × Bool :=
  let learned := max 1 (s.blockAt k).retry
  let owner := s.node G.RETRY_OWNER
  let a := if owner = 1 then 1
    else if owner = 2 then max (s.node G.RETRY_STEP_MIN) (min (s.node G.RETRY_STEP_MAX) learned) else learned
  let pin := (nth 0xFF (s.blob 16 G.RETRY_PIN) (keyDie k)).toNat
  let a := if pin ≠ 0xFF then pin else a
  (a, decide (a ≠ learned))

/-- A page read from the array. Answers whether it decoded, and the retry reads it took. -/
def State.arrayRead (s : State) (ppn : Nat) (reads : List FlashRead) : State × List FlashRead × Bool × Nat :=
  let k := ppn / 1024
  let s := s.flashBytes ppn ((Tab.find s.flash.pages ppn).map (·.lpn) |>.getD 0xFFFFFFFF)
  let steps := (s.geo (Ppn.channel ppn)).retrySteps
  let (first, held) := s.firstStep k
  match reads.headD (some 0) with
  | some 0 => (s, reads.drop 1, true, 0)
  | r =>
    let s := if held then s.bumpNode G.RETRY_POLICY_HOLD 1 else s
    match r with
    | some step =>
      let s := s.setBlock k { s.blockAt k with retry := step }
      (s, reads.drop 1, true, if first ≤ step then step + 1 - first else step + 1 + steps - first)
    | none => (s, reads.drop 1, false, steps)

/-- Data bytes of a page. -/
def State.pageData (s : State) (ppn : Nat) : Bytes :=
  match Tab.find s.flash.pages ppn with
  | some p => p.bytes ++ zeros (pageBytes - p.bytes.length)
  | none => zeros pageBytes

/-! ### Void records (R263) -/

/-- Records that the void area of a plane holds at most. -/
def State.voidCap (s : State) (pk : Nat) : Nat := (s.geo (pk / 64)).pslc - 8

/-- A void record programmed on a plane for the SEQ values it lists. -/
def State.voidRecord (s : State) (pk : Nat) (seqs : List Nat) : State :=
  let n := s.flash.voidN.get 0 pk
  let body := toLe 64 (0x564F4944 + seqs.length * 2 ^ 32) ++ seqs.flatMap (toLe 8)
  let page := body ++ zeros (pageBytes - 4 - body.length) ++ toLe 4 (crc32c body)
  let ppn := 1024 * blockKey (pk / 4) (pk % 4) 2047 + 8 + n
  let s := s.putPage ppn 0xFFFFFFFF 4 page
  let s := { s with flash := { s.flash with voidN := s.flash.voidN.set pk (n + 1)
                                            void := s.flash.void ++ seqs } }
  s.bumpNode G.VOID_RECORDS 1

/-- Void records for the pages a killed write had programmed, one for each plane. -/
def State.voidPages (s : State) (ppns : List Nat) : State :=
  (nub (ppns.map Ppn.planeKey)).foldl (fun s pk =>
    s.voidRecord pk ((ppns.filter (fun p => Ppn.planeKey p == pk)).filterMap (fun p =>
      (Tab.find s.flash.pages p).map (·.seq)))) s

/-- A void area is full (R263). -/
def State.voidFull (s : State) (pk : Nat) : Bool := decide (s.flash.voidN.get 0 pk ≥ s.voidCap pk)

end Sys2Proof.Machine
end

