-- ==== Sys2Proof/Machine/Sheets.lean ====
section
/-!
DEFINITION. What the scheduler does with the commands of a Sheet: routing of messages, killing before commit with its
consequences (R35, R244, R247), the end of a command, SHEET_DONE (R43), open requests and slots (R327, R49), and the
starting of Sheets.
-/

namespace Sys2Proof.Machine

/-! ### Routes (R279, R286, R288) -/

def dimX (n : Nat) : Nat := bf n 3 0
def dimY (n : Nat) : Nat := bf n 7 4
def dimZ (n : Nat) : Nat := bf n 11 8

/-- Sizes n_x, n_y, n_z of TORUS_DIMS. -/
def dimSize (dims k : Nat) : Nat := (dims >>> (4 * k)) % 16 + 1
def coord (id k : Nat) : Nat := (id >>> (4 * k)) % 16

/-- The longest route of R288. -/
def hMax (dims : Nat) : Nat := dimSize dims 0 / 2 + dimSize dims 1 / 2 + dimSize dims 2 / 2

/-- First hop from `src` toward `dst`: dimension, and true for the + direction; none at the destination (R288). -/
def firstHop (dims src dst : Nat) : Option (Nat × Bool) :=
  (upto 3).findSome? (fun k =>
    let n := dimSize dims k
    let d := (coord dst k + n - coord src k) % n
    if d = 0 then none else some (k, decide (d ≤ n - d)))

/-- Logical port of a hop (Table 13-1). -/
def hopPort (h : Nat × Bool) : Nat := 2 * h.1 + (if h.2 then 0 else 1)

/-- Hop count of the route from S to D (R288). -/
def hopCount (dims src dst : Nat) : Nat :=
  ((upto 3).map (fun k =>
    let n := dimSize dims k
    let d := (coord dst k + n - coord src k) % n
    min d (n - d))).sum

/-- VC of a message of class `c` leaving node `here` in its hop (R286): 2c before the dateline of the dimension, 2c + 1
after it. -/
def hopVc (c src here : Nat) (h : Nat × Bool) : Nat :=
  let crossed := if h.2 then decide (coord here h.1 < coord src h.1) else decide (coord src h.1 < coord here h.1)
  2 * c + (if crossed then 1 else 0)

/-- Node that R279 gives as neighbour of `id` on logical port `p`; none in a dimension of size 1. -/
def neighbour (dims id p : Nat) : Option Nat :=
  let k := p / 2
  let n := dimSize dims k
  if n = 1 then none else
  let c := coord id k
  let c' := if p % 2 = 0 then (c + 1) % n else (c + n - 1) % n
  some (id - c * 16 ^ k + c' * 16 ^ k)

/-- Flits of a message of `b` payload bytes (R298). -/
def flitsOf (b : Nat) : Nat := ceilDiv (b + 32) 256

/-- The physical port of a logical one. -/
def State.physical (s : State) (p : Nat) : Nat := nth p s.torus.logical p
def State.port (s : State) (phys : Nat) : Port := s.torus.ports.get Port.reset phys
def State.setPort (s : State) (phys : Nat) (p : Port) : State :=
  { s with torus := { s.torus with ports := s.torus.ports.set phys p } }
/-- The physical port that replaces a failed logical port: a trained spare in the SPARE role that names it and has the
same neighbour, or the other port of a dimension of size 2 (R300). -/
def State.replacement (s : State) (p : Nat) : Option Nat :=
  let dims := s.node G.TORUS_DIMS
  match [6, 7].find? (fun q => (s.port q).train == 6
      && nth 0 (s.blob 16 G.SPARE_PORT_ROLE) (q - 6) == 0
      && (nth 0xFF (s.blob 16 G.SPARE_PORT_FOR) (q - 6)).toNat == p
      && neighbour dims s.nodeId p == some (s.port q).farNode && !s.torus.logical.contains q) with
  | some q => some q
  | none =>
    let o := p / 2 * 2 + (1 - p % 2)
    if dimSize dims (p / 2) = 2 ∧ s.physical o ≠ s.physical p ∧ (s.port (s.physical o)).train = 6 then
      some (s.physical o)
    else none

/-- A logical port carries flits, or a replacement is taking it over. -/
def State.portActive (s : State) (p : Nat) : Bool :=
  (s.port (s.physical p)).train == 6 || (s.replacement p).isSome

/-- The message header of Table 13-6 with its MSG_CRC (RETRIED and the field itself as 0). -/
def msgHeader (mtype cls late dest src len addr xfer slot stamp : Nat) (payload : Bytes) : Nat :=
  let h := mtype % 16 + (cls % 4) * 2 ^ 4 + (late % 2) * 2 ^ 7 + (dest % 4096) * 2 ^ 8 + (src % 4096) * 2 ^ 20
    + (len % 2 ^ 32) * 2 ^ 32 + (addr % 2 ^ 64) * 2 ^ 64 + (xfer % 2 ^ 32) * 2 ^ 128 + (slot % 65536) * 2 ^ 160
    + (stamp % 2 ^ 42) * 2 ^ 176
  h + crc32c (toLe 32 h ++ payload) * 2 ^ 224

namespace MsgW
def mtype (h : Nat) : Nat := bf h 3 0
def cls (h : Nat) : Nat := bf h 5 4
def retried (h : Nat) : Bool := bit h 6
def late (h : Nat) : Bool := bit h 7
def dest (h : Nat) : Nat := bf h 19 8
def src (h : Nat) : Nat := bf h 31 20
def len (h : Nat) : Nat := bf h 63 32
def addr (h : Nat) : Nat := bf h 127 64
def xfer (h : Nat) : Nat := bf h 159 128
def slot (h : Nat) : Nat := bf h 175 160
def stamp (h : Nat) : Nat := bf h 217 176
/-- The end-to-end CRC holds (R290). -/
def crcOk (h : Nat) (payload : Bytes) : Bool :=
  crc32c (toLe 32 (setBf (setBf h 255 224 0) 6 6 0) ++ payload) == bf h 255 224
end MsgW

/-- A message of this node or one it forwards, queued on the port of its next hop (R288, R289); on a port that is down
it is discarded and LINK_DOWN raised (R300). Tag 16 stands for a management message, which belongs to no tag (R303) and
waits in the flow of tag 0 (log entry 74). -/
def State.routeMsg (s : State) (tag hdr : Nat) (payload : Bytes) : State :=
  let dims := s.node G.TORUS_DIMS
  match firstHop dims s.nodeId (MsgW.dest hdr) with
  | none => s
  | some h =>
    let p := hopPort h
    if s.portActive p then
      let vc := hopVc (MsgW.cls hdr) (MsgW.src hdr) s.nodeId h
      s.enqueue (torusFlow p (tag % 16) vc) (4 * flitsOf payload.length) (.message p tag vc hdr payload)
    else s.nodeEvent Code.LINK_DOWN p 0

/-- A class-0 message of this node. -/
def State.sendCtl (s : State) (mtype tag dest xfer : Nat) (payload : Bytes) : State :=
  s.routeMsg tag (msgHeader mtype 0 0 dest s.nodeId payload.length 0 xfer 0 0 payload) payload

/-! ### Open requests, slots and landed messages (R27, R49, R327) -/

/-- Query slots of an Inset (of one stream when given) become FREE. -/
def State.freeSlots (s : State) (i : Nat) (stream : Option Nat) : State :=
  let keep := s.search.slots.filter (fun e =>
    !(e.2.inset == i && (match stream with | some k => e.2.stream == k | none => true)))
  let s := { s with search := { s.search with slots := keep } }
  s.setNum i G.SLOTS_BOUND (keep.filter (fun e => e.2.inset == i)).length

/-- Landed messages of an Inset are freed. -/
def State.freeLanding (s : State) (i : Nat) : State :=
  { s with torus := { s.torus with landed := s.torus.landed.filter (fun m => !(m.inset == i)) } }

/-- Open requests of an Inset (of one stream when given) complete with a code, nothing returned; slots become FREE,
batches are dropped and landed messages freed. Answers how many. -/
def State.closeRequests (s : State) (i code : Nat) (void : Bool) (stream : Option Nat) : State × Nat :=
  let sel := fun (r : OpenReq) => match stream with | some k => r.stream == k | none => true
  let gone := (s.inset i).opens.filter sel
  let s := gone.foldl (fun s r => s.closeReq i code void r) s
  let s := s.modInset i (fun t => { t with opens := t.opens.filter (fun r => !sel r) })
  (((s.freeSlots i stream).freeLanding i), gone.length)

/-! ### Masters and DONE (R24, R43) -/

/-- The node that is tick master, as far as this node knows. -/
def State.masterId (s : State) : Nat := if s.lock = 3 then s.nodeId else s.tick.master.getD s.nodeId

/-- DONE for Sheet `seq` of an Inset reported to the master: recorded here when this node is master, sent otherwise. The
payload is the SHEET_SEQ and the boundary before which it does not count (log entry 31). -/
def State.reportDone (s : State) (i seq bound : Nat) : State :=
  match Dict.tagOf s.gaz.regs i with
  | none => s
  | some t =>
    if s.lock = 3 then
      { s with tick := { s.tick with done := s.tick.done ++ [⟨t, s.nodeId, seq, s.clk.cycle, bound⟩] } }
    else s.sendCtl 2 t s.masterId 0 (toLe 8 seq ++ toLe 8 bound)

/-- The Inset of a node out of lock has finished its Sheet (R27): open requests complete with TICK_UNLOCK, and no Sheet is in
force. No DONE is sent. -/
def State.leaveDomain (s : State) (i : Nat) : State :=
  let s := (s.closeRequests i Code.TICK_UNLOCK true none).1
  (s.modInset i (fun t => { t with sheet := none })).setNum i G.SHEET_SEQ (s.datum i)

/-- SHEET_DONE (R43): once every command has reached COMMITTED or been killed. -/
def State.checkDone (s : State) (i : Nat) : State :=
  match (s.inset i).sheet with
  | some sh =>
    if !sh.done && sh.cmds.all (fun c => c.phase.ended) then
      let s := s.modInset i (fun t => { t with sheet := some { sh with done := true } })
      if s.lock ≠ 0 then s.reportDone i sh.seq 0 else if s.sched.halted then s else s.leaveDomain i
    else s
  | none => s

/-! ### Killing (R35) -/

/-- Busy cycles of a command that ends, up to `now`, charged to its Inset (Table 15-5): ACLK runs at 3/2 of FCLK. -/
def State.chargeCmd (s : State) (i : Nat) (c : Cmd) (now : Nat) : State :=
  let n := now - max c.issueAt s.tick.lastAt
  if c.engine = 1 then s.charge i 0 (popCount 4 (CmdW.cubeGroups c.word) * n * 3 / 2)
  else if c.engine = 2 ∨ c.engine = 3 then s.charge i 1 (n * 3 / 2)
  else if c.engine = 4 ∨ c.engine = 5 then s.charge i 2 n
  else if c.engine = 6 ∨ c.engine = 0x0B then s.charge i 3 n
  else if c.engine = 8 then s.charge i 5 n
  else s

/-- A command that moves T2 or T3 data into T0 or T1 (R244). -/
def Cmd.tierProducer (c : Cmd) : Bool :=
  (c.engine == 9 && c.opcode == 1) || (c.engine == 8 && c.opcode == 3)
    || (c.engine == 0x0A && (c.opcode == 2 || c.opcode == 3))

/-- The command names another as PRODUCER of an input. -/
def Cmd.consumes (c : Cmd) (k : Nat) : Bool := c.inputs.any (fun d => Desc.producer d == k)

/-- A message about an object: type, operation (0 request, 1 grant, 2 deny or release, 3 revoke), Inset, command index,
further bytes. It travels on the tag of the Inset. -/
def State.syncSend (s : State) (mtype dest obj op inset idx : Nat) (more : Bytes) : State :=
  match Dict.tagOf s.gaz.regs inset with
  | some t => s.sendCtl mtype t dest obj (toLe 1 op ++ toLe 1 inset ++ toLe 2 idx ++ more)
  | none => s

/-- A lease freed at HOME. -/
def State.leaseFree (s : State) (obj : Nat) : State :=
  s.setSync obj { s.syncObj obj with held := false, holder := 0, hInset := 0 }

/-- A lease released by a node's Inset: at HOME, or by a message to it. -/
def State.leaseRelease (s : State) (obj inset : Nat) : State :=
  let o := s.syncObj obj
  let s := s.leaseFree obj
  if o.home = s.nodeId then s else s.syncSend 4 o.home obj 2 inset 0 []

/-- The lease that a killed command newly acquired is returned (R329). -/
def State.returnLease (s : State) (inset : Nat) (c : Cmd) : State :=
  if c.leaseNew then s.leaseRelease (CmdW.waitSync c.word) inset else s

/-- One command killed before its commit point (R35): staging and effects are discarded, what it acquired is returned,
pages it programmed get their void records (R263), its event is written with its CMD_TAG, and its precise sample when it had issued. -/
def State.killAlone (s : State) (r : CmdRef) (code detail : Nat) : State :=
  match s.cmd r, s.sheetOf r with
  | some c, some sh =>
    if c.phase = .pending ∨ c.phase.live then
      let c' := { c with phase := .killed, code := code, writes := [], poison := [], onCommit := [], onDrain := [] }
      let s := s.modCmd r (fun _ => c')
      let s := s.returnLease r.inset c
      let s := if c.engine = 0x0C ∧ c.opcode = 0x20 ∧ sh.cmds.any (fun x => CmdW.ckptMark x.word) then
          s.modInset r.inset (fun t => { t with sheet := t.sheet.map (fun x => { x with captureLost := true }) })
        else s
      let s := if c.engine = 9 ∧ c.opcode = 2 then s.voidPages c.progress else s
      let s := s.eventFull r.inset code detail c.tag (decide (0x8000 ≤ code ∧ code < 0x9000))
      if c.phase.live then (s.sampleCmd r sh c' 0).chargeCmd r.inset c s.clk.cycle else s
    else s
  | _, _ => s

/-- R244: every command that names a faulted tier producer is faulted with TIER_FAILED, and in turn those that name
them. Indices ascend along PRODUCER links, so one pass in index order reaches all. -/
def State.killConsumers (s : State) (i : Nat) (first : Nat) : State :=
  match (s.inset i).sheet with
  | none => s
  | some sh =>
    (mapIdxFrom (fun k c => (k, c)) 0 sh.cmds).foldl (fun (acc : State × List Nat) (kc : Nat × Cmd) =>
      if acc.2.any kc.2.consumes && !kc.2.phase.ended then
        (((acc.1.killAlone ⟨i, kc.1⟩ Code.TIER_FAILED 0).bump i G.TIER_FAILED_COUNT 1), acc.2 ++ [kc.1])
      else acc) (s, [first]) |>.1

/-- A command faulted with a code: killed, its consumers follow R244, and the Sheet may be done. -/
def State.kill (s : State) (r : CmdRef) (code : Nat) : State :=
  match s.cmd r with
  | none => s
  | some c =>
    let s := s.killAlone r code 0
    let s := if c.tierProducer then s.killConsumers r.inset r.idx else s
    s.checkDone r.inset

/-- A command killed by a forced detector (R385): code 0x8000 + DET_ID, the simulated code in the event's detail. -/
def State.killForced (s : State) (r : CmdRef) (det code : Nat) : State :=
  match s.cmd r with
  | none => s
  | some c =>
    let s := s.killAlone r (0x8000 + det) code
    let s := if c.tierProducer then s.killConsumers r.inset r.idx else s
    s.checkDone r.inset

/-- An injection that kills one command, counted once. -/
def State.killRehearsed (s : State) (r : CmdRef) (det code : Nat) : State :=
  (s.killForced r det code).bump r.inset G.REHEARSAL_COUNT 1

/-- Every command of the Inset's Sheet that has not reached its commit point is killed with a code. Answers how many. -/
def State.killAll (s : State) (i code : Nat) : State × Nat :=
  match (s.inset i).sheet with
  | none => (s, 0)
  | some sh =>
    let live := (mapIdxFrom (fun k c => (k, c)) 0 sh.cmds).filter (fun kc => kc.2.phase == .pending || kc.2.phase.live)
    let s := live.foldl (fun s kc => s.killAlone ⟨i, kc.1⟩ code 0) s
    (s.checkDone i, live.length)

/-! ### Staging (R32, R242) -/

/-- O of R242: bytes of the T0 and T1 outputs. -/
def outBytes (ds : List Nat) : Nat := ((ds.filter (fun d => Desc.isOut d && Desc.onNode d)).map Desc.len).sum

/-- Stack staging charge C of a command (Table 11-4), from its record, descriptors and parameter block. The fields
SLOT_COUNT, LINK_MAX, REPAIR_MAX and SCAN_GRANULES are those of Table 6-6. -/
def chargeBytes (engine opcode : Nat) (ds : List Nat) (slotCount linkMax repairMax scan : Nat) : Nat :=
  let o := outBytes ds
  if engine = 4 then
    if opcode ≤ 4 then o + 512 * slotCount
    else if opcode = 0x10 then o + 512 * slotCount + 128 + 64 * slotCount * (2 + 2 * linkMax)
    else if opcode = 0x11 then o + 128 + 128 * slotCount
    else if opcode = 0x12 then o + 128 + 64 * (2 * repairMax + scan)
    else o
  else if engine = 6 ∨ engine = 8 ∨ engine = 9 ∨ engine = 0x0A ∨ engine = 0x0B ∨ engine = 0x0C then o
  else 0

/-- Start of a Sheet from its image: every command PENDING. -/
def Image.start (m : Image) (seq now : Nat) : Sheet := ⟨m.header, seq, now, 0, false, m.cmds, false⟩

end Sys2Proof.Machine
end

