-- ==== Sys2Proof/Machine/Engines.lean ====
section
/-!
DEFINITION. The frame of every engine row: which running command it names, what the hardware or a forced detector
reports while it runs (R22, R76, R370, R385), retirement (R378), and the end of its work, with its staged writes and
effects waiting for the commit point and the drain (R35, R36).
-/

namespace Sys2Proof.Machine

/-- What an engine leaves in staging: writes, words to be written as poison, effects at the commit point and at the end
of the drain, and the completion code. -/
structure Work where
  writes   : List (Nat × Bytes)
  poison   : List Nat
  onCommit : List Eff
  onDrain  : List Eff
  code     : Nat
deriving DecidableEq, Repr

def Work.none : Work := ⟨[], [], [], [], 0⟩
def Work.ofWrites (w : List (Nat × Bytes)) : Work := { Work.none with writes := w }

/-- Words written in a memory alone, with the read-modify-write of R371. -/
def MemState.putWords (m : MemState) (ws : List (Nat × Tab Byte)) : MemState :=
  ws.foldl (fun m w => (m.writeWord w.1 w.2).1) m

/-- The memory a command sees over its own staged writes (Table 2-7). -/
def State.staged (s : State) (ws : List (Nat × Bytes)) : State := { s with mem := s.mem.putWords (wordWrites ws) }

/-- How the work of a command ends: finished, or faulted with a code; `tile` faults every command of the tile that read
a word (R76). -/
inductive Res where
  | done (w : Work)
  | fault (code : Nat)
  | tile (addr : Nat)
  /-- A forced detector whose real outcome kills the command with `code`. -/
  | forced (code : Nat)
deriving DecidableEq, Repr

/-- The engine finishes: staging is complete and the command waits for its commit point. -/
def State.finish (s : State) (r : CmdRef) (w : Work) : State :=
  s.modCmd r (fun c => { c with phase := .finished, code := w.code, writes := w.writes, poison := w.poison,
                                onCommit := w.onCommit, onDrain := w.onDrain })

/-! ### Retirement (R378) -/

/-- Kinds of a retirable unit: 1 cube (tile × 16 + logical cube), 2 traverse engine, 3 control core. -/
def unitKey (kind number : Nat) : Nat := kind * 65536 + number

/-- A fault of a unit's own is counted; the unit is retired at RETIRE_LIMIT. -/
def State.unitFault (s : State) (kind number : Nat) : State :=
  let n := s.rel.faults.get 0 (unitKey kind number) + 1
  let s := { s with rel := { s.rel with faults := s.rel.faults.set (unitKey kind number) n } }
  if n ≥ s.node G.RETIRE_LIMIT ∧ !s.rel.retired.contains (kind, number) then
    { s with rel := { s.rel with retired := s.rel.retired ++ [(kind, number)] } }
  else s

/-! ### Tiles -/

/-- The command runs on tile `t`: its cube groups, vector unit or Projection unit. -/
def Cmd.onTile (c : Cmd) (t : Nat) : Bool := decide (1 ≤ c.engine) && decide (c.engine ≤ 3) && c.index == t

/-- Running commands of a tile that satisfy `p`, over every Inset. -/
def State.tileCmds (s : State) (t : Nat) (p : Cmd → Bool) : List CmdRef :=
  (upto 16).flatMap (fun i => match (s.inset i).sheet with
    | none => []
    | some sh => (mapIdxFrom (fun k c => (k, c)) 0 sh.cmds).filterMap (fun kc =>
        if kc.2.phase == .running && kc.2.onTile t && p kc.2 then some (CmdRef.mk i kc.1) else none))

/-- An uncorrectable buffer word (R76): one reader faults with OPBUF_UNCORRECTABLE, several each with
TILE_SHARED_FAULT. -/
def State.tileWord (s : State) (r : CmdRef) (c : Cmd) (addr : Nat) : State :=
  let readers := s.tileCmds c.index (fun x => x.inInputs (addr / 64 * 64) 64)
  if readers.length ≤ 1 then s.kill r Code.OPBUF_UNCORRECTABLE
  else readers.foldl (fun s x => s.kill x Code.TILE_SHARED_FAULT) s

/-! ### Hardware reports and forced detectors -/

/-- The first address a command reads, for a report that names none. -/
def Cmd.firstInput (c : Cmd) : Nat := match c.inputs.head? with | some d => Desc.addr d | none => 0

/-- The code an engine raises for an uncorrectable word of its own working SRAM. -/
def sramCode (engine : Nat) : Nat :=
  if engine = 4 then Code.TRAV_SRAM_UNCORRECTABLE
  else if engine = 5 then Code.SELECT_SRAM_UNCORRECTABLE
  else if engine = 6 then Code.POOL_SRAM_UNCORRECTABLE
  else if engine = 7 then Code.BSU_SRAM_UNCORRECTABLE
  else Code.SRAM_UNCORRECTABLE

/-- The state after a hardware report faults the command; none where the report does not touch it. -/
def State.hwFault (s : State) (r : CmdRef) (c : Cmd) : Hw → Option State
  | .ok => none
  | .noc => some (s.kill r Code.NOC_UNCORRECTABLE)
  | .opbuf => if c.onTile c.index then some (s.tileWord r c c.firstInput) else none
  | .sequencer =>
    if c.onTile c.index then
      some ((s.tileCmds c.index (fun _ => true)).foldl (fun s x => s.kill x Code.TILE_SHARED_FAULT) s)
    else none
  | .residue k | .register k =>
    if c.engine = 1 ∧ bit (CmdW.cubeGroups c.word) (k / 4) then
      some ((s.kill r Code.CUBE_FAULT).unitFault 1 (c.index * 16 + k))
    else none
  | .sram =>
    if 4 ≤ c.engine then
      let s := s.kill r (sramCode c.engine)
      some (if c.engine = 4 then s.unitFault 2 c.index else s)
    else none

/-- The command has an input in the stacks, for detector 0x005. -/
def Cmd.hasT1 (c : Cmd) : Bool := c.inputs.any (fun d => Desc.tier d == 1)

/-- The code that a forced detector makes the command fault with, where the real outcome is a kill of the whole
command (Table 18-11); `data` says that the command has operands to work on. -/
def forcedKill (c : Cmd) (data : Bool) : Option Nat :=
  if c.rehearsed = 0x001 ∧ c.engine = 1 ∧ data then some Code.CUBE_FAULT
  else if c.rehearsed = 0x002 ∧ 1 ≤ c.engine ∧ c.engine ≤ 3 ∧ data then some Code.OPBUF_UNCORRECTABLE
  else if c.rehearsed = 0x003 ∧ c.engine = 1 then some Code.TILE_SHARED_FAULT
  else if c.rehearsed = 0x007 ∧ c.engine = 5 then some Code.SELECT_SRAM_UNCORRECTABLE
  else if c.rehearsed = 0x008 ∧ c.engine = 4 then some Code.TRAV_SRAM_UNCORRECTABLE
  else if c.rehearsed = 0x009 ∧ c.engine = 6 then some Code.POOL_SRAM_UNCORRECTABLE
  else none

/-- A forced detector fires: the command, or every command of its tile for the sequencer, is killed. -/
def State.forced (s : State) (r : CmdRef) (c : Cmd) (code : Nat) : State :=
  if c.rehearsed = 0x003 then
    (s.tileCmds c.index (fun _ => true)).foldl (fun s x => s.killForced x 0x003 code)
      (s.bump r.inset G.REHEARSAL_COUNT 1)
  else s.killRehearsed r c.rehearsed code

/-- The reference can name a command at all. -/
def refOk (r : CmdRef) : Bool := decide (r.inset < 16)

/-- The result of an engine's work put into the state. -/
def State.settle (s : State) (r : CmdRef) (c : Cmd) : Res → State
  | .done w => s.finish r w
  | .fault code => s.kill r code
  | .tile addr => s.tileWord r c addr
  | .forced code => s.forced r c code

/-- One engine row: what the running command `r` of the row's engine and opcode does. A row that names no such command
changes nothing (log entry 2). `data` says that the command reads an operand. -/
def State.engineStep (s : State) (r : CmdRef) (hw : Hw) (engine opcode : Nat) (data : Cmd → Bool) (run : Cmd → State) :
    Host.Outcome State Fault Refusal :=
  if !refOk r then .fault .noSuchInstance else
  match s.running r engine opcode with
  | none => .next s
  | some c =>
    match s.hwFault r c hw with
    | some s' => .next s'
    | none =>
      match forcedKill c (data c) with
      | some code => .next (s.forced r c code)
      | none => .next (run c)

/-- What an engine's work leaves behind before the commit point (R35): counts, bank-side query lines and the free values
drawn. -/
def State.workDone (s s' : State) : State :=
  { s with rel := { s.rel with readCorr := s'.rel.readCorr }, ctr := s'.ctr, gaz := { s.gaz with regs := s'.gaz.regs }
           bsu := s'.bsu, draws := s'.draws }

/-- The row of an engine that only stages. -/
def State.engineRow (s : State) (r : CmdRef) (hw : Hw) (engine opcode : Nat) (data : Cmd → Bool)
    (work : State → Cmd → State × Res) : Host.Outcome State Fault Refusal :=
  s.engineStep r hw engine opcode data (fun c =>
    let (s', res) := work s c
    (s.workDone s').settle r c res)

/-- The row of an engine whose work shows before the commit point: Scribe pages and windows, torus messages, operations of a
BSU_RUN. -/
def State.engineRowOpen (s : State) (r : CmdRef) (hw : Hw) (engine opcode : Nat) (data : Cmd → Bool)
    (work : State → Cmd → State × Res) : Host.Outcome State Fault Refusal :=
  s.engineStep r hw engine opcode data (fun c =>
    let (s', res) := work s c
    s'.settle r c res)

/-! ### Reading planned inputs (R370) -/

/-- The code of a bad planned input where the chapter names none: stack or on-die. -/
def badInputCode (a : Nat) : Nat := if a < interBase + stackTop then Code.STACK_UNCORRECTABLE else Code.SRAM_UNCORRECTABLE

/-- First bad word of the ranges, as its node address. -/
def State.firstBad (s : State) (ranges : List (Nat × Nat)) : Option Nat :=
  ranges.findSome? (fun r => (wordStarts r.1 r.2).find? (fun a => s.rangeBad a 1))

/-- The read of planned inputs whose bad word kills the command, real or forced by detector 0x005 (R385). -/
def State.readFault (s : State) (c : Cmd) (ranges : List (Nat × Nat)) : Option Res :=
  if c.rehearsed = 0x005 ∧ c.hasT1 then some (.forced Code.STACK_UNCORRECTABLE)
  else (s.firstBad ranges).map (fun a => .fault (badInputCode a))

/-- READ_CORRECTED for a list of ranges. -/
def State.noteReads (s : State) (ranges : List (Nat × Nat)) : State :=
  ranges.foldl (fun s r => s.noteRead r.1 r.2) s

end Sys2Proof.Machine
end

