-- ==== Sys2Proof/Machine/Access.lean ====
section
/-!
DEFINITION. CXL.mem and control-core accesses to memory: what holds them (R37, R217), how they are performed with poison
and load errors (R370, R371), and the accesses served when a hold ends.
-/

namespace Sys2Proof.Machine

/-- The access touches a channel in PROC or in mode change. -/
def State.inProc (s : State) (a n : Nat) : Bool :=
  (storageWords a n).any (fun w => isT1 (w * 64)
    && (bit (s.unit (channelOf (w * 64))).mode 0 || (s.unit (channelOf (w * 64))).change.isSome))

/-- Storage words of the writes of draining commands. -/
def State.drainingWords (s : State) : List Nat :=
  (upto 16).flatMap (fun i => match (s.inset i).sheet with
    | none => []
    | some sh => (sh.cmds.filter (fun c => c.phase == .draining)).flatMap (fun c =>
        c.writes.flatMap (fun w => storageWords w.1 w.2.length)))

/-- A read is held behind a drain (R37). -/
def State.behindDrain (s : State) (a n : Nat) : Bool :=
  (storageWords a n).any (fun w => s.drainingWords.contains w)

def State.blocked (s : State) (h : Held) : Bool :=
  s.inProc h.addr h.len || (h.write.isNone && s.behindDrain h.addr h.len)

/-- A write by the host or a core of one range under a byte mask, with R371: the bytes the mask names. -/
def State.storeMasked (s : State) (a : Nat) (data : Bytes) (mask : Nat) : State :=
  let kept := (mapIdxFrom (fun k b => (k, b)) 0 data).filter (fun c => bit mask c.1)
  (s.storeAll (wordWrites (kept.map (fun c => (a + c.1, [c.2]))))).1

/-- Bytes that no host or core access reaches: the controller's own and the Inset's stack staging region (R240, R241). -/
def Dict.barred (d : Dict) (i a n : Nat) : Bool :=
  (storageWords a n).any (fun w => reservedStack (w * 64)
    || (decide (i < 16) && inRegion [(Dict.num d i G.STAGE_T1_BASE, Dict.num d i G.STAGE_T1_BYTES)] (w * 64)))

/-- CXL.mem bytes counted (Table 19-5) and charged. -/
def State.cxlBytes (s : State) (h : Held) : State :=
  (if h.write.isNone then s.countBytes 0x9100 0 h.inset 8 0 h.len else s.countBytes 0x9101 0 h.inset 8 1 h.len).charge
    h.inset 9 h.len

/-- A CXL.mem access performed. -/
def State.performCxl (s : State) (h : Held) : State :=
  let s := s.cxlBytes h
  if Dict.barred s.gaz.regs h.inset h.addr h.len then
    (s.event h.inset Code.QUOTA_REFUSED 0 h.addr).emit
      (if h.write.isNone then .cxlData h.hpa (zeros h.len) true else .cxlDone h.hpa)
  else
  match h.write with
  | none =>
    let bad := s.rangeBad h.addr h.len
    let s := s.noteRead h.addr h.len
    let s := if bad then s.event h.inset Code.STACK_UNCORRECTABLE 0 h.addr else s
    s.emit (.cxlData h.hpa (s.readBytes h.addr h.len) bad)
  | some (data, mask, poison) =>
    let s := s.storeMasked h.addr data mask
    let s := if poison then (s.poisonRange h.addr h.len).event h.inset Code.STACK_UNCORRECTABLE 0 h.addr else s
    s.emit (.cxlDone h.hpa)

/-- A control-core access performed. -/
def State.performCore (s : State) (core : Nat) (h : Held) : State :=
  match h.write with
  | none =>
    if s.rangeBad h.addr h.len then
      (s.event h.inset (badInputCode h.addr) 0 h.addr).emit (.coreData core h.addr none)
    else
      let s := s.noteRead h.addr h.len
      s.emit (.coreData core h.addr (some (s.readBytes h.addr h.len)))
  | some (data, _, _) => s.storeBytes h.addr data

def State.performHeld (s : State) (h : Held) : State :=
  match h.core with
  | none => s.performCxl h
  | some k => s.performCore k h

/-- An access that has arrived: performed, or held. -/
def State.arrive (s : State) (h : Held) : State :=
  if s.blocked h then
    let s := { s with host := { s.host with held := s.host.held ++ [h] } }
    if s.inProc h.addr h.len then s.bumpNode G.BSU_HOLD_COUNT 1 else s
  else s.performHeld h

/-- Held accesses whose hold has ended are performed in arrival order. -/
def State.serveHeld (s : State) : State :=
  let go := s.host.held.filter (fun h => !s.blocked h)
  let keep := s.host.held.filter s.blocked
  go.foldl (fun s h => s.performHeld h) { s with host := { s.host with held := keep } }

/-- A held access completes with an error at its bound (R217). -/
def State.holdPoison (s : State) (h : Held) : State :=
  let s := (s.bumpNode G.BSU_HOLD_POISON 1).event h.inset Code.BSU_HOLD_POISON 0 h.addr
  match h.core, h.write with
  | none, none => s.emit (.cxlData h.hpa (zeros h.len) true)
  | none, some _ => s.emit (.cxlDone h.hpa)
  | some k, none => s.emit (.coreData k h.addr none)
  | some _, some _ => s

end Sys2Proof.Machine
end

