-- ==== Sys2Proof/Machine/Quant.lean ====
section
/-!
DEFINITION. Element formats and layouts of the tiles (Tables 3-2, 3-3) and the quantisation of chapter 4: R84 to R90 and
R95.
-/

namespace Sys2Proof.Machine

/-! ### Formats (Tables 3-2 and 4-1) -/

/-- Bits of an element of a FMT code. -/
def fmtBits (f : Nat) : Nat := nth 32 [8, 4, 8, 8, 16, 16, 32] f
/-- K-extent of a step. -/
def fmtKs (f : Nat) : Nat := nth 4 [8, 16, 8, 8, 4, 4, 4] f
/-- Bytes of a block. -/
def fmtBlock (f : Nat) : Nat := if f = 6 then 128 else 64
/-- ACLK cycles of a step. -/
def fmtP (f : Nat) : Nat := if f = 6 then 6 else 1
def fmtIsInt (f : Nat) : Bool := decide (f ≤ 1)
/-- The floating format of a FMT code 2 to 6. -/
def fmtFloat (f : Nat) : Fmt := nth fmt32 [fmt32, fmt32, fmtE4M3, fmtE5M2, fmtBf, fmt16, fmt32] f
def fmtQmin (f : Nat) : Int := if f = 0 then -128 else -8
def fmtQmax (f : Nat) : Int := if f = 0 then 127 else 7

/-- The value of a stored code. -/
def fmtValue (f x : Nat) : Fl := if fmtIsInt f then Fl.ofInt (sext (fmtBits f) x) else (fmtFloat f).decode x

/-- Wide formats of Tables 3-7 and 4-7: 0 fp32, 1 bf16, 2 fp16, 3 int32. -/
def wideBits (w : Nat) : Nat := if w = 1 ∨ w = 2 then 16 else 32
def wideValue (w x : Nat) : Fl :=
  if w = 0 then fmt32.decode x else if w = 1 then fmtBf.decode x else if w = 2 then fmt16.decode x
  else Fl.ofInt (sext 32 x)

/-! ### Layouts (Table 3-3, R59) -/

/-- Where an element of a matrix lies. -/
inductive Layout where
  /-- A layout of a FMT code, of a matrix of `cols` columns. -/
  | a (fmt cols : Nat)
  /-- C layout of elements of `bits` bits. -/
  | c (bits cols : Nat)
  /-- Flat row-major. -/
  | flat (bits cols : Nat)
deriving DecidableEq, Repr

def Layout.bits : Layout → Nat
  | .a f _ => fmtBits f
  | .c b _ => b
  | .flat b _ => b

/-- Bit offset of element (r, k). -/
def Layout.pos : Layout → Nat → Nat → Nat
  | .a f cols, r, k =>
    (r / 8 * ceilDiv cols (fmtKs f) + k / fmtKs f) * fmtBlock f * 8 + (r % 8 * fmtKs f + k % fmtKs f) * fmtBits f
  | .c b cols, r, k => ((r / 8 * ceilDiv cols 8 + k / 8) * 64 + (r % 8 * 8 + k % 8)) * b
  | .flat b cols, r, k => (r * cols + k) * b

/-- Consecutive columns of a row that lie together. -/
def Layout.run : Layout → Nat
  | .a f _ => fmtKs f
  | .c _ _ => 8
  | .flat _ cols => cols

/-- Bytes of a matrix of `rows` rows. -/
def Layout.size : Layout → Nat → Nat
  | .a f cols, rows => ceilDiv rows 8 * ceilDiv cols (fmtKs f) * fmtBlock f
  | .c b cols, rows => ceilDiv rows 8 * ceilDiv cols 8 * 8 * b
  | .flat b cols, rows => ceilDiv (rows * cols * b) 8

/-- The code of an element in a stored matrix, given as its little-endian number. -/
def Layout.elem (l : Layout) (store r k : Nat) : Nat := (store >>> l.pos r k) % 2 ^ l.bits

/-- Codes packed into bytes from a byte boundary; a last half byte keeps the high half of `old`. -/
def packCodes (bits : Nat) (old : Nat) : List Nat → Bytes
  | [] => []
  | [x] => if bits = 4 then [BitVec.ofNat 8 (x % 16 + old / 16 * 16)] else toLe (bits / 8) x
  | x :: y :: r =>
    if bits = 4 then BitVec.ofNat 8 (x % 16 + y % 16 * 16) :: packCodes bits old r
    else toLe (bits / 8) x ++ packCodes bits old (y :: r)

/-- The writes of a whole matrix at `base`: valid elements only (R61); `old` is what stands there, as a number. -/
def Layout.writes (l : Layout) (base old rows cols : Nat) (code : Nat → Nat → Nat) : List (Nat × Bytes) :=
  let run := l.run
  (upto rows).flatMap (fun r => (upto (ceilDiv cols run)).map (fun j =>
    let n := min run (cols - j * run)
    let last := l.pos r (j * run + n - 1) / 8
    (base + l.pos r (j * run) / 8,
      packCodes l.bits ((old >>> (8 * last)) % 256) ((rangeFrom (j * run) n).map (code r)))))

/-! ### Parameter records (R87) -/

/-- Number of records of a matrix. -/
def recCount (gran rows cols : Nat) : Nat :=
  if gran = 0 then 1 else if gran = 1 then rows else if gran = 2 then cols else rows * ceilDiv cols 32

/-- Record of an element. -/
def recOf (gran cols r k : Nat) : Nat :=
  if gran = 0 then 0 else if gran = 1 then r else if gran = 2 then k else r * ceilDiv cols 32 + k / 32

/-- S is positive, finite and normal. -/
def scaleOk (s : Nat) : Bool := decide (0x800000 ≤ s) && decide (s < 0x7F800000)

/-- A record's S and Z are valid for a format (R88). -/
def recOk (fmt rec : Nat) : Bool :=
  let z := sext 8 (bf rec 39 32)
  scaleOk (bf rec 31 0) && (if fmtIsInt fmt then decide (fmtQmin fmt ≤ z) && decide (z ≤ fmtQmax fmt) else z == 0)

/-! ### Rounding (R89, R90) -/

/-- Multiplication and XOR modulo 2^64. -/
def mul64 (a b : Nat) : Nat := a * b % 2 ^ 64

/-- The random value r of element `i` under a seed (R90). -/
def stochR (seed i : Nat) : Nat :=
  let x := Nat.xor seed (mul64 i 0x9E3779B97F4A7C15)
  let x := mul64 (Nat.xor x (x >>> 30)) 0xBF58476D1CE4E5B9
  let x := mul64 (Nat.xor x (x >>> 27)) 0x94D049BB133111EB
  let x := Nat.xor x (x >>> 31)
  bf x 63 48

/-- |x| = n / d on a grid of step 2^q: the multiple chosen. RNE, or by R89 with `r`; `neg` is the sign of x. -/
def gridRound (neg : Bool) (n d : Nat) (q : Int) (stoch : Option Nat) : Nat :=
  match stoch with
  | none => roundAt n d q
  | some r =>
    let (a, b) := if q ≥ 0 then (n, d * 2 ^ q.toNat) else (n * 2 ^ (-q).toNat, d)
    let t := a / b
    let rest := a % b
    if rest = 0 then t
    else if neg then
      -- lower is −(t + 1), upper −t
      let f := (b - rest) * 65536 / b
      if r < f then t else t + 1
    else
      let f := rest * 65536 / b
      if r < f then t + 1 else t

/-- R85 step 1: 1 / S as fp32. -/
def recipScale (s : Nat) : Fl := f32 (fmt32.div (.fin false 1 0) (f32 s))

/-- Quantisation of a wide value (R85, R86): stored code, saturated, NaN. -/
def quantise (fmt s : Nat) (z : Int) (stoch : Option Nat) (x : Fl) : Nat × Bool × Bool :=
  if fmtIsInt fmt then
    match x with
    | .nan => (wrapInt (fmtBits fmt) z, false, true)
    | .inf neg => (wrapInt (fmtBits fmt) (if neg then fmtQmin fmt else fmtQmax fmt), true, false)
    | .fin _ _ _ =>
      match x.mul (recipScale s) with
      | .fin neg m e =>
        let (n, d) := fracOf m e
        let t : Int := (gridRound neg n d 0 stoch : Int)
        let v := (if neg then -t else t) + z
        let w := max (fmtQmin fmt) (min (fmtQmax fmt) v)
        (wrapInt (fmtBits fmt) w, w != v, false)
      | _ => (wrapInt (fmtBits fmt) z, false, true)
  else
    let f := fmtFloat fmt
    let maxCode := if f.ieee then f.top * 2 ^ f.fbits - 1 else f.top * 2 ^ f.fbits + (2 ^ f.fbits - 2)
    match x with
    | .nan => (f.qnan, false, true)
    | .inf neg => if f.ieee then (f.infCode neg, false, false) else (f.signBit neg + maxCode, true, false)
    | .fin _ _ _ =>
      match x.mul (recipScale s) with
      | .fin neg m e =>
        if m = 0 then (f.signBit neg, false, false) else
        let (n, d) := fracOf m e
        let q := max (log2Rat n d - (f.fbits : Int)) f.qmin
        let t := gridRound neg n d q stoch
        let code := (q - f.qmin).toNat * 2 ^ f.fbits + t
        if code > maxCode then (f.signBit neg + maxCode, true, false) else (f.signBit neg + code, false, false)
      | _ => (f.qnan, false, true)

/-- Dequantisation (R85) to a target format. -/
def dequantise (target : Fmt) (fmt s : Nat) (z : Int) (code : Nat) : Nat :=
  match (if fmtIsInt fmt then Fl.ofInt (sext (fmtBits fmt) code - z) else (fmtFloat fmt).decode code) with
  | .fin neg m e => target.encode ((Fl.fin neg m e).mul (f32 s))
  | v => target.encode v

/-! ### Measured parameters (R95) -/

/-- fp32 with ±infinity replaced by the largest finite value of its sign. -/
def finite32 (x : Nat) : Nat :=
  if x = 0x7F800000 then 0x7F7FFFFF else if x = 0xFF800000 then 0xFF7FFFFF else x

/-- The smaller and larger of two finite values. -/
def Fl.min2 (a b : Fl) : Fl := if Fl.lt b a then b else a
def Fl.max2 (a b : Fl) : Fl := if Fl.lt a b then b else a

/-- S and Z of a record from the values of its elements, by the margin `m` (fp32), each step rounded once to fp32; the
quotient of step 5 is such a step, then rounded to an integer (DEDUCED, log entry 41). -/
def measure (fmt m : Nat) (vals : List Fl) : Nat × Int :=
  let fin := vals.filter (fun v => !v.isNan && !v.isInf)
  let zero : Fl := .fin false 0 0
  let lo := finite32 (fmt32.encode ((fin.foldl Fl.min2 zero).mul (f32 m)))
  let hi := finite32 (fmt32.encode ((fin.foldl Fl.max2 zero).mul (f32 m)))
  let s :=
    if fmtIsInt fmt then
      fmt32.div ((f32 hi).add (f32 lo).neg) (Fl.ofInt (fmtQmax fmt - fmtQmin fmt))
    else
      let f := fmtFloat fmt
      let maxCode := if f.ieee then f.top * 2 ^ f.fbits - 1 else f.top * 2 ^ f.fbits + (2 ^ f.fbits - 2)
      fmt32.div (Fl.max2 (f32 lo).neg (f32 hi)) (f.decode maxCode)
  let s := if s % 2 ^ 31 < 0x800000 then 0x3F800000 else s
  if fmtIsInt fmt then
    match f32 (fmt32.div (f32 lo) (f32 s)) with
    | .fin neg a e => (s, max (fmtQmin fmt) (min (fmtQmax fmt) (fmtQmin fmt - roundInt neg a e)))
    | _ => (s, fmtQmin fmt)
  else (s, 0)

/-- A parameter record as written: bits [63:40] zero. -/
def recBytes (sz : Nat × Int) : Bytes := toLe 4 sz.1 ++ toLe 4 (wrapInt 8 sz.2)

end Sys2Proof.Machine
end

