-- ==== Sys2Proof/Machine/Traverse.lean ====
section
/-!
DEFINITION. Traverse engines (chapter 6): the graph index as a query sees it, query slots, and SEARCH_START,
SEARCH_EXPAND, SEARCH_FETCH_LIST and SEARCH_FINISH.
-/

namespace Sys2Proof.Machine

def none32 : Nat := 0xFFFFFFFF
def ones64 : Nat := 0xFFFFFFFFFFFFFFFF

/-! ### Records -/

/-! Index descriptor (Table 6-2). -/
namespace IdxD
def id (d : Nat) : Nat := bf d 3 0
def vfmt (d : Nat) : Nat := bf d 11 8
def metric (d : Nat) : Nat := bf d 12 12
def strideLog (d : Nat) : Nat := bf d 19 16
def topMax (d : Nat) : Nat := bf d 22 20
def shard (d : Nat) : Nat := bf d 47 24
def dim (d : Nat) : Nat := bf d 63 48
def entry (d : Nat) : Nat := bf d 95 64
def vcount (d : Nat) : Nat := bf d 127 96
def vbase (d : Nat) : Nat := bf d 191 128
def gbase (d : Nat) : Nat := bf d 255 192
def gcount (d : Nat) : Nat := bf d 287 256
def fvLpn (d : Nat) : Nat := bf d 319 288
def reservedOk (d : Nat) : Bool :=
  bf d 7 4 == 0 && bf d 15 13 == 0 && bf d 23 23 == 0 && bf d 511 320 == 0
/-- Bytes of a full vector, and rounded up to 64 (VB of R141). -/
def vecBytes (d : Nat) : Nat := dim d * (fmtBits (vfmt d) / 8)
def vb (d : Nat) : Nat := roundUp (vecBytes d) 64
end IdxD

/-! Search class (Table 6-4). -/
namespace ClsD
def id (d : Nat) : Nat := bf d 3 0
def poolSize (d : Nat) : Nat := bf d 15 8
def budget (d : Nat) : Nat := bf d 27 16
def rerank (d : Nat) : Bool := bit d 28
def depth (d : Nat) : Nat := bf d 39 32
def descentMax (d : Nat) : Nat := bf d 46 40
def reservedOk (d : Nat) : Bool := bf d 7 4 == 0 && bf d 31 29 == 0 && bf d 127 47 == 0
end ClsD

/-! Vertex line (Table 6-3). -/
namespace Vtx
def localId (l : Nat) : Nat := bf l 295 256
def top (l : Nat) : Nat := bf l 299 296
def live (l : Nat) : Bool := bit l 300
def tomb (l : Nat) : Bool := bit l 301
def attr (l : Nat) : Nat := bf l 319 304
def cur (l : Nat) : Nat := bf l 351 320
def old (l : Nat) : Nat := bf l 383 352
def insSeq (l : Nat) : Nat := bf l 425 384
def delSeq (l : Nat) : Nat := bf l 467 426
def since (l : Nat) : Nat := bf l 509 468
/-- R127: the block that a reader of admission Datum `d` reads. -/
def block (l d : Nat) : Nat := if since l ≤ d then cur l else old l
end Vtx

/-! Query record header (Table 6-5). -/
namespace QryH
def queryId (h : Nat) : Nat := bf h 63 0
def datum (h : Nat) : Nat := bf h 105 64
def filterMode (h : Nat) : Nat := bf h 107 106
def mask (h : Nat) : Nat := bf h 143 128
def value (h : Nat) : Nat := bf h 159 144
end QryH

/-! Traverse parameter block (Table 6-7). -/
namespace TrvP
def index (p : Nat) : Nat := bf p 3 0
def cls (p : Nat) : Nat := bf p 7 4
def slotBase (p : Nat) : Nat := bf p 18 8
def slotCount (p : Nat) : Nat := bf p 30 19
def bsuScore (p : Nat) : Bool := bit p 31
def expB (p : Nat) : Nat := bf p 38 32
def qcBase (p : Nat) : Nat := bf p 51 40
def inAddr (p : Nat) : Nat := bf p 127 64
def inStride (p : Nat) : Nat := bf p 159 128
def outStride (p : Nat) : Nat := bf p 191 160
def outAddr (p : Nat) : Nat := bf p 255 192
def statusAddr (p : Nat) : Nat := bf p 319 256
def reservedOk (p : Nat) : Bool := bf p 39 39 == 0 && bf p 63 52 == 0 && bf p 383 320 == 0
end TrvP

/-- Descriptor of an index, and a search class, of an Inset. -/
def Dict.index (d : Dict) (i k : Nat) : Option Nat :=
  (tableEntries (Dict.blob d i G.INDEX_TABLE) 64).find? (fun e => IdxD.id e == k)
def Dict.searchClass (d : Dict) (i k : Nat) : Option Nat :=
  (tableEntries (Dict.blob d i G.SEARCH_CLASSES) 16).find? (fun e => ClsD.id e == k)

def State.index (s : State) (i k : Nat) : Nat := (Dict.index s.gaz.regs i k).getD 0
def State.searchClass (s : State) (i k : Nat) : Nat := (Dict.searchClass s.gaz.regs i k).getD 0

/-! ### Slots -/

def slotKey (engine slot : Nat) : Nat := engine * 2048 + slot
def State.slot (s : State) (engine slot : Nat) : Option Slot := Tab.find s.search.slots (slotKey engine slot)

/-- R128 and Table 6-12: SLOTS_BOUND and OLDEST_LIVE_DATUM of an Inset from its bound slots. -/
def State.slotViews (s : State) (i : Nat) : State :=
  let mine := s.search.slots.filter (fun e => e.2.inset == i)
  let s := s.setNum i G.SLOTS_BOUND mine.length
  (upto 16).foldl (fun s k =>
    s.setNum i (G.OLDEST_LIVE_DATUM + k)
      (mine.foldl (fun m e => if e.2.index = k then min m e.2.datum else m) ones64)) s

/-! ### Reading the index -/

/-- A line or granule, or the code of the per-query fault. -/
def State.vertexLine (s : State) (ix v : Nat) : Except Nat Nat :=
  if v ≥ IdxD.vcount ix then .error Code.INDEX_CORRUPT
  else
    let a := IdxD.vbase ix + 64 * v
    if s.rangeBad a 64 then .error Code.INDEX_UNCORRECTABLE else .ok (s.readNat a 64)

/-- Neighbours named by the level-`l` granule of block `g`, in place order, empty places left out (R125). -/
def State.granule (s : State) (ix g l : Nat) : Except Nat (List Nat) :=
  if g + l ≥ IdxD.gcount ix then .error Code.INDEX_CORRUPT
  else
    let a := IdxD.gbase ix + 64 * (g + l)
    if s.rangeBad a 64 then .error Code.INDEX_UNCORRECTABLE
    else
      let w := s.readNat a 64
      .ok (((upto 16).map (fun j => bf w (32 * j + 31) (32 * j))).filter (fun n => n != none32))

/-- R127: 0 Absent, 1 Tombstone, 2 Visible. -/
def vertexClass (line d : Nat) : Nat :=
  if !Vtx.live line ∨ Vtx.insSeq line > d then 0
  else if Vtx.tomb line ∧ Vtx.delSeq line ≤ d then 1
  else 2

/-- Element `i` of a packed int4 sketch. -/
def sketchAt (line i : Nat) : Int := sext 4 (line >>> (4 * i))

/-- The exact sketch score of R133. -/
def sketchScore (qcode : Bytes) (line : Nat) : Int :=
  (mapIdxFrom (fun i b => sext 8 b.toNat * sketchAt line i) 0 qcode).foldl (· + ·) 0

/-- h(v) of R133. -/
def visitBit (v : Nat) : Nat := v * 0x9E3779B1 % 2 ^ 32 / 2 ^ 22

/-- (score, vertex) `a` orders ahead of `b` (R133). -/
def ahead (a b : Int × Nat) : Bool := decide (b.1 < a.1) || (a.1 == b.1 && decide (a.2 < b.2))

def PoolEnt.key (e : PoolEnt) : Int × Nat := (e.score, e.vertex)

/-- A candidate enters a pool of at most `size` entries (R133). -/
def poolEnter (size : Nat) (pool : List PoolEnt) (e : PoolEnt) : List PoolEnt :=
  (insertBy (fun a b => ahead a.key b.key) e pool).take size

/-! ### Where a line is scored (R137, R216) -/

/-- The unit of the line's channel scores for the slot. -/
def State.bsuScores (s : State) (sl : Slot) (ix v : Nat) : Bool :=
  sl.bsu && (match storageOf (IdxD.vbase ix + 64 * v) with
    | none => false
    | some st =>
      let ch := channelOf st
      let u := s.unit ch
      isT1 st && bit u.mode 0 && (Tab.find sl.epochs ch == some u.epoch)
        && (Tab.find u.qcache sl.qline == some (leNat sl.qcode)))

def sat16 (n : Nat) : Nat := min n 0xFFFF

/-- A neighbour is scored: the slot's counts and the totals (unit, engine). -/
def State.countScore (s : State) (ix v : Nat) (sl : Slot) : Slot :=
  if s.bsuScores sl ix v then { sl with bsuScored := sat16 (sl.bsuScored + 1) }
  else { sl with engScored := sat16 (sl.engScored + 1) }

/-- What a command adds to the search counters: expansions, hits, misses, unit scores, engine scores. -/
structure SrchCnt where
  exps : Nat
  hit  : Nat
  miss : Nat
  bsu  : Nat
  eng  : Nat
  shortfall : Nat
  cut  : Nat
  faults : Nat
deriving DecidableEq, Repr

def SrchCnt.zero : SrchCnt := ⟨0, 0, 0, 0, 0, 0, 0, 0⟩

def SrchCnt.effects (i : Nat) (n : SrchCnt) : List Eff :=
  [.addReg i G.SEARCH_EXPANSIONS n.exps, .addReg i G.PREFETCH_HIT n.hit, .addReg i G.PREFETCH_MISS n.miss,
   .addReg i G.BSU_SCORED_TOTAL n.bsu, .addReg i G.ENGINE_SCORED_TOTAL n.eng,
   .addReg i G.SEARCH_SHORTFALL n.shortfall, .addReg i G.SEARCH_BUDGET_CUT n.cut,
   .addReg i G.SEARCH_QUERY_FAULTS n.faults]

/-- Neighbours of a granule scored for a slot: (score, vertex) of those not Absent, with the counts. -/
def State.scoreNeighbours (s : State) (ix : Nat) (sl : Slot) (ns : List Nat) :
    Except Nat (List (Int × Nat) × Slot × Nat × Nat) :=
  ns.foldl (fun acc n =>
    match acc with
    | .error e => .error e
    | .ok (l, sl, b, g) =>
      match s.vertexLine ix n with
      | .error e => .error e
      | .ok line =>
        if vertexClass line sl.datum = 0 then .ok (l, sl, b, g)
        else
          let u := s.bsuScores sl ix n
          .ok (l ++ [(sketchScore sl.qcode line, n)], s.countScore ix n sl, b + flagBit u, g + flagBit (!u))) (.ok ([], sl, 0, 0))

/-- The best of a list under R133. -/
def bestOf : List (Int × Nat) → Option (Int × Nat)
  | [] => none
  | a :: as => match bestOf as with
    | some b => if ahead b a then some b else some a
    | none => some a

/-- A descent in progress: current vertex with its score, steps, the slot's counts, totals, and the vertices scored by
level. -/
structure Descent where
  cur    : Int × Nat
  steps  : Nat
  slot   : Slot
  bsu    : Nat
  eng    : Nat
  seen   : List (Nat × Int × Nat)
deriving DecidableEq, Repr

/-- Steps 3 and 4 of R134 from level `l`; at most `fuel` granules and level changes. -/
def State.descendFrom (s : State) (ix max : Nat) : Nat → Nat → Descent → Except Nat Descent
  | 0, _, d => .ok d
  | fuel + 1, l, d =>
    if l = 0 ∨ d.steps ≥ max then .ok d else
    match s.vertexLine ix d.cur.2 with
    | .error e => .error e
    | .ok line =>
      match s.granule ix (Vtx.block line d.slot.datum) l with
      | .error e => .error e
      | .ok ns =>
        match s.scoreNeighbours ix d.slot ns with
        | .error e => .error e
        | .ok (scored, sl, b, g) =>
          let d := { d with steps := d.steps + 1, slot := sl, bsu := d.bsu + b, eng := d.eng + g
                            seen := d.seen ++ scored.map (fun x => (l, x.1, x.2)) }
          match bestOf scored with
          | some x => if ahead x d.cur then s.descendFrom ix max fuel l { d with cur := x }
                      else s.descendFrom ix max fuel (l - 1) d
          | none => s.descendFrom ix max fuel (l - 1) d

/-- The descent of a slot from ENTRY_VERTEX (R134). -/
def State.descend (s : State) (ix max : Nat) (sl : Slot) : Except Nat Descent :=
  match s.vertexLine ix (IdxD.entry ix) with
  | .error e => .error e
  | .ok line =>
    s.descendFrom ix max (max + 9) (IdxD.topMax ix) ⟨(sketchScore sl.qcode line, IdxD.entry ix), 0, sl, 0, 0, []⟩

/-! ### SEARCH_START -/

/-- A slot faulted by its own query (R142). -/
def Slot.faulted (sl : Slot) (code : Nat) : Slot := { sl with code := code, state := 2 }

/-- Channels in PROC that hold part of an index's vertex table (R216). -/
def State.procChannels (s : State) (ix : Nat) : List Nat :=
  (s.bsu.units.filter (fun e => bit e.2.mode 0
    && touches (IdxD.vbase ix) (64 * IdxD.vcount ix) e.1)).map (·.1)

/-- One slot bound to its record (R134). A header that cannot be read gives no QUERY_ID and no ADMIT_DATUM: free values
(log entry 43). -/
def State.bindSlot (s : State) (i p k : Nat) (chans : List Nat) (forced : Bool) : State × Slot × Nat × Nat :=
  let a := TrvP.inAddr p + k * TrvP.inStride p
  let ix := s.index i (TrvP.index p)
  let cls := s.searchClass i (TrvP.cls p)
  let badH := s.rangeBad a 64
  let (idFree, s') := s.draw 64
  let (datFree, s'') := s'.draw 42
  let h := s.readNat a 64
  let s1 := if badH then s'' else s
  let sl : Slot :=
    { queryId := if badH then idFree else QryH.queryId h, datum := if badH then datFree else QryH.datum h
      index := TrvP.index p, classId := TrvP.cls p, state := 1, expansions := 0, descent := 0, bsuScored := 0
      engScored := 0, earlyExit := false, qrec := a, code := 0, qcode := s.readBytes (a + 64) 64, visited := 0, pool := []
      inset := i, stream := s.num i G.ACTIVE_STREAM, prefetch := none, bsu := TrvP.bsuScore p
      qline := TrvP.qcBase p + k, epochs := chans.foldl (fun t c => t.set c (s.unit c).epoch) [] }
  if forced then (s1, sl.faulted 0x8005, 0, 0)
  else if badH || s.rangeBad (a + 64) 64 then (s1, sl.faulted Code.INDEX_UNCORRECTABLE, 0, 0)
  else match s.descend ix (ClsD.descentMax cls) sl with
    | .error e => (s1, sl.faulted e, 0, 0)
    | .ok d =>
      match s.vertexLine ix d.cur.2 with
      | .error e => (s1, sl.faulted e, 0, 0)
      | .ok line =>
        (s1, { d.slot with descent := d.steps,
                           pool := [⟨d.cur.2, d.cur.1, false, vertexClass line sl.datum == 1⟩] }, d.bsu, d.eng)

/-- Query cache lines loaded by SEARCH_START with BSU_SCORE 1 (R216). -/
def State.loadLine (s : State) (chans : List Nat) (line : Nat) (code : Bytes) : State :=
  chans.foldl (fun s ch =>
    let u := s.unit ch
    s.setUnit ch { u with qcache := u.qcache.set line (leNat code) }) s

/-- The work of SEARCH_START. -/
def State.startWork (s : State) (r : CmdRef) (c : Cmd) : State × Res :=
  let p := leNat c.params
  let n := TrvP.slotCount p
  let ks := upto n
  if ks.any (fun k => (s.slot c.index (TrvP.slotBase p + k)).isSome) then (s, .fault Code.SLOT_BUSY)
  else if ks.any (fun k =>
      let a := TrvP.inAddr p + k * TrvP.inStride p
      !s.rangeBad a 64 && QryH.filterMode (s.readNat a 64) == 3) then (s, .fault Code.SLOT_BUSY)
  else
    let chans := if TrvP.bsuScore p then s.procChannels (s.index r.inset (TrvP.index p)) else []
    let s := ks.foldl (fun s k =>
      s.loadLine chans (TrvP.qcBase p + k) (s.readBytes (TrvP.inAddr p + k * TrvP.inStride p + 64) 64)) s
    let (s, eff, b, g) := ks.foldl (fun acc k =>
      let (s, eff, b, g) := acc
      let (s, sl, b1, g1) := s.bindSlot r.inset p k chans (k == 0 && c.rehearsed == 5 && c.hasT1)
      (s, eff ++ [Eff.setSlot (slotKey c.index (TrvP.slotBase p + k)) (some sl)], b + b1, g + g1)) (s, [], 0, 0)
    (s, .done { Work.none with onCommit := eff ++ SrchCnt.effects r.inset { SrchCnt.zero with bsu := b, eng := g } })

/-! ### SEARCH_EXPAND (R135, R136) -/

/-- The candidates of one expansion entered into the pool. -/
def State.enterAll (s : State) (ix size : Nat) (sl : Slot) (ns : List Nat) : Except Nat (Slot × Nat × Nat) :=
  ns.foldl (fun acc n =>
    match acc with
    | .error e => .error e
    | .ok (sl, b, g) =>
      if bit sl.visited (visitBit n) || sl.pool.any (fun e => e.vertex == n) then .ok (sl, b, g) else
      match s.vertexLine ix n with
      | .error e => .error e
      | .ok line =>
        let k := vertexClass line sl.datum
        if k = 0 then .ok (sl, b, g)
        else
          let u := s.bsuScores sl ix n
          let sl := s.countScore ix n sl
          .ok ({ sl with pool := poolEnter size sl.pool ⟨n, sketchScore sl.qcode line, false, k == 1⟩ },
               b + flagBit u, g + flagBit (!u))) (.ok (sl, 0, 0))

/-- One expansion of a LIVE slot; the first has no prefetch and is a miss (DEDUCED, log entry 44). -/
def State.expandOnce (s : State) (ix cls : Nat) (sl : Slot) (n : SrchCnt) : Slot × SrchCnt :=
  match sl.pool.filter (fun e => !e.expanded) with
  | [] => ({ sl with earlyExit := true, state := 2 }, n)
  | c :: rest =>
    let n := if sl.prefetch = some c.vertex then { n with hit := n.hit + 1 } else { n with miss := n.miss + 1 }
    let sl := { sl with
      prefetch := rest.head?.map (·.vertex)
      pool := sl.pool.map (fun e => if e.vertex = c.vertex then { e with expanded := true } else e)
      visited := if bit sl.visited (visitBit c.vertex) then sl.visited else sl.visited + 2 ^ visitBit c.vertex }
    match s.vertexLine ix c.vertex with
    | .error e => (sl.faulted e, n)
    | .ok line =>
      match s.granule ix (Vtx.block line sl.datum) 0 with
      | .error e => (sl.faulted e, n)
      | .ok ns =>
        match s.enterAll ix (ClsD.poolSize cls) sl ns with
        | .error e => (sl.faulted e, n)
        | .ok (sl, b, g) =>
          let x := sl.expansions + 1
          ({ sl with expansions := x, state := if x = ClsD.budget cls then 2 else sl.state },
           { n with exps := n.exps + 1, bsu := n.bsu + b, eng := n.eng + g })

/-- Up to `k` expansions. -/
def State.expandMany (s : State) (ix cls : Nat) : Nat → Slot × SrchCnt → Slot × SrchCnt
  | 0, x => x
  | k + 1, x => if x.1.state = 1 ∧ x.1.expansions < ClsD.budget cls then
      s.expandMany ix cls k (s.expandOnce ix cls x.1 x.2) else x

/-- Bound slots of a command's range: offset in the range and slot. -/
def State.slotsOf (s : State) (c : Cmd) (p : Nat) : List (Nat × Slot) :=
  (upto (TrvP.slotCount p)).filterMap (fun k => (s.slot c.index (TrvP.slotBase p + k)).map (fun sl => (k, sl)))

/-- The work of SEARCH_EXPAND. -/
def State.expandWork (s : State) (r : CmdRef) (c : Cmd) : State × Res :=
  let p := leNat c.params
  let live := (s.slotsOf c p).filter (fun e => e.2.state == 1)
  let first := (live.head?.map (·.1)).getD 0
  let (eff, n) := live.foldl (fun acc e =>
    let (eff, n) := acc
    let ix := s.index e.2.inset e.2.index
    let cls := s.searchClass e.2.inset e.2.classId
    let (sl, n) := if e.1 = first ∧ c.rehearsed = 5 ∧ c.hasT1 then (e.2.faulted 0x8005, n)
      else s.expandMany ix cls (TrvP.expB p) (e.2, n)
    (eff ++ [Eff.setSlot (slotKey c.index (TrvP.slotBase p + e.1)) (some sl)], n)) ([], SrchCnt.zero)
  (s, .done { Work.none with onCommit := eff ++ SrchCnt.effects r.inset n })

/-! ### Candidates (R138) -/

/-- The filter of a query header on a line's attributes (Table 6-5). -/
def filterPass (h attr : Nat) : Bool :=
  let m := Nat.land attr (QryH.mask h)
  if QryH.filterMode h = 1 then m == QryH.value h else if QryH.filterMode h = 2 then m != 0 else true

/-- Eligible entries in pool order, and how many non-tombstone entries failed the filter. -/
def State.eligible (s : State) (ix : Nat) (sl : Slot) : Except Nat (List PoolEnt × Nat) :=
  if s.rangeBad sl.qrec 64 then .error Code.INDEX_UNCORRECTABLE else
  let h := s.readNat sl.qrec 64
  (sl.pool.filter (fun e => !e.tomb)).foldl (fun acc e =>
    match acc with
    | .error x => .error x
    | .ok (l, drop) =>
      if QryH.filterMode h = 0 then .ok (l ++ [e], drop) else
      match s.vertexLine ix e.vertex with
      | .error x => .error x
      | .ok line => if filterPass h (Vtx.attr line) then .ok (l ++ [e], drop) else .ok (l, drop + 1)) (.ok ([], 0))

/-- The fetch entry of a vertex's full vector (R126, R138). -/
def fetchEntry (ix v : Nat) : Nat :=
  let p := 16384 / 2 ^ IdxD.strideLog ix
  (IdxD.fvLpn ix + v / p) % 2 ^ 32 + (v % p * 2 ^ IdxD.strideLog ix) * 2 ^ 32 + IdxD.vecBytes ix * 2 ^ 46

/-- DEPTH of a range whose slots may all be FREE: the class of the first bound slot, else what the stride holds (DEDUCED,
log entry 45). -/
def State.rangeDepth (s : State) (c : Cmd) (p unit : Nat) : Nat :=
  match (s.slotsOf c p).head? with
  | some e => ClsD.depth (s.searchClass e.2.inset e.2.classId)
  | none => TrvP.outStride p / unit

/-- The work of SEARCH_FETCH_LIST. -/
def State.fetchWork (s : State) (c : Cmd) : State × Res :=
  let p := leNat c.params
  let d0 := s.rangeDepth c p 8
  let first := ((s.slotsOf c p).head?.map (·.1)).getD 0
  let rows := (upto (TrvP.slotCount p)).map (fun k =>
    let out := TrvP.outAddr p + k * TrvP.outStride p
    let pad := fun (d : Nat) (l : List Nat) => (((l ++ List.replicate (d - l.length) ones64).take d).map (toLe 8)).flatten
    match s.slot c.index (TrvP.slotBase p + k) with
    | none => ((out, pad d0 []), ([] : List Eff))
    | some sl =>
      let ix := s.index sl.inset sl.index
      let d := ClsD.depth (s.searchClass sl.inset sl.classId)
      let sl := if k = first ∧ c.rehearsed = 5 ∧ c.hasT1 then sl.faulted 0x8005 else sl
      let (sl, l) := if sl.code ≠ 0 then (sl, []) else
        match s.eligible ix sl with
        | .error e => (sl.faulted e, [])
        | .ok (l, _) => (sl, (l.take d).map (fun (e : PoolEnt) => fetchEntry ix e.vertex))
      ((out, pad d l), [Eff.setSlot (slotKey c.index (TrvP.slotBase p + k)) (some { sl with state := 3 })]))
  (s, .done { Work.ofWrites (rows.map (·.1)) with onCommit := rows.flatMap (·.2) })

/-! ### Full-vector scores (R139) -/

/-- Elements of a vector. -/
def vecElems (ix : Nat) (store : Nat) : List Nat :=
  let b := fmtBits (IdxD.vfmt ix)
  (upto (IdxD.dim ix)).map (fun j => (store >>> (b * j)) % 2 ^ b)

/-- The score of two vectors, as an fp32 code. -/
def vectorScore (ix q x : Nat) : Nat :=
  let f := IdxD.vfmt ix
  let qs := vecElems ix q
  let xs := vecElems ix x
  if f = 0 then
    let t := (List.zip qs xs).foldl (fun acc e =>
      let a := sext 8 e.1
      let b := sext 8 e.2
      if IdxD.metric ix = 0 then acc + a * b else acc - (a - b) * (a - b)) 0
    fmt32.encode (Fl.ofInt t)
  else
    let terms := (List.zip qs xs).map (fun e =>
      let a := fmtValue f e.1
      let b := fmtValue f e.2
      if IdxD.metric ix = 0 then a.mul b else let d := a.add b.neg; (d.mul d).neg)
    (chunks 64 (terms.length + 1) terms).foldl (fun acc g => fmt32.encode (g.foldl Fl.add (f32 acc))) 0

/-! ### SEARCH_FINISH (R138, R140) -/

/-- A candidate element of ELEM_FMT 2. -/
def candElem (score v gid : Nat) : Bytes := toLe 4 score ++ toLe 4 v ++ toLe 8 gid

/-- Invalid elements: the GID is all ones; their SCORE and AUX are not stated and stay free (log entry 46). -/
def State.invalidElems (s : State) (n : Nat) : State × Bytes :=
  ({ s with draws := s.draws + n },
   ((upto n).map (fun k => toLe 8 (Config.freeValue 64 (s.draws + k)) ++ toLe 8 ones64)).flatten)

def gidOf (ix line : Nat) : Nat := IdxD.shard ix * 2 ^ 40 + Vtx.localId line

/-- What a slot's row holds: elements with their bytes, per-query code, filter drops. -/
def State.finishRow (s : State) (ix cls : Nat) (sl : Slot) (buf stride bits : Nat) (k0 : Nat) : List Bytes × Nat × Nat :=
  if sl.code ≠ 0 then ([], sl.code, 0) else
  match s.eligible ix sl with
  | .error e => ([], e, 0)
  | .ok (l, drop) =>
    let qbad := ClsD.rerank cls && s.rangeBad (sl.qrec + 128) (IdxD.vb ix)
    if qbad then ([], Code.INDEX_UNCORRECTABLE, 0) else
    let q := s.readNat (sl.qrec + 128) (IdxD.vecBytes ix)
    let out := (mapIdxFrom (fun j e => (j, e)) 0 (l.take (ClsD.depth cls))).foldl (fun acc je =>
      match acc with
      | .error e => .error e
      | .ok (es, code) =>
        match s.vertexLine ix je.2.vertex with
        | .error e => .error e
        | .ok line =>
          let gid := gidOf ix line
          if !ClsD.rerank cls then
            .ok (es ++ [candElem (fmt32.encode (Fl.ofInt je.2.score)) je.2.vertex gid], code)
          else if bit bits (k0 + je.1) then .ok (es, Code.RERANK_VECTOR_LOST)
          else
            let x := s.readNat (buf + (k0 + je.1) * stride) (IdxD.vecBytes ix)
            .ok (es ++ [candElem (vectorScore ix q x) je.2.vertex gid], code))
      (.ok ([], 0) : Except Nat (List Bytes × Nat))
    match out with
    | .error e => ([], e, 0)
    | .ok (es, code) => (es, code, drop)

/-- Status record of a bound slot (Table 6-9). -/
def searchStatus (cls : Nat) (sl : Slot) (cand code drop : Nat) (cut short : Bool) : Nat :=
  sl.queryId + sl.expansions * 2 ^ 64 + (sl.descent % 256) * 2 ^ 80 + cand * 2 ^ 88 + code * 2 ^ 96
    + min drop 255 * 2 ^ 112 + min (sl.pool.filter (·.tomb)).length 255 * 2 ^ 120 + sl.bsuScored * 2 ^ 128
    + sl.engScored * 2 ^ 144 + flagBit sl.earlyExit * 2 ^ 160 + flagBit cut * 2 ^ 161
    + flagBit (ClsD.rerank cls) * 2 ^ 162 + flagBit short * 2 ^ 163 + sl.datum * 2 ^ 168

/-- The work of SEARCH_FINISH. -/
def State.finishWork (s : State) (r : CmdRef) (c : Cmd) : State × Res :=
  let p := leNat c.params
  let n := TrvP.slotCount p
  let d0 := s.rangeDepth c p 16
  let bound := s.slotsOf c p
  let first := (bound.head?.map (·.1)).getD 0
  let ix0 := match bound.head? with | some e => s.index e.2.inset e.2.index | none => 0
  let rer := match bound.head? with | some e => ClsD.rerank (s.searchClass e.2.inset e.2.classId) | none => false
  let stride := 2 ^ IdxD.strideLog ix0
  let buf := TrvP.inAddr p
  let mapAt := buf + roundUp (n * d0 * stride) 64
  let mapLen := ceilDiv (n * d0) 8
  match (if rer then s.firstBad [(buf, n * d0 * stride), (mapAt, mapLen)] else none) with
  | some a => (s, .fault (badInputCode a))
  | none =>
    let bits := if rer then s.readNat mapAt mapLen else 0
    let (s', w, eff, cnt) := (upto n).foldl (fun acc k =>
      let (s', w, eff, cnt) := acc
      let out := TrvP.outAddr p + k * TrvP.outStride p
      let st := TrvP.statusAddr p + 32 * k
      match s.slot c.index (TrvP.slotBase p + k) with
      | none =>
        let (s', inv) := State.invalidElems s' d0
        (s', w ++ [(out, inv), (st, toLe 32 (2 ^ 164))], eff, cnt)
      | some sl =>
        let ix := s.index sl.inset sl.index
        let cls := s.searchClass sl.inset sl.classId
        let depth := ClsD.depth cls
        let sl := if k = first ∧ c.rehearsed = 5 ∧ c.hasT1 ∧ sl.code = 0 then { sl with code := 0x8005 } else sl
        let (es, code, drop) := s.finishRow ix cls sl buf stride bits (k * d0)
        let (s', inv) := State.invalidElems s' (depth - es.length)
        let cut := sl.code == 0 && decide (sl.expansions < ClsD.budget cls) && !sl.earlyExit
        let short := decide (es.length < depth)
        let rec_ := searchStatus cls sl es.length code drop cut short
        (s', w ++ [(out, es.flatten ++ inv), (st, toLe 32 rec_)],
         eff ++ [Eff.setSlot (slotKey c.index (TrvP.slotBase p + k)) none],
         { cnt with shortfall := cnt.shortfall + flagBit short, cut := cnt.cut + flagBit cut
                    faults := cnt.faults + flagBit (code != 0) })) (s, [], [], SrchCnt.zero)
    (s', .done { Work.ofWrites w with onCommit := eff ++ SrchCnt.effects r.inset cnt })

/-- The command works on slots. -/
def slotData (c : Cmd) : Bool := TrvP.slotCount (leNat c.params) != 0

/-- SEARCH_START (R134). -/
def execSearchStart (c : CmdRef) (hw : Hw) (s : State) : Host.Outcome State Fault Refusal :=
  s.engineRow c hw 4 1 slotData (fun s x => s.startWork c x)

/-- SEARCH_EXPAND (R135). -/
def execSearchExpand (c : CmdRef) (hw : Hw) (s : State) : Host.Outcome State Fault Refusal :=
  s.engineRow c hw 4 2 slotData (fun s x => s.expandWork c x)

/-- SEARCH_FETCH_LIST (R138). -/
def execSearchFetchList (c : CmdRef) (hw : Hw) (s : State) : Host.Outcome State Fault Refusal :=
  s.engineRow c hw 4 3 slotData (fun s x => s.fetchWork x)

/-- SEARCH_FINISH (R138, R140). -/
def execSearchFinish (c : CmdRef) (hw : Hw) (s : State) : Host.Outcome State Fault Refusal :=
  s.engineRow c hw 4 4 slotData (fun s x => s.finishWork c x)

end Sys2Proof.Machine
end

