-- ==== Sys2Proof/Machine/Rows.lean ====
section
/-!
DEFINITION. Embedding tables as the commands of chapters 8 and 9 read them: descriptors, classes, Chart entries at a
Datum, versions, stored rows, and the coding of a new version (R168 to R171, R185, R190 to R194, R202, R441).
-/

namespace Sys2Proof.Machine

/-! ### Descriptors (Tables 8-1, 9-1, 8-3) -/

namespace EmbT
def id (d : Nat) : Nat := bf d 5 0
def dfltClass (d : Nat) : Nat := bf d 7 6
/-- INVALID_MODE 1: invalid indices are dropped. -/
def drop (d : Nat) : Bool := bit d 8
def recal (d : Nat) : Bool := bit d 9
def stoch (d : Nat) : Bool := bit d 10
def dim (d : Nat) : Nat := bf d 31 16
def shardBase (d : Nat) : Nat := bf d 55 32
def shardCount (d : Nat) : Nat := bf d 79 64
def rows (d : Nat) : Nat := bf d 135 96
def chartBase (d : Nat) : Nat := bf d 159 136
def chartRows (d : Nat) : Nat := bf d 191 160
def mapAddr (d : Nat) : Nat := bf d 255 192
def coldBase (d : Nat) : Nat := bf d 319 256
def hotMap (d : Nat) : Nat := bf d 383 320
def dfltRow (d : Nat) : Nat := bf d 447 384
def reservedOk (d : Nat) : Bool :=
  bf d 15 11 == 0 && bf d 63 56 == 0 && bf d 95 80 == 0 && bf d 511 448 == 0
/-- Chart entries of the table. -/
def entries (d : Nat) : Nat := shardCount d * chartRows d
end EmbT

namespace RvD
def id (d : Nat) : Nat := bf d 5 0
def versioned (d : Nat) : Bool := bit d 6
def horizon (d : Nat) : Nat := bf d 17 8
def settleMax (d : Nat) : Nat := bf d 63 32
def versBase (d : Nat) : Nat := bf d 127 64
def shadow (d : Nat) : Nat := bf d 191 128
def crecBase (d : Nat) : Nat := bf d 255 192
def pool (d : Nat) : Nat := bf d 319 256
def survey (d : Nat) : Nat := bf d 383 320
def settle (d : Nat) : Nat := bf d 447 384
def reservedOk (d : Nat) : Bool := !bit d 7 && bf d 31 18 == 0 && bf d 511 448 == 0
end RvD

namespace ChE
def owner (e : Nat) : Nat := bf e 11 0
def cls (e : Nat) : Nat := bf e 13 12
def pin (e : Nat) : Bool := bit e 14
def present (e : Nat) : Bool := bit e 15
def mig (e : Nat) : Nat := bf e 18 16
end ChE

def Dict.embTable (d : Dict) (i t : Nat) : Option Nat :=
  (tableEntries (Dict.blob d i G.EMB_TABLES) 64).find? (fun e => EmbT.id e == t)
def Dict.rowVers (d : Dict) (i t : Nat) : Option Nat :=
  (tableEntries (Dict.blob d i G.ROW_VERSIONS) 64).find? (fun e => RvD.id e == t)
def Dict.widthClass (d : Dict) (i t : Nat) : Option Nat :=
  (tableEntries (Dict.blob d i G.WIDTH_CLASSES) 16).find? (fun e => bf e 5 0 == t)
/-- EMB_NODES: linear ids in slot order. -/
def Dict.embNodes (d : Dict) (i : Nat) : List Nat := tableEntries (Dict.blob d i G.EMB_NODES) 2

/-- Row bytes RB of a class (Table 8-2). -/
def rowBytes (cls dim : Nat) : Nat :=
  if cls = 0 then roundUp (2 * dim) 64 else if cls = 1 then roundUp (8 + dim) 64 else roundUp (8 + dim / 2) 64

/-- Shard and local id of a row (R10). -/
def gidShard (g : Nat) : Nat := bf g 63 40
def gidLocal (g : Nat) : Nat := bf g 39 0

/-- The row belongs to the table (R170). -/
def inTable (t g : Nat) : Bool :=
  decide (EmbT.shardBase t ≤ gidShard g) && decide (gidShard g < EmbT.shardBase t + EmbT.shardCount t)
    && decide (gidLocal g < EmbT.rows t)

/-- A row of the Chart prefix. -/
def isChartRow (t g : Nat) : Bool := decide (gidLocal g < EmbT.chartRows t)

/-- Number of a Chart row's entry, counted from CHART_BASE (R171). -/
def chartIndex (t g : Nat) : Nat := (gidShard g - EmbT.shardBase t) * EmbT.chartRows t + gidLocal g

/-- GID of an entry counted from CHART_BASE. -/
def gidOfEntry (t e : Nat) : Nat :=
  (EmbT.shardBase t + e / EmbT.chartRows t) * 2 ^ 40 + e % EmbT.chartRows t

/-! ### Where a row is (R170, R191, R202) -/

/-- A Chart entry as it stands; one that decodes as uncorrectable reads as PRESENT 0 (R370). -/
def State.chartEntry (s : State) (n : Nat) : Nat :=
  let e := s.chart.get 0 n
  if (Tab.find s.chartBad n).isSome then setBf e 15 15 0 else e

/-- Address of the record of Table 9-2 of an entry counted from CHART_BASE. -/
def recAddr (rv e : Nat) : Nat := RvD.crecBase rv + 32 * e

/-- The Chart entry that a reader at Datum `d` sees (R202), by its number from CHART_BASE. -/
def State.entryAt (s : State) (i t d e : Nat) : Nat :=
  let c := s.chartEntry (EmbT.chartBase t + e)
  let rv := (Dict.rowVers s.gaz.regs i (EmbT.id t)).getD 0
  let rec_ := s.readNat (recAddr rv e) 32
  if ChE.mig c ≠ 0 ∧ d < bf rec_ 145 104 then
    let p := bf rec_ 183 152
    if (Tab.find s.chartBad (EmbT.chartBase t + e)).isSome then setBf p 15 15 0 else p
  else c

/-- What a reader at a Datum finds a row to be. -/
structure RowAt where
  owner   : Nat
  cls     : Nat
  present : Bool
  /-- The entry at the Datum is the current one. -/
  current : Bool
deriving DecidableEq, Repr

/-- Owner and class of a row of the table at Datum `d` (R170, R202). -/
def State.rowAt (s : State) (i t d g : Nat) : RowAt :=
  if isChartRow t g then
    let e := chartIndex t g
    let c := s.chartEntry (EmbT.chartBase t + e)
    let rv := (Dict.rowVers s.gaz.regs i (EmbT.id t)).getD 0
    let p := s.entryAt i t d e
    ⟨ChE.owner p, ChE.cls p, ChE.present p, ChE.mig c == 0 || decide (bf (s.readNat (recAddr rv e) 32) 145 104 ≤ d)⟩
  else
    let m := s.readNat (EmbT.mapAddr t + 4 * (gidShard g - EmbT.shardBase t)) 4
    ⟨bf m 11 0, EmbT.dfltClass t, true, true⟩

/-- Where the owner reads a row: its class, its address (a flash logical byte address for class 3), and the words its
location depends on. `copy` is the copy the version word selects, `word` the address of the version word when there is
one. -/
structure RowLoc where
  cls   : Nat
  addr  : Nat
  copy  : Nat
  word  : Option Nat
  /-- Address of copy 0 and distance to copy 1. -/
  base  : Nat
  other : Nat
  reads : List (Nat × Nat)
deriving DecidableEq, Repr

/-- The copy a reader at `d` takes (R191). -/
def copyAt (word d : Nat) : Nat := if bf word 49 8 ≤ d then bf word 0 0 else 1 - bf word 0 0

/-- Page-packed position of record `q` of `rb` bytes from a flash logical byte address. -/
def packed (base q rb : Nat) : Nat :=
  let p := 16384 / rb
  (base / 16384 + q / p) * 16384 + q % p * rb

/-- Location of a row on its owner at Datum `d` (R170, R191, R202). -/
def State.rowLoc (s : State) (i t d g : Nat) (at_ : RowAt) : RowLoc :=
  let rv := Dict.rowVers s.gaz.regs i (EmbT.id t)
  let rvd := rv.getD 0
  let vers := rv.isSome && RvD.versioned rvd
  let rb := rowBytes at_.cls (EmbT.dim t)
  if isChartRow t g then
    let e := chartIndex t g
    let ra := recAddr rvd e
    let c := s.chartEntry (EmbT.chartBase t + e)
    if !at_.current && ChE.mig c == 2 then
      let a := bf (s.readNat ra 32) 235 184
      ⟨at_.cls, a, 0, none, a, 0, [(ra, 32)]⟩
    else
      let la := EmbT.hotMap t + 8 * e
      let a := bf (s.readNat la 8) 51 0
      if vers && at_.cls ≠ 3 then
        let k := copyAt (s.readNat ra 16) d
        ⟨at_.cls, a + k * rb, k, some ra, a, rb, [(la, 8), (ra, 32)]⟩
      else ⟨at_.cls, a, 0, none, a, 0, [(la, 8)]⟩
  else
    let ma := EmbT.mapAddr t + 4 * (gidShard g - EmbT.shardBase t)
    let q := bf (s.readNat ma 4) 27 16 * EmbT.rows t + gidLocal g
    if at_.cls = 3 then
      let a := packed (EmbT.coldBase t) q rb
      ⟨3, a, 0, none, a, 0, [(ma, 4)]⟩
    else
      let a := EmbT.coldBase t + q * rb
      if vers then
        let va := RvD.versBase rvd + 16 * q
        let b := RvD.shadow rvd + q * rb
        let k := copyAt (s.readNat va 16) d
        ⟨at_.cls, if k = 0 then a else b, k, some va, a, b - a, [(ma, 4), (va, 16)]⟩
      else ⟨at_.cls, a, 0, none, a, 0, [(ma, 4)]⟩

/-- Address of the copy a new version goes to (R192): the one the newest version does not hold. Copy 1 of a cold row may
lie below copy 0, so its address is found from the descriptor. -/
def State.newCopy (s : State) (i t g : Nat) (l : RowLoc) : Nat :=
  match l.word with
  | none => l.base
  | some va =>
    let cur := bf (s.readNat va 16) 0 0
    if cur = 1 then l.base
    else if isChartRow t g then l.base + l.other
    else
      let rvd := (Dict.rowVers s.gaz.regs i (EmbT.id t)).getD 0
      let ma := EmbT.mapAddr t + 4 * (gidShard g - EmbT.shardBase t)
      let q := bf (s.readNat ma 4) 27 16 * EmbT.rows t + gidLocal g
      RvD.shadow rvd + q * rowBytes l.cls (EmbT.dim t)

/-! ### Stored rows (R169) -/

/-- Elements of a stored row of a class as fp32 codes. -/
def rowValues (cls dim : Nat) (bs : Bytes) : List Nat :=
  let x := leNat bs
  if cls = 0 then (upto dim).map (fun k => (x >>> (16 * k)) % 65536 * 65536)
  else
    let f := if cls = 1 then 0 else 1
    let sc := bf x 31 0
    let z := sext 8 (bf x 39 32)
    let codes := x >>> 64
    (upto dim).map (fun k => dequantise fmt32 f sc z ((codes >>> (fmtBits f * k)) % 2 ^ fmtBits f))

/-- A row's bytes in a class from fp32 codes, with given S and Z for the int classes; and saturated elements. -/
def rowCode (cls dim : Nat) (sz : Nat × Int) (stoch : Nat → Option Nat) (vals : List Nat) : Bytes × Nat :=
  let rb := rowBytes cls dim
  let f := if cls = 0 then 4 else if cls = 1 then 0 else 1
  let p := if cls = 0 then (0x3F800000, (0 : Int)) else sz
  let q := mapIdxFrom (fun k v => quantise f p.1 p.2 (stoch k) (f32 v)) 0 vals
  let body := packCodes (fmtBits f) 0 (q.map (·.1))
  let bs := if cls = 0 then body else recBytes sz ++ body
  (bs ++ zeros (rb - bs.length), (q.filter (·.2.1)).length)

/-- S and Z of R95 with margin 1.0 for a row of an int class. -/
def rowMeasure (cls : Nat) (vals : List Nat) : Nat × Int :=
  measure (if cls = 1 then 0 else 1) 0x3F800000 (vals.map f32)

/-- The coding of r′ by the table's APPLY_RECAL and APPLY_ROUND (R185). -/
def newRow (t cls seed g : Nat) (old : Bytes) (vals : List Nat) : Bytes × Nat :=
  let dim := EmbT.dim t
  let x := leNat old
  let sz := if EmbT.recal t then rowMeasure cls vals else (bf x 31 0, sext 8 (bf x 39 32))
  let st := fun k => if EmbT.stoch t then some (stochR seed ((gidLocal g * dim + k) % 2 ^ 64)) else none
  rowCode cls dim sz st vals

/-- The writes of a new version of Sheet `n` (R192): the whole row, then the version word in one write. -/
def State.versionWrites (s : State) (i t g n : Nat) (l : RowLoc) (row : Bytes) : List (Nat × Bytes) :=
  let dst := s.newCopy i t g l
  match l.word with
  | none => [(dst, row)]
  | some va =>
    let w := s.readNat va 16
    let w' := setBf (setBf (setBf (setBf w 97 56 (bf w 49 8)) 1 1 1) 49 8 n) 0 0 (1 - bf w 0 0)
    [(dst, row), (va, toLe 16 w')]

/-- R194: a read at `d` in Sheet `n` is older than the table's LOOKUP_HORIZON. -/
def State.expired (s : State) (i t d n : Nat) : Bool :=
  match Dict.rowVers s.gaz.regs i t with
  | some rv => decide (d + RvD.horizon rv < n)
  | none => false

/-- The stamp of a running Sheet, bits [41:0] of its SHEET_SEQ. -/
def State.stampOf (s : State) (i : Nat) : Nat :=
  match (s.inset i).sheet with
  | some sh => sh.seq % 2 ^ 42
  | none => 0

/-- Events of Chart entries read as uncorrectable (R370). -/
def State.chartEvents (s : State) (i t : Nat) (gids : List Nat) : List Eff :=
  (nub ((gids.filter (fun g => inTable t g && isChartRow t g)).map (fun g => EmbT.chartBase t + chartIndex t g))).filterMap
    (fun n => if (Tab.find s.chartBad n).isSome then some (Eff.raise i Code.CHART_UNCORRECTABLE 0 n) else none)

end Sys2Proof.Machine
end

