-- ==== Sys2Proof/Machine/Embedding.lean ====
section
/-!
DEFINITION. Pool engines (chapter 8): EMB_ROUTE, EMB_FETCH_LIST, EMB_SERVE, EMB_POOL, EMB_SCATTER and EMB_APPLY.
-/

namespace Sys2Proof.Machine

/-! ### Parameter block (Table 8-6), batch header (Table 8-7) -/

namespace PoolP
def table (p : Nat) : Nat := bf p 5 0
def mean (p : Nat) : Bool := bit p 6
def site (p : Nat) : Nat := bf p 7 7
def scatter (p : Nat) : Nat := bf p 9 8
def outFmt (p : Nat) : Nat := bf p 10 10
def outLayout (p : Nat) : Nat := bf p 11 11
def part (p : Nat) : Nat := bf p 20 16
def parts (p : Nat) : Nat := bf p 26 21
def fetchMax (p : Nat) : Nat := bf p 47 32
def slots (p : Nat) : Nat := bf p 63 48
def inStride (p : Nat) : Nat := bf p 95 64
def outStride (p : Nat) : Nat := bf p 127 96
def inMax (p : Nat) : Nat := bf p 159 128
def alpha (p : Nat) : Nat := bf p 191 160
def inAddr (p : Nat) : Nat := bf p 255 192
def outAddr (p : Nat) : Nat := bf p 319 256
def auxAddr (p : Nat) : Nat := bf p 383 320
def statusAddr (p : Nat) : Nat := bf p 447 384
def seed (p : Nat) : Nat := bf p 511 448
def reservedOk (p : Nat) : Bool := bf p 15 12 == 0 && bf p 31 27 == 0
end PoolP

namespace BatH
def magic (h : Nat) : Nat := bf h 31 0
def kind (h : Nat) : Nat := bf h 34 32
def scatter (h : Nat) : Nat := bf h 37 36
def table (h : Nat) : Nat := bf h 45 40
def src (h : Nat) : Nat := bf h 59 48
def dst (h : Nat) : Nat := bf h 75 64
def count (h : Nat) : Nat := bf h 127 96
def contribs (h : Nat) : Nat := bf h 159 128
def datum (h : Nat) : Nat := bf h 201 160
def defaulted (h : Nat) : Nat := bf h 255 224
def dropped (h : Nat) : Nat := bf h 287 256
def flashOver (h : Nat) : Nat := bf h 319 288
def uncorr (h : Nat) : Nat := bf h 351 320
def tag (h : Nat) : Nat := bf h 415 352
def bytes (h : Nat) : Nat := bf h 447 416
end BatH

/-- A batch header. -/
def batchHeader (kind site scatter table src dst count contribs datum defaulted dropped flashOver uncorr tag bytes : Nat) :
    Bytes :=
  toLe 64 (0x45424154 + (kind % 8) * 2 ^ 32 + (site % 2) * 2 ^ 35 + (scatter % 4) * 2 ^ 36 + (table % 64) * 2 ^ 40
    + (src % 4096) * 2 ^ 48 + (dst % 4096) * 2 ^ 64 + (count % 2 ^ 32) * 2 ^ 96 + (contribs % 2 ^ 32) * 2 ^ 128
    + (datum % 2 ^ 42) * 2 ^ 160 + (defaulted % 2 ^ 32) * 2 ^ 224 + (dropped % 2 ^ 32) * 2 ^ 256
    + (flashOver % 2 ^ 32) * 2 ^ 288 + (uncorr % 2 ^ 32) * 2 ^ 320 + (tag % 2 ^ 64) * 2 ^ 352 + (bytes % 2 ^ 32) * 2 ^ 416)

/-- The key section and what follows, each section from a 64-byte boundary (R177); and the batch's bytes with its
header. -/
def sections (keys bodies : Bytes) : Bytes × Nat :=
  if bodies.isEmpty then (keys, 64 + keys.length)
  else (keys ++ zeros (roundUp keys.length 64 - keys.length) ++ bodies, 64 + roundUp keys.length 64 + bodies.length)

/-- One incoming slot: its base, its header, its node. -/
structure InSlot where
  base : Nat
  hdr  : Nat
  node : Nat
deriving DecidableEq, Repr

def State.inSlots (s : State) (i base stride : Nat) : List InSlot :=
  mapIdxFrom (fun k n => ⟨base + k * stride, s.readNat (base + k * stride) 64, n⟩) 0 (Dict.embNodes s.gaz.regs i)

/-- Bytes of a key of each KIND (Table 8-8). -/
def keyBytes (kind : Nat) : Nat := if kind = 2 then 1 else if kind = 3 then 16 else 8

def strictlyUp : List Nat → Bool
  | a :: b :: r => decide (a < b) && strictlyUp (b :: r)
  | _ => true

/-- Keys of a slot, as numbers. -/
def State.slotKeys (s : State) (sl : InSlot) : List Nat :=
  let kb := keyBytes (BatH.kind sl.hdr)
  (upto (BatH.count sl.hdr)).map (fun j => s.readNat (sl.base + 64 + kb * j) kb)

/-- The header checks of R177 for one slot. -/
def InSlot.headOk (sl : InSlot) (kind table node stride : Nat) : Bool :=
  BatH.magic sl.hdr == 0x45424154 && BatH.kind sl.hdr == kind && BatH.table sl.hdr == table
    && BatH.src sl.hdr == sl.node && BatH.dst sl.hdr == node && decide (BatH.bytes sl.hdr ≤ stride)

/-- Keys stand in the order of Table 8-8. -/
def keysUp (kind : Nat) (keys : List Nat) : Bool :=
  if kind = 2 then true else strictlyUp (if kind = 3 then keys.map (· % 2 ^ 32) else keys)

/-- R177 for all incoming slots of a command: the faults in order, the keys of every slot. -/
def State.takeSlots (s : State) (c : Cmd) (kind table stride : Nat) (sameLookup : Bool) (sls : List InSlot) :
    Except Res (List (InSlot × List Nat)) :=
  match s.readFault c (sls.map (fun x => (x.base, 64))) with
  | some r => .error r
  | none =>
    if !sls.all (fun x => x.headOk kind table s.nodeId stride) then .error (.fault Code.EMB_BATCH)
    else if sameLookup && !sls.all (fun x =>
        match sls.head? with
        | some y => BatH.tag x.hdr == BatH.tag y.hdr && BatH.datum x.hdr == BatH.datum y.hdr
        | none => true) then .error (.fault Code.EMB_BATCH)
    else
      let c' := { c with rehearsed := 0 }
      match s.readFault c' (sls.map (fun x => (x.base, BatH.bytes x.hdr))) with
      | some r => .error r
      | none =>
        let ks := sls.map (fun x => (x, s.slotKeys x))
        if ks.all (fun e => keysUp kind e.2) then .ok ks else .error (.fault Code.EMB_BATCH)

/-! ### Contributions (R176) -/

structure Con where
  bag  : Nat
  ref  : Nat
  slot : Nat
  dflt : Bool
  mult : Nat
  coef : Nat
  gid  : Nat
deriving DecidableEq, Repr

def Con.bytes (k : Con) : Bytes :=
  toLe 16 (k.bag % 2 ^ 32 + (k.ref % 2 ^ 24) * 2 ^ 32 + (k.slot % 4096) * 2 ^ 56 + flagBit k.dflt * 2 ^ 68
    + (k.mult % 2 ^ 24) * 2 ^ 72 + (k.coef % 2 ^ 32) * 2 ^ 96)

def Con.parse (x : Nat) : Con :=
  ⟨bf x 31 0, bf x 55 32, bf x 67 56, bit x 68, bf x 95 72, bf x 127 96, 0⟩

/-- Contributions of a list at an address. -/
def State.consAt (s : State) (a n : Nat) : List Con := (upto n).map (fun k => Con.parse (s.readNat (a + 16 * k) 16))

/-- The order of the list: BAG, DEF last, SLOT, GID. -/
def Con.before (a b : Con) : Bool :=
  decide (a.bag < b.bag) || (a.bag == b.bag && ((!a.dflt && b.dflt) || (a.dflt == b.dflt
    && (decide (a.slot < b.slot) || (a.slot == b.slot && decide (a.gid ≤ b.gid))))))

/-- A lookup entry (R173) with its class (Table 8-4). -/
inductive EntClass where
  | pad
  | bad (owner : Bool)
  | row (slot : Nat)
deriving DecidableEq, Repr

structure LookEnt where
  gid    : Nat
  bag    : Nat
  weight : Nat
deriving DecidableEq, Repr

def State.classEntry (s : State) (i t d bags : Nat) (nodes : List Nat) (e : LookEnt) : EntClass :=
  if e.gid = ones64 then .pad
  else if !inTable t e.gid || decide (bags ≤ e.bag) || (f32 e.weight).isNan || (f32 e.weight).isInf then .bad false
  else
    let r := s.rowAt i t d e.gid
    if !r.present then .bad false
    else match nodes.findIdx? (· == r.owner) with
      | some k => .row k
      | none => .bad true

/-- Contributions of a batch: one for each distinct (BAG, GID) of one class, with MULT and COEF. -/
def gather (es : List (LookEnt × EntClass)) : List (Con × EntClass) :=
  (nub (es.map (fun e => (e.1.bag, e.1.gid, e.2)))).map (fun k =>
    let same := es.filter (fun e => e.1.bag == k.1 && e.1.gid == k.2.1 && e.2 == k.2.2)
    let sum := (same.map (fun e => f32 e.1.weight)).foldl Fl.add (.fin false 0 0)
    let slot := match k.2.2 with | .row n => n | _ => 0
    let d := match k.2.2 with | .row _ => false | _ => true
    (⟨k.1, 0, slot, d, same.length, fmt32.encode sum, k.2.1⟩, k.2.2))

/-- A lookup status record (Table 8-9). -/
def lookupStatus (tag datum table code : Nat) (words : List Nat) : Nat :=
  tag % 2 ^ 64 + (datum % 2 ^ 42) * 2 ^ 64 + (table % 64) * 2 ^ 106 + (code % 65536) * 2 ^ 112
    + leNat ((words.map (toLe 4)).flatten) * 2 ^ 128

def sortNat (l : List Nat) : List Nat := sortBy (fun a b => decide (a ≤ b)) l

/-! ### EMB_ROUTE (R174, R176) -/

def State.routeWork (s : State) (r : CmdRef) (c : Cmd) : State × Res :=
  let i := r.inset
  let p := leNat c.params
  let a := PoolP.inAddr p
  match s.readFault c [(a, 64)] with
  | some f => (s, f)
  | none =>
    let h := s.readNat a 64
    let n := bf h 223 192
    let bags := bf h 255 224
    let table := PoolP.table p
    let t := (Dict.embTable s.gaz.regs i table).getD 0
    let d := if CmdW.admitBit c.word then s.datum i % 2 ^ 42 else bf h 169 128
    if bf h 31 0 ≠ 0x454C4B42 ∨ n > 4194304 ∨ bags > 1048576 ∨ bf h 37 32 ≠ table then (s, .fault Code.EMB_BATCH)
    else if s.expired i table d (s.stampOf i) then (s, .fault Code.LOOKUP_EXPIRED)
    else
    match s.readFault { c with rehearsed := 0 } [(a, 64 + 16 * n), (EmbT.mapAddr t, 4 * EmbT.shardCount t)] with
    | some f => (s, f)
    | none =>
      let s := s.noteReads [(a, 64 + 16 * n)]
      let nodes := Dict.embNodes s.gaz.regs i
      let me := s.nodeId
      let es := ((upto n).map (fun k =>
        let x := s.readNat (a + 64 + 16 * k) 16
        LookEnt.mk (bf x 63 0) (bf x 95 64) (bf x 127 96))).map (fun e => (e, s.classEntry i t d bags nodes e))
      let es := es.filter (fun e => e.2 != .pad)
      let all := gather es
      let isBad := fun (k : EntClass) => match k with | .row _ => false | _ => true
      let dropped := if EmbT.drop t then (all.filter (fun e => isBad e.2)).length else 0
      let used := if EmbT.drop t then all.filter (fun e => !isBad e.2) else all
      let keys := (upto nodes.length).map (fun k =>
        sortNat (nub ((used.filter (fun e => !e.1.dflt && e.1.slot == k)).map (·.1.gid))))
      let cons := sortBy Con.before (used.map (fun e =>
        if e.1.dflt then e.1 else
          { e.1 with ref := ((nth [] keys e.1.slot).findIdx? (· == e.1.gid)).getD 0 }))
      let dflt := (cons.filter (·.dflt)).length
      let code := if es.any (fun e => e.2 == .bad true) then Code.EMB_OWNER else 0
      let tag := bf h 127 64
      let distinct := (keys.map List.length).sum
      let remote := ((pairUp nodes keys).filter (fun e => e.1 != me)).map (·.2.length) |>.sum
      let site := PoolP.site p
      let slots := mapIdxFrom (fun k node =>
        let ks := nth [] keys k
        let mine := if site = 1 then cons.filter (fun x => !x.dflt && x.slot == k) else []
        let (body, bytes) := sections ((ks.map (toLe 8)).flatten) ((mine.map Con.bytes).flatten)
        (PoolP.outAddr p + k * PoolP.outStride p,
          batchHeader 1 site 0 table me node ks.length mine.length d 0 0 0 0 tag bytes ++ body)) 0 nodes
      let head := lookupStatus tag d table code
        [es.length, bags, cons.length, distinct, remote, dflt, dropped, 0, 0, 0, 0]
      let list := (PoolP.auxAddr p, toLe 64 head ++ (cons.map Con.bytes).flatten)
      let bank := (s.inset i).banks.get 0 table
      let survey := (cons.filter (fun k => !k.dflt && isChartRow t k.gid)).map (fun k =>
        Eff.survey i table (bank * EmbT.entries t + chartIndex t k.gid) k.mult)
      (s, .done { Work.ofWrites (slots ++ [list]) with
        onCommit := (if CmdW.admitBit c.word then [Eff.lookup i tag (some table)] else []) ++ survey
          ++ s.chartEvents i t (es.map (·.1.gid))
          ++ [.addReg i G.EMB_DEFAULTED dflt, .addReg i G.EMB_DROPPED dropped,
              .addReg i G.EMB_COLLAPSED (es.length - cons.length)] })

/-! ### EMB_FETCH_LIST (R178) -/

/-- The fetch entry of a stored flash row: page, byte offset, length (R138). -/
def flashEntry (a len : Nat) : Nat := a / 16384 % 2 ^ 32 + (a % 16384) * 2 ^ 32 + (len % 2 ^ 13) * 2 ^ 46

/-- Keys of request slots with the Datum at which they are read. -/
def State.requests (s : State) (r : CmdRef) (c : Cmd) : Except Res (List (InSlot × List Nat) × Nat) :=
  let p := leNat c.params
  let table := PoolP.table p
  match s.takeSlots c 1 table (PoolP.inStride p) true (s.inSlots r.inset (PoolP.inAddr p) (PoolP.inStride p)) with
  | .error e => .error e
  | .ok sl =>
    let d := match sl.head? with | some x => BatH.datum x.1.hdr | none => 0
    let keys := (sl.map (·.2.length)).sum
    let cons := (sl.map (fun x => BatH.contribs x.1.hdr)).sum
    if s.expired r.inset table d (s.stampOf r.inset) then .error (.fault Code.LOOKUP_EXPIRED)
    else if PoolP.inMax p < keys ∨ PoolP.inMax p < cons then .error (.fault Code.EMB_OVERFLOW)
    else .ok (sl, d)

/-- The row of a key that this node owns at the Datum; none where it does not (R179, STATE 4). -/
def State.ownRow (s : State) (i t d g : Nat) : Option RowAt :=
  if !inTable t g then none
  else
    let x := s.rowAt i t d g
    if x.owner = s.nodeId ∧ x.present then some x else none

def State.fetchListWork (s : State) (r : CmdRef) (c : Cmd) : State × Res :=
  let i := r.inset
  let p := leNat c.params
  let t := (Dict.embTable s.gaz.regs i (PoolP.table p)).getD 0
  match s.requests r c with
  | .error e => (s, e)
  | .ok (sl, d) =>
    let s := s.noteReads (sl.map (fun x => (x.1.base, BatH.bytes x.1.hdr)))
    let rows := (sl.map (·.2)).flatten.filterMap (fun g => match s.ownRow i t d g with
      | some x => if x.cls = 3 then some (s.rowLoc i t d g x) else none
      | none => none)
    let ents := (rows.take (PoolP.fetchMax p)).map (fun l => flashEntry l.addr (rowBytes 3 (EmbT.dim t)))
    let list := ents ++ List.replicate (PoolP.fetchMax p - ents.length) ones64
    (s, .done { Work.ofWrites [(PoolP.outAddr p, (list.map (toLe 8)).flatten)] with
      onCommit := s.chartEvents i t ((sl.map (·.2)).flatten) })

/-! ### EMB_SERVE (R179) -/

/-- A served key: CLASS, STATE and its stored row. -/
structure Served where
  gid   : Nat
  cls   : Nat
  state : Nat
  row   : Bytes
deriving DecidableEq, Repr

/-- One key served; `k` counts FLASH rows met so far. -/
def State.serveKey (s : State) (i t d g : Nat) (p bits : Nat) (k : Nat) : Served × Nat :=
  match s.ownRow i t d g with
  | none => (⟨g, (s.rowAt i t d g).cls, 4, []⟩, k)
  | some x =>
    let rb := rowBytes x.cls (EmbT.dim t)
    let l := s.rowLoc i t d g x
    if (s.firstBad l.reads).isSome then (⟨g, x.cls, 2, []⟩, k)
    else if x.cls = 3 then
      let a := PoolP.auxAddr p + k * rb
      if PoolP.fetchMax p ≤ k then (⟨g, 3, 1, []⟩, k + 1)
      else if bit bits k then (⟨g, 3, 3, []⟩, k + 1)
      else if s.rangeBad a rb then (⟨g, 3, 2, []⟩, k + 1)
      else (⟨g, 3, 0, s.readBytes a rb⟩, k + 1)
    else if s.rangeBad l.addr rb then (⟨g, x.cls, 2, []⟩, k)
    else (⟨g, x.cls, 0, s.readBytes l.addr rb⟩, k)

def State.serveKeys (s : State) (i t d p bits : Nat) : List Nat → Nat → List Served × Nat
  | [], k => ([], k)
  | g :: gs, k =>
    let (v, k) := s.serveKey i t d g p bits k
    let (vs, k) := s.serveKeys i t d p bits gs k
    (v :: vs, k)

/-- The default row of a table. -/
def State.defaultRow (s : State) (t : Nat) : List Nat :=
  (upto (EmbT.dim t)).map (fun k => s.readNat (EmbT.dfltRow t + 4 * k) 4)

/-- One fused step of pooling: P + COEF · x, rounded once. -/
def fmaRow (coef : Nat) (x acc : List Nat) : List Nat := (pairUp x acc).map (fun e => f32fma coef e.1 e.2)

/-- S + P, rounded once. -/
def addRow (a b : List Nat) : List Nat := (pairUp a b).map (fun e => f32add e.1 e.2)

/-- The values a contribution adds: the served row, the default row, or none when it is dropped (R180). -/
def servedValues (t : Nat) (dflt : List Nat) (v : Served) : Option (List Nat) :=
  if v.state = 0 then some (rowValues v.cls (EmbT.dim t) v.row)
  else if EmbT.drop t then none else some dflt

/-- P and K over contributions in order; contributions given the default row, and dropped. -/
def partialSum (t : Nat) (dflt : List Nat) (vs : List Served) (cons : List Con) : List Nat × Nat × Nat × Nat :=
  cons.foldl (fun acc k =>
    let v := nth ⟨0, 0, 4, []⟩ vs k.ref
    match servedValues t dflt v with
    | none => (acc.1, acc.2.1, acc.2.2.1, acc.2.2.2 + 1)
    | some x => (fmaRow k.coef x acc.1, acc.2.1 + k.mult, acc.2.2.1 + (if v.state = 0 then 0 else 1), acc.2.2.2))
    (List.replicate (EmbT.dim t) 0, 0, 0, 0)

def State.serveWork (s : State) (r : CmdRef) (c : Cmd) : State × Res :=
  let i := r.inset
  let p := leNat c.params
  let table := PoolP.table p
  let t := (Dict.embTable s.gaz.regs i table).getD 0
  match s.requests r c with
  | .error e => (s, e)
  | .ok (sl, d) =>
    let rb := rowBytes 3 (EmbT.dim t)
    let mapAt := PoolP.auxAddr p + roundUp (PoolP.fetchMax p * rb) 64
    let mapLen := ceilDiv (PoolP.fetchMax p) 8
    match s.firstBad ((mapAt, mapLen) :: (if EmbT.drop t then [] else [(EmbT.dfltRow t, 4 * EmbT.dim t)])) with
    | some a => (s, .fault (badInputCode a))
    | none =>
      let bits := s.readNat mapAt mapLen
      let s := s.noteReads (sl.map (fun x => (x.1.base, BatH.bytes x.1.hdr)))
      let dflt := s.defaultRow t
      let (outs, _) := sl.foldl (fun acc x =>
        let (vs, k) := s.serveKeys i t d p bits x.2 acc.2
        (acc.1 ++ [(x, vs)], k)) ([], 0)
      let writes := mapIdxFrom (fun j e =>
        let vs := e.2
        let h := e.1.1.hdr
        let isOver := (vs.filter (fun v => v.state == 1)).length
        let unc := (vs.filter (fun v => v.state == 2 || v.state == 3)).length
        let head := fun kind count dfl drp bytes =>
          batchHeader kind (PoolP.site p) 0 table s.nodeId e.1.1.node count 0 d dfl drp isOver unc (BatH.tag h) bytes
        let dst := PoolP.outAddr p + j * PoolP.outStride p
        if PoolP.site p = 0 then
          let (body, bytes) := sections (vs.map (fun v => BitVec.ofNat 8 (v.cls + 4 * v.state))) ((vs.map (·.row)).flatten)
          (dst, head 2 vs.length 0 0 bytes ++ body)
        else
          let cons := s.consAt (e.1.1.base + 64 + roundUp (8 * vs.length) 64) (BatH.contribs h)
          let bags := sortNat (nub (cons.map (·.bag)))
          let sums := bags.map (fun b => (b, partialSum t dflt vs (cons.filter (fun k => k.bag == b))))
          let (body, bytes) := sections ((sums.map (fun x => toLe 16 (x.1 + (x.2.2.1 % 2 ^ 32) * 2 ^ 32))).flatten)
            ((sums.map (fun x => (x.2.1.map (toLe 4)).flatten)).flatten)
          (dst, head 3 sums.length ((sums.map (fun x => x.2.2.2.1)).sum) ((sums.map (fun x => x.2.2.2.2)).sum) bytes
            ++ body)) 0 outs
      let load := (sl.map (·.2)).flatten.filter (inTable t)
      (s, .done { Work.ofWrites writes with
        onCommit := load.map (fun g => Eff.survey i table (2 * EmbT.entries t + (gidShard g - EmbT.shardBase t)) 1)
          ++ s.chartEvents i t ((sl.map (·.2)).flatten) })

/-! ### EMB_POOL (R180, R181) -/

/-- The served rows of a row reply. -/
def State.replyRows (s : State) (t : Nat) (x : InSlot × List Nat) : List Served :=
  let base := x.1.base + 64 + roundUp x.2.length 64
  (x.2.foldl (fun (acc : List Served × Nat) k =>
    let cls := k % 4
    let st := k / 4 % 8
    let rb := rowBytes cls (EmbT.dim t)
    if st = 0 then (acc.1 ++ [⟨0, cls, 0, s.readBytes acc.2 rb⟩], acc.2 + rb)
    else (acc.1 ++ [⟨0, cls, st, []⟩], acc.2)) ([], base)).1

/-- The code of an unserved row (R179). -/
def stateCode (st : Nat) : Nat :=
  if st = 2 then Code.EMB_ROW_UNCORRECTABLE else if st = 3 then Code.EMB_FLASH_LOST
  else if st = 4 then Code.EMB_NOT_OWNER else 0

/-- The partial of bag `b` in a partial reply: P and KEPT. -/
def State.replyPartial (s : State) (t b : Nat) (x : InSlot × List Nat) : Option (List Nat × Nat) :=
  match x.2.findIdx? (fun k => k % 2 ^ 32 == b) with
  | none => none
  | some j =>
    let base := x.1.base + 64 + roundUp (16 * x.2.length) 64 + 4 * EmbT.dim t * j
    some ((upto (EmbT.dim t)).map (fun k => s.readNat (base + 4 * k) 4), bf (nth 0 x.2 j) 63 32)

/-- The pooled vector of a bag and K_b (R180). -/
def State.poolBag (s : State) (t : Nat) (mean : Bool) (dflt : List Nat) (site : Nat)
    (slots : List ((InSlot × List Nat) × List Served)) (cons : List Con) (b : Nat) : List Nat × Nat :=
  let zero := List.replicate (EmbT.dim t) 0
  let mine := cons.filter (fun k => k.bag == b)
  let (sum, k) := (mapIdxFrom (fun o x => (o, x)) 0 slots).foldl (fun acc ox =>
    let part := if site = 1 then s.replyPartial t b ox.2.1
      else match mine.filter (fun k => !k.dflt && k.slot == ox.1) with
        | [] => none
        | ks => let r := partialSum t dflt ox.2.2 ks; some (r.1, r.2.1)
    match part with
    | none => acc
    | some (q, kept) => (addRow acc.1 q, acc.2 + kept)) (zero, 0)
  let ds := mine.filter (·.dflt)
  let p := ds.foldl (fun acc k => fmaRow k.coef dflt acc) zero
  let (sum, k) := if ds.isEmpty then (sum, k) else (addRow sum p, k + (ds.map (·.mult)).sum)
  if k = 0 then (zero, 0)
  else if mean then (sum.map (fun x => fmt32.div (f32 x) (Fl.ofNat k)), k) else (sum, k)

def State.poolWork (s : State) (r : CmdRef) (c : Cmd) : State × Res :=
  let i := r.inset
  let p := leNat c.params
  let table := PoolP.table p
  let t := (Dict.embTable s.gaz.regs i table).getD 0
  let site := PoolP.site p
  match s.takeSlots c (2 + site) table (PoolP.inStride p) true (s.inSlots i (PoolP.inAddr p) (PoolP.inStride p)) with
  | .error e => (s, e)
  | .ok sl =>
    match s.firstBad ((PoolP.auxAddr p, 64) :: (if EmbT.drop t then [] else [(EmbT.dfltRow t, 4 * EmbT.dim t)])) with
    | some a => (s, .fault (badInputCode a))
    | none =>
    let h := s.readNat (PoolP.auxAddr p) 64
    let n := bf h 223 192
    match s.firstBad [(PoolP.auxAddr p + 64, 16 * n)] with
    | some a => (s, .fault (badInputCode a))
    | none =>
    let d := match sl.head? with | some x => BatH.datum x.1.hdr | none => bf h 105 64
    if s.expired i table d (s.stampOf i) then (s, .fault Code.LOOKUP_EXPIRED) else
    let s := s.noteReads (sl.map (fun x => (x.1.base, BatH.bytes x.1.hdr)))
    let cons := s.consAt (PoolP.auxAddr p + 64) n
    let bags := bf h 191 160
    let dflt := s.defaultRow t
    let slots := sl.map (fun x => (x, if site = 0 then s.replyRows t x else []))
    let out := (upto bags).map (fun b => s.poolBag t (PoolP.mean p) dflt site slots cons b)
    let states := if site = 1 then [] else (cons.filter (fun k => !k.dflt)).map (fun k =>
      (nth (Served.mk 0 0 4 []) (nth [] (slots.map (·.2)) k.slot) k.ref).state)
    let unserved := (states.filter (· != 0)).length
    let heads := sl.map (fun x => x.1.hdr)
    let ownDflt := if site = 1 then (heads.map BatH.defaulted).sum else if EmbT.drop t then 0 else unserved
    let ownDrop := if site = 1 then (heads.map BatH.dropped).sum else if EmbT.drop t then unserved else 0
    let isOver := (heads.map BatH.flashOver).sum
    let unc := (heads.map BatH.uncorr).sum
    let empty := (out.filter (fun x => x.2 == 0)).length
    let (flash, s) := if site = 1 then s.draw 32
      else (((slots.map (·.2)).flatten.filter (fun v => v.state == 0 && v.cls == 3)).length, s)
    let code0 := ((states.map stateCode).find? (· != 0)).getD (bf h 127 112)
    let (code, s) := if site = 1 ∧ ownDflt + ownDrop ≠ 0 then s.draw 16 else (code0, s)
    let rec_ := lookupStatus (bf h 63 0) (bf h 105 64) table code
      [bf h 159 128, bags, n, bf h 255 224, bf h 287 256, bf h 319 288 + ownDflt, bf h 351 320 + ownDrop, isOver, unc,
       empty, flash]
    let dim := EmbT.dim t
    let dst := PoolP.outAddr p
    let codes := out.map (fun x => if PoolP.outFmt p = 0 then x.1 else x.1.map (fun v => fmtBf.encode (f32 v)))
    let lay : Layout := if PoolP.outLayout p = 1 then .a 4 dim else .flat (if PoolP.outFmt p = 0 then 32 else 16) dim
    (s, .done { Work.ofWrites (lay.writes dst 0 bags dim (fun b k => nth 0 (nth [] codes b) k)
        ++ [(PoolP.statusAddr p, toLe 64 rec_)]) with
      onCommit := [.lookup i (bf h 63 0) none, .addReg i G.EMB_LOOKUPS 1, .addReg i G.EMB_DEFAULTED ownDflt, .addReg i G.EMB_DROPPED ownDrop,
        .addReg i G.EMB_FLASH_OVER isOver, .addReg i G.EMB_EMPTY_BAGS empty] })

/-! ### EMB_SCATTER (R183) -/

/-- U of one key from its contributions in ascending BAG; `grad` gives the vector of a bag. -/
def combine (mode dim : Nat) (grad : Nat → List Nat) (cons : List Con) : List Nat :=
  let scaled := fun (k : Con) => (grad k.bag).map (f32mul k.coef)
  if mode = 0 then cons.foldl (fun acc k => fmaRow k.coef (grad k.bag) acc) (List.replicate dim 0)
  else if mode = 1 then
    match cons with
    | [] => List.replicate dim 0
    | k :: ks => ks.foldl (fun acc x => (pairUp acc (scaled x)).map (fun e => f32max e.1 e.2)) (scaled k)
  else match cons.getLast? with
    | some k => grad k.bag
    | none => List.replicate dim 0

/-- GID of each key of owner slot `k`: the keys of the lookup's request batch where it stands in that slot of the
exchange area the command writes; the manual gives EMB_SCATTER no other place of them, and they are free values where no
such batch stands (DEDUCED, log entry 51). -/
def State.scatterKeys (s : State) (p k n : Nat) (refs : List Nat) : State × List Nat :=
  let base := PoolP.outAddr p + k * PoolP.outStride p
  let h := s.readNat base 64
  let found := BatH.magic h == 0x45424154 && BatH.kind h == 1 && BatH.table h == PoolP.table p && decide (n ≤ BatH.count h)
  if found then (s, refs.map (fun j => s.readNat (base + 64 + 8 * j) 8))
  else refs.foldl (fun acc _ => let (g, s) := acc.1.draw 64; (s, acc.2 ++ [g])) (s, [])

def State.scatterWork (s : State) (r : CmdRef) (c : Cmd) : State × Res :=
  let i := r.inset
  let p := leNat c.params
  let table := PoolP.table p
  let t := (Dict.embTable s.gaz.regs i table).getD 0
  let dim := EmbT.dim t
  match s.readFault c [(PoolP.auxAddr p, 64)] with
  | some f => (s, f)
  | none =>
    let h := s.readNat (PoolP.auxAddr p) 64
    let n := bf h 223 192
    let bags := bf h 191 160
    let reads := [(PoolP.auxAddr p, 64 + 16 * n), (PoolP.inAddr p, 4 * dim * bags)]
    match s.readFault { c with rehearsed := 0 } reads with
    | some f => (s, f)
    | none =>
      let s := s.noteReads reads
      let cons := s.consAt (PoolP.auxAddr p + 64) n
      let kOf := fun b => ((cons.filter (fun k => k.bag == b)).map (·.mult)).sum
      let grad := fun b =>
        let g := (upto dim).map (fun k => s.readNat (PoolP.inAddr p + 4 * (b * dim + k)) 4)
        if PoolP.mean p then g.map (fun x => fmt32.div (f32 x) (Fl.ofNat (kOf b))) else g
      let live := cons.filter (fun k => !k.dflt && decide (k.bag < bags) && decide (kOf k.bag ≠ 0))
      let nodes := Dict.embNodes s.gaz.regs i
      let mode := PoolP.scatter p
      let (s, ws, conflicts) := (mapIdxFrom (fun k n => (k, n)) 0 nodes).foldl (fun acc kn =>
        let (s, ws, cf) := acc
        let mine := live.filter (fun x => x.slot == kn.1)
        let refs := sortNat (nub (mine.map (·.ref)))
        let (s, gids) := s.scatterKeys p kn.1 ((refs.getLast?.map (· + 1)).getD 0) refs
        let us := refs.map (fun j => combine mode dim grad (mine.filter (fun x => x.ref == j)))
        let (body, bytes) := sections ((gids.map (toLe 8)).flatten) ((us.map (fun u => (u.map (toLe 4)).flatten)).flatten)
        let more := (refs.filter (fun j => decide (1 < (mine.filter (fun x => x.ref == j)).length))).length
        (s, ws ++ [(PoolP.outAddr p + kn.1 * PoolP.outStride p,
            batchHeader 4 0 mode table s.nodeId kn.2 refs.length 0 0 0 0 0 0 0 bytes ++ body)],
          cf + (if mode = 2 then more else 0))) (s, [], 0)
      (s, .done { Work.ofWrites ws with onCommit := [.addReg i G.SET_CONFLICT conflicts] })

/-! ### EMB_APPLY (R184 to R186, R203) -/

/-- What became of one key of an update. -/
structure Applied where
  writes  : List (Nat × Bytes)
  /-- 0 written, else the per-row code. -/
  code    : Nat
  sat     : Nat
deriving DecidableEq, Repr

/-- An apply report (Table 8-10). -/
def applyReport (keys conflicts : Nat) (rs : List Applied) (seq : Nat) : Nat :=
  let count := fun code => (rs.filter (fun a => a.code == code)).length
  keys % 2 ^ 32 + count 0 * 2 ^ 32 + (conflicts % 2 ^ 32) * 2 ^ 64 + ((rs.map (·.sat)).sum % 2 ^ 32) * 2 ^ 96
    + count Code.EMB_FLASH_UPDATE * 2 ^ 128 + count Code.EMB_ROW_UNCORRECTABLE * 2 ^ 160
    + (((rs.map (·.code)).find? (· != 0)).getD 0) * 2 ^ 192 + (seq % 2 ^ 42) * 2 ^ 208

/-- One row updated: `f` gives r′ from the row as fp32 (R185, R186). -/
def State.updateRow (s : State) (i t n seed g : Nat) (f : List Nat → List Nat) : Applied :=
  match s.ownRow i t (n - 1) g with
  | none => ⟨[], Code.EMB_NOT_OWNER, 0⟩
  | some x =>
    if x.cls = 3 then ⟨[], Code.EMB_FLASH_UPDATE, 0⟩
    else
      let l := s.rowLoc i t (n - 1) g x
      let rb := rowBytes x.cls (EmbT.dim t)
      if (s.firstBad ((l.addr, rb) :: l.reads)).isSome then ⟨[], Code.EMB_ROW_UNCORRECTABLE, 0⟩
      else
        let old := s.readBytes l.addr rb
        let (row, sat) := newRow t x.cls seed g old (f (rowValues x.cls (EmbT.dim t) old))
        ⟨s.versionWrites i t g n l row, 0, sat⟩

/-- T over the sources of one key, in slot order (R184). -/
def ownerCombine (mode dim : Nat) (us : List (List Nat)) : List Nat :=
  if mode = 0 then us.foldl addRow (List.replicate dim 0)
  else if mode = 1 then
    match us with
    | [] => List.replicate dim 0
    | u :: r => r.foldl (fun acc x => (pairUp acc x).map (fun e => f32max e.1 e.2)) u
  else us.getLast?.getD (List.replicate dim 0)

/-- r′ from r and T (R184). -/
def applyRule (mode alpha : Nat) (tt r : List Nat) : List Nat :=
  (pairUp tt r).map (fun e =>
    if mode = 0 then f32fma alpha e.1 e.2 else if mode = 1 then f32max e.2 e.1 else e.1)

def State.applyWork (s : State) (r : CmdRef) (c : Cmd) : State × Res :=
  let i := r.inset
  let p := leNat c.params
  let table := PoolP.table p
  let t := (Dict.embTable s.gaz.regs i table).getD 0
  let dim := EmbT.dim t
  match s.takeSlots c 4 table (PoolP.inStride p) false (s.inSlots i (PoolP.inAddr p) (PoolP.inStride p)) with
  | .error e => (s, e)
  | .ok sl =>
    let mode := match sl.head? with | some x => BatH.scatter x.1.hdr | none => PoolP.scatter p
    if !sl.all (fun x => BatH.scatter x.1.hdr == mode) then (s, .fault Code.EMB_BATCH)
    else if PoolP.inMax p < (sl.map (·.2.length)).sum then (s, .fault Code.EMB_OVERFLOW)
    else
      let s := s.noteReads (sl.map (fun x => (x.1.base, BatH.bytes x.1.hdr)))
      let mine := (sl.map (·.2)).flatten.filter (fun g => gidLocal g % PoolP.parts p == PoolP.part p)
      let keys := sortNat (nub mine)
      let body := fun (x : InSlot × List Nat) g => match x.2.findIdx? (· == g) with
        | none => none
        | some j =>
          let base := x.1.base + 64 + roundUp (8 * x.2.length) 64 + 4 * dim * j
          some ((upto dim).map (fun k => s.readNat (base + 4 * k) 4))
      let n := s.stampOf i
      let rs := keys.map (fun g =>
        let us := sl.filterMap (fun x => body x g)
        let tt := ownerCombine mode dim us
        s.updateRow i t n (PoolP.seed p) g (applyRule mode (PoolP.alpha p) tt))
      let conflicts := if mode = 2 then
        (keys.filter (fun g => decide (1 < (mine.filter (· == g)).length))).length else 0
      let count := fun code => (rs.filter (fun a => a.code == code)).length
      (s, .done { Work.ofWrites ((rs.map (·.writes)).flatten
          ++ [(PoolP.statusAddr p, toLe 64 (applyReport keys.length conflicts rs n))]) with
        onCommit := s.chartEvents i t keys ++ [.addReg i G.SET_CONFLICT conflicts, .addReg i G.EMB_ROWS_APPLIED (count 0),
          .addReg i G.EMB_SAT ((rs.map (·.sat)).sum), .addReg i G.UPDATE_SKIPPED (count Code.EMB_FLASH_UPDATE),
          .addReg i G.MIG_STALE_UPDATE (count Code.EMB_NOT_OWNER)] })

/-! ### The rows -/

/-- EMB_ROUTE. -/
def execEmbRoute (c : CmdRef) (hw : Hw) (s : State) : Host.Outcome State Fault Refusal :=
  s.engineRow c hw 6 1 (fun _ => true) (fun s x => s.routeWork c x)

/-- EMB_FETCH_LIST. -/
def execEmbFetchList (c : CmdRef) (hw : Hw) (s : State) : Host.Outcome State Fault Refusal :=
  s.engineRow c hw 6 2 (fun _ => true) (fun s x => s.fetchListWork c x)

/-- EMB_SERVE. -/
def execEmbServe (c : CmdRef) (hw : Hw) (s : State) : Host.Outcome State Fault Refusal :=
  s.engineRow c hw 6 3 (fun _ => true) (fun s x => s.serveWork c x)

/-- EMB_POOL. -/
def execEmbPool (c : CmdRef) (hw : Hw) (s : State) : Host.Outcome State Fault Refusal :=
  s.engineRow c hw 6 4 (fun _ => true) (fun s x => s.poolWork c x)

/-- EMB_SCATTER. -/
def execEmbScatter (c : CmdRef) (hw : Hw) (s : State) : Host.Outcome State Fault Refusal :=
  s.engineRow c hw 6 5 (fun _ => true) (fun s x => s.scatterWork c x)

/-- EMB_APPLY. -/
def execEmbApply (c : CmdRef) (hw : Hw) (s : State) : Host.Outcome State Fault Refusal :=
  s.engineRow c hw 6 6 (fun _ => true) (fun s x => s.applyWork c x)

end Sys2Proof.Machine
end

