-- ==== Sys2Proof/Machine/BankSide.lean ====
section
/-!
DEFINITION. Bank-side units (chapter 10): modes and their sequence, BSU_RUN with its operations, BSU_QLOAD, held accesses
and the aperture.
-/

namespace Sys2Proof.Machine

/-! Parameter blocks (Tables 10-5 to 10-7, R222) -/
namespace ModeP
def mask (p : Nat) : Nat := bf p 31 0
def target (p : Nat) : Bool := bit p 32
def cap (p c : Nat) : Nat := bf p (6 * c + 69) (6 * c + 64)
def reservedOk (p : Nat) : Bool := bf p 63 33 == 0 && bf p 383 256 == 0
/-- The mode byte a channel of the stack is to have. -/
def byte (p c : Nat) : Nat := if target p then 1 + 2 * cap p c else 0
end ModeP

namespace RunP
def count (p : Nat) : Nat := bf p 15 0
def dst (p : Nat) : Nat := bf p 127 64
def op (p k : Nat) : Nat := bf p (256 * (k + 1) + 255) (256 * (k + 1))
def reservedOk (p : Nat) : Bool := bf p 63 16 == 0 && bf p 255 128 == 0
end RunP

namespace OpD
def op (d : Nat) : Nat := bf d 7 0
def channel (d : Nat) : Nat := bf d 12 8
def line (d : Nat) : Nat := bf d 27 16
def q (d : Nat) : Nat := bf d 38 32
def dim (d : Nat) : Nat := bf d 60 48
def src (d : Nat) : Nat := bf d 95 64
def count (d : Nat) : Nat := bf d 127 96
def stride (d : Nat) : Nat := bf d 159 128
def dstOff (d : Nat) : Nat := bf d 191 160
def arg (d : Nat) : Nat := bf d 223 192
def reservedOk (d : Nat) : Bool :=
  bf d 15 13 == 0 && bf d 31 28 == 0 && bf d 47 39 == 0 && bf d 63 61 == 0 && bf d 255 224 == 0
def scoring (d : Nat) : Bool := decide (1 ≤ op d) && decide (op d ≤ 3)
/-- Query cache lines of one query, and of all. -/
def linesPer (d : Nat) : Nat := if op d = 1 then 1 else ceilDiv (dim d) 64
def lines (d : Nat) : Nat := if scoring d then q d * linesPer d else 0
/-- Bytes of one item. -/
def itemBytes (d : Nat) : Nat :=
  if op d = 2 ∨ op d = 3 then dim d else if op d = 4 then 4 else if op d = 5 then 16 else 64
/-- Byte offset of item `i` in the channel. -/
def itemOff (d i : Nat) : Nat := src d + i * (if scoring d then stride d else itemBytes d)
/-- First byte past the items. -/
def srcEnd (d : Nat) : Nat := if count d = 0 then src d else itemOff d (count d - 1) + itemBytes d
/-- Largest result record: status and output. -/
def resultMax (d : Nat) : Nat :=
  16 + (if scoring d then 4 * count d * q d else if op d = 4 then 4 * count d else if op d = 5 then 4 * dim d else 0)
/-- Fields in the ranges of Tables 10-7 and 10-8. -/
def formOk (d : Nat) : Bool :=
  let o := op d
  (scoring d || o == 4 || o == 5 || o == 0x10 || o == 0x11)
    && (if scoring d then decide (1 ≤ q d) && decide (q d ≤ 64) else q d == 0)
    && (if o = 2 ∨ o = 3 then decide (1 ≤ dim d) && decide (dim d ≤ 4096)
        else if o = 5 then decide (16 ≤ dim d) && decide (dim d ≤ 2048) && dim d % 16 == 0 else dim d == 0)
    && (if scoring d then stride d % 64 == 0 && decide (itemBytes d ≤ stride d) else stride d == 0)
end OpD

namespace LoadP
def src (p : Nat) : Nat := bf p 63 0
def mask (p : Nat) : Nat := bf p 95 64
def line (p : Nat) : Nat := bf p 107 96
def lines (p : Nat) : Nat := bf p 120 108
def reservedOk (p : Nat) : Bool := bf p 255 121 == 0
end LoadP

/-- Logical channel `c` of a command's stack. -/
def Cmd.channel (c : Cmd) (k : Nat) : Nat := 32 * c.index + k

/-- Channels that a bank-side command names. -/
def Cmd.bsuChannels (c : Cmd) : List Nat :=
  let p := leNat c.params
  if c.opcode = 1 then (setBits 32 0 (ModeP.mask p)).map c.channel
  else if c.opcode = 2 then nub ((upto (RunP.count p)).map (fun k => c.channel (OpD.channel (RunP.op p k))))
  else (setBits 32 0 (LoadP.mask p)).map c.channel

/-- A BSU_RUN or BSU_QLOAD names a channel that is not in PROC. -/
def State.notProc (s : State) (c : Cmd) : Bool :=
  c.engine == 7 && (c.opcode == 2 || c.opcode == 3) && c.bsuChannels.any (fun g => !bit (s.unit g).mode 0)

/-! ### Modes (R213, R214) -/

/-- The commit point of a mode change for one channel: READ_CAP alone at once, nothing when already in MEM, else the
sequence waits for the channel's slot. -/
def State.askMode (s : State) (ch mode : Nat) : State :=
  let u := s.unit ch
  if bit mode 0 && bit u.mode 0 then s.setUnit ch { u with mode := mode }
  else if !bit mode 0 && !bit u.mode 0 then s
  else s.setUnit ch { u with change := some mode }

/-- BSU_MODE. -/
def execBsuMode (c : CmdRef) (s : State) : Host.Outcome State Fault Refusal :=
  s.engineRow c .ok 7 1 (fun _ => false) (fun s x =>
    let p := leNat x.params
    (s, .done { Work.none with
      onCommit := (setBits 32 0 (ModeP.mask p)).map (fun k => Eff.modeChange (x.channel k) (ModeP.byte p k)) }))

/-! ### The aperture (R226 to R228) -/

/-- AP_DONE: every sequence up to it has been performed or refused. -/
def StackUnit.settled (u : StackUnit) : StackUnit :=
  { u with apDone := match u.queue.head? with
    | some e => e.2 - 1
    | none => u.apSeq }

/-- An aperture operation refused. -/
def State.apRefuse (s : State) (ch seq : Nat) : State :=
  let u := s.unit ch
  (s.setUnit ch { u with apCode := Code.BSU_APERTURE_REFUSED, apCodeSeq := seq % 2 ^ 48 }).bumpNode
    G.BSU_APERTURE_REFUSED 1

/-- Every queued operation refused. -/
def State.apRefuseAll (s : State) (ch : Nat) : State :=
  let q := (s.unit ch).queue
  let s := q.foldl (fun s e => s.apRefuse ch e.2) s
  s.setUnit ch { s.unit ch with queue := [] }.settled

/-- BSU_CYC of the time a channel in PROC has spent there in the running tick, in BSU cycles, charged to its owner
(Table 15-5). -/
def State.chargeProc (s : State) (ch now : Nat) : State :=
  match Dict.channelOwner s.gaz.regs ch with
  | some i => s.charge i 4 ((now - max (s.unit ch).procAt s.tick.lastAt) / 2)
  | none => s

/-- MODE_CHANGE_SEQUENCE: the sequence of Table 10-2 for a channel with a change waiting, within its rotation slot
(R214). -/
def execModeChangeSequence (channel : Nat) (s : State) : Host.Outcome State Fault Refusal :=
  if channel ≥ 256 then .fault .noSuchInstance else
  match (s.unit channel).change with
  | none => .next s
  | some m =>
    if s.clk.cycle / 2400 % 4 ≠ channel % 4 then .next s else
    let s := if bit m 0 then s else s.apRefuseAll channel
    let u := s.unit channel
    let s := if bit u.mode 0 then s.chargeProc channel s.clk.cycle else s
    let s := s.setUnit channel { u with
      mode := m, change := none, qcache := [], epoch := (u.epoch + 1) % 2 ^ 32, procAt := s.clk.cycle }
    .next ((s.bumpNode G.BSU_MODE_CHANGES 1).serveHeld)

/-! ### Operations (R220, R221) -/

/-- What an operation gives. -/
structure OpRes where
  out    : Bytes
  outN   : Nat
  err    : Nat
  /-- Words corrected, and words that are uncorrectable or poisoned, among those the operation reads. -/
  fixed  : Nat
  met    : Nat
  writes : List (Nat × Bytes)
  poison : List Nat
deriving DecidableEq, Repr

/-- A query cache line; one not loaded since the channel entered PROC reads as zero codes (Table 18-4). -/
def State.queryLine (s : State) (g n : Nat) : Nat := (s.unit g).qcache.get 0 n

/-- Lines that a scoring operation reads before they are loaded. -/
def State.unloaded (s : State) (g d : Nat) : Nat :=
  if OpD.count d = 0 then 0 else
  ((rangeFrom (OpD.line d) (OpD.lines d)).filter (fun n => (Tab.find (s.unit g).qcache n).isNone)).length

/-- Σ over pairs. -/
def dotI8 (q x : List Nat) : Int := ((pairUp q x).map (fun e => sext 8 e.1 * sext 8 e.2)).foldl (· + ·) 0
def l2I8 (q x : List Nat) : Int :=
  -((pairUp q x).map (fun e => (sext 8 e.1 - sext 8 e.2) * (sext 8 e.1 - sext 8 e.2))).foldl (· + ·) 0

/-- Score of one item against query `j`. -/
def State.opScore (s : State) (g d j : Nat) (item : Bytes) : Int :=
  let at_ := OpD.line d + j * OpD.linesPer d
  if OpD.op d = 1 then sketchScore (toLe 64 (s.queryLine g at_)) (leNat item)
  else
    let q := ((upto (OpD.linesPer d)).flatMap (fun k => toLe 64 (s.queryLine g (at_ + k)))).map BitVec.toNat
    let x := item.map BitVec.toNat
    if OpD.op d = 2 then dotI8 q x else l2I8 q x

/-- Stack words in a condition that some range of a list touches, each once. -/
def State.wordsIn (s : State) (p : WordState → Bool) (ranges : List (Nat × Nat)) : Nat :=
  (s.mem.chk.filter (fun e => p (s.mem.wordState e.1)
    && ranges.any (fun r => decide (r.1 < 64 * e.1 + 64) && decide (64 * e.1 < r.1 + r.2)))).length

/-- One operation on channel `g` over memory as it stands; `forced` makes its first item read as uncorrectable, with
correct data in a copy. -/
def State.runOp (s : State) (g d : Nat) (forced : Bool) : OpRes :=
  let base := g * channelBytes
  let n := OpD.count d
  let ib := OpD.itemBytes d
  let idx := upto n
  let at_ := fun i => base + OpD.itemOff d i
  let rowAddr := fun i => base + bf (s.readNat (at_ i) 16) 31 0
  let rowLen := fun i => rowBytes (bf (s.readNat (at_ i) 16) 33 32) (OpD.dim d)
  let really := fun i => s.rangeBad (at_ i) ib || (OpD.op d == 5 && s.rangeBad (rowAddr i) (rowLen i))
  let bad := fun i => really i || (forced && i == 0)
  let err := (idx.filter bad).length
  let read := idx.map (fun i => (at_ i, ib)) ++ (if OpD.op d = 5 then
    (idx.filter (fun i => !s.rangeBad (at_ i) ib)).map (fun i => (rowAddr i, rowLen i)) else [])
  let fixed := s.wordsIn WordState.isCorrected read
  let met := s.wordsIn WordState.isBad read
  if OpD.scoring d then
    let out := idx.flatMap (fun i => (upto (OpD.q d)).flatMap (fun j =>
      toLe 4 (if bad i then 0x80000000 else wrapInt 32 (s.opScore g d j (s.readBytes (at_ i) ib)))))
    ⟨out, n * OpD.q d, err, fixed, met, [], []⟩
  else if OpD.op d = 4 then
    let hit := idx.filter (fun i => !bad i && decide (sext 32 (OpD.arg d) ≤ sext 32 (s.readNat (at_ i) 4)))
    ⟨hit.flatMap (toLe 4), hit.length, err, fixed, met, [], []⟩
  else if OpD.op d = 5 then
    let p := (idx.filter (fun i => !bad i)).foldl (fun acc i =>
      let e := s.readNat (at_ i) 16
      fmaRow (bf e 95 64) (rowValues (bf e 33 32) (OpD.dim d) (s.readBytes (rowAddr i) (rowLen i))) acc)
      (List.replicate (OpD.dim d) 0)
    ⟨p.flatMap (toLe 4), OpD.dim d, err, fixed, met, [], []⟩
  else if OpD.op d = 0x10 then
    ⟨[], 0, 0, 0, 0, idx.map (fun i => (at_ i, (List.replicate 16 (toLe 4 (OpD.arg d))).flatten)), []⟩
  else
    let dst := fun i => base + OpD.arg d + 64 * i
    ⟨[], 0, err, fixed, met, idx.map (fun i => (dst i, s.readBytes (at_ i) 64)), (idx.filter really).map (fun i => dst i)⟩

/-- The 16-byte status of an operation. -/
def opStatus (d code : Nat) (r : OpRes) : Bytes :=
  toLe 16 (OpD.op d + (code % 65536) * 2 ^ 16 + OpD.count d * 2 ^ 32 + (r.err % 2 ^ 32) * 2 ^ 64 + (r.outN % 2 ^ 32) * 2 ^ 96)

/-- Words met by units, counted; a forced item is none. Query cache lines not loaded advance QC_UNLOADED. -/
def State.countOp (s : State) (g d : Nat) (r : OpRes) : State :=
  ((s.bumpNode G.BSU_UNCORR r.met).bumpNode G.BSU_CORRECTED r.fixed).bumpNode G.QC_UNLOADED (s.unloaded g d)

/-- Storage words of a list of node addresses. -/
def storageOfAll (l : List Nat) : List Nat := l.filterMap (fun a => (storageOf a).map (· / 64))

/-- Operation `k` of a running BSU_RUN performed: its result record and bank writes join the command's staging. -/
def State.planOp (s : State) (r : CmdRef) (k : Nat) : State :=
  match s.cmd r with
  | none => s
  | some c =>
    let p := leNat c.params
    let d := RunP.op p k
    let view := s.staged c.writes
    let view := { view with mem := (storageOfAll c.poison).foldl MemState.poisonWord view.mem }
    let forced := k == 0 && decide (0 < OpD.count d) && (c.rehearsed == 0x00A || (c.rehearsed == 0x005 && c.hasT1))
    let o := view.runOp (c.channel (OpD.channel d)) d forced
    let code := if forced then 0x8000 + c.rehearsed else if o.err = 0 then 0 else Code.BSU_UNCORRECTABLE
    let s := s.modCmd r (fun x => { x with
      writes := x.writes ++ o.writes ++ [(RunP.dst p + OpD.dstOff d, opStatus d code o ++ o.out)],
      poison := x.poison ++ o.poison, progress := x.progress ++ [k] })
    let s := s.countOp (c.channel (OpD.channel d)) d o
    if forced then s.bump r.inset G.REHEARSAL_COUNT 1 else s

/-- The operations before `k` on its channel are done, and `k` is not. -/
def Cmd.opReady (c : Cmd) (k : Nat) : Bool :=
  let p := leNat c.params
  decide (k < RunP.count p) && !c.progress.contains k
    && (upto k).all (fun j => OpD.channel (RunP.op p j) != OpD.channel (RunP.op p k) || c.progress.contains j)

/-- One operation row of a running BSU_RUN: `kind` is the row's operation. Operations on one channel run in list
order (R221). -/
def State.opRow (s : State) (r : CmdRef) (k : Nat) (hw : Hw) (kind : Nat) : Host.Outcome State Fault Refusal :=
  if !refOk r then .fault .noSuchInstance else
  match s.running r 7 2 with
  | none => .next s
  | some c =>
    if !c.opReady k || OpD.op (RunP.op (leNat c.params) k) ≠ kind then .next s
    else match s.hwFault r c hw with
      | some s' => .next s'
      | none => .next (s.planOp r k)

/-- BSU_RUN: the operations still to do run in list order, and the command finishes. -/
def execBsuRun (c : CmdRef) (hw : Hw) (s : State) : Host.Outcome State Fault Refusal :=
  s.engineRowOpen c hw 7 2 (fun _ => false) (fun s x =>
    let todo := (upto (RunP.count (leNat x.params))).filter (fun k => !x.progress.contains k)
    let s := todo.foldl (fun s k => s.planOp c k) s
    match s.cmd c with
    | some y => (s, .done { Work.none with writes := y.writes, poison := y.poison })
    | none => (s, .done Work.none))

/-- SCORE_SKETCH. -/
def execScoreSketch (c : CmdRef) (op : Nat) (hw : Hw) (s : State) : Host.Outcome State Fault Refusal := s.opRow c op hw 0x01
/-- DOT_I8. -/
def execDotI8 (c : CmdRef) (op : Nat) (hw : Hw) (s : State) : Host.Outcome State Fault Refusal := s.opRow c op hw 0x02
/-- L2_I8. -/
def execL2I8 (c : CmdRef) (op : Nat) (hw : Hw) (s : State) : Host.Outcome State Fault Refusal := s.opRow c op hw 0x03
/-- CMP_SELECT. -/
def execCmpSelect (c : CmdRef) (op : Nat) (hw : Hw) (s : State) : Host.Outcome State Fault Refusal := s.opRow c op hw 0x04
/-- POOL_ROWS. -/
def execPoolRows (c : CmdRef) (op : Nat) (hw : Hw) (s : State) : Host.Outcome State Fault Refusal := s.opRow c op hw 0x05
/-- FILL. -/
def execFill (c : CmdRef) (op : Nat) (hw : Hw) (s : State) : Host.Outcome State Fault Refusal := s.opRow c op hw 0x10
/-- COPY. -/
def execCopy (c : CmdRef) (op : Nat) (hw : Hw) (s : State) : Host.Outcome State Fault Refusal := s.opRow c op hw 0x11

/-- BSU_QLOAD (R222). -/
def execBsuQload (c : CmdRef) (hw : Hw) (s : State) : Host.Outcome State Fault Refusal :=
  s.engineRow c hw 7 3 (fun _ => true) (fun s x =>
    let p := leNat x.params
    let reads := [(LoadP.src p, 64 * LoadP.lines p)]
    match s.readFault x reads with
    | some f => (s, f)
    | none =>
      let s := s.noteReads reads
      (s, .done { Work.none with
        onDrain := (setBits 32 0 (LoadP.mask p)).flatMap (fun k => (upto (LoadP.lines p)).map (fun n =>
          Eff.qcLine (x.channel k) (LoadP.line p + n) (s.readNat (LoadP.src p + 64 * n) 64))) }))

/-- BSU_HOLD_POISON: the access held longest by the channel completes with an error, once BSU_HOLD_BOUND has passed since
its arrival (R217). -/
def execBsuHoldPoison (channel : Nat) (s : State) : Host.Outcome State Fault Refusal :=
  if channel ≥ 256 then .fault .noSuchInstance else
  match s.host.held.find? (fun h => touches h.addr h.len channel && s.inProc h.addr h.len) with
  | none => .next s
  | some h =>
    if s.clk.cycle < h.at_ + nsCycles (s.node G.BSU_HOLD_BOUND) then .next s
    else .next (({ s with host := { s.host with held := s.host.held.erase h } }).holdPoison h)

/-! ### Aperture operations -/

/-- 64-cycle slowdown of a READ_CAP as a fraction (R212). -/
def capFactor (mode : Nat) : Nat × Nat := if bf mode 6 1 = 0 then (1, 1) else (64, bf mode 6 1)

/-- Cycles of one item (Table 10-9). -/
def itemCost (mode d : Nat) : Nat :=
  let (kn, kd) := capFactor mode
  let g := ceilDiv (16 * min (OpD.stride d) 2048) 2048
  let o := OpD.op d
  if o = 1 then max (OpD.q d) (max (ceilDiv kn (2 * kd)) g)
  else if o = 2 ∨ o = 3 then max (OpD.q d * ceilDiv (OpD.dim d) 64) (max (ceilDiv (kn * OpD.dim d) (128 * kd)) g)
  else if o = 4 then ceilDiv kn kd
  else if o = 5 then max (ceilDiv (OpD.dim d) 16) (max (ceilDiv (kn * rowBytes 0 (OpD.dim d)) (128 * kd)) 16)
  else if o = 0x11 then ceilDiv kn (2 * kd)
  else 1

/-- A range of the channel that the aperture may touch: storage of the Inset outside its stack staging region. -/
def Dict.apStorage (d : Dict) (i ch lo hi : Nat) : Bool :=
  let a := ch * channelBytes
  decide (hi ≤ 0xBFFC0000) && decide (lo ≤ hi)
    && !(decide (a + lo < Dict.num d i G.STAGE_T1_BASE + Dict.num d i G.STAGE_T1_BYTES)
      && decide (Dict.num d i G.STAGE_T1_BASE < a + hi))

/-- Row offsets that a POOL_ROWS reaches, with their ends. -/
def State.apRows (s : State) (ch d : Nat) : List (Nat × Nat) :=
  if OpD.op d = 5 then (upto (OpD.count d)).map (fun i =>
    let e := s.readNat (ch * channelBytes + OpD.itemOff d i) 16
    (bf e 31 0, bf e 31 0 + rowBytes (bf e 33 32) (OpD.dim d)))
  else []

/-- An aperture operation may be performed (R227). -/
def State.apAllowed (s : State) (ch d : Nat) : Bool :=
  match Dict.channelOwner s.gaz.regs ch with
  | none => false
  | some i =>
    OpD.formOk d && decide (itemCost (s.unit ch).mode d ≤ 64)
      && (OpD.lines d == 0 || (decide (s.num i G.BSU_QC_SPLIT ≤ OpD.line d) && decide (OpD.line d + OpD.lines d ≤ 4096)))
      && decide (s.num i G.BSU_RES_SPLIT ≤ OpD.dstOff d) && decide (OpD.dstOff d + OpD.resultMax d ≤ 655360)
      && Dict.apStorage s.gaz.regs i ch (OpD.src d) (OpD.srcEnd d)
      && (OpD.op d != 0x11 || Dict.apStorage s.gaz.regs i ch (OpD.arg d) (OpD.arg d + 64 * OpD.count d))

/-- Bytes 24 to 31 of a command slot written: the descriptor is enqueued, or refused (R227). While the channel is in MEM
the write is discarded. -/
def State.apEnqueue (s : State) (ch slot last : Nat) : State :=
  let u := s.unit ch
  if !bit u.mode 0 then s else
  let slots := u.slots.set (4 * slot + 3) last
  let word := fun k => slots.get 0 (4 * slot + k)
  let d := word 0 + word 1 * 2 ^ 64 + word 2 * 2 ^ 128 + last * 2 ^ 192
  let seq := u.apSeq + 1
  let u := { u with slots := slots, apSeq := seq }
  if u.queue.length ≥ 64 || !s.apAllowed ch d then
    let s := (s.setUnit ch u).apRefuse ch seq
    s.setUnit ch (s.unit ch).settled
  else s.setUnit ch { u with queue := u.queue ++ [(d, seq)] }.settled

/-- APERTURE_ENQUEUE. -/
def execApertureEnqueue (channel slot : Nat) (data : Bytes) (s : State) : Host.Outcome State Fault Refusal :=
  if channel ≥ 256 ∨ slot ≥ 2048 then .fault .noSuchInstance
  else .next (s.apEnqueue channel slot (leNat (data.take 8)))

/-- AP_FLUSH. -/
def execApFlush (channel : Nat) (s : State) : Host.Outcome State Fault Refusal :=
  if channel ≥ 256 then .fault .noSuchInstance
  else if bit (s.unit channel).mode 0 then .next (s.apRefuseAll channel) else .next s

/-- A planned operation is queued on the channel. -/
def State.planQueued (s : State) (ch : Nat) : Bool :=
  (upto 16).any (fun i => match (s.inset i).sheet with
    | none => false
    | some sh => sh.cmds.any (fun c => c.phase == .running && c.engine == 7 && c.opcode == 2
        && (upto (RunP.count (leNat c.params))).any (fun k =>
            c.channel (OpD.channel (RunP.op (leNat c.params) k)) == ch && !c.progress.contains k)))

/-- APERTURE_OPERATION: the first queued operation is performed, in cycles with no planned operation queued. -/
def execApertureOperation (channel : Nat) (_hw : Hw) (s : State) : Host.Outcome State Fault Refusal :=
  if channel ≥ 256 then .fault .noSuchInstance else
  let u := s.unit channel
  match u.queue with
  | [] => .next s
  | (d, seq) :: rest =>
    if !bit u.mode 0 || s.planQueued channel then .next s else
    let s := s.setUnit channel { u with queue := rest }.settled
    let i := (Dict.channelOwner s.gaz.regs channel).getD 0
    if !(s.apRows channel d).all (fun e => Dict.apStorage s.gaz.regs i channel e.1 e.2) then .next (s.apRefuse channel seq)
    else
      let o := s.runOp channel d false
      let code := if o.err = 0 then 0 else Code.BSU_UNCORRECTABLE
      let s := o.writes.foldl (fun s w => s.storeBytes w.1 w.2) s
      let s := o.poison.foldl (fun s a => s.poisonRange a 64) s
      let s := s.countOp channel d o
      let u := s.unit channel
      let bytes := opStatus d code o ++ o.out
      .next (s.setUnit channel { u with
        result := (mapIdxFrom (fun k b => (OpD.dstOff d + k, b)) 0 bytes).foldl (fun t e => t.set e.1 e.2.toNat) u.result })

end Sys2Proof.Machine
end

