-- ==== Sys2Proof/Machine/GazCore.lean ====
section
/-!
DEFINITION. The Gazetteer server's shared steps (R353 to R363): the frame, path rights, the entry and value checks in
the order of Table 17-9, DOMAIN segments, responses, and the form of every write-only entry's row.
-/

namespace Sys2Proof.Machine

/-! ### Frame header (Table 17-5) -/
namespace GazH
def version (h : Nat) : Nat := bf h 7 0
def op (h : Nat) : Nat := bf h 11 8
def resp (h : Nat) : Bool := bit h 12
def last (h : Nat) : Bool := bit h 13
def nodeScope (h : Nat) : Bool := bit h 14
def inset (h : Nat) : Nat := bf h 19 16
def index (h : Nat) : Nat := bf h 47 32
def sub (h : Nat) : Nat := bf h 55 48
def type (h : Nat) : Nat := bf h 63 56
def len (h : Nat) : Nat := bf h 127 112
def offset (h : Nat) : Nat := bf h 159 128
def total (h : Nat) : Nat := bf h 191 160
def arg (h : Nat) : Nat := bf h 255 192
/-- The header can be read as a request. -/
def formed (h : Nat) (data : Bytes) : Bool :=
  version h == 1 && decide (1 ≤ op h) && decide (op h ≤ 8) && !resp h && decide (1 ≤ type h) && decide (type h ≤ 9)
    && decide (len h ≤ 1024) && len h == data.length
def reservedOk (h : Nat) : Bool := !bit h 15 && bf h 31 20 == 0
end GazH

end Sys2Proof.Machine

namespace Sys2Proof

open Sys2Proof.Machine

def GazReq.op (r : GazReq) : Nat := GazH.op r.hdr
def GazReq.key (r : GazReq) : Nat := GazH.index r.hdr * 256 + GazH.sub r.hdr
/-- Instance named: an Inset, or 16 for the node; the staged set of CHECK, APPLY, DISCARD and SET_STATE. -/
def GazReq.inst (r : GazReq) : Nat := if GazH.nodeScope r.hdr then 16 else GazH.inset r.hdr

/-- The requester on a path: the tag mask is no part of it. -/
def GazPath.who : GazPath → GazPath
  | .torus src _ => .torus src 0
  | p => p

/-- The paths whose requests queue together (R363). -/
def GazPath.kind : GazPath → Nat
  | .mailbox f => f
  | .field _ => 16
  | .torus _ _ => 17

end Sys2Proof

namespace Sys2Proof.Machine

/-! ### Responses -/

/-- A response on its request's path: RESP 1, STATUS and LEN set, further fields by `f`. -/
def State.answer (s : State) (r : GazReq) (code : Nat) (f : Nat → Nat) (data : Bytes) : State :=
  let h := setBf (setBf (setBf (f r.hdr) 12 12 1) 111 96 code) 127 112 data.length
  match r.path with
  | .mailbox _ => s.emit (.gazResp r.path h data)
  | .field src => s.enqueue 1057 1 (.fieldFrame src (toLe 32 h ++ data))
  | .torus src _ => s.sendCtl 7 16 src 0 (toLe 32 h ++ data)

def State.respond (s : State) (r : GazReq) (code : Nat) : State := s.answer r code id []

/-- The request leaves its path's queue. -/
def State.unqueue (s : State) (r : GazReq) : State := { s with gaz := { s.gaz with queue := s.gaz.queue.erase r } }

/-- A request that arrives on a path whose queue holds 64 is answered GAZ_BUSY (R363). -/
def State.queueReq (s : State) (r : GazReq) : State :=
  if (s.gaz.queue.filter (fun q => q.path.kind == r.path.kind)).length ≥ 64 then s.respond r Code.GAZ_BUSY
  else { s with gaz := { s.gaz with queue := s.gaz.queue ++ [r] } }

/-! ### Rights (Table 17-6) -/

/-- The tag mask of a torus request names the Inset's domain tag under this node's DOMAIN_MAP. -/
def Dict.maskNames (d : Dict) (mask i : Nat) : Bool :=
  (upto 16).any (fun t => bit mask t && (nth 0xFF (Dict.nodeBlob d G.DOMAIN_MAP) t).toNat == i)

/-- A path may reach what a request names: `acc` is the entry's class (none for a set), `write` whether it changes
something. -/
def State.mayReach (s : State) (r : GazReq) (acc : Option Acc) (write : Bool) : Bool :=
  let i := r.inst
  let x := GazH.index r.hdr
  match r.path with
  | .field _ => true
  | .mailbox f =>
    (f == 0 && s.node G.PF_NODE_RIGHTS == 1) || i == f
      || (i == 16 && !write && (acc == some .const || acc == some .ro) && decide (x < 0xD000 ∨ (0xE000 ≤ x ∧ x < 0xF000)))
  | .torus _ mask =>
    let rights := s.node G.TORUS_MGMT_RIGHTS
    rights == 2 || !write || (rights == 1 && i != 16 && Dict.maskNames s.gaz.regs mask i)

/-! ### Entries and values -/

/-- A scalar value fits its type (Table 17-1). -/
def fitsType (ty : Nat) (data : Bytes) : Bool :=
  if ty = 9 then decide (data.length ≤ 16777216)
  else if ty = 8 then decide (1 ≤ data.length) && decide (data.length ≤ 255) && !data.contains 0
  else data.length == typeBytes ty
    && (if ty = 1 then decide (leNat data ≤ 1) else if ty = 7 then bf (leNat data) 30 23 != 255 else true)

/-- A scalar value lies in the range its listing gives. -/
def EntryRow.inRange (e : EntryRow) (n : Nat) : Bool :=
  if e.ty = 9 ∨ e.ty = 8 ∨ e.ty = 7 then true else decide (e.lo ≤ n) && decide (n ≤ e.hi) && n % e.mult == 0

/-- The entry a request names, or the code of the first check of Table 17-9 that fails: existence and scope, class and
rights, type, reserved fields. -/
def State.entryFor (s : State) (r : GazReq) (write : Bool) : Except Nat EntryRow :=
  if !GazH.formed r.hdr r.data then .error Code.FRAME_FORMAT else
  match entryOf r.key with
  | none => .error Code.ENTRY_UNKNOWN
  | some e =>
    if e.node != GazH.nodeScope r.hdr && r.key != G.TM_SERVICES then .error Code.ENTRY_UNKNOWN
    else if (if write then e.acc == .const || e.acc == .ro else e.acc == .wo) || !s.mayReach r (some e.acc) write then
      .error Code.ACCESS_DENIED
    else if GazH.type r.hdr ≠ e.ty then .error Code.VALUE_RANGE
    else .ok e

/-! ### DOMAIN segments (R362) -/

/-- Every byte below `total` has been written by the segments. -/
def segsCover (total : Nat) (segs : List (Nat × Bytes)) : Bool :=
  decide (total ≤ (sortBy (fun (a b : Nat × Bytes) => decide (a.1 ≤ b.1)) segs).foldl
    (fun k e => if e.1 ≤ k then max k (e.1 + e.2.length) else k) 0)

/-- The image that segments, latest first, leave. -/
def segsImage (total : Nat) (segs : List (Nat × Bytes)) : Bytes :=
  segs.foldr (fun e b => b.take e.1 ++ e.2 ++ b.drop (e.1 + e.2.length)) (zeros total)

/-- Bytes of the staging store in use: staged images and RWS images in progress. -/
def GazState.storeUsed (g : GazState) : Nat :=
  ((g.sets.flatMap (fun e => e.2.staged.map (fun v => match v.2 with
    | .num _ => 0
    | .blob b => b.length))).sum)
  + ((g.images.map (fun m => match entryOf m.key with
    | some e => if e.acc = .rws then m.total else 0
    | none => 0)).sum)

/-- The value a write carries once it is whole; a segment that does not end its image leaves none. -/
def State.value (s : State) (r : GazReq) (e : EntryRow) : State × Except Nat (Option Bytes) :=
  if e.ty ≠ 9 then (s, if fitsType e.ty r.data then .ok (some r.data) else .error Code.VALUE_RANGE) else
  let off := GazH.offset r.hdr
  let total := GazH.total r.hdr
  if off + r.data.length > total ∨ total > 16777216 then (s, .error Code.VALUE_RANGE) else
  let who := r.path.who
  let mine := fun (m : ImageIn) => m.path == who && m.inst == r.inst && m.key == r.key
  let segs := match s.gaz.images.find? mine with
    | some m => if m.total = total then m.segs else []
    | none => []
  let rest := s.gaz.images.filter (fun m => !mine m)
  let segs := (off, r.data) :: segs
  if GazH.last r.hdr then
    ({ s with gaz := { s.gaz with images := rest } },
      if segsCover total segs then .ok (some (segsImage total segs)) else .error Code.VALUE_RANGE)
  else
    let g := { s.gaz with images := rest ++ [⟨who, r.inst, r.key, total, segs⟩] }
    if e.acc = .rws ∧ g.storeUsed > s.node G.GAZ_STORE_BYTES then (s, .error Code.STAGE_FULL)
    else ({ s with gaz := g }, .ok none)

/-! ### Write-only entries -/

/-- A write of a WO or RW entry: checked in the order of Table 17-9, then acted on by `act`, which answers the code. -/
def State.actWrite (s : State) (r : GazReq) (act : State → Nat → Bytes → State × Nat) : State :=
  let s := s.unqueue r
  match s.entryFor r true with
  | .error c => s.respond r c
  | .ok e =>
    match s.value r e with
    | (s, .error c) => s.respond r c
    | (s, .ok none) => s.respond r 0
    | (s, .ok (some v)) =>
      if !e.inRange (leNat v) then s.respond r Code.VALUE_RANGE
      else if !GazH.reservedOk r.hdr then s.respond r Code.RESERVED_SET
      else
        let (s, c) := act s r.inst v
        s.respond r c

/-- The row of one write-only entry: a WRITE request that names it. A request that is none changes nothing (log entry
2), nor does any while no image runs (R409). -/
def State.woRow (s : State) (r : GazReq) (key : Nat) (act : State → Nat → Bytes → State × Nat) :
    Host.Outcome State Fault Refusal :=
  if r.op = 2 ∧ r.key = key ∧ s.serves then .next (s.actWrite r act) else .next s

end Sys2Proof.Machine
end

