-- ==== Sys2Proof/Machine/Tables.lean ====
section
/-!
DEFINITION. The form of the loaded tables with a 16-byte header, ranges inside a quota (R238 to R240), and the checks of
Tables 8-12 and 9-8 on the tables themselves.
-/

namespace Sys2Proof.Machine

/-! ### The common header (Table 6-12, Table 4-8) -/

/-- The form of a table: empty, or a header with its magic, count, length and CRC (over header and entries with the field
as 0), and `size`-byte entries. -/
def tableForm (magic size maxN : Nat) (b : Bytes) : Bool :=
  b.isEmpty ||
    (decide (16 ≤ b.length) && sliceNat b 0 4 == magic && decide (sliceNat b 4 2 ≤ maxN)
      && b.length == 16 + size * sliceNat b 4 2
      && crc32c (b.take 12 ++ zeros 4 ++ b.drop 16) == sliceNat b 12 4)

/-- Reserved bits of the header are 0. -/
def tableReserved (b : Bytes) : Bool := b.isEmpty || (sliceNat b 6 2 == 0 && sliceNat b 8 4 == 0)

/-! ### Ranges in a quota -/

/-- A range of `n` bytes lies in the Inset's T0 or T1 quota, touches no reserved byte and is storage throughout. -/
def Dict.rangeOwned (d : Dict) (i a n : Nat) : Bool :=
  if n = 0 then true
  else if a + n ≤ stackTop then
    decide (channelOf a = channelOf (a + n - 1)) && Dict.ownsChannel d i (channelOf a)
      && decide (channelOff a + n ≤ 0xBFFC0000)
  else if interBase ≤ a ∧ a + n ≤ interBase + stackTop then
    let x := a - interBase
    decide (x / 0x600000000 = (x + n - 1) / 0x600000000) && decide (x % 0x600000000 + n ≤ 0x5FFE00000)
      && (rangeFrom (8 * (x / 0x600000000)) 8).all (Dict.ownsChannel d i)
  else if tileBase ≤ a ∧ a + n ≤ scratchBase then
    let q0 := (a - tileBase) / 0x100000
    (rangeFrom q0 ((a + n - 1 - tileBase) / 0x100000 + 1 - q0)).all (bit (leNat (Dict.blob d i G.INSET_CUBE_GROUPS)))
  else if scratchBase ≤ a ∧ a + n ≤ onDieTop then
    decide (Dict.num d i G.SCRATCH_BASE * 65536 ≤ a - scratchBase)
      && decide (a - scratchBase + n ≤ (Dict.num d i G.SCRATCH_BASE + Dict.num d i G.SCRATCH_PAGES) * 65536)
  else false

/-- The range is in the stacks. -/
def rangeT1 (a n : Nat) : Bool :=
  decide (a + n ≤ stackTop) || (decide (interBase ≤ a) && decide (a + n ≤ interBase + stackTop))

/-- Two ranges meet. -/
def rangesMeet (a n b m : Nat) : Bool := decide (0 < n) && decide (0 < m) && decide (a < b + m) && decide (b < a + n)

/-- Some pair of a list of ranges meets. -/
def anyMeet : List (Nat × Nat) → Bool
  | [] => false
  | x :: xs => xs.any (fun y => rangesMeet x.1 x.2 y.1 y.2) || anyMeet xs

/-! ### Commands of the Inset's images -/

/-- Records of every command of an Inset's images with their parameter blocks, by image. -/
def Dict.commands (d : Dict) (i : Nat) : List (Image × Nat × Bytes) :=
  (Dict.images d i).flatMap (fun m => m.cmdWords.map (fun w => (m, w, m.paramsOf w)))

/-- Tables named by commands of an engine type and opcode. -/
def Dict.tablesOf (d : Dict) (i engine opcode : Nat) : List Nat :=
  (Dict.commands d i).filterMap (fun c =>
    if CmdW.engine c.2.1 = engine ∧ CmdW.opcode c.2.1 = opcode then some (bf (leNat c.2.2) 5 0) else none)

/-! ### Embedding tables (Table 8-12) -/

def embTableOk (d : Dict) (i : Nat) (e : Nat) : Bool :=
  let q := Dict.num d i G.CHART_Q_BASE
  EmbT.dim e % 16 == 0 && decide (16 ≤ EmbT.dim e) && decide (EmbT.dim e ≤ 2048)
    && decide (1 ≤ EmbT.shardCount e) && decide (1 ≤ EmbT.rows e) && decide (EmbT.chartRows e ≤ EmbT.rows e)
    && (EmbT.entries e == 0 ||
        (decide (EmbT.chartBase e + EmbT.entries e ≤ 16777216) && decide (q ≤ EmbT.chartBase e)
          && decide (EmbT.chartBase e + EmbT.entries e ≤ q + Dict.num d i G.CHART_Q_COUNT)))
    && (EmbT.dfltClass e != 3 || EmbT.coldBase e % 16384 == 0)

/-- EMB_TABLES is well formed. -/
def Dict.embTablesOk (d : Dict) (i : Nat) : Bool :=
  let b := Dict.blob d i G.EMB_TABLES
  let es := tableEntries b 64
  tableForm 0x454D4254 64 64 b && strictlyUp (es.map EmbT.id) && es.all (embTableOk d i)
    && !anyMeet (es.map (fun e => (EmbT.chartBase e, EmbT.entries e)))

/-- WIDTH_CLASSES is well formed, and an applied table's entry has COLD_MIN 0. -/
def Dict.widthClassesOk (d : Dict) (i : Nat) : Bool :=
  let b := Dict.blob d i G.WIDTH_CLASSES
  let es := tableEntries b 16
  let applied := Dict.tablesOf d i 6 6
  tableForm 0x57434C53 16 64 b && strictlyUp (es.map (fun e => bf e 5 0))
    && es.all (fun e => decide (bf e 95 64 ≤ bf e 63 32) && decide (bf e 127 96 ≤ bf e 95 64)
        && (!applied.contains (bf e 5 0) || bf e 127 96 == 0))

/-- EMB_NODES is well formed. -/
def Dict.embNodesOk (d : Dict) (i : Nat) : Bool :=
  let b := Dict.blob d i G.EMB_NODES
  tableForm 0x454E4F44 2 4096 b && strictlyUp (Dict.embNodes d i) && (Dict.embNodes d i).all (fun n => decide (n < 4096))

/-- Reserved bits of the three tables. -/
def Dict.embReservedOk (d : Dict) (i : Nat) : Bool :=
  tableReserved (Dict.blob d i G.EMB_TABLES) && tableReserved (Dict.blob d i G.WIDTH_CLASSES)
    && tableReserved (Dict.blob d i G.EMB_NODES)
    && (tableEntries (Dict.blob d i G.EMB_TABLES) 64).all EmbT.reservedOk
    && (tableEntries (Dict.blob d i G.WIDTH_CLASSES) 16).all (fun e => bf e 31 6 == 0)

/-! ### Row versions and Atlases (Table 9-8) -/

/-- Regions that an entry names and whose size its fields give. -/
def rowVersRegions (d : Dict) (i rv : Nat) : List (Nat × Nat) :=
  let t := (Dict.embTable d i (RvD.id rv)).getD 0
  let e := EmbT.entries t
  if e = 0 then [] else
  [(RvD.crecBase rv, 32 * e), (RvD.pool rv, 64), (RvD.survey rv, 8 * e + 4 * EmbT.shardCount t),
   (RvD.settle rv, 4 * RvD.settleMax rv)]

/-- Largest COUNT_MAX of the CHART_COMMITs of a table. -/
def Dict.commitMax (d : Dict) (i t : Nat) : Nat :=
  (Dict.commands d i).foldl (fun m c =>
    let p := leNat c.2.2
    if CmdW.engine c.2.1 = 0x0B ∧ CmdW.opcode c.2.1 = 6 ∧ bf p 5 0 = t then max m (bf p 63 32) else m) 0

/-- ROW_VERSIONS is well formed for the tables and Sheets it serves. -/
def Dict.rowVersOk (d : Dict) (i : Nat) : Bool :=
  let b := Dict.blob d i G.ROW_VERSIONS
  let es := tableEntries b 64
  let updated := Dict.tablesOf d i 6 6 ++ Dict.tablesOf d i 0x0B 1
  let regions := es.flatMap (rowVersRegions d i)
  tableForm 0x52564552 64 64 b && strictlyUp (es.map RvD.id)
    && es.all (fun e => decide (3 ≤ RvD.horizon e) && decide (RvD.horizon e ≤ 1023)
        && (Dict.embTable d i (RvD.id e)).isSome && decide (Dict.commitMax d i (RvD.id e) ≤ RvD.settleMax e))
    && updated.all (fun t => match Dict.rowVers d i t with | some e => RvD.versioned e | none => false)
    && (tableEntries (Dict.blob d i G.EMB_TABLES) 64).all (fun t =>
        EmbT.chartRows t == 0 || (Dict.rowVers d i (EmbT.id t)).isSome)
    && !anyMeet regions && regions.all (fun r => rangeT1 r.1 r.2 && Dict.rangeOwned d i r.1 r.2)

def Dict.rowVersReservedOk (d : Dict) (i : Nat) : Bool :=
  tableReserved (Dict.blob d i G.ROW_VERSIONS) && (tableEntries (Dict.blob d i G.ROW_VERSIONS) 64).all RvD.reservedOk

end Sys2Proof.Machine
end

