-- ==== Sys2Proof/Machine/HostPort.lean ====
section
/-!
DEFINITION. The host port (chapter 16): queues and submissions, HOST_ADMIT and HOST_COMPLETE, bindings, HDM decoders and
CXL.mem, control-core accesses, and the mailbox commands of Table 16-1.
-/

namespace Sys2Proof.Machine

/-! ### Submission marks (R311, R342) -/

def State.setSubs (s : State) (l : List SubMark) : State := { s with host := { s.host with subs := l } }

/-- The ring entry of a queue pair. -/
def State.subEntry (s : State) (fn q index : Nat) : Nat := s.readNat ((s.queue fn q).sqBase + 64 * index) 64

/-- SQ_HEAD moved over the leading entries that have been admitted or rejected; `n` bounds the walk. -/
def State.sqAdvance : Nat → State → Nat → Nat → State
  | 0, s, _, _ => s
  | n + 1, s, fn, q =>
    let p := s.queue fn q
    match s.host.subs.find? (fun m => m.inset == fn && m.queue == q && m.index == p.sqHead && m.colour == 4) with
    | some m =>
      let s := s.setSubs (s.host.subs.erase m)
      (s.setQueue fn q { p with sqHead := (p.sqHead + 1) % 2 ^ p.sqLog }).sqAdvance n fn q
    | none => s

/-- A submission mark given the colour of an entry already admitted or rejected. -/
def State.markDone (s : State) (fn q index : Nat) : State :=
  s.setSubs (s.host.subs.map (fun m =>
    if m.inset = fn ∧ m.queue = q ∧ m.index = index then { m with colour := 4 } else m))

/-- A submission entry rejected with a code: it completes at once, with ADMIT_DATUM 0. -/
def State.rejectSub (s : State) (fn q index entry code : Nat) : State :=
  let s := (s.markDone fn q index).complete fn entry ⟨code, false, 0, false, false, false, 0, [0, 0, 0, 0], s.doneTick⟩
  if code = Code.BIND_STALE then s.bump fn G.BIND_STALE_COUNT 1 else s

/-- Waiting submissions of an Inset that `sel` picks are rejected with a code, and SQ_HEAD moves over them. -/
def State.rejectSubs (s : State) (i code : Nat) (sel : SubMark → Bool) : State :=
  let s := (s.host.subs.filter (fun m => m.inset == i && m.colour != 4 && sel m)).foldl (fun s m =>
    s.rejectSub i m.queue m.index (s.subEntry i m.queue m.index) code) s
  (upto 4).foldl (fun s q => s.sqAdvance (s.host.subs.length + 1) i q) s

/-! ### Doorbells (SQ_TAIL) -/

/-- One new entry marked by its flow's policer and passed to its shaper (R309, R311). Colour 3 is a flow outside the
Inset or invalid. -/
def State.arriveSub (s : State) (fn q index : Nat) : State :=
  let e := s.subEntry fn q index
  let f := Sub.flow e
  let fl := s.flow f
  let put := fun (s : State) (colour : Nat) (rel : Bool) =>
    s.setSubs (s.host.subs ++ [⟨fn, q, index, f, colour, s.clk.cycle, rel⟩])
  if Dict.flowInset s.gaz.regs f ≠ some fn ∨ !FlowW.valid fl.word then put s 3 true
  else
    let (c, fl) := fl.mark s.clk.cycle (Sub.preColour e) 1
    let s := s.setFlow f fl
    let s := s.bump fn (if c = 0 then G.TM_GREEN else if c = 1 then G.TM_YELLOW else G.TM_RED) 1
    let s := if c = 1 then { s with tm := { s.tm with yellow := s.tm.yellow.upd 0 (· + 1) f } }
      else if c = 2 then { s with tm := { s.tm with red := s.tm.red.upd 0 (· + 1) f } } else s
    if c = 2 then put s 2 true
    else if s.host.subs.any (fun m => m.flow == f && !m.released) then
      put (s.bump fn G.SHAPER_WAIT 1) c false
    else match s.release f 1 with
      | some s => put s c true
      | none => put (s.bump fn G.SHAPER_WAIT 1) c false

/-- SQ_TAIL: a doorbell of a ring that is enabled; its value counts modulo the ring. -/
def execSqTail (fn queue value : Nat) (s : State) : Host.Outcome State Fault Refusal :=
  if fn ≥ 16 ∨ queue ≥ 4 then .fault .noSuchInstance else
  let p := s.queue fn queue
  if p.sqLog = 0 ∨ !s.alive then .next s else
  let size := 2 ^ p.sqLog
  let tail := value % size
  let new := (upto ((tail + size - p.sqTail) % size)).map (fun k => (p.sqTail + k) % size)
  let s := s.setQueue fn queue { p with sqTail := tail }
  .next (new.foldl (fun s k => s.arriveSub fn queue k) s)

/-! ### Queue registers (QUEUE_CONFIG, R341) -/

/-- Field numbers: 0 SQ_BASE, 1 SQ_SIZE_LOG2, 2 CQ_BASE, 3 CQ_SIZE_LOG2. -/
def QueuePair.put (p : QueuePair) (f : Nat × Nat) : QueuePair :=
  if f.1 = 0 then { p with sqBase := f.2 } else if f.1 = 1 then { p with sqLog := f.2 }
  else if f.1 = 2 then { p with cqBase := f.2 } else { p with cqLog := f.2 }

/-- A queue pair as it will stand when its waiting writes are taken. -/
def QueuePair.planned (p : QueuePair) : QueuePair := p.pend.foldl QueuePair.put p

/-- Submission ring entries of an Inset with its waiting writes taken. -/
def State.ringEntries (s : State) (fn : Nat) : Nat :=
  ((upto 4).map (fun q => let l := (s.queue fn q).planned.sqLog; if l = 0 then 0 else 2 ^ l)).sum

/-- QUEUE_CONFIG: bases and sizes wait for a boundary with SQ_HEAD = SQ_TAIL; a write that breaks the limit or the form
is ignored with an event. Fields 4 and 5 are the doorbells CQ_HEAD and XLOG_HEAD (log entry 77). -/
def execQueueConfig (fn queue field value : Nat) (s : State) : Host.Outcome State Fault Refusal :=
  if fn ≥ 16 ∨ queue ≥ 4 ∨ field ≥ 6 then .fault .noSuchInstance else
  if !s.alive then .next s else
  let p := s.queue fn queue
  if field = 4 then .next (s.setQueue fn queue { p with cqHead := value % 2 ^ 16 })
  else if field = 5 then .next (s.setBinding fn { s.binding fn with xlogHead := value % 2 ^ 32 })
  else
    let badForm := if field = 0 ∨ field = 2 then value % 64 ≠ 0 ∨ value ≥ 2 ^ 64 else value > 15
    let s' := s.setQueue fn queue { p with pend := p.pend ++ [(field, value)] }
    if badForm ∨ s'.ringEntries fn > s.num fn G.XLOG_BYTES / 64 then .next (s.event fn Code.QUEUE_CONFIG 0 0)
    else .next s'

/-- Waiting writes of every queue pair with SQ_HEAD = SQ_TAIL taken at a boundary. -/
def State.takeQueues (s : State) : State :=
  { s with host := { s.host with queues := s.host.queues.map (fun e =>
      if e.2.sqHead = e.2.sqTail then (e.1, { e.2.planned with pend := [] }) else e) } }

/-! ### HDM decoders (R340) -/

/-- The interleaved-view address of a stack byte. -/
def interOf (st : Nat) : Nat :=
  let ch := channelOf st
  let o := channelOff st
  interBase + ch / 8 * 0x600000000 + (o / 256 * 8 + ch % 8) * 256 + o % 256

/-- The decoder that maps a host address: its number. -/
def State.decoderOf (s : State) (hpa : Nat) : Option Nat :=
  (upto 4).find? (fun k => let h := s.host.hdm.get ⟨0, 0, false, false⟩ k
    h.committed && decide (h.base ≤ hpa) && decide (hpa < h.base + h.size))

/-- Inset and node address of a host address, where a committed decoder gives it to an Inset. -/
def State.hdmTarget (s : State) (hpa : Nat) : Option (Nat × Nat) :=
  match s.decoderOf hpa with
  | none => none
  | some k =>
    let i := s.node (G.HDM_OWNER + k)
    let h := s.host.hdm.get ⟨0, 0, false, false⟩ k
    if i < 16 then some (i, s.node (G.HDM_TARGET + k) + (hpa - h.base)) else none

/-- A range of T1 lies in the HDM ranges of an Inset, in either view. -/
def State.inHdm (s : State) (i a n : Nat) : Bool :=
  let ranges := (upto 4).filterMap (fun k =>
    let h := s.host.hdm.get ⟨0, 0, false, false⟩ k
    if h.committed ∧ s.node (G.HDM_OWNER + k) = i then some (s.node (G.HDM_TARGET + k), h.size) else none)
  (wordStarts a (max n 1)).all (fun w => match storageOf w with
    | some st => isT1 st && (inRegion ranges w || inRegion ranges st || inRegion ranges (interOf st))
    | none => false)

def granule : Nat := 0x10000000

/-- HDM_COMMIT. -/
def execHdmCommit (decoder base size ways : Nat) (s : State) : Host.Outcome State Fault Refusal :=
  if decoder ≥ 4 then .fault .noSuchInstance else
  if !s.alive then .next s else
  let i := s.node (G.HDM_OWNER + decoder)
  let t := s.node (G.HDM_TARGET + decoder)
  let ok := decide (s.node G.START_PHASE = 6) && ways == 1 && decide (0 < size) && base % granule == 0 && size % granule == 0
    && decide (i < 16) && rangeT1 t size && Dict.rangeOwned s.gaz.regs i t size
  let s := { s with host := { s.host with hdm := s.host.hdm.set decoder ⟨base, size, ok, !ok⟩ } }
  .next (s.emit (.hdmResult decoder ok))

/-! ### CXL.mem (R20, R309, R340) -/

/-- A CXL.mem request: served at once, or waiting in its port for its ingress flow. -/
def State.cxlRequest (s : State) (hpa len : Nat) (write : Option (Bytes × Nat × Bool)) : State :=
  if !s.alive then s else
  match s.hdmTarget hpa with
  | none => s.emit (.cxlUnserved hpa)
  | some (i, a) =>
    let h : Held := ⟨none, i, hpa, a, len, write, s.clk.cycle⟩
    let wait := fun (s : State) =>
      ({ s with host := { s.host with waiting := s.host.waiting ++ [h] } }).bump i G.SHAPER_WAIT 1
    if s.host.waiting.any (fun w => w.inset == i) then wait s
    else match s.release (1024 + i) 1 with
      | some s => s.arrive h
      | none => wait s

/-- A read whose flit decodes as uncorrectable (R22): poison with a free value, and the event of its Inset (log entry
78). -/
def State.cxlReadLost (s : State) (hpa : Nat) : State :=
  if !s.alive then s else
  match s.hdmTarget hpa with
  | none => s.emit (.cxlUnserved hpa)
  | some (i, a) =>
    let (v, s) := s.draw 512
    (s.event i Code.NOC_UNCORRECTABLE 0 a).emit (.cxlData hpa (toLe 64 v) true)

/-- CXL_MEM_READ: one 64-byte line. -/
def execCxlMemRead (hpa : Nat) (noc : Bool) (s : State) : Host.Outcome State Fault Refusal :=
  .next (if noc then s.cxlReadLost (hpa / 64 * 64) else s.cxlRequest (hpa / 64 * 64) 64 none)

/-- CXL_MEM_WRITE: one 64-byte line under its byte mask. -/
def execCxlMemWrite (hpa : Nat) (data : Bytes) (mask : Nat) (poison : Bool) (s : State) :
    Host.Outcome State Fault Refusal :=
  .next (s.cxlRequest (hpa / 64 * 64) 64 (some ((data ++ zeros 64).take 64, mask, poison)))

/-! ### Control cores (R226, R227, R239) -/

/-- The Inset that owns a core; a core of none is a node core (R321). -/
def State.coreInset (s : State) (k : Nat) : Option Nat := (upto 16).find? (fun i => bit (s.num i G.INSET_CORES) k)

/-- The fence block of a channel (Table 10-11). -/
def fenceWord (u : StackUnit) : Nat :=
  u.apSeq % 2 ^ 64 + u.apDone % 2 ^ 64 * 2 ^ 64 + u.apCode % 2 ^ 16 * 2 ^ 128 + u.apCodeSeq % 2 ^ 48 * 2 ^ 144
    + u.epoch % 2 ^ 32 * 2 ^ 192

/-- One aperture byte as a core reads it; none outside the permitted ranges. -/
def State.apByte (s : State) (i ch o : Nat) : Option Byte :=
  let u := s.unit ch
  if o < 0x10000 then none
  else if o < 0x50000 then
    let n := (o - 0x10000) / 64
    if s.num i G.BSU_QC_SPLIT ≤ n then some (BitVec.ofNat 8 (u.qcache.get 0 n >>> (8 * ((o - 0x10000) % 64)))) else none
  else if o < 0xF0000 then
    if s.num i G.BSU_RES_SPLIT ≤ o - 0x50000 then some (BitVec.ofNat 8 (u.result.get 0 (o - 0x50000))) else none
  else if o < 0xF0040 then some (BitVec.ofNat 8 (fenceWord u >>> (8 * (o - 0xF0000))))
  else some 0

/-- One aperture byte written by a core; none where it may not be. -/
def State.apWriteByte (s : State) (i ch o : Nat) (b : Byte) : Option State :=
  let u := s.unit ch
  if o < 0x10000 then
    let k := o / 8
    let v := setBf (u.slots.get 0 k) (8 * (o % 8) + 7) (8 * (o % 8)) b.toNat
    some (s.setUnit ch { u with slots := u.slots.set k v })
  else if o < 0x50000 then
    let n := (o - 0x10000) / 64
    let j := (o - 0x10000) % 64
    if s.num i G.BSU_QC_SPLIT ≤ n then
      some (s.setUnit ch { u with qcache := u.qcache.set n (setBf (u.qcache.get 0 n) (8 * j + 7) (8 * j) b.toNat) })
    else none
  else if o = 0xF001C then some (if b.toNat % 2 = 1 then s.apRefuseAll ch else s)
  else none

/-- An aperture access of a core of Inset `i`, all of it permitted or none: a refused load reads 0, a refused store is
discarded, and BSU_APERTURE_REFUSED advances. In MEM a load reads 0 and a store is discarded. -/
def State.apAccess (s : State) (core : Nat) (i : Option Nat) (a : CoreAccess) : State :=
  let ch := (a.addr - apertureBase) / 0x100000
  let o := (a.addr - apertureBase) % 0x100000
  let zero := fun (s : State) => match a.data with
    | none => s.emit (.coreData core a.addr (some (zeros a.len)))
    | some _ => s
  match i with
  | none => zero (s.bumpNode G.BSU_APERTURE_REFUSED 1)
  | some i =>
    if !Dict.ownsChannel s.gaz.regs i ch then zero (s.bumpNode G.BSU_APERTURE_REFUSED 1)
    else if !bit (s.unit ch).mode 0 then zero s
    else match a.data with
      | none =>
        let bs := (rangeFrom o a.len).map (s.apByte i ch)
        if bs.all (·.isSome) then s.emit (.coreData core a.addr (some (bs.map (·.getD 0))))
        else zero (s.bumpNode G.BSU_APERTURE_REFUSED 1)
      | some bs =>
        match (mapIdxFrom (fun k b => (o + k, b)) 0 bs).foldl (fun (acc : Option State) c =>
            acc.bind (fun s => s.apWriteByte i ch c.1 c.2)) (some s) with
        | none => s.bumpNode G.BSU_APERTURE_REFUSED 1
        | some s' =>
          (nub ((rangeFrom o bs.length).filterMap (fun x =>
            if x < 0x10000 ∧ 24 ≤ x % 32 then some (x / 32) else none))).foldl (fun s slot =>
              s.apEnqueue ch slot ((s.unit ch).slots.get 0 (4 * slot + 3))) s'

/-- An access of a core that is not performed: its event carries a code, and a load returns a load error. -/
def State.coreError (s : State) (code : Nat) (i : Option Nat) (a : CoreAccess) : State :=
  let s := match i with
    | some i => s.event i code 0 a.addr
    | none => s.nodeEvent code 0 a.addr
  match a.data with
  | none => s.emit (.coreData a.core a.addr none)
  | some _ => s

/-- An access of a core outside what it reaches (R239). -/
def State.refuseCore (s : State) (i : Option Nat) (a : CoreAccess) : State := s.coreError Code.QUOTA_REFUSED i a

/-- CONTROL_CORE_ACCESS. A node core has no quota to stay within; it reaches any storage but what R240 and R241 bar (log
entry 78). -/
def execControlCoreAccess (a : CoreAccess) (s : State) : Host.Outcome State Fault Refusal :=
  if a.core ≥ 16 then .fault .noSuchInstance else
  let i := s.coreInset a.core
  let n := match a.data with | none => a.len | some b => b.length
  if n = 0 ∨ !s.serves then .next s
  else if a.noc then .next (s.coreError Code.NOC_UNCORRECTABLE i a)
  else if apertureBase ≤ a.addr ∧ a.addr + n ≤ apertureBase + 256 * 0x100000 then .next (s.apAccess a.core i a)
  else
    let ok := rangeExists a.addr n && !Dict.barred s.gaz.regs (i.getD 16) a.addr n && (match i with
      | some i => Dict.rangeOwned s.gaz.regs i a.addr n
      | none => !(upto 16).any (fun j => Dict.barred s.gaz.regs j a.addr n))
    if ok then .next (s.arrive ⟨some a.core, i.getD 16, a.addr, a.addr, n, a.data.map (fun b => (b, 2 ^ n - 1, false)),
      s.clk.cycle⟩)
    else .next (s.refuseCore i a)

/-! ### HOST_ADMIT (R342, R44, R351) -/

namespace AdmP
def queue (p : Nat) : Nat := bf p 1 0
def kind (p : Nat) : Nat := bf p 5 2
def target (p : Nat) : Nat := bf p 11 6
def classId (p : Nat) : Nat := bf p 15 12
def max (p : Nat) : Nat := bf p 31 16
def dest (p : Nat) : Nat := bf p 95 32
def stride (p : Nat) : Nat := bf p 127 96
def list (p : Nat) : Nat := bf p 191 128
def reservedOk (p : Nat) : Bool := bf p 255 192 == 0
end AdmP

/-- REC_BYTES that the record of an entry must have; none where no size fits. -/
def State.recSize (s : State) (i e : Nat) : Option Nat :=
  let k := Sub.kind e
  if k = 1 ∨ k = 3 then (Dict.index s.gaz.regs i (Sub.target e)).map (fun d => 128 + IdxD.vb d)
  else if k = 2 then
    if s.rangeBad (Sub.recAddr e) 64 then none else
    let n := bf (s.readNat (Sub.recAddr e) 64) 223 192
    if n ≤ 4194304 then some (64 + 16 * n) else none
  else if k = 4 then
    if Sub.recBytes e % 16 = 0 ∧ 1 ≤ Sub.recBytes e / 16 ∧ Sub.recBytes e / 16 ≤ 2048 then some (Sub.recBytes e) else none
  else none

/-- The class an entry is admitted under: its substitute while FALLBACK_MODE is 1 (R351). -/
def State.admitClass (s : State) (i e : Nat) : Nat :=
  if s.num i G.FALLBACK_MODE = 1 ∧ Sub.kind e = 1 then
    (nth (BitVec.ofNat 8 (Sub.classId e)) (s.blob i G.FALLBACK_CLASS_MAP) (Sub.classId e)).toNat
  else Sub.classId e

/-- The entry has the form the command takes. -/
def State.subFormed (s : State) (i p e : Nat) : Bool :=
  Sub.kind e == AdmP.kind p && Sub.target e == AdmP.target p && s.admitClass i e == AdmP.classId p
    && Sub.preColour e != 3 && Sub.reservedOk e && Sub.resultAddr e % 64 == 0
    && s.inHdm i (Sub.recAddr e) (Sub.recBytes e) && s.inHdm i (Sub.resultAddr e) (Sub.resultBytes e)
    && s.recSize i e == some (Sub.recBytes e) && decide (Sub.recBytes e ≤ AdmP.stride p)

/-- What a scan has found: entries rejected (ring index, entry, code), candidates (ring index, entry, yellow), and the
identifiers that count as open. -/
structure SubScan where
  stop    : Bool
  rejects : List (Nat × Nat × Nat)
  cands   : List (Nat × Nat × Bool)
  ids     : List Nat
deriving DecidableEq, Repr

/-- One ring entry of the scan: the first case of R342 that applies. -/
def State.scanOne (s : State) (i p start : Nat) (a : SubScan) (index : Nat) : SubScan :=
  if a.stop then a else
  let q := AdmP.queue p
  match s.host.subs.find? (fun m => m.inset == i && m.queue == q && m.index == index) with
  | none => a
  | some m =>
    if m.colour = 4 then a
    else if start < m.at_ + nsCycles (s.num i G.ADMIT_LEAD) then { a with stop := true }
    else
      let e := s.subEntry i q index
      let b := s.binding i
      let rej := fun code => { a with rejects := a.rejects ++ [(index, e, code)] }
      if Sub.epoch e ≠ b.epoch ∨ b.state = 4 then rej Code.BIND_STALE
      else if !s.subFormed i p e then rej Code.SUBMIT_FORMAT
      else if a.ids.contains (Sub.reqId e) then rej Code.REQ_DUPLICATE
      else if m.colour = 3 then rej Code.FLOW_UNKNOWN
      else if m.colour = 2 then rej Code.FLOW_POLICED
      else if m.released then
        { a with cands := a.cands ++ [(index, e, m.colour == 1)], ids := a.ids ++ [Sub.reqId e] }
      else a

/-- An admitted record with ADMIT_DATUM and ORIGIN written. -/
def admitRecord (kind datum origin : Nat) (b : Bytes) : Bytes :=
  if kind = 4 then b else
  let h := sliceNat b 0 64
  let h := if kind = 2 then setBf h 169 128 datum else setBf (setBf h 105 64 datum) 123 112 origin
  toLe 64 h ++ b.drop 64

/-- HOST_ADMIT's work. -/
def State.admitWork (s : State) (r : CmdRef) (c : Cmd) : State × Res :=
  let i := r.inset
  let p := leNat c.params
  let qp := s.queue i (AdmP.queue p)
  let size := if qp.sqLog = 0 then 1 else 2 ^ qp.sqLog
  let idx := (upto ((qp.sqTail + size - qp.sqHead) % size)).map (fun k => (qp.sqHead + k) % size)
  let start := match s.sheetOf r with | some sh => sh.startAt | none => 0
  let opens := (s.inset i).opens
  let bad := (idx.find? (fun k => s.rangeBad (qp.sqBase + 64 * k) 64)).map (fun k => qp.sqBase + 64 * k)
  match bad with
  | some a => (s, .fault (badInputCode a))
  | none =>
    let sc := idx.foldl (s.scanOne i p start) ⟨false, [], [], opens.map (fun o => Sub.reqId o.entry)⟩
    let order := sc.cands.filter (fun x => !x.2.2) ++ sc.cands.filter (fun x => x.2.2)
    let b := s.binding i
    let used := opens.length + (b.xlogTail + 2 ^ 32 - b.xlogHead) % 2 ^ 32
    -- out of lock no query is admitted (R25)
    let order := if s.lock = 0 then [] else order
    let take := min (AdmP.max p) (s.num i G.XLOG_BYTES / 64 - used)
    let chosen := order.take take
    let hold := min (AdmP.max p) order.length - chosen.length
    match s.readFault c (chosen.map (fun x => (Sub.recAddr x.2.1, Sub.recBytes x.2.1))) with
    | some f => (s, f)
    | none =>
      let datum := s.datum i
      let kind := AdmP.kind p
      let fb := decide (s.num i G.FALLBACK_MODE = 1)
      let rows := mapIdxFrom (fun k (x : Nat × Nat × Bool) => (k, x)) 0 chosen
      let recs := rows.flatMap (fun kx =>
        let e := kx.2.2.1
        [(AdmP.dest p + kx.1 * AdmP.stride p,
            admitRecord kind datum s.nodeId (s.readBytes (Sub.recAddr e) (Sub.recBytes e))),
         (AdmP.list p + 64 * kx.1, toLe 64 e)])
      let blank := (rangeFrom chosen.length (AdmP.max p - chosen.length)).flatMap (fun k =>
        [(AdmP.dest p + k * AdmP.stride p, zeros (AdmP.stride p)), (AdmP.list p + 64 * k, zeros 64)])
      let s := s.noteReads (chosen.map (fun x => (Sub.recAddr x.2.1, Sub.recBytes x.2.1)))
      (s, .done { Work.ofWrites (recs ++ blank) with
        onCommit := sc.rejects.map (fun x => Eff.reject i (AdmP.queue p) x.1 x.2.1 x.2.2)
          ++ chosen.map (fun x => Eff.hostAdmit i (AdmP.queue p) x.1 x.2.1 datum (s.num i G.ACTIVE_STREAM) x.2.2
              (fb && kind == 1))
          ++ [.sqHead i (AdmP.queue p), .addReg i G.XLOG_HOLD hold]
          ++ (if fb ∧ kind = 1 then [.addReg i G.FALLBACK_SEARCH chosen.length]
              else if fb ∧ kind = 2 then [.addReg i G.FALLBACK_LOOKUP chosen.length] else []) })

/-- HOST_ADMIT. -/
def execHostAdmit (c : CmdRef) (hw : Hw) (s : State) : Host.Outcome State Fault Refusal :=
  s.engineRow c hw 0x0C 0x10 (fun _ => true) (fun s x => s.admitWork c x)

/-! ### HOST_COMPLETE (R343) -/

namespace CplP
def list (p : Nat) : Nat := bf p 63 0
def count (p : Nat) : Nat := bf p 79 64
def res (p : Nat) : Nat := bf p 191 128
def stride (p : Nat) : Nat := bf p 223 192
def reservedOk (p : Nat) : Bool := bf p 127 80 == 0 && bf p 255 224 == 0
end CplP

/-- Length of a result record, its code, the counts of Table 16-6 and SHORTFALL. -/
def State.resultOf (s : State) (kind recBytes a stride : Nat) : Nat × Nat × List Nat × Bool :=
  if kind = 1 then
    let h := s.readNat a 64
    let n := 64 + bf h 255 224 * (if bf h 33 32 = 2 then 16 else 8)
    let at_ := roundUp n 64
    let codes := ((upto ((stride - at_) / 32)).map (fun k => bf (s.readNat (a + at_ + 32 * k) 32) 111 96)).filter (· != 0)
    (n, codes.headD 0, [bf h 127 96, bf h 159 128, bf h 191 160, codes.length], bit h 38)
  else if kind = 2 then
    let h := s.readNat a 64
    (64, bf h 127 112, [bf h 319 288, bf h 351 320, bf h 383 352, bf h 447 416], false)
  else if kind = 3 then
    let h := s.readNat a 32
    (32, bf h 111 96, [bf h 95 64, bf h 119 112, bf h 135 128, bf h 143 136], false)
  else
    let sts := (upto (recBytes / 16)).map (fun k => s.readNat (a + 32 * k) 32)
    let code := fun (h : Nat) => bf h 47 32
    (32 * (recBytes / 16), ((sts.map code).filter (· != 0)).headD 0,
      [(sts.filter (fun h => code h == 0 && !bit h 90)).length,
       (sts.filter (fun h => code h == Code.DELETE_NOT_FOUND)).length, (sts.filter (fun h => bit h 90)).length, 0], false)

def State.completeWork (s : State) (r : CmdRef) (c : Cmd) : State × Res :=
  let p := leNat c.params
  let reads := [(CplP.list p, 64 * CplP.count p), (CplP.res p, CplP.count p * CplP.stride p)]
  match s.readFault c reads with
  | some f => (s, f)
  | none =>
    let opens := (s.inset r.inset).opens
    let done := (upto (CplP.count p)).filterMap (fun k =>
      let e := s.readNat (CplP.list p + 64 * k) 64
      if e = 0 then none else
      (opens.find? (fun o => Sub.reqId o.entry == Sub.reqId e)).map (fun o =>
        let a := CplP.res p + k * CplP.stride p
        (o.entry, a, s.resultOf (Sub.kind o.entry) (Sub.recBytes o.entry) a (CplP.stride p))))
    let s := s.noteReads reads
    (s, .done { Work.ofWrites (done.map (fun x =>
        (Sub.resultAddr x.1, s.readBytes x.2.1 (min (Sub.resultBytes x.1) x.2.2.1)))) with
      onDrain := done.map (fun x => Eff.complete r.inset x.1 x.2.2.2.1 x.2.2.2.2.1 x.2.2.2.2.2
        (decide (Sub.resultBytes x.1 < x.2.2.1))) })

/-- HOST_COMPLETE. -/
def execHostComplete (c : CmdRef) (hw : Hw) (s : State) : Host.Outcome State Fault Refusal :=
  s.engineRow c hw 0x0C 0x11 (fun _ => true) (fun s x => s.completeWork c x)

/-! ### Bindings (R346 to R350) -/

namespace BindW
def inset (r : Nat) : Nat := bf r 3 0
def slow (r : Nat) : Bool := bf r 5 4 == 1
def binder (r : Nat) : Nat := bf r 31 16
def epoch (r : Nat) : Nat := bf r 63 32
def tick (r : Nat) : Nat := bf r 127 64
def cqBase (r q : Nat) : Nat := bf r (64 * q + 255) (64 * q + 192)
def reservedOk (r : Nat) : Bool := bf r 15 6 == 0 && bf r 191 128 == 0 && bf r 511 448 == 0
end BindW

def State.modBinding (s : State) (i : Nat) (f : Binding → Binding) : State := s.setBinding i (f (s.binding i))

/-- BIND_REQ applied: a slow binding starts to drain, and every unadmitted entry completes with BIND_STALE (R349). -/
def State.bindApply (s : State) (rec_ : Nat) : State :=
  let i := BindW.inset rec_
  if BindW.slow rec_ then
    (s.modBinding i (fun b => { b with request := some rec_, state := 4 })).rejectSubs i Code.BIND_STALE (fun _ => true)
  else s.modBinding i (fun b => { b with request := some rec_ })

/-- The state of an Inset whose binders have changed: bound, in grace, ORPHAN with its grace, or UNBOUND (R350). -/
def State.bindSettle (s : State) (i : Nat) : State :=
  let b := s.binding i
  if b.curBound then
    if b.oldBound then s else s.setBinding i { b with state := if b.state = 4 then 4 else 1, deadline := none, oldQueues := [] }
  else if b.oldBound then s
  else if (s.inset i).opens.isEmpty ∧ b.xlogHead = b.xlogTail then
    s.setBinding i { b with state := if b.state = 4 then 4 else 0, deadline := none, oldQueues := [] }
  else
    (s.setBinding i { b with state := 3, oldQueues := []
                             deadline := some (s.clk.cycle + usCycles (s.num i G.ORPHAN_GRACE_US)) }).event
      i Code.ORPHANED 0 0

/-- A fast binding takes effect at BIND_TICK (R347). -/
def State.bindFast (s : State) (i rec_ : Nat) : State :=
  let b := s.binding i
  let qs := (upto 4).map (s.queue i)
  let s := (upto 4).foldl (fun s q => s.setQueue i q { s.queue i q with cqBase := BindW.cqBase rec_ q }) s
  let b' := { b with epoch := BindW.epoch rec_, binder := BindW.binder rec_, curBound := true, request := none
                     oldEpoch := b.epoch, oldBinder := b.binder, oldBound := b.curBound
                     oldQueues := if b.curBound then qs else []
                     state := if b.curBound then 2 else 1
                     deadline := if b.curBound then some (s.clk.cycle + usCycles (s.num i G.REBIND_GRACE_US)) else none }
  let s := ({ s with host := { s.host with linkUp := true } }).setBinding i b'
  if b.state = 3 then s.event i Code.ORPHAN_HANDOVER 0 0 else s

/-- A slow binding takes effect: the old binder is unbound, every queue register returns to its default (R349). -/
def State.bindSlow (s : State) (i rec_ : Nat) : State :=
  let b := s.binding i
  let s := (upto 4).foldl (fun s q => s.setQueue i q QueuePair.reset) s
  let s := s.setSubs (s.host.subs.filter (fun m => m.inset != i))
  let s := ({ s with host := { s.host with linkUp := true } }).setBinding i
    { b with epoch := BindW.epoch rec_, binder := BindW.binder rec_, curBound := true, request := none, state := 1
             oldBound := false, oldQueues := [], deadline := none }
  -- only an orphan waits for a deadline with no binder left (R350)
  if b.deadline.isSome ∧ !b.curBound ∧ !b.oldBound then s.event i Code.ORPHAN_HANDOVER 0 0 else s

/-- Bindings due at the boundary of the running tick. -/
def State.bindBoundary (s : State) : State :=
  (upto 16).foldl (fun s i =>
    let b := s.binding i
    match b.request with
    | none => s
    | some r =>
      if s.tickNo < BindW.tick r then s
      else if !BindW.slow r then s.bindFast i r
      else if (s.inset i).opens.isEmpty then s.bindSlow i r
      else s) s

/-- SWITCH_INSTANT: the old binder is unbound REBIND_GRACE_US after BIND_TICK. -/
def execSwitchInstant (inset : Nat) (s : State) : Host.Outcome State Fault Refusal :=
  if inset ≥ 16 then .fault .noSuchInstance else
  let b := s.binding inset
  match b.oldBound, b.deadline with
  | true, some t =>
    if s.clk.cycle < t then .next s
    else .next ((s.setBinding inset { b with oldBound := false }).bindSettle inset)
  | _, _ => .next s

/-- A release of an epoch; one that names no current or old epoch is ignored. -/
def State.woBindRelease (s : State) (i : Nat) (v : Bytes) : State × Nat :=
  let b := s.binding i
  let e := leNat v
  if b.curBound ∧ b.epoch = e then ((s.setBinding i { b with curBound := false }).bindSettle i, 0)
  else if b.oldBound ∧ b.oldEpoch = e then ((s.setBinding i { b with oldBound := false }).bindSettle i, 0)
  else (s, 0)

/-- BIND_RELEASE. -/
def execBindRelease (r : GazReq) (s : State) : Host.Outcome State Fault Refusal :=
  s.woRow r G.BIND_RELEASE State.woBindRelease

/-- HOST_LINK_LOST: every binder is released. -/
def execHostLinkLost (s : State) : Host.Outcome State Fault Refusal :=
  let s := { s with host := { s.host with linkUp := false } }
  .next ((upto 16).foldl (fun s i =>
    let b := s.binding i
    if b.curBound ∨ b.oldBound then
      ((s.setBinding i { b with curBound := false, oldBound := false }).event i Code.HOST_LINK_LOST 0 0).bindSettle i
    else s) s)

/-- ORPHAN_ABORT: at the first boundary at or after the end of the grace, unless a binding has been applied, the open
requests complete into the log, which is then cleared with the rings (R350). -/
def execOrphanAbort (inset : Nat) (s : State) : Host.Outcome State Fault Refusal :=
  if inset ≥ 16 then .fault .noSuchInstance else
  let i := inset
  let b := s.binding i
  match b.deadline with
  | none => .next s
  | some t =>
    if b.state ≠ 3 ∨ b.request.isSome ∨ s.tick.lastAt < t then .next s
    else
      let (s, n) := s.closeRequests i Code.ORPHAN_ABORT false none
      let s := s.bump i G.ORPHAN_ABORTS n
      let s := (upto 4).foldl (fun s q => s.setQueue i q QueuePair.reset) s
      let s := s.setSubs (s.host.subs.filter (fun m => m.inset != i))
      .next (s.setBinding i { s.binding i with state := 0, deadline := none, xlogHead := 0, xlogTail := 0 })

/-! ### Role changes (R352) -/

/-- The period of local boundaries in µs: TICK_PERIOD, or its default until the node first holds lock (R433). -/
def State.periodUs (s : State) : Nat := if s.tick.everLocked then s.node G.TICK_PERIOD else 500

/-- FCLK cycle of the boundary numbered `b`, from the period in force. -/
def State.boundaryAt (s : State) (b : Nat) : Nat := s.tick.nextAt + (b - s.tickNo - 1) * usCycles s.periodUs

/-- Less than 20 µs remain before boundary `b`. -/
def State.tooLate (s : State) (b : Nat) : Bool :=
  decide (b ≤ s.tickNo) || decide (s.boundaryAt b < s.clk.cycle + usCycles 20)

/-- TICK_NO in [63:0], STREAM in [71:64], ATLAS_ID in [79:72] (log entry 79). -/
def State.woRoleChange (s : State) (i : Nat) (v : Bytes) : State × Nat :=
  let r := leNat v
  if v.length ≠ 16 ∨ 4 ≤ bf r 71 64 then (s, Code.VALUE_RANGE)
  else if bf r 127 80 ≠ 0 then (s, Code.RESERVED_SET)
  else if s.num i G.INSET_PRIVILEGED = 0 then (s, Code.ROLE_REFUSED)
  else if s.tooLate (bf r 63 0) then (s, Code.PREEMPT_LATE)
  else (s.modInset i (fun t => { t with preempt := some ⟨bf r 63 0, bf r 71 64, some (bf r 79 72)⟩ }), 0)

/-- ROLE_CHANGE. -/
def execRoleChange (r : GazReq) (s : State) : Host.Outcome State Fault Refusal :=
  s.woRow r G.ROLE_CHANGE State.woRoleChange

/-! ### Link and mailbox (R339, R431) -/

/-- CXL_SNOOP: the CL9 holds no host line. -/
def execCxlSnoop (addr : Nat) (s : State) : Host.Outcome State Fault Refusal :=
  .next (if s.alive then s.emit (.cxlRspIHitI addr) else s)

/-- CXL_CONFIG_REQUEST: Request Retry Status until phase 6; before the end of phase 3 the port has not trained and no
request arrives. -/
def execCxlConfigRequest (addr : Nat) (s : State) : Host.Outcome State Fault Refusal :=
  if s.node G.START_PHASE < 4 ∨ !s.alive then .next s
  else .next (s.emit (.cxlConfig addr (decide (s.node G.START_PHASE < 6))))

def mboxUnsupported : Nat := 0x15

/-- A mailbox reply of a function. -/
def State.mailbox (s : State) (fn code : Nat) (data : Bytes) : Host.Outcome State Fault Refusal :=
  if fn ≥ 16 then .fault .noSuchInstance else .next (if s.alive then s.emit (.mailbox fn code data) else s)

/-- GET_SUPPORTED_LOGS: one log, the Command Effects Log. -/
def execGetSupportedLogs (fn : Nat) (s : State) : Host.Outcome State Fault Refusal :=
  s.mailbox fn 0 (toLe 8 1 ++ Config.celUuid ++ toLe 4 Config.commandEffectsLog.length)

/-- GET_LOG: the Command Effects Log only. -/
def execGetLog (fn : Nat) (uuid : Bytes) (offset length : Nat) (s : State) : Host.Outcome State Fault Refusal :=
  if uuid = Config.celUuid then s.mailbox fn 0 (slice Config.commandEffectsLog offset length)
  else s.mailbox fn mboxUnsupported []

/-- Nanoseconds of the timestamp: 0 until it has been set (log entry 80). -/
def State.timestamp (s : State) : Nat :=
  if s.host.stamp = 0 ∧ s.host.stampAt = 0 then 0
  else (s.host.stamp + (s.clk.cycle - s.host.stampAt) * 5 / 12) % 2 ^ 64

/-- GET_TIMESTAMP. -/
def execGetTimestamp (fn : Nat) (s : State) : Host.Outcome State Fault Refusal := s.mailbox fn 0 (toLe 8 s.timestamp)

/-- SET_TIMESTAMP. -/
def execSetTimestamp (fn ns : Nat) (s : State) : Host.Outcome State Fault Refusal :=
  (if s.alive then { s with host := { s.host with stamp := ns % 2 ^ 64, stampAt := s.clk.cycle } } else s).mailbox fn 0 []

/-- Mailbox opcodes that Table 16-1 lists. -/
def mailboxListed : List Nat := [0x0300, 0x0301, 0x0400, 0x0401, 0xC000]

/-- MAILBOX_UNSUPPORTED: any opcode that is not listed. -/
def execMailboxUnsupported (fn opcode : Nat) (s : State) : Host.Outcome State Fault Refusal :=
  if mailboxListed.contains opcode then .next s else s.mailbox fn mboxUnsupported []

end Sys2Proof.Machine
end

