-- ==== Sys2Proof/Machine/Maintain.lean ====
section
/-!
DEFINITION. Index maintenance (chapter 7): INSERT_LINK, DELETE and CONSOLIDATE over the maintenance header, the free
lists, the tombstone map and the repair queue.
-/

namespace Sys2Proof.Machine

/-! Maintenance descriptor (Table 7-1) -/
namespace MntD
def id (d : Nat) : Nat := bf d 3 0
def degreeMax (d : Nat) : Nat := bf d 12 8
def fillPruned (d : Nat) : Bool := bit d 13
def margin (d : Nat) : Int := sext 16 (bf d 31 16)
def linkMax (d : Nat) : Nat := bf d 39 32
def repairMax (d : Nat) : Nat := bf d 63 48
def scanGranules (d : Nat) : Nat := bf d 95 64
def rqEntries (d : Nat) : Nat := bf d 127 96
def base (d : Nat) : Nat := bf d 191 128
def rqBase (d : Nat) : Nat := bf d 255 192
def tmapBase (d : Nat) : Nat := bf d 319 256
def reservedOk (d : Nat) : Bool :=
  bf d 7 4 == 0 && bf d 15 14 == 0 && bf d 47 40 == 0 && bf d 511 320 == 0
end MntD

def Dict.maint (d : Dict) (i k : Nat) : Option Nat :=
  (tableEntries (Dict.blob d i G.MAINT_TABLE) 64).find? (fun e => MntD.id e == k)

/-! ### The maintenance header (Table 7-2) -/

structure MHead where
  vnext   : Nat
  vfree   : Nat
  gnext   : Nat
  gfree   : List Nat
  sweep   : Nat
  rqHead  : Nat
  rqTail  : Nat
  taint   : Bool
  lapStart  : Nat
  lastStart : Nat
  lastEnd   : Nat
  live    : Nat
  tomb    : Nat
  vfreeN  : Nat
  gfreeN  : Nat
  oldN    : Nat
deriving DecidableEq, Repr

def MHead.parse (h : Nat) : MHead :=
  { vnext := bf h 63 32, vfree := bf h 95 64, gnext := bf h 127 96
    gfree := (upto 8).map (fun k => bf h (32 * k + 159) (32 * k + 128))
    sweep := bf h 415 384, rqHead := bf h 447 416, rqTail := bf h 479 448, taint := bit h 480
    lapStart := bf h 553 512, lastStart := bf h 617 576, lastEnd := bf h 681 640
    live := bf h 735 704, tomb := bf h 767 736, vfreeN := bf h 799 768, gfreeN := bf h 831 800, oldN := bf h 863 832 }

def mhMagic : Nat := 0x4D484452

def MHead.bytes (h : MHead) : Bytes :=
  toLe 4 mhMagic ++ toLe 4 h.vnext ++ toLe 4 h.vfree ++ toLe 4 h.gnext ++ ((h.gfree.map (toLe 4)).flatten)
    ++ toLe 4 h.sweep ++ toLe 4 h.rqHead ++ toLe 4 h.rqTail ++ toLe 4 (flagBit h.taint)
    ++ toLe 8 h.lapStart ++ toLe 8 h.lastStart ++ toLe 8 h.lastEnd
    ++ toLe 4 h.live ++ toLe 4 h.tomb ++ toLe 4 h.vfreeN ++ toLe 4 h.gfreeN ++ toLe 4 h.oldN ++ zeros 20

/-- The magic and the pointers of a header (Table 7-7, MAINT_STATE). -/
def headerOk (raw ix md : Nat) : Bool :=
  let h := MHead.parse raw
  let ptr := fun (n cap : Nat) => n == none32 || decide (n < cap)
  bf raw 31 0 == mhMagic && decide (h.vnext ≤ IdxD.vcount ix) && decide (h.gnext ≤ IdxD.gcount ix)
    && ptr h.vfree (IdxD.vcount ix) && h.gfree.all (ptr · (IdxD.gcount ix)) && decide (h.sweep ≤ IdxD.vcount ix)
    && decide (h.rqHead < MntD.rqEntries md) && decide (h.rqTail < MntD.rqEntries md)

/-! ### A maintenance command at work: a private view of memory, its header, its writes, latest first -/

structure MSt where
  mem   : State
  ix    : Nat
  md    : Nat
  n     : Nat
  floor : Nat
  h     : MHead
  ws    : List (Nat × Bytes)
deriving DecidableEq, Repr

/-- A write by the command, which it reads back itself (Table 2-7). -/
def MSt.write (m : MSt) (a : Nat) (bs : Bytes) : MSt :=
  { m with ws := (a, bs) :: m.ws, mem := { m.mem with mem := m.mem.mem.putWords (wordWrites [(a, bs)]) } }

def MSt.line (m : MSt) (v : Nat) : Except Nat Nat := m.mem.vertexLine m.ix v
def MSt.putLine (m : MSt) (v line : Nat) : MSt := m.write (IdxD.vbase m.ix + 64 * v) (toLe 64 line)

/-- All 16 places of a granule. -/
def MSt.places (m : MSt) (g : Nat) : Except Nat (List Nat) :=
  if g ≥ IdxD.gcount m.ix then .error Code.INDEX_CORRUPT
  else
    let a := IdxD.gbase m.ix + 64 * g
    if m.mem.rangeBad a 64 then .error Code.INDEX_UNCORRECTABLE
    else .ok ((upto 16).map (fun j => bf (m.mem.readNat a 64) (32 * j + 31) (32 * j)))

def padPlaces (l : List Nat) : List Nat := (l ++ List.replicate (16 - l.length) none32).take 16
def MSt.putPlaces (m : MSt) (g : Nat) (l : List Nat) : MSt :=
  m.write (IdxD.gbase m.ix + 64 * g) ((padPlaces l).map (toLe 4)).flatten

/-- A line that holds a vertex that is no tombstone. -/
def lineLive (l : Nat) : Bool := Vtx.live l && !Vtx.tomb l

/-! ### Free lists (R145, R151) -/

def MSt.takeVertex (m : MSt) : Except Nat (Option (Nat × MSt)) :=
  if m.h.vfree ≠ none32 then
    match m.line m.h.vfree with
    | .error e => .error e
    | .ok l => .ok (some (m.h.vfree, { m with h := { m.h with vfree := bf l 31 0, vfreeN := m.h.vfreeN - 1 } }))
  else if m.h.vnext < IdxD.vcount m.ix then .ok (some (m.h.vnext, { m with h := { m.h with vnext := m.h.vnext + 1 } }))
  else .ok none

def MSt.takeBlock (m : MSt) (len : Nat) : Except Nat (Option (Nat × MSt)) :=
  let head := nth none32 m.h.gfree (len - 1)
  if head ≠ none32 then
    match m.places head with
    | .error e => .error e
    | .ok p => .ok (some (head, { m with h := { m.h with
        gfree := modNth (fun _ => nth none32 p 0) m.h.gfree (len - 1), gfreeN := m.h.gfreeN - len } }))
  else if m.h.gnext + len ≤ IdxD.gcount m.ix then
    .ok (some (m.h.gnext, { m with h := { m.h with gnext := m.h.gnext + len } }))
  else .ok none

def MSt.freeBlock (m : MSt) (g len : Nat) : MSt :=
  let m := m.write (IdxD.gbase m.ix + 64 * g) (toLe 4 (nth none32 m.h.gfree (len - 1)))
  { m with h := { m.h with gfree := modNth (fun _ => g) m.h.gfree (len - 1), gfreeN := m.h.gfreeN + len } }

/-! ### Block changes (R150) -/

/-- The granules of `u` replaced; false when blocked. No free block for the copy is taken as blocked (DEDUCED, log entry
48). -/
def MSt.blockChange (m : MSt) (u : Nat) (levels : List (List Nat)) : Except Nat (Bool × MSt) :=
  let len := levels.length
  match m.takeBlock len with
  | .error e => .error e
  | .ok none => .ok (false, m)
  | .ok (some (g, m)) =>
    let m := (mapIdxFrom (fun k l => (k, l)) 0 levels).foldl (fun m kl => m.putPlaces (g + kl.1) kl.2) m
    match m.line u with
    | .error e => .error e
    | .ok line =>
      if Vtx.since line = m.n then
        let m := m.freeBlock (Vtx.cur line) len
        .ok (true, m.putLine u (setBf line 351 320 g))
      else if Vtx.old line = none32 ∨ Vtx.since line ≤ m.floor then
        let m := if Vtx.old line = none32 then m else
          let m := m.freeBlock (Vtx.old line) len
          { m with h := { m.h with oldN := m.h.oldN - len } }
        let m := { m with h := { m.h with oldN := m.h.oldN + len } }
        .ok (true, m.putLine u (setBf (setBf (setBf line 383 352 (Vtx.cur line)) 351 320 g) 509 468 m.n))
      else .ok (false, m.freeBlock g len)

/-! ### Edges (R155, R156) -/

/-- S(a, b): the dot product of two sketches. -/
def sketchDot (a b : Nat) : Int := ((upto 64).map (fun i => sketchAt a i * sketchAt b i)).foldl (· + ·) 0

/-- The greedy part of the edge rule: kept and pruned, with their lines. -/
def pickEdges (md x : Nat) (cs : List (Nat × Nat)) : List (Nat × Nat) × List (Nat × Nat) :=
  cs.foldl (fun (acc : List (Nat × Nat) × List (Nat × Nat)) c =>
    if acc.1.length = MntD.degreeMax md then acc
    else if acc.1.any (fun k => decide (sketchDot c.2 x + MntD.margin md < sketchDot c.2 k.2)) then (acc.1, acc.2 ++ [c])
    else (acc.1 ++ [c], acc.2)) ([], [])

/-- R155: the neighbour list for a centre line from candidates (vertex, line). -/
def selectEdges (md x : Nat) (cs : List (Nat × Nat)) : List Nat :=
  let sorted := sortBy (fun a b => ahead (sketchDot a.2 x, a.1) (sketchDot b.2 x, b.1)) (nub cs)
  let (kept, pruned) := pickEdges md x sorted
  (kept ++ (if MntD.fillPruned md then pruned.take (MntD.degreeMax md - kept.length) else [])).map (·.1)

/-- Vertices with their current lines, those that satisfy `p`. -/
def MSt.withLines (m : MSt) (p : Nat → Bool) : List Nat → Except Nat (List (Nat × Nat))
  | [] => .ok []
  | v :: vs =>
    match m.line v with
    | .error e => .error e
    | .ok l => match m.withLines p vs with
      | .error e => .error e
      | .ok r => .ok (if p l then (v, l) :: r else r)

/-- The places of every level of a line's current block. -/
def MSt.levels (m : MSt) (line : Nat) : Except Nat (List (List Nat)) :=
  (upto (Vtx.top line + 1)).foldl (fun acc k => match acc with
    | .error e => .error e
    | .ok ls => match m.places (Vtx.cur line + k) with
      | .error e => .error e
      | .ok p => .ok (ls ++ [p])) (.ok [])

/-- The first empty place filled. -/
def fillPlace (v : Nat) : List Nat → List Nat
  | [] => []
  | x :: xs => if x = none32 then v :: xs else x :: fillPlace v xs

/-- How an attempt at a reverse edge ended. -/
inductive RevEnd where
  | nothing | added | deferred | dropped | blocked
deriving DecidableEq, Repr

/-- An entry appended to the repair queue, or dropped when it is full (R156). -/
def MSt.defer (m : MSt) (u v l : Nat) : RevEnd × MSt :=
  let q := MntD.rqEntries m.md
  if (m.h.rqTail + 1) % q = m.h.rqHead then (.dropped, m)
  else
    let m := m.write (MntD.rqBase m.md + 16 * m.h.rqTail) (toLe 16 (u + v * 2 ^ 32 + l * 2 ^ 64))
    (.deferred, { m with h := { m.h with rqTail := (m.h.rqTail + 1) % q } })

/-- add_reverse (R156); a vertex that has no level `l` takes no edge there (DEDUCED, log entry 48). A blocked change is
deferred, or answered as blocked in the queue stage. -/
def MSt.addReverse (m : MSt) (u v l : Nat) (queueing : Bool) : Except Nat (RevEnd × MSt) :=
  match m.line u with
  | .error e => .error e
  | .ok line =>
    if Vtx.top line < l then .ok (.nothing, m) else
    match m.levels line with
    | .error e => .error e
    | .ok ls =>
      let g := nth [] ls l
      let change := fun (new : List Nat) =>
        match m.blockChange u (modNth (fun _ => new) ls l) with
        | .error e => .error e
        | .ok (true, m) => .ok (.added, m)
        | .ok (false, m) => .ok (if queueing then m.defer u v l else (.blocked, m))
      if g.contains v then .ok (.nothing, m)
      else if g.contains none32 then change (fillPlace v g)
      else match m.withLines lineLive g, m.line v with
        | .error e, _ => .error e
        | _, .error e => .error e
        | .ok cs, .ok lv =>
          let kept := selectEdges m.md line (cs ++ [(v, lv)])
          if kept.contains v then change (padPlaces kept) else .ok (.nothing, m)

/-! ### INSERT_LINK (R153, R154, R157) -/

/-! Insert record header (Table 7-4) -/
namespace InsH
def top (h : Nat) : Nat := bf h 130 128
def localId (h : Nat) : Nat := bf h 175 136
def attr (h : Nat) : Nat := bf h 191 176
def sketch (h : Nat) : Nat := bf h 447 192
def magic (h : Nat) : Nat := bf h 479 448
end InsH

/-- Candidates at level `l` (R154): the pool at level 0, else the 36 best scored at that level in the slot's descent. -/
def levelCands (sl : Slot) (seen : List (Nat × Int × Nat)) (l : Nat) : List Nat :=
  if l = 0 then (sl.pool.filter (fun e => !e.tomb)).map (·.vertex)
  else ((sortBy ahead (nub ((seen.filter (fun e => e.1 == l)).map (·.2)))).take 36).map (·.2)

/-- The neighbour lists of the new vertex, levels 0 to `top`. -/
def MSt.newEdges (m : MSt) (sl : Slot) (seen : List (Nat × Int × Nat)) (line : Nat) (top : Nat) :
    Except Nat (List (List Nat)) :=
  (upto (top + 1)).foldl (fun acc l => match acc with
    | .error e => .error e
    | .ok ls => match m.withLines lineLive (nub (levelCands sl seen l)) with
      | .error e => .error e
      | .ok cs => .ok (ls ++ [selectEdges m.md line cs])) (.ok [])

/-- Counts of an insert: edges out, added, deferred, dropped. -/
structure InsCnt where
  out  : Nat
  add  : Nat
  def_ : Nat
  drop : Nat
deriving DecidableEq, Repr

/-- The reverse edges of a new vertex in level and place order, LINK_MAX attempted, the rest deferred. -/
def MSt.reverseAll (m : MSt) (v : Nat) : List (Nat × Nat) → Nat → InsCnt → MSt × InsCnt × Nat
  | [], _, n => (m, n, 0)
  | (u, l) :: r, tries, n =>
    let done := if tries = MntD.linkMax m.md then .ok (m.defer u v l) else m.addReverse u v l true
    match done with
    | .error e => (m, n, e)
    | .ok (res, m) =>
      let n := match res with
        | .added => { n with add := n.add + 1 }
        | .deferred => { n with def_ := n.def_ + 1 }
        | .dropped => { n with drop := n.drop + 1 }
        | _ => n
      m.reverseAll v r (if tries = MntD.linkMax m.md then tries else tries + 1) n

/-- Status record of an insert (Table 7-5). -/
def insertStatus (qid v code n : Nat) (cnt : InsCnt) (cut : Bool) : Nat :=
  qid + v * 2 ^ 64 + code * 2 ^ 96 + (cnt.out % 256) * 2 ^ 112 + (cnt.add % 256) * 2 ^ 120 + (cnt.def_ % 256) * 2 ^ 128
    + (cnt.drop % 256) * 2 ^ 136 + flagBit cut * 2 ^ 144 + n * 2 ^ 168

/-- One slot of INSERT_LINK: the state, its status record, its fetch entry, and its counts with whether a vertex was
inserted. -/
def MSt.linkSlot (m : MSt) (index dmax : Nat) (slot : Option Slot) : MSt × Nat × Nat × InsCnt × Bool :=
  let zero : InsCnt := ⟨0, 0, 0, 0⟩
  let fin := fun (qid code : Nat) (cut : Bool) => (m, insertStatus qid none32 code m.n zero cut, ones64, zero, false)
  match slot with
  | none => fin 0 Code.INSERT_RECORD false
  | some sl =>
    let cut := sl.state == 1
    if sl.index ≠ index then fin sl.queryId Code.INSERT_RECORD cut
    else if sl.code ≠ 0 then fin sl.queryId sl.code cut
    else if m.mem.rangeBad sl.qrec 64 then fin sl.queryId Code.INDEX_UNCORRECTABLE cut
    else
      let rec_ := m.mem.readNat sl.qrec 64
      let top := InsH.top rec_
      if InsH.magic rec_ ≠ 0x494E5352 ∨ top > IdxD.topMax m.ix then fin sl.queryId Code.INSERT_RECORD cut
      else match m.takeVertex with
        | .error e => fin sl.queryId e cut
        | .ok none => fin sl.queryId Code.INDEX_FULL cut
        | .ok (some (v, m1)) => match m1.takeBlock (top + 1) with
          | .error e => fin sl.queryId e cut
          | .ok none => fin sl.queryId Code.GRANULE_FULL cut
          | .ok (some (blk, m2)) =>
            let seen : Except Nat (List (Nat × Int × Nat)) := if top = 0 then .ok [] else
              match m2.mem.descend m2.ix dmax sl with
              | .error e => .error e
              | .ok d => .ok d.seen
            let line := InsH.sketch rec_ + InsH.localId rec_ * 2 ^ 256 + top * 2 ^ 296 + 2 ^ 300
              + InsH.attr rec_ * 2 ^ 304 + blk * 2 ^ 320 + none32 * 2 ^ 352 + m.n * 2 ^ 384 + m.n * 2 ^ 468
            match seen with
            | .error e => fin sl.queryId e cut
            | .ok seen => match m2.newEdges sl seen line top with
              | .error e => fin sl.queryId e cut
              | .ok nbr =>
                let m3 := (mapIdxFrom (fun k l => (k, l)) 0 nbr).foldl (fun m kl => m.putPlaces (blk + kl.1) kl.2) m2
                let m4 := m3.putLine v line
                let m5 := { m4 with h := { m4.h with live := m4.h.live + 1 } }
                let all := (mapIdxFrom (fun l us => us.map (fun u => (u, l))) 0 nbr).flatten
                let (m6, cnt, code) := m5.reverseAll v all 0 { zero with out := all.length }
                (m6, insertStatus sl.queryId v code m.n cnt cut, fetchEntry m.ix v, cnt, true)

/-! ### DELETE (R158) -/

/-- One delete record: the state, its status record, and whether a tombstone was made. -/
def MSt.deleteOne (m : MSt) (rec_ : Nat) : MSt × Nat × Bool :=
  let v := bf rec_ 31 0
  let entry := flagBit (v == IdxD.entry m.ix) * 2 ^ 91
  let st := fun (code seq : Nat) (rep : Bool) => v + code * 2 ^ 32 + seq * 2 ^ 48 + flagBit rep * 2 ^ 90 + entry
  if v ≥ IdxD.vcount m.ix then (m, st Code.DELETE_NOT_FOUND 0 false, false) else
  match m.line v with
  | .error e => (m, st e 0 false, false)
  | .ok l =>
    if !Vtx.live l ∨ Vtx.localId l ≠ bf rec_ 71 32 then (m, st Code.DELETE_NOT_FOUND 0 false, false)
    else if Vtx.tomb l then (m, st 0 (Vtx.delSeq l) true, false)
    else
      let m := m.putLine v (setBf (setBf l 301 301 1) 467 426 m.n)
      let a := MntD.tmapBase m.md + v / 8
      let b := m.mem.readNat a 1
      let m := m.write a (toLe 1 (setBf b (v % 8) (v % 8) 1))
      ({ m with h := { m.h with live := m.h.live - 1, tomb := m.h.tomb + 1 } }, st 0 m.n false, true)

/-! ### CONSOLIDATE (R160 to R163) -/

structure Report where
  granules : Nat
  repairs  : Nat
  applied  : Nat
  discarded : Nat
  reclaimed : Nat
  oldFreed : Nat
  blocked  : Bool
  laps     : Nat
  skipped  : Nat
deriving DecidableEq, Repr

def Report.zero : Report := ⟨0, 0, 0, 0, 0, 0, false, 0, 0⟩

/-- An entry of the queue is applied when both its vertices are live; an entry that cannot be read or that names a bad
line is discarded (DEDUCED, log entry 49). -/
def MSt.applyEntry (m : MSt) : Option (RevEnd × MSt) :=
  let a := MntD.rqBase m.md + 16 * m.h.rqHead
  if m.mem.rangeBad a 16 then none else
  let e := m.mem.readNat a 16
  match m.line (bf e 31 0), m.line (bf e 63 32) with
  | .ok lu, .ok lv =>
    if lineLive lu && lineLive lv then
      match m.addReverse (bf e 31 0) (bf e 63 32) (bf e 66 64) false with
      | .ok r => some r
      | .error _ => none
    else none
  | _, _ => none

def MSt.popQueue (m : MSt) : MSt := { m with h := { m.h with rqHead := (m.h.rqHead + 1) % MntD.rqEntries m.md } }

/-- The queue stage. -/
def MSt.queueStage : Nat → MSt → Report → MSt × Report
  | 0, m, r => (m, r)
  | f + 1, m, r =>
    if m.h.rqHead = m.h.rqTail ∨ r.repairs ≥ MntD.repairMax m.md then (m, r) else
    match m.applyEntry with
    | none => MSt.queueStage f m.popQueue { r with discarded := r.discarded + 1 }
    | some (.blocked, m) => (m, r)
    | some (_, m) => MSt.queueStage f m.popQueue { r with applied := r.applied + 1, repairs := r.repairs + 1 }

/-- A vertex's line is a tombstone. -/
def lineTomb (l : Nat) : Bool := Vtx.live l && Vtx.tomb l

/-- Neighbours at a level that the edge rule runs over, tombstones replaced by their own neighbours. -/
def MSt.bridge (m : MSt) (u l : Nat) : List (Nat × Nat) → Except Nat (List Nat)
  | [] => .ok []
  | (_, line) :: r =>
    match m.bridge u l r with
    | .error e => .error e
    | .ok rest =>
      if Vtx.top line < l then .ok rest else
      match m.places (Vtx.cur line + l) with
      | .error e => .error e
      | .ok p => .ok (p.filter (fun w => w != none32 && w != u) ++ rest)

/-- The repaired levels of a live line, or none when it names no tombstone but ENTRY_VERTEX. -/
def MSt.repaired (m : MSt) (u line : Nat) : Except Nat (Option (List (List Nat))) :=
  match m.levels line with
  | .error e => .error e
  | .ok ls =>
    (mapIdxFrom (fun k l => (k, l)) 0 ls).foldl (fun acc kl => match acc with
      | .error e => .error e
      | .ok cur =>
        let named := kl.2.filter (fun w => w != none32)
        match m.withLines lineTomb (named.filter (fun w => w != IdxD.entry m.ix)) with
        | .error e => .error e
        | .ok [] => .ok cur
        | .ok tombs => match m.bridge u kl.1 tombs with
          | .error e => .error e
          | .ok more => match m.withLines lineLive (nub (named ++ more)) with
            | .error e => .error e
            | .ok cs =>
              let base := cur.getD ls
              .ok (some (modNth (fun _ => padPlaces (selectEdges m.md line cs)) base kl.1))) (.ok none)

/-- R161. -/
def MSt.reclaim (m : MSt) (t line : Nat) : MSt :=
  let len := Vtx.top line + 1
  let m := m.freeBlock (Vtx.cur line) len
  let m := if Vtx.old line = none32 then m else
    let m := m.freeBlock (Vtx.old line) len
    { m with h := { m.h with oldN := m.h.oldN - len } }
  let m := m.putLine t (setBf (setBf line 300 300 0) 31 0 m.h.vfree)
  let a := MntD.tmapBase m.md + t / 8
  let m := m.write a (toLe 1 (setBf (m.mem.readNat a 1) (t % 8) (t % 8) 0))
  { m with h := { m.h with vfree := t, tomb := m.h.tomb - 1, vfreeN := m.h.vfreeN + 1 } }

/-- What the scan does at a line, before budgets: its cost in granules, and the change if any. -/
inductive ScanAct where
  | pass | skip | reclaim | freeOld
  | repair (levels : List (List Nat))
deriving DecidableEq, Repr

/-- The action at vertex `u` (R160, R161, R163). A line that is not LIVE costs nothing; an unreadable one costs one
granule (DEDUCED, log entry 47). -/
def MSt.scanAct (m : MSt) (u : Nat) : Nat × Nat × ScanAct :=
  match m.line u with
  | .error _ => (0, 1, .skip)
  | .ok line =>
    let cost := if Vtx.live line then Vtx.top line + 1 else 0
    let other := if Vtx.live line ∧ Vtx.old line ≠ none32 ∧ Vtx.since line ≤ m.floor then ScanAct.freeOld else .pass
    if lineTomb line then
      (line, cost, if u ≠ IdxD.entry m.ix ∧ Vtx.delSeq line < m.h.lastStart ∧ m.h.lastEnd ≤ m.floor then .reclaim else other)
    else if Vtx.live line then
      match m.repaired u line with
      | .error _ => (line, cost, .skip)
      | .ok (some ls) => (line, cost, .repair ls)
      | .ok none => (line, cost, other)
    else (line, cost, .pass)

/-- A change costs a repair. -/
def ScanAct.changes : ScanAct → Bool
  | .pass => false
  | .skip => false
  | _ => true

/-- The lap ends (R160). -/
def MSt.endLap (m : MSt) : MSt :=
  let h := m.h
  { m with h := { h with
      lastStart := if h.taint then h.lastStart else h.lapStart
      lastEnd := if h.taint then h.lastEnd else m.n
      lapStart := m.n, taint := false, sweep := 0 } }

/-- The scan from SWEEP_POS with the granules left; `idle` says that nothing was read since the last lap end. -/
def MSt.scan : Nat → MSt → Report → Nat → Bool → MSt × Report
  | 0, m, r, _, _ => (m, r)
  | f + 1, m, r, left, idle =>
    if m.h.sweep ≥ m.h.vnext then
      if idle then (m, r) else MSt.scan f m.endLap { r with laps := r.laps + 1 } left true
    else
      let u := m.h.sweep
      let (line, cost, act) := m.scanAct u
      if cost > left then (m, r)
      else if act.changes && decide (r.repairs ≥ MntD.repairMax m.md) then (m, r)
      else
        let r := { r with granules := r.granules + cost }
        let idle' := idle && cost == 0
        let next := fun (m : MSt) => { m with h := { m.h with sweep := u + 1 } }
        match act with
        | .pass => MSt.scan f (next m) r (left - cost) idle'
        | .skip => MSt.scan f (next { m with h := { m.h with taint := true } }) { r with skipped := r.skipped + 1 } (left - cost) idle'
        | .reclaim => MSt.scan f (next (m.reclaim u line)) { r with repairs := r.repairs + 1, reclaimed := r.reclaimed + 1 }
            (left - cost) idle'
        | .freeOld =>
          let len := Vtx.top line + 1
          let m := (m.freeBlock (Vtx.old line) len).putLine u (setBf line 383 352 none32)
          let m := { m with h := { m.h with oldN := m.h.oldN - len } }
          MSt.scan f (next m) { r with repairs := r.repairs + 1, oldFreed := r.oldFreed + 1 } (left - cost) idle'
        | .repair ls =>
          match m.blockChange u ls with
          | .ok (true, m) => MSt.scan f (next m) { r with repairs := r.repairs + 1 } (left - cost) idle'
          | .ok (false, m) => (m, { r with blocked := true })
          | .error _ => MSt.scan f (next { m with h := { m.h with taint := true } }) { r with skipped := r.skipped + 1 }
              (left - cost) idle'

/-- The report of Table 7-6. -/
def Report.word (r : Report) (from_ to_ : Nat) : Nat :=
  from_ + to_ * 2 ^ 32 + r.granules * 2 ^ 64 + (r.repairs % 65536) * 2 ^ 96 + (r.applied % 65536) * 2 ^ 112
    + (r.discarded % 65536) * 2 ^ 128 + (r.reclaimed % 65536) * 2 ^ 144 + (r.oldFreed % 65536) * 2 ^ 160
    + flagBit r.blocked * 2 ^ 176 + flagBit (r.laps != 0) * 2 ^ 177

/-! ### The commands -/

/-- Stamp of a Sheet (R148). -/
def stamp (seq : Nat) : Nat := seq % 2 ^ 42

/-- MAINT_FLOOR of the running Sheet for an index (R149). -/
def State.maintFloor (s : State) (i k seq : Nat) : Nat := min (stamp (seq - 1)) (nth ones64 (s.inset i).oldest k)

/-- The state a maintenance command starts from, or the fault that kills it at its start. -/
def State.maintStart (s : State) (r : CmdRef) (c : Cmd) (extra : List (Nat × Nat)) : Except Res MSt :=
  let k := TrvP.index (leNat c.params)
  let ix := s.index r.inset k
  let md := (Dict.maint s.gaz.regs r.inset k).getD 0
  let seq := match s.sheetOf r with | some sh => sh.seq | none => 0
  match s.readFault c ((MntD.base md, 128) :: extra) with
  | some f => .error f
  | none =>
    let raw := s.readNat (MntD.base md) 128
    if headerOk raw ix md then .ok ⟨s, ix, md, stamp seq, s.maintFloor r.inset k seq, MHead.parse raw, []⟩
    else .error (.fault Code.MAINT_STATE)

/-- The command's writes, header last. -/
def MSt.finish (m : MSt) : List (Nat × Bytes) := (m.write (MntD.base m.md) m.h.bytes).ws.reverse

/-- The work of INSERT_LINK. -/
def State.linkWork (s : State) (r : CmdRef) (c : Cmd) : State × Res :=
  let p := leNat c.params
  match s.maintStart r c [] with
  | .error f => (s, f)
  | .ok m0 =>
    let (m, ins, cnt) := (upto (TrvP.slotCount p)).foldl (fun (acc : MSt × Nat × InsCnt) k =>
      let (m, ins, cnt) := acc
      let sl := s.slot c.index (TrvP.slotBase p + k)
      let dmax := match sl with | some x => ClsD.descentMax (s.searchClass x.inset x.classId) | none => 0
      let (m, st, fe, n, ok) := m.linkSlot (TrvP.index p) dmax sl
      let m := (m.write (TrvP.outAddr p + 8 * k) (toLe 8 fe)).write (TrvP.statusAddr p + 32 * k) (toLe 32 st)
      (m, ins + flagBit ok, { cnt with def_ := cnt.def_ + n.def_, drop := cnt.drop + n.drop })) (m0, 0, ⟨0, 0, 0, 0⟩)
    let frees := ((s.slotsOf c p).map (fun e => Eff.setSlot (slotKey c.index (TrvP.slotBase p + e.1)) none))
    (s, .done { Work.ofWrites m.finish with
      onCommit := frees ++ [.addReg r.inset G.MAINT_INSERTS ins, .addReg r.inset G.REV_DEFERRED cnt.def_,
        .addReg r.inset G.REV_DROPPED cnt.drop] })

/-- The work of DELETE. -/
def State.deleteWork (s : State) (r : CmdRef) (c : Cmd) : State × Res :=
  let p := leNat c.params
  let n := TrvP.slotCount p
  match s.maintStart r c [(TrvP.inAddr p, 16 * n)] with
  | .error f => (s, f)
  | .ok m0 =>
    let (m, dels) := (upto n).foldl (fun (acc : MSt × Nat) k =>
      let (m, st, ok) := acc.1.deleteOne (s.readNat (TrvP.inAddr p + 16 * k) 16)
      (m.write (TrvP.statusAddr p + 32 * k) (toLe 32 st), acc.2 + flagBit ok)) (m0, 0)
    (s, .done { Work.ofWrites m.finish with onCommit := [.addReg r.inset G.MAINT_DELETES dels] })

/-- The work of CONSOLIDATE. -/
def State.consolidateWork (s : State) (r : CmdRef) (c : Cmd) : State × Res :=
  let p := leNat c.params
  match s.maintStart r c [] with
  | .error f => (s, f)
  | .ok m0 =>
    let (m, rep) := MSt.queueStage (MntD.rqEntries m0.md) m0 Report.zero
    let budget := MntD.scanGranules m0.md
    let (m, rep) := MSt.scan ((budget + 2) * (m.h.vnext + 2)) m rep budget false
    let m := m.write (TrvP.statusAddr p) (toLe 64 (rep.word m0.h.sweep m.h.sweep))
    (s, .done { Work.ofWrites m.finish with
      onCommit := [.addReg r.inset G.SCAN_BLOCKED (flagBit rep.blocked), .addReg r.inset G.SCAN_SKIPPED rep.skipped,
        .addReg r.inset G.TOMB_RECLAIMED rep.reclaimed, .addReg r.inset G.LAPS_DONE rep.laps] })

/-- INSERT_LINK (R154). -/
def execInsertLink (c : CmdRef) (hw : Hw) (s : State) : Host.Outcome State Fault Refusal :=
  s.engineRow c hw 4 0x10 slotData (fun s x => s.linkWork c x)

/-- DELETE (R158). -/
def execDelete (c : CmdRef) (hw : Hw) (s : State) : Host.Outcome State Fault Refusal :=
  s.engineRow c hw 4 0x11 slotData (fun s x => s.deleteWork c x)

/-- CONSOLIDATE (R160). -/
def execConsolidate (c : CmdRef) (hw : Hw) (s : State) : Host.Outcome State Fault Refusal :=
  s.engineRow c hw 4 0x12 slotData (fun s x => s.consolidateWork c x)

end Sys2Proof.Machine
end

