-- ==== Sys2Proof/Machine/Placement.lean ====
section
/-!
DEFINITION. The Chart engine (chapter 9): ROW_REPLACE, SURVEY_CLOSE, PLACE_DECIDE, MIG_FETCH_LIST, MIG_SEND, CHART_COMMIT
and ATLAS_SWITCH.
-/

namespace Sys2Proof.Machine

/-! Parameter block (Table 9-5) and change entries (Table 9-6) -/
namespace ChartP
def table (p : Nat) : Nat := bf p 5 0
def atlas (p : Nat) : Nat := bf p 9 8
def slots (p : Nat) : Nat := bf p 31 16
def countMax (p : Nat) : Nat := bf p 63 32
def inStride (p : Nat) : Nat := bf p 95 64
def outStride (p : Nat) : Nat := bf p 127 96
def inAddr (p : Nat) : Nat := bf p 191 128
def outAddr (p : Nat) : Nat := bf p 255 192
def auxAddr (p : Nat) : Nat := bf p 319 256
def statusAddr (p : Nat) : Nat := bf p 383 320
def seed (p : Nat) : Nat := bf p 447 384
def reservedOk (p : Nat) : Bool := bf p 7 6 == 0 && bf p 15 10 == 0 && bf p 511 448 == 0
end ChartP

/-- Table descriptor and row-version entry of a command's table. -/
def State.chartTable (s : State) (i : Nat) (p : Nat) : Nat := (Dict.embTable s.gaz.regs i (ChartP.table p)).getD 0
def State.chartVers (s : State) (i : Nat) (p : Nat) : Nat := (Dict.rowVers s.gaz.regs i (ChartP.table p)).getD 0

/-! ### ROW_REPLACE (R195) -/

/-- The effect on one key: the first case of R195 that holds. -/
def State.replaceRow (s : State) (i t n seed g : Nat) (body : List Nat) : Applied :=
  if !inTable t g then ⟨[], Code.EMB_PARAM_ROW, 0⟩
  else match s.ownRow i t (n - 1) g with
  | none => ⟨[], Code.EMB_NOT_OWNER, 0⟩
  | some x =>
    if x.cls = 3 then ⟨[], Code.EMB_FLASH_UPDATE, 0⟩
    else
      let l := s.rowLoc i t (n - 1) g x
      if (s.firstBad l.reads).isSome then ⟨[], Code.EMB_ROW_UNCORRECTABLE, 0⟩
      else if x.cls ≠ 0 && !EmbT.recal t && s.rangeBad l.addr 64 then ⟨[], Code.EMB_ROW_UNCORRECTABLE, 0⟩
      else
        let (row, sat) := newRow t x.cls seed g (s.readBytes l.addr 8) body
        ⟨s.versionWrites i t g n l row, 0, sat⟩

def State.replaceWork (s : State) (r : CmdRef) (c : Cmd) : State × Res :=
  let i := r.inset
  let p := leNat c.params
  let t := s.chartTable i p
  let dim := EmbT.dim t
  let a := ChartP.inAddr p
  let sl := InSlot.mk a (s.readNat a 64) s.nodeId
  match s.takeSlots c 4 (ChartP.table p) (ChartP.inStride p) false [sl] with
  | .error e => (s, e)
  | .ok ks =>
    let keys := (ks.map (·.2)).flatten
    if ChartP.countMax p < keys.length then (s, .fault Code.EMB_OVERFLOW) else
    let s := s.noteReads [(a, BatH.bytes sl.hdr)]
    let n := s.stampOf i
    let base := a + 64 + roundUp (8 * keys.length) 64
    let rs := mapIdxFrom (fun j g =>
      s.replaceRow i t n (ChartP.seed p) g ((upto dim).map (fun k => s.readNat (base + 4 * (dim * j + k)) 4))) 0 keys
    let count := fun code => (rs.filter (fun x => x.code == code)).length
    (s, .done { Work.ofWrites ((rs.map (·.writes)).flatten
        ++ [(ChartP.statusAddr p, toLe 64 (applyReport keys.length 0 rs n))]) with
      onCommit := s.chartEvents i t keys ++ [.addReg i G.REPLACE_ROWS (count 0),
        .addReg i G.EMB_SAT ((rs.map (·.sat)).sum), .addReg i G.UPDATE_SKIPPED (count Code.EMB_FLASH_UPDATE)] })

/-! ### SURVEY_CLOSE (R197, R198) -/

/-- Counter `k` of the three Survey arrays of a table. -/
def State.surveyCount (s : State) (rv k : Nat) : Nat := s.readNat (RvD.survey rv + 4 * k) 4

/-- Entries of range `i` of `n`. -/
def surveyRange (e n i : Nat) : Nat × Nat := (i * e / n, (i + 1) * e / n)

def sat32 (n : Nat) : Nat := min n 0xFFFFFFFF

def State.surveyWork (s : State) (r : CmdRef) (c : Cmd) : State × Res :=
  let i := r.inset
  let p := leNat c.params
  let t := s.chartTable i p
  let rv := s.chartVers i p
  let e := EmbT.entries t
  match s.readFault c [(RvD.survey rv, 8 * e + 4 * EmbT.shardCount t)] with
  | some f => (s, f)
  | none =>
    let bank := 1 - (s.inset i).banks.get 0 (ChartP.table p)
    let nodes := Dict.embNodes s.gaz.regs i
    let n := nodes.length
    let counts := (upto e).map (fun k => s.surveyCount rv (bank * e + k))
    let loads := (upto (EmbT.shardCount t)).map (fun k => s.surveyCount rv (2 * e + k))
    let served := sat32 loads.sum
    let gen := s.num i G.ATLAS_GEN
    let writes := mapIdxFrom (fun k node =>
      let (lo, hi) := surveyRange e n k
      (ChartP.outAddr p + k * ChartP.outStride p,
        batchHeader 6 0 0 (ChartP.table p) s.nodeId node (hi - lo) 0 0 0 0 0 0 gen (72 + 4 * (hi - lo))
          ++ toLe 8 served ++ (((counts.drop lo).take (hi - lo)).map (toLe 4)).flatten)) 0 nodes
    let report := (loads.map (toLe 4)).flatten
    let takes := (mapIdxFrom (fun k v => (bank * e + k, v)) 0 counts ++ mapIdxFrom (fun k v => (2 * e + k, v)) 0 loads).filterMap
      (fun kv => if kv.2 = 0 then none else some (Eff.surveyTake i (ChartP.table p) kv.1 kv.2))
    (s, .done { Work.ofWrites (writes ++ [(ChartP.statusAddr p, report)]) with
      onCommit := takes ++ [.surveyLoad i (ChartP.table p) report] })

/-! ### PLACE_DECIDE (R199, R206) -/

/-- fp64 operations, rounded once each. -/
def r64 (x : Fl) : Fl := fmt64.decode (fmt64.encode x)
def f64add (a b : Fl) : Fl := r64 (a.add b)
def f64sub (a b : Fl) : Fl := r64 (a.add b.neg)
def f64mul (a b : Fl) : Fl := r64 (a.mul b)
def f64div (a b : Fl) : Fl := fmt64.decode (fmt64.div a b)
def f64pos (a : Fl) : Fl := if Fl.lt (.fin false 0 0) a then a else .fin false 0 0

/-- Owner modes of R206: 0 HW, 1 SW, 2 BOUNDED. -/
structure Policy where
  owner    : Nat
  clsMin   : Nat
  clsMax   : Nat
  moveMax  : Nat
  /-- Linear ids allowed as owner; empty stands for all of EMB_NODES. -/
  set      : List Nat
deriving DecidableEq, Repr

def Dict.policy (d : Dict) (i : Nat) : Policy :=
  let b := Dict.blob d i G.PLACE_OWNER_SET
  { owner := Dict.num d i G.PLACE_OWNER, clsMin := Dict.num d i G.PLACE_CLASS_MIN
    clsMax := Dict.num d i G.PLACE_CLASS_MAX, moveMax := Dict.num d i G.PLACE_MOVE_MAX
    set := (chunks 2 (b.length / 2) b).map leNat }

/-- policy() of R199: the decision after a pin, the SW setting or the bounds, and whether it was held. -/
def Policy.apply (q : Policy) (cur own cls emitted : Nat) : Nat × Nat × Bool :=
  let keep := (ChE.owner cur, ChE.cls cur)
  if ChE.pin cur || q.owner == 1 then (keep.1, keep.2, true)
  else if q.owner = 2 then
    let cls' := max q.clsMin (min q.clsMax cls)
    let own' := if own ≠ ChE.owner cur && !q.set.isEmpty && !q.set.contains own then ChE.owner cur else own
    if q.moveMax ≤ emitted then (keep.1, keep.2, true)
    else (own', cls', cls' != cls || own' != own)
  else (own, cls, false)

/-- Running values of the decision loop. -/
structure Decide where
  give    : List Fl
  take    : Fl
  emitted : Nat
  held    : Nat
  isOver    : Nat
  list    : List (Nat × Nat × Nat)
deriving DecidableEq, Repr

/-- Target class of a count (R172). -/
def targetClass (w : Option Nat) (c dflt : Nat) : Nat :=
  match w with
  | none => dflt
  | some e => if bf e 63 32 ≤ c then 0 else if bf e 95 64 ≤ c then 1 else if bf e 127 96 ≤ c then 2 else 3

/-- One entry of the range. -/
def decideEntry (q : Policy) (w : Option Nat) (nodes : List Nat) (me countMax : Nat) (x : Decide) (e cur cnt : Nat) :
    Decide :=
  if !ChE.present cur then x else
  let c := Fl.ofNat cnt
  let cls := targetClass w cnt (ChE.cls cur)
  let slot := nodes.findIdx? (· == ChE.owner cur)
  let le := fun (a b : Fl) => !Fl.lt b a
  let pull := cls == 0 && ChE.owner cur != me && (match slot with
    | some k => le c (nth (.fin false 0 0) x.give k)
    | none => false) && le c x.take
  let x := if pull then { x with give := modNth (fun g => f64sub g c) x.give (slot.getD 0), take := f64sub x.take c } else x
  let own := if pull then me else ChE.owner cur
  if own = ChE.owner cur ∧ cls = ChE.cls cur then x else
  let (own, cls, held) := q.apply cur own cls x.emitted
  let x := if held then { x with held := x.held + 1 } else x
  if own = ChE.owner cur ∧ cls = ChE.cls cur then x
  else if x.emitted = countMax then { x with isOver := x.isOver + 1 }
  else { x with list := x.list ++ [(e, own, cls)], emitted := x.emitted + 1 }

def changeListMagic : Nat := 0x43484C53

/-- A change list header and its entries. -/
def changeList (table src : Nat) (l : List (Nat × Nat × Nat)) : Bytes :=
  toLe 64 (changeListMagic + (table % 64) * 2 ^ 32 + (src % 4096) * 2 ^ 64 + (l.length % 2 ^ 32) * 2 ^ 96)
    ++ (l.map (fun x => toLe 16 (x.1 % 2 ^ 24 + (x.2.1 % 4096) * 2 ^ 24 + (x.2.2 % 4) * 2 ^ 36))).flatten

def State.decideWork (s : State) (r : CmdRef) (c : Cmd) : State × Res :=
  let i := r.inset
  let p := leNat c.params
  let t := s.chartTable i p
  let nodes := Dict.embNodes s.gaz.regs i
  let n := nodes.length
  let sl := s.inSlots i (ChartP.inAddr p) (ChartP.inStride p)
  match s.readFault c (sl.map (fun x => (x.base, 72))) with
  | some f => (s, f)
  | none =>
    if !sl.all (fun x => x.headOk 6 (ChartP.table p) s.nodeId (ChartP.inStride p)) then (s, .fault Code.EMB_BATCH)
    else if !sl.all (fun x => BatH.tag x.hdr == s.num i G.ATLAS_GEN) then (s, .fault Code.ATLAS_MISMATCH)
    else match s.readFault { c with rehearsed := 0 } (sl.map (fun x => (x.base, 72 + 4 * BatH.count x.hdr))) with
    | some f => (s, f)
    | none =>
      let s := s.noteReads (sl.map (fun x => (x.base, BatH.bytes x.hdr)))
      let me := s.nodeId
      let rank := (nodes.findIdx? (· == me)).getD 0
      let served := sl.map (fun x => Fl.ofNat (s.readNat (x.base + 64) 4))
      let m := f64div ((served.foldl f64add (.fin false 0 0))) (Fl.ofNat n)
      let imb := f64add (Fl.ofNat 1) (f32 (s.num i G.PLACE_IMBALANCE))
      let give := served.map (fun v => f64div (f64pos (f64sub v (f64mul m imb))) (Fl.ofNat n))
      let take := f64pos (f64sub m (nth (.fin false 0 0) served rank))
      let e := EmbT.entries t
      let (lo, hi) := surveyRange e n rank
      let d := s.stampOf i - 1
      let q := Dict.policy s.gaz.regs i
      let w := Dict.widthClass s.gaz.regs i (ChartP.table p)
      let x := (rangeFrom lo (hi - lo)).foldl (fun x k =>
        let cnt := sat32 ((sl.map (fun y => if k - lo < BatH.count y.hdr then s.readNat (y.base + 72 + 4 * (k - lo)) 4 else 0)).sum)
        decideEntry q w nodes me (ChartP.countMax p) x k (s.entryAt i t d k) cnt)
        (Decide.mk give take 0 0 0 [])
      let (rep, s) := s.draw 512
      (s, .done { Work.ofWrites [(ChartP.outAddr p, changeList (ChartP.table p) me x.list),
          (ChartP.statusAddr p, toLe 64 rep)] with
        onCommit := s.chartEvents i t ((rangeFrom lo (hi - lo)).map (gidOfEntry t))
          ++ [.addReg i G.POLICY_HOLD x.held, .addReg i G.PLACE_OVERFLOW x.isOver] })

/-! ### Resolving the lists (R200) -/

structure Change where
  entry   : Nat
  owner   : Nat
  cls     : Nat
  pinOp   : Nat
  presOp  : Nat
  /-- From the software list. -/
  soft    : Bool
deriving DecidableEq, Repr

def Change.parse (soft : Bool) (x : Nat) : Change :=
  ⟨bf x 23 0, bf x 35 24, bf x 37 36, bf x 39 38, bf x 41 40, soft⟩

/-- One list, or none when it is malformed. -/
def State.readChanges (s : State) (base table e k : Nat) (soft : Bool) : Option (List Change) :=
  let h := s.readNat base 64
  let n := bf h 127 96
  let raw := (upto n).map (fun j => s.readNat (base + 64 + 16 * j) 16)
  let cs := raw.map (Change.parse soft)
  if bf h 31 0 == changeListMagic && bf h 37 32 == table && (soft || bf h 75 64 == k)
      && bf h 63 38 == 0 && bf h 95 76 == 0 && bf h 511 128 == 0
      && raw.all (fun x => bf x 127 42 == 0) && strictlyUp (cs.map (·.entry))
      && cs.all (fun x => decide (x.entry < e) && x.pinOp != 3 && x.presOp != 3
          && (soft || (x.pinOp == 0 && x.presOp == 0))) then some cs
  else none

/-- What the lists of a round come to at this node. -/
structure Round where
  changes : List Change
  held    : Nat
deriving DecidableEq, Repr

/-- A change moves or reclasses its row. -/
def Change.moves (x : Change) (cur : Nat) : Bool := x.owner != ChE.owner cur || x.cls != ChE.cls cur

/-- Software changes replace loop changes; loop changes to pinned entries are dropped (R200). -/
def State.round (s : State) (i t d : Nat) (loops soft : List Change) : Round :=
  let hit := loops.filter (fun x => soft.any (fun y => y.entry == x.entry))
  let rest := loops.filter (fun x => !soft.any (fun y => y.entry == x.entry))
  let pinned := rest.filter (fun x => ChE.pin (s.entryAt i t d x.entry))
  ⟨rest.filter (fun x => !ChE.pin (s.entryAt i t d x.entry)) ++ soft, hit.length + pinned.length⟩

/-- The lists of a command, or its fault. -/
def State.lists (s : State) (r : CmdRef) (c : Cmd) : Except Res Round :=
  let i := r.inset
  let p := leNat c.params
  let t := s.chartTable i p
  let nodes := Dict.embNodes s.gaz.regs i
  let n := nodes.length
  let at_ := fun k => ChartP.inAddr p + k * ChartP.inStride p
  match s.readFault c ((upto (n + 1)).map (fun k => (at_ k, 64))) with
  | some f => .error f
  | none =>
    let cnt := fun k => bf (s.readNat (at_ k) 64) 127 96
    let total := ((upto (n + 1)).map cnt).sum
    if ChartP.countMax p < total then .error (.fault Code.CHANGE_LIST)
    else match s.readFault { c with rehearsed := 0 } ((upto (n + 1)).map (fun k => (at_ k, 64 + 16 * cnt k))) with
    | some f => .error f
    | none =>
      let e := EmbT.entries t
      let loops := mapIdxFrom (fun k node => s.readChanges (at_ k) (ChartP.table p) e node false) 0 nodes
      let soft := s.readChanges (at_ n) (ChartP.table p) e 0 true
      if loops.all (·.isSome) && soft.isSome then
        .ok (s.round i t (s.stampOf i - 1) ((loops.map (·.getD [])).flatten) (soft.getD []))
      else .error (.fault Code.CHANGE_LIST)

/-! ### Slot pools (Table 9-4) -/

def poolBase (h c : Nat) : Nat := bf h (128 * c + 63) (128 * c)
def poolSlots (h c : Nat) : Nat := bf h (128 * c + 95) (128 * c + 64)
def poolTop (h c : Nat) : Nat := bf h (128 * c + 127) (128 * c + 96)
/-- Address of the stack entry `k` of class `c`. -/
def stackAt (hdr h c k : Nat) : Nat := hdr + 64 + 4 * (((upto c).map (poolSlots h)).sum + k)
/-- Address of slot `k` of a class. -/
def slotAddr (h c dim : Nat) (versioned : Bool) (k : Nat) : Nat :=
  let rb := rowBytes c dim
  if c = 3 then packed (poolBase h 3) k rb else poolBase h c + k * rb * (if versioned then 2 else 1)
/-- Slot that holds an address, if the pool has it. -/
def slotOf (h c dim : Nat) (versioned : Bool) (a : Nat) : Option Nat :=
  let rb := rowBytes c dim
  if a < poolBase h c then none else
  let k := if c = 3 then (a / 16384 - poolBase h 3 / 16384) * (16384 / rb) + a % 16384 / rb
    else (a - poolBase h c) / (rb * (if versioned then 2 else 1))
  if k < poolSlots h c then some k else none

/-- Changes that this node refuses: a new owner outside EMB_NODES, and, where it is the new owner, a pool without a free
slot, pops counted in list order (R200). -/
def refusals (nodes : List Nat) (me h : Nat) (moves : Change → Bool) (cs : List Change) : List Nat :=
  (cs.foldl (fun (acc : List Nat × List Nat) x =>
    if !nodes.contains x.owner then (acc.1 ++ [x.entry], acc.2)
    else if x.owner = me && moves x then
      if nth 0 acc.2 x.cls < poolTop h x.cls then (acc.1, modNth (· + 1) acc.2 x.cls) else (acc.1 ++ [x.entry], acc.2)
    else acc) ([], [0, 0, 0, 0])).1

/-! ### MIG_FETCH_LIST and MIG_SEND (R200) -/

/-- The changes of the round whose rows this node gives: owned here at Datum `d`, moved or reclassed, not refused by this
node; with the entry seen at `d`. -/
def State.given (s : State) (i t d : Nat) (refused : List Nat) (rd : Round) : List (Change × Nat) :=
  (rd.changes.map (fun x => (x, s.entryAt i t d x.entry))).filter (fun e =>
    ChE.owner e.2 == s.nodeId && e.1.moves e.2 && !refused.contains e.1.entry)

def State.ownRefusals (s : State) (i t d p : Nat) (rd : Round) : List Nat :=
  refusals (Dict.embNodes s.gaz.regs i) s.nodeId (s.readNat (RvD.pool (s.chartVers i p)) 64)
    (fun x => x.moves (s.entryAt i t d x.entry)) rd.changes

/-- Location of an entry's row on this node at Datum `d`. -/
def State.locOf (s : State) (i t d : Nat) (e : Change × Nat) : RowLoc :=
  let g := gidOfEntry t e.1.entry
  s.rowLoc i t d g (s.rowAt i t d g)

def State.migFetchWork (s : State) (r : CmdRef) (c : Cmd) : State × Res :=
  let i := r.inset
  let p := leNat c.params
  let t := s.chartTable i p
  match s.lists r c with
  | .error e => (s, e)
  | .ok rd =>
    let d := s.stampOf i - 1
    let rows := (s.given i t d (s.ownRefusals i t d p rd) rd).filter (fun e => ChE.cls e.2 == 3)
    let ents := rows.map (fun e => flashEntry (s.locOf i t d e).addr (rowBytes 3 (EmbT.dim t)))
    let list := ents ++ List.replicate (ChartP.countMax p - ents.length) ones64
    (s, .done { Work.ofWrites [(ChartP.outAddr p, (list.map (toLe 8)).flatten)] with
      onCommit := s.chartEvents i t (rd.changes.map (fun x => gidOfEntry t x.entry)) })

/-- The rows given, as fp32; a gathered row that was lost is named in the second list. -/
def State.givenRows (s : State) (i t d p bits : Nat) (es : List (Change × Nat)) :
    List (Change × List Nat) × List Nat × List (Nat × Nat) :=
  let rb3 := rowBytes 3 (EmbT.dim t)
  let out := es.foldl (fun (acc : List (Change × List Nat) × List Nat × List (Nat × Nat) × Nat) e =>
    let (rows, lost, reads, k) := acc
    let cls := ChE.cls e.2
    if cls = 3 then
      let a := ChartP.auxAddr p + k * rb3
      if bit bits k then (rows, lost ++ [e.1.entry], reads, k + 1)
      else (rows ++ [(e.1, rowValues 3 (EmbT.dim t) (s.readBytes a rb3))], lost, reads ++ [(a, rb3)], k + 1)
    else
      let l := s.locOf i t d e
      let rb := rowBytes cls (EmbT.dim t)
      (rows ++ [(e.1, rowValues cls (EmbT.dim t) (s.readBytes l.addr rb))], lost, reads ++ (l.addr, rb) :: l.reads, k))
    ([], [], [], 0)
  (out.1, out.2.1, out.2.2.1)

def State.migSendWork (s : State) (r : CmdRef) (c : Cmd) : State × Res :=
  let i := r.inset
  let p := leNat c.params
  let t := s.chartTable i p
  match s.lists r c with
  | .error e => (s, e)
  | .ok rd =>
    let d := s.stampOf i - 1
    let refused := s.ownRefusals i t d p rd
    let es := s.given i t d refused rd
    let rb3 := rowBytes 3 (EmbT.dim t)
    let mapAt := ChartP.auxAddr p + roundUp (ChartP.countMax p * rb3) 64
    let mapLen := if es.any (fun e => ChE.cls e.2 == 3) then ceilDiv (ChartP.countMax p) 8 else 0
    match s.firstBad [(mapAt, mapLen)] with
    | some a => (s, .fault (badInputCode a))
    | none =>
    let (rows, lost, reads) := s.givenRows i t d p (s.readNat mapAt mapLen) es
    match s.firstBad reads with
    | some a => (s, .fault (badInputCode a))
    | none =>
      let s := s.noteReads reads
      let names := sortNat (refused ++ lost)
      let writes := mapIdxFrom (fun k node =>
        let mine := sortBy (fun (a b : Change × List Nat) => decide (a.1.entry ≤ b.1.entry))
          (rows.filter (fun x => x.1.owner == node))
        let keys := (mine.map (fun x => toLe 8 (gidOfEntry t x.1.entry))).flatten
        let bodies := (mine.map (fun x => (x.2.map (toLe 4)).flatten)).flatten
        let head := keys ++ zeros (roundUp keys.length 64 - keys.length) ++ bodies
        let (body, bytes) := sections head ((names.map (toLe 4)).flatten)
        (ChartP.outAddr p + k * ChartP.outStride p,
          batchHeader 5 0 0 (ChartP.table p) s.nodeId node mine.length names.length 0 0 0 0 0 0 bytes ++ body))
        0 (Dict.embNodes s.gaz.regs i)
      (s, .done { Work.ofWrites writes with
        onCommit := s.chartEvents i t (rd.changes.map (fun x => gidOfEntry t x.entry)) })

/-! ### CHART_COMMIT (R201) -/

/-- A CHART_COMMIT at work: a private view of memory and Chart, its writes in order, Chart entries set, rows for
flash, and the counts. -/
structure Commit where
  mem    : State
  writes : List (Nat × Bytes)
  chart  : List (Nat × Nat)
  flash  : List (Nat × Bytes)
  moved  : Nat
  reclassed : Nat
  sat    : Nat
deriving DecidableEq, Repr

def Commit.write (m : Commit) (a : Nat) (bs : Bytes) : Commit :=
  { m with writes := m.writes ++ [(a, bs)], mem := { m.mem with mem := m.mem.mem.putWords (wordWrites [(a, bs)]) } }

def Commit.setEntry (m : Commit) (t e v : Nat) : Commit :=
  let n := EmbT.chartBase t + e
  { m with chart := m.chart ++ [(n, v)], mem := { m.mem with chart := m.mem.chart.set n v, chartBad := m.mem.chartBad.del n } }

/-- A slot pushed on the free stack of its class. -/
def Commit.push (m : Commit) (t rv c a : Nat) : Commit :=
  let h := m.mem.readNat (RvD.pool rv) 64
  match slotOf h c (EmbT.dim t) (RvD.versioned rv) a with
  | none => m
  | some k =>
    let top := poolTop h c
    (m.write (stackAt (RvD.pool rv) h c top) (toLe 4 k)).write (RvD.pool rv + 16 * c + 12) (toLe 4 (top + 1))

/-- A slot popped from the free stack of a class: its address. -/
def Commit.pop (m : Commit) (t rv c : Nat) : Nat × Commit :=
  let h := m.mem.readNat (RvD.pool rv) 64
  let top := poolTop h c - 1
  let k := m.mem.readNat (stackAt (RvD.pool rv) h c top) 4
  (slotAddr h c (EmbT.dim t) (RvD.versioned rv) k, m.write (RvD.pool rv + 16 * c + 12) (toLe 4 top))

/-- Step 1 for one entry of the settle list. -/
def Commit.settle (m : Commit) (t rv e : Nat) : Commit :=
  let cur := m.mem.chartEntry (EmbT.chartBase t + e)
  let rec_ := m.mem.readNat (recAddr rv e) 32
  let prev := bf rec_ 183 152
  let me := m.mem.nodeId
  let loc := bf (m.mem.readNat (EmbT.hotMap t + 8 * e) 8) 51 0
  let m := if ChE.mig cur = 1 ∧ ChE.owner prev = me ∧ ChE.owner cur ≠ me then m.push t rv (ChE.cls prev) loc
    else if ChE.mig cur = 2 ∧ ChE.owner cur = me then m.push t rv (ChE.cls prev) (bf rec_ 235 184)
    else m
  m.setEntry t e (setBf cur 18 16 0)

/-- The value of PIN or PRESENT after an operation. -/
def opBit (op : Nat) (old : Bool) : Bool := if op = 1 then true else if op = 2 then false else old

/-- Step 3 for one change; `body` is the row at the new owner. -/
def Commit.apply (m : Commit) (i t rv n : Nat) (x : Change) (body : List Nat) : Commit :=
  let e := x.entry
  let old := m.mem.chartEntry (EmbT.chartBase t + e)
  let me := m.mem.nodeId
  let moved := x.owner != ChE.owner old
  let reclassed := !moved && x.cls != ChE.cls old
  let mig := if moved then 1 else if reclassed then 2 else 3
  let g := gidOfEntry t e
  let l := m.mem.rowLoc i t n g ⟨ChE.owner old, ChE.cls old, true, true⟩
  let rec_ := m.mem.readNat (recAddr rv e) 32
  let rec_ := setBf (setBf rec_ 183 152 (setBf old 18 16 0)) 145 104 n
  let rec_ := if reclassed then setBf rec_ 235 184 l.addr else rec_
  let mine := (moved || reclassed) && x.owner == me
  let rec_ := if mine then setBf (setBf rec_ 1 0 0) 49 8 n else rec_
  let m := m.write (recAddr rv e) (toLe 32 rec_)
  let val := x.owner % 4096 + (x.cls % 4) * 2 ^ 12 + flagBit (opBit x.pinOp (ChE.pin old)) * 2 ^ 14
    + flagBit (opBit x.presOp (ChE.present old)) * 2 ^ 15 + mig * 2 ^ 16
  let m := m.setEntry t e val
  let m := if mine then
      let (a, m) := m.pop t rv x.cls
      let (row, sat) := rowCode x.cls (EmbT.dim t) (rowMeasure x.cls body) (fun _ => none) body
      let m := { m with sat := m.sat + sat }
      let m := m.write (EmbT.hotMap t + 8 * e) (toLe 8 (a % 2 ^ 52))
      if x.cls = 3 then { m with flash := m.flash ++ [(a, row)] } else m.write a row
    else m
  { m with moved := m.moved + flagBit moved, reclassed := m.reclassed + flagBit reclassed }

/-- The body of a row in the migration batches. -/
def State.migBody (s : State) (t g : Nat) (sl : List (InSlot × List Nat)) : Option (List Nat) :=
  sl.findSome? (fun x => (x.2.findIdx? (· == g)).map (fun j =>
    let base := x.1.base + 64 + roundUp (8 * x.2.length) 64 + 4 * EmbT.dim t * j
    (upto (EmbT.dim t)).map (fun k => s.readNat (base + 4 * k) 4)))

/-- Entry numbers that a migration batch refuses. -/
def State.migRefused (s : State) (t : Nat) (x : InSlot × List Nat) : List Nat :=
  let base := x.1.base + 64 + roundUp (roundUp (8 * x.2.length) 64 + 4 * EmbT.dim t * x.2.length) 64
  (upto (BatH.contribs x.1.hdr)).map (fun j => s.readNat (base + 4 * j) 4)

def State.commitWork (s : State) (r : CmdRef) (c : Cmd) : State × Res :=
  let i := r.inset
  let p := leNat c.params
  let t := s.chartTable i p
  let rv := s.chartVers i p
  let table := ChartP.table p
  let n := s.stampOf i
  match s.lists r c with
  | .error e => (s, e)
  | .ok rd =>
    match s.takeSlots { c with rehearsed := 0 } 5 table (ChartP.inStride p) false
        (s.inSlots i (ChartP.auxAddr p) (ChartP.inStride p)) with
    | .error e => (s, e)
    | .ok sl =>
      let settled := (s.inset i).settled.get 0 table
      let settleR := (RvD.settle rv, 4 * settled)
      let touched := (rd.changes.map (·.entry)).map (fun e => (recAddr rv e, 32))
      match s.firstBad (settleR :: (RvD.pool rv, 64) :: touched) with
      | some a => (s, .fault (badInputCode a))
      | none =>
        let s := s.noteReads (sl.map (fun x => (x.1.base, BatH.bytes x.1.hdr)))
        let olds := (upto settled).map (fun k => s.readNat (RvD.settle rv + 4 * k) 4)
        let m := olds.foldl (fun m e => m.settle t rv e) (Commit.mk s [] [] [] 0 0 0)
        let refused := nub ((sl.map (s.migRefused t)).flatten)
        let todo := rd.changes.filter (fun x => !refused.contains x.entry)
        let gone := rd.changes.length - todo.length
        let need := todo.filter (fun x => x.owner == s.nodeId && x.moves (m.mem.chartEntry (EmbT.chartBase t + x.entry)))
        if need.any (fun x => (s.migBody t (gidOfEntry t x.entry) sl).isNone) then (s, .fault Code.EMB_BATCH)
        else
          let m := todo.foldl (fun m x => m.apply i t rv n x ((s.migBody t (gidOfEntry t x.entry) sl).getD [])) m
          let m := m.write (RvD.settle rv) ((todo.map (fun x => toLe 4 x.entry)).flatten)
          let rb := rowBytes 3 (EmbT.dim t)
          let cm := ChartP.countMax p
          let list := (m.flash.map (fun x => flashEntry x.1 rb)) ++ List.replicate (cm - m.flash.length) ones64
          let (rep, s) := s.draw 512
          let flash := if ChartP.outAddr p = 0 then [] else
            [(ChartP.outAddr p, (list.map (toLe 8)).flatten),
             (ChartP.outAddr p + roundUp (8 * cm) 64, (m.flash.map (·.2)).flatten)]
          (s, .done { Work.ofWrites (m.writes ++ flash ++ [(ChartP.statusAddr p, toLe 64 rep)]) with
            onCommit := s.chartEvents i t (rd.changes.map (fun x => gidOfEntry t x.entry))
              ++ [.settled i table todo.length, .addReg i G.POLICY_HOLD rd.held, .addReg i G.PLACE_REFUSED gone,
                  .addReg i G.PLACE_MOVED m.moved, .addReg i G.PLACE_RECLASSED m.reclassed]
            onDrain := m.chart.map (fun x => .setChart x.1 x.2) })

/-! ### ATLAS_SWITCH (R204, R205) -/

/-- The descriptor of an Atlas. -/
def Dict.atlas (d : Dict) (i k : Nat) : Option Nat :=
  (tableEntries (Dict.blob d i G.ATLAS_DIR) 64).find? (fun e => bf e 1 0 == k)

/-- A table image in memory: its header tells its length. -/
def State.tableImage (s : State) (a : Nat) : Bytes := s.readBytes a (16 + 64 * s.readNat (a + 4) 2)

/-- A Chart image entry is acceptable (R205). -/
def chartImageOk (v : Nat) : Bool := bf v 18 16 == 0 && bf v 31 19 == 0

def State.atlasWork (s : State) (r : CmdRef) (c : Cmd) : State × Res :=
  let i := r.inset
  let p := leNat c.params
  let a := (Dict.atlas s.gaz.regs i (ChartP.atlas p)).getD 0
  if (s.inset i).opens.any (fun o => Sub.kind o.entry == 2) then (s, .fault Code.ATLAS_BUSY)
  else match s.readFault c [(bf a 191 128, 16), (bf a 255 192, 16)] with
  | some f => (s, f)
  | none =>
    let tb := s.tableImage (bf a 191 128)
    let rb := s.tableImage (bf a 255 192)
    match s.readFault { c with rehearsed := 0 } [(bf a 191 128, tb.length), (bf a 255 192, rb.length)] with
    | some f => (s, f)
    | none =>
      let d := Tab.set (Tab.set s.gaz.regs (rkey i G.EMB_TABLES) (GVal.blob tb)) (rkey i G.ROW_VERSIONS) (GVal.blob rb)
      let ts := tableEntries tb 64
      let total := (ts.map EmbT.entries).sum
      let base := bf a 319 256
      match s.firstBad [(base, 4 * total)] with
      | some x => (s, .fault (badInputCode x))
      | none =>
        let img := (upto total).map (fun k => s.readNat (base + 4 * k) 4)
        if !(Dict.embTablesOk d i && Dict.embReservedOk d i && Dict.rowVersOk d i && Dict.rowVersReservedOk d i
            && img.all chartImageOk) then (s, .fault Code.ATLAS_IMAGE)
        else
          let (sets, _) := ts.foldl (fun acc t =>
            let n := EmbT.entries t
            (acc.1 ++ (upto n).map (fun k => Eff.setChart (EmbT.chartBase t + k) (nth 0 acc.2 k)), acc.2.drop n))
            ([], img)
          (s, .done { Work.none with
            onCommit := sets ++ [.setBlob i G.EMB_TABLES tb, .setBlob i G.ROW_VERSIONS rb,
              .setReg i G.ATLAS_CURRENT (ChartP.atlas p), .setReg i G.ATLAS_GEN (bf a 127 64)]
              ++ ts.map (fun t => .settled i (EmbT.id t) 0) })

/-! ### The rows -/

/-- ROW_REPLACE. -/
def execRowReplace (c : CmdRef) (hw : Hw) (s : State) : Host.Outcome State Fault Refusal :=
  s.engineRow c hw 0x0B 1 (fun _ => true) (fun s x => s.replaceWork c x)

/-- SURVEY_CLOSE. -/
def execSurveyClose (c : CmdRef) (hw : Hw) (s : State) : Host.Outcome State Fault Refusal :=
  s.engineRow c hw 0x0B 2 (fun _ => true) (fun s x => s.surveyWork c x)

/-- PLACE_DECIDE. -/
def execPlaceDecide (c : CmdRef) (hw : Hw) (s : State) : Host.Outcome State Fault Refusal :=
  s.engineRow c hw 0x0B 3 (fun _ => true) (fun s x => s.decideWork c x)

/-- MIG_FETCH_LIST. -/
def execMigFetchList (c : CmdRef) (hw : Hw) (s : State) : Host.Outcome State Fault Refusal :=
  s.engineRow c hw 0x0B 4 (fun _ => true) (fun s x => s.migFetchWork c x)

/-- MIG_SEND. -/
def execMigSend (c : CmdRef) (hw : Hw) (s : State) : Host.Outcome State Fault Refusal :=
  s.engineRow c hw 0x0B 5 (fun _ => true) (fun s x => s.migSendWork c x)

/-- CHART_COMMIT. -/
def execChartCommit (c : CmdRef) (hw : Hw) (s : State) : Host.Outcome State Fault Refusal :=
  s.engineRow c hw 0x0B 6 (fun _ => true) (fun s x => s.commitWork c x)

/-- ATLAS_SWITCH. -/
def execAtlasSwitch (c : CmdRef) (hw : Hw) (s : State) : Host.Outcome State Fault Refusal :=
  s.engineRow c hw 0x0B 7 (fun _ => true) (fun s x => s.atlasWork c x)

end Sys2Proof.Machine
end

