-- ==== Sys2Proof/Machine/Scribe.lean ====
section
/-!
DEFINITION. The Scribe's commands (R261 to R266): gathers, writes, checkpoint and background windows, ZQ calibration,
channel resets, the checkpoint manifest (R249) and the rebuild (R275).
-/

namespace Sys2Proof.Machine

/-! ### Parameter block (Table 12-8) -/
namespace ScrP
def chMask (p : Nat) : Nat := bf p 31 0
def srcMode (p : Nat) : Bool := bit p 32
def planeMax (p : Nat) : Nat := bf p 47 40
def retryAllow (p : Nat) : Nat := bf p 51 48
def lenMax (p : Nat) : Nat := bf p 76 64
def lists (p : Nat) : Nat := bf p 95 80
def perList (p : Nat) : Nat := bf p 127 96
def listStride (p : Nat) : Nat := bf p 159 128
def slot (p : Nat) : Nat := bf p 191 160
def listAddr (p : Nat) : Nat := bf p 255 192
def dataAddr (p : Nat) : Nat := bf p 319 256
def windowNs (p : Nat) : Nat := bf p 351 320
def reservedOk (p : Nat) : Bool :=
  bf p 39 33 == 0 && bf p 63 52 == 0 && bf p 79 77 == 0 && bf p 511 352 == 0
/-- Bytes of the lists. -/
def listBytes (p : Nat) : Nat := (lists p - 1) * listStride p + 8 * perList p
def count (p : Nat) : Nat := lists p * perList p
def bitmapBytes (p : Nat) : Nat := roundUp (ceilDiv (count p) 8) 64
/-- Address of the bitmap: the next 64-byte boundary after the slots. -/
def bitmapAt (p : Nat) : Nat := dataAddr p + roundUp (count p * slot p) 64
/-- The most bytes a write's source can take (R442). -/
def srcBytes (p : Nat) : Nat :=
  if srcMode p then count p * 64 * ceilDiv (lenMax p) 64 else count p * slot p
end ScrP

/-! ### List entries (R138) -/
namespace FetchE
def lpn (e : Nat) : Nat := bf e 31 0
def off (e : Nat) : Nat := bf e 45 32
def len (e : Nat) : Nat := bf e 58 46
end FetchE

def ones64b : Nat := 2 ^ 64 - 1

/-- The list entries of a command with their slot numbers. -/
def State.fetchList (s : State) (p : Nat) : List (Nat × Nat) :=
  (upto (ScrP.lists p)).flatMap (fun l => (upto (ScrP.perList p)).map (fun j =>
    (l * ScrP.perList p + j, s.readNat (ScrP.listAddr p + l * ScrP.listStride p + 8 * j) 8)))

/-- An entry's LPN, length and extent are valid (R261). -/
def Dict.fetchOk (d : Dict) (i p e : Nat) : Bool :=
  let b := Dict.num d i G.T2_LPN_BASE
  decide (b ≤ FetchE.lpn e) && decide (FetchE.lpn e < b + Dict.num d i G.T2_LPN_COUNT)
    && decide (0 < FetchE.len e) && decide (FetchE.len e ≤ ScrP.lenMax p)
    && decide (FetchE.off e + FetchE.len e ≤ pageBytes)

/-- SCRIBE_ENTRY_COUNT advanced under its code. -/
def State.badEntry (s : State) (i : Nat) (c : Cmd) : State :=
  (s.bump i G.SCRIBE_ENTRY_COUNT 1).event i Code.SCRIBE_ENTRY 0 c.tag

/-- A page's map word decodes as uncorrectable (R260), or the injection 0x016 of its die says so: the state with the
injection spent, and the code. -/
def State.mapLost (s : State) (i lpn : Nat) : Option (State × Nat) :=
  if (Tab.find s.flash.mapBad lpn).isSome then some (s, Code.SCRIBE_MAP_UNCORRECTABLE)
  else match s.bindPage i lpn with
    | some pk => if s.flash.forced.contains (pk / 4) then
        some (({ s with flash := { s.flash with forced := s.flash.forced.erase (pk / 4) } }).bump i
          G.REHEARSAL_COUNT 1, 0x8016)
      else none
    | none => none

/-- The event of a page lost with its map word. -/
def State.mapLostEvent (s : State) (i code : Nat) (c : Cmd) : State :=
  if code = 0x8016 then s.eventFull i code Code.SCRIBE_MAP_UNCORRECTABLE c.tag true else s.event i code 0 c.tag

/-! ### SCRIBE_GATHER (R262) -/

/-- Progress of a gather: state, reads left, entries read by plane, retry reads by plane, slots and loss bits latest
first, detector 0x00B still to fire. -/
structure Gather where
  s     : State
  reads : List FlashRead
  per   : Tab Nat
  extra : Tab Nat
  slots : List Bytes
  lost  : List Bool
  det   : Bool

def Gather.put (g : Gather) (slot : Nat) (b : Bytes) (lost : Bool) : Gather :=
  { g with slots := (b.take slot ++ zeros (slot - b.length)) :: g.slots, lost := lost :: g.lost }

/-- One list entry of a gather. -/
def Gather.entry (i p : Nat) (c : Cmd) (g : Gather) (e : Nat) : Gather :=
  let n := ScrP.slot p
  if e = ones64b then g.put n [] false
  else if !Dict.fetchOk g.s.gaz.regs i p e then { g with s := g.s.badEntry i c }.put n [] true
  else match g.s.mapLost i (FetchE.lpn e) with
    | some (s, code) => { g with s := s.mapLostEvent i code c }.put n [] true
    | none =>
      match g.s.mapOf (FetchE.lpn e) with
      | none =>
        { g with s := (g.s.bump i G.FLASH_UNWRITTEN 1).bump i G.FLASH_READS 1 }.put n (zeros (FetchE.len e)) false
      | some ppn =>
        if !bit (ScrP.chMask p) (Ppn.channel ppn) then { g with s := g.s.bump i G.FLASH_FOREIGN 1 }.put n [] true
        else if !g.s.flashUp (Ppn.channel ppn) then g.put n [] true
        else
          let pk := Ppn.planeKey ppn
          let k := g.per.get 0 pk + 1
          let g := { g with per := g.per.set pk k }
          if k > ScrP.planeMax p then { g with s := g.s.bump i G.FLASH_OVER 1 }.put n [] true
          else if g.det then
            let s := (g.s.bump i G.REHEARSAL_COUNT 1).eventFull i 0x800B Code.FLASH_READ_FAIL c.tag true
            { g with det := false, s := s }.put n [] true
          else
            let (s, reads, ok, extra) := g.s.arrayRead ppn g.reads
            let g := { g with s := s, reads := reads, extra := g.extra.upd 0 (· + extra) pk }
            if ok then
              { g with s := g.s.bump i G.FLASH_READS 1 }.put n
                (slice (s.pageData ppn) (FetchE.off e) (FetchE.len e)) false
            else { g with s := g.s.bump i G.FLASH_READ_FAIL 1 }.put n [] true

/-- Bytes of a list of bits, bit 0 first. -/
def bitBytes (n : Nat) (bits : List Bool) : Bytes :=
  toLe n ((mapIdxFrom (fun k b => (k, b)) 0 bits).foldl (fun (x : Nat) kb => if kb.2 then x + 2 ^ kb.1 else x) 0)

/-- Retry reads of a plane beyond RETRY_ALLOW make the command late with cause READ_RETRY (R265). -/
def State.retryCause (s : State) (r : CmdRef) (p : Nat) (extra : Tab Nat) : State :=
  if extra.any (fun e => decide (ScrP.retryAllow p < e.2)) then s.modCmd r (fun c => { c with lateCause := 1 }) else s

def State.gatherWork (s : State) (r : CmdRef) (c : Cmd) (reads : List FlashRead) : State × Res :=
  let p := leNat c.params
  let ranges := [(ScrP.listAddr p, ScrP.listBytes p)]
  match s.readFault c ranges with
  | some e => (s, e)
  | none =>
    let s := s.noteReads ranges
    let g0 : Gather := ⟨s, reads, [], [], [], [], decide (c.rehearsed = 0x00B)⟩
    let g := (s.fetchList p).foldl (fun g e => Gather.entry r.inset p c g e.2) g0
    let bytes := g.slots.reverse.flatten
    let bytes := bytes ++ zeros (ScrP.bitmapAt p - ScrP.dataAddr p - bytes.length)
      ++ bitBytes (ScrP.bitmapBytes p) g.lost.reverse
    (g.s.retryCause r p g.extra, .done (Work.ofWrites [(ScrP.dataAddr p, bytes)]))

/-- SCRIBE_GATHER. -/
def execScribeGather (c : CmdRef) (reads : List FlashRead) (s : State) : Host.Outcome State Fault Refusal :=
  s.engineRowOpen c .ok 9 1 (fun _ => true) (fun s x => s.gatherWork c x reads)

/-! ### SCRIBE_WRITE (R263) -/

/-- One performed entry: page, offset, address of its source and length. -/
structure WriteEnt where
  lpn : Nat
  off : Nat
  src : Nat
  len : Nat
deriving DecidableEq, Repr

/-- The entries that are performed, in list order, the state with the invalid ones counted, and the address at which the
next packed source would start. -/
def State.writeEntries (s : State) (i p : Nat) (c : Cmd) : State × List WriteEnt :=
  let step := fun (acc : State × List WriteEnt × Nat) (e : Nat × Nat) =>
    let (s, out, pos) := acc
    let e' := e.2
    if e' = ones64b then acc else
    let src := if ScrP.srcMode p then pos else ScrP.dataAddr p + e.1 * ScrP.slot p
    let pos := pos + 64 * ceilDiv (min (FetchE.len e') (ScrP.lenMax p)) 64
    let bound := match s.bindPage i (FetchE.lpn e') with
      | some pk => bit (ScrP.chMask p) (pk / 64)
      | none => false
    if Dict.fetchOk s.gaz.regs i p e' && bound then
      (s, out ++ [⟨FetchE.lpn e', FetchE.off e', src, FetchE.len e'⟩], pos)
    else (s.badEntry i c, out, pos)
  let (s, out, _) := (s.fetchList p).foldl step (s, [], ScrP.dataAddr p)
  (s, out)

/-- Bytes laid over a page at an offset. -/
def splice (base : Bytes) (off : Nat) (b : Bytes) : Bytes := base.take off ++ b ++ base.drop (off + b.length)

/-- The entries cover the whole page. -/
def coversPage (es : List WriteEnt) : Bool :=
  (sortBy (fun (a b : WriteEnt) => decide (a.off ≤ b.off)) es).foldl
    (fun k e => if e.off ≤ k then max k (e.off + e.len) else k) 0 == pageBytes

/-- Progress of a write: state, dies' reports left, PPNs programmed with their pages in order, retry reads by plane, and
the fault that ended it. -/
structure Writing where
  s     : State
  phys  : FlashPhys
  done  : List (Nat × Nat)
  extra : Tab Nat
  fault : Option Nat

/-- The content a page had, for a write that does not cover it. -/
def Writing.base (w : Writing) (i lpn : Nat) (c : Cmd) : Writing × Bytes :=
  match w.s.mapLost i lpn with
  | some (s, code) =>
    ({ w with s := if code = 0x8016 then s.mapLostEvent i code c else s, fault := some Code.SCRIBE_MAP_UNCORRECTABLE },
      [])
  | none =>
    match w.s.mapOf lpn with
    | none => (w, zeros pageBytes)
    | some ppn =>
      if !w.s.flashUp (Ppn.channel ppn) then ({ w with fault := some Code.FLASH_READ_FAIL }, []) else
      let (s, reads, ok, extra) := w.s.arrayRead ppn w.phys.reads
      let w := { w with s := s, phys := { w.phys with reads := reads }
                        extra := w.extra.upd 0 (· + extra) (Ppn.planeKey ppn) }
      if ok then (w, s.pageData ppn)
      else ({ w with s := w.s.bump i G.FLASH_READ_FAIL 1, fault := some Code.FLASH_READ_FAIL }, [])

/-- One distinct page of a write: merged and programmed in a cache block of its plane. -/
def Writing.page (i : Nat) (c : Cmd) (es : List WriteEnt) (w : Writing) (lpn : Nat) : Writing :=
  if w.fault.isSome then w else
  let mine := es.filter (fun e => e.lpn == lpn)
  match w.s.bindPage i lpn with
  | none => w
  | some pk =>
    if !w.s.flashUp (pk / 64) then { w with fault := some Code.FLASH_CHANNEL_DOWN } else
    let (w, base) := if coversPage mine then (w, zeros pageBytes) else w.base i lpn c
    if w.fault.isSome then w else
    let bytes := mine.foldl (fun b e => splice b e.off (w.s.readBytes e.src e.len)) base
    match w.s.program 4 pk 1 lpn 0 bytes w.phys.programs with
    | (s, outs, .ok ppn) =>
      { w with s := s.bump i G.FLASH_PAGES_WRITTEN 1, phys := { w.phys with programs := outs }
               done := w.done ++ [(lpn, ppn)] }
    | (s, outs, .error e) =>
      { w with s := s, phys := { w.phys with programs := outs }
               fault := some (if e = .fail then Code.FLASH_PROG_FAIL else Code.FLASH_NO_SPACE) }

def State.scribeWriteWork (s : State) (r : CmdRef) (c : Cmd) (phys : FlashPhys) : State × Res :=
  let p := leNat c.params
  let i := r.inset
  let ranges := [(ScrP.listAddr p, ScrP.listBytes p)]
  match s.readFault c ranges with
  | some e => (s, e)
  | none =>
    let (s, es) := (s.noteReads ranges).writeEntries i p c
    if es.any (fun e => s.rangeBad e.src e.len) then (s, .fault Code.POISON_EXPORT) else
    let s := s.noteReads (es.map (fun e => (e.src, e.len)))
    if c.rehearsed = 0x00C ∧ es ≠ [] then (s, .forced Code.FLASH_PROG_FAIL) else
    let w := (nub (es.map (·.lpn))).foldl (Writing.page i c es) ⟨s, phys, [], [], none⟩
    let s := (w.s.retryCause r p w.extra).modCmd r (fun c => { c with progress := w.done.map (·.2) })
    match w.fault with
    | some code => (s, .fault code)
    | none => (s, .done { Work.none with onDrain := w.done.map (fun e => Eff.flashMap e.1 e.2) })

/-- SCRIBE_WRITE. -/
def execScribeWrite (c : CmdRef) (phys : FlashPhys) (s : State) : Host.Outcome State Fault Refusal :=
  s.engineRowOpen c .ok 9 2 (fun _ => true) (fun s x => s.scribeWriteWork c x phys)

/-- A write may not issue: a plane of its channels has a full void area (R263). -/
def State.scribeHeld (s : State) (c : Cmd) : Bool :=
  c.engine == 9 && c.opcode == 2 &&
    s.flash.voidN.any (fun e => bit (ScrP.chMask (leNat c.params)) (e.1 / 64) && s.voidFull e.1)

/-! ### Checkpoint space (R248, R249) -/

/-- G and M of an Inset. -/
def Dict.ckptGroups (d : Dict) (i : Nat) : Nat := 196592 * (Dict.channels d i).length
def Dict.ckptPages (d : Dict) (i : Nat) : Nat := 1 + ceilDiv (Dict.ckptGroups d i) 65536

/-- Page `j` of a manifest area. -/
def Dict.manifestLpn (d : Dict) (i area j : Nat) : Nat :=
  Dict.num d i G.CKPT_LPN_BASE + area * Dict.ckptPages d i + j

/-- Slot A (0) or B (1) of a group. -/
def Dict.groupLpn (d : Dict) (i g slot : Nat) : Nat :=
  Dict.num d i G.CKPT_LPN_BASE + 2 * Dict.ckptPages d i + 2 * g + slot

/-- The content of a logical page as it reads: zero where it is unmapped. -/
def State.lpnData (s : State) (lpn : Nat) : Bytes :=
  match s.mapOf lpn with
  | some ppn => s.pageData ppn
  | none => zeros pageBytes

/-- s_g of the committed map: 0 not stored, 1 slot A, 2 slot B. -/
def State.groupState (s : State) (i g : Nat) : Nat :=
  let area := (s.inset i).ckpt.area
  if area > 1 then 0 else
  let b := (nth 0 (s.lpnData (Dict.manifestLpn s.gaz.regs i area (1 + g / 65536))) (g % 65536 / 4)).toNat
  b / 4 ^ (g % 4) % 4

/-- A group's bytes and its bad words (pinned-view addresses), from its saved copy or from memory. -/
def State.groupData (s : State) (i g : Nat) : Bytes × List Nat :=
  let base := Dict.groupBase s.gaz.regs i g
  match (s.inset i).ckpt.saved.find? (fun e => e.1 == g) with
  | some (_, cells, bad) => ((rangeFrom base pageBytes).map (fun a => Tab.get 0 cells a), bad.map (· * 64))
  | none => ((rangeFrom base pageBytes).map (fun a => s.mem.readByte a),
      ((rangeFrom (base / 64) 256).filter (fun w => (s.mem.wordState w).isBad)).map (· * 64))

/-- Pages a channel programs within a checkpoint window (R272): transfer and 200 ns of status poll each. -/
def State.windowPages (s : State) (ch ns : Nat) : Nat :=
  ns / (ceilDiv (16448 * 1000) (modeRate (s.flashMode ch)) + 200)

/-- Progress of a checkpoint window: state, program outcomes left, pages used by channel, still open. -/
structure CkptWin where
  s     : State
  outs  : List Bool
  used  : Tab Nat

/-- One group of W, ascending: written when its page binds to a held channel with room in the window. -/
def CkptWin.group (i p : Nat) (w : CkptWin) (g : Nat) : CkptWin :=
  let t := (w.s.inset i).ckpt
  if !t.left.contains g then w else
  let slot := if w.s.groupState i g = 1 then 1 else 0
  let lpn := Dict.groupLpn w.s.gaz.regs i g slot
  match w.s.bindPage i lpn with
  | none => w
  | some pk =>
    let ch := pk / 64
    if !bit (ScrP.chMask p) ch || !w.s.flashUp ch
      || decide (w.s.windowPages ch (ScrP.windowNs p) ≤ w.used.get 0 ch) then w else
    let (bytes, bad) := w.s.groupData i g
    if t.poison.length + bad.length > 1984 then { w with s := w.s.abortCkpt i Code.CKPT_POISON_FULL } else
    let seq := w.s.flash.seq
    match w.s.program 4 pk 2 lpn 0 bytes w.outs with
    | (s, outs, .error _) => { w with s := s.abortCkpt i Code.CKPT_FLASH_FAIL, outs := outs }
    | (s, outs, .ok ppn) =>
      let t' := { t with left := t.left.filter (fun x => !(x == g)), written := t.written ++ [(g, slot + 1)]
                         saved := t.saved.filter (fun e => !(e.1 == g)), poison := t.poison ++ bad }
      let s := ((s.setMap lpn ppn).modInset i (fun x => { x with ckpt := t' })).setNum i G.CKPT_GROUPS_LEFT
        t'.left.length
      ⟨s, outs, w.used.upd 0 (· + (s.flash.seq - seq)) ch⟩

/-- CKPT_WINDOW. -/
def execCkptWindow (c : CmdRef) (phys : FlashPhys) (s : State) : Host.Outcome State Fault Refusal :=
  s.engineRowOpen c .ok 9 3 (fun _ => false) (fun s x =>
    let w := ((s.inset c.inset).ckpt.left).foldl (CkptWin.group c.inset (leNat x.params)) ⟨s, phys.programs, []⟩
    (w.s, .done Work.none))

/-- A map page of the new manifest: the committed states with the groups written replaced. -/
def State.newMapPage (s : State) (i j : Nat) : Bytes :=
  let t := (s.inset i).ckpt
  let old := if t.area > 1 then zeros pageBytes else s.lpnData (Dict.manifestLpn s.gaz.regs i t.area (1 + j))
  (t.written.filter (fun e => e.1 / 65536 == j)).foldl (fun b e =>
    let k := e.1 % 65536
    modNth (fun x => BitVec.ofNat 8 (setBf x.toNat (2 * (k % 4) + 1) (2 * (k % 4)) e.2)) b (k / 4)) old

/-- The pages of a manifest area (Table 11-8). -/
def State.manifest (s : State) (i : Nat) : List Bytes :=
  let t := (s.inset i).ckpt
  let m := Dict.ckptPages s.gaz.regs i
  let h := 0x434B4D46 + i * 2 ^ 32 + s.num i G.CKPT_OPEN_SEQ * 2 ^ 64 + t.nextId % 65536 * 2 ^ 128
    + t.poison.length * 2 ^ 144 + t.periodUs % 2 ^ 32 * 2 ^ 160 + t.planTag % 2 ^ 64 * 2 ^ 192
    + t.atlasGen % 2 ^ 64 * 2 ^ 256 + Dict.ckptGroups s.gaz.regs i % 2 ^ 32 * 2 ^ 320 + (m - 1) * 2 ^ 352
    + t.captureAt % 2 ^ 64 * 2 ^ 384 + t.captureLen % 2 ^ 32 * 2 ^ 448
    + leNat (s.blob i G.T1_CHANNELS) % 2 ^ 256 * 2 ^ 512
  let words := t.poison.flatMap (toLe 8)
  let page0 := fun (crc : Nat) => toLe 512 (h + crc * 2 ^ 480) ++ words ++ zeros (pageBytes - 512 - words.length)
  let maps := (upto (m - 1)).map (s.newMapPage i)
  page0 (crc32c (page0 0 ++ maps.flatten)) :: maps

/-- Pages programmed in order on the planes they bind to, each mapped; none when one cannot be. -/
def State.programPages (s : State) (i : Nat) : List (Nat × Bytes) → Option State
  | [] => some s
  | (lpn, b) :: rest =>
    match s.bindPage i lpn with
    | none => none
    | some pk =>
      if !s.flashUp (pk / 64) then none else
      match s.program 4 pk 2 lpn 0 b [] with
      | (s', _, .ok ppn) => (s'.setMap lpn ppn).programPages i rest
      | (_, _, .error _) => none

/-- CKPT_MANIFEST: the last group's program has completed; manifest and map go to the other area (R249). -/
def execCkptManifest (inset : Nat) (programmed : Bool) (s : State) : Host.Outcome State Fault Refusal :=
  if inset ≥ 16 then .fault .noSuchInstance else
  let t := (s.inset inset).ckpt
  if s.num inset G.CKPT_STATE ≠ 1 ∨ t.left ≠ [] ∨ t.programmed then .next s
  else if !programmed then .next (s.abortCkpt inset Code.CKPT_FLASH_FAIL)
  else
    let area := if t.area = 0 then 1 else 0
    let pages := mapIdxFrom (fun j b => (Dict.manifestLpn s.gaz.regs inset area j, b)) 0 (s.manifest inset)
    match s.programPages inset pages with
    | some s' => .next (s'.modInset inset (fun x => { x with ckpt := { x.ckpt with programmed := true } }))
    | none => .next (s.abortCkpt inset Code.CKPT_FLASH_FAIL)

/-! ### Background windows (R264, R266 to R270) -/

/-- Progress of background work on one plane: state, dies' reports left, ns left in the window. -/
structure Bg where
  s    : State
  phys : FlashPhys
  left : Nat

def Geo.readNs (g : Geo) (kind : Nat) : Nat := if kind = 0 then g.tRead else g.tReadPslc

/-- Kind of block that copies of a victim's pages go to: a cache block folds into native blocks. -/
def copyKind (kind : Nat) : Nat := if kind = 2 then 2 else 0

/-- A program unit of a native block: up to PROG_PAGES pages with pads, at most `n` attempts. -/
def State.programUnit : Nat → State → Nat → List (Nat × Bytes) → List Bool → State × List Bool × Option (List Nat)
  | 0, s, _, _, outs => (s, outs, none)
  | n + 1, s, pk, ps, outs =>
    match s.openBlock pk 0 with
    | none => (s, outs, none)
    | some (k, b) =>
      match outs with
      | false :: os => (s.retireBlock k b).programUnit n pk ps os
      | _ =>
        let u := (s.geo (pk / 64)).progPages
        let ppns := mapIdxFrom (fun j _ => 1024 * k + b.fill + j) 0 ps
        let s := (pairUp ppns ps).foldl (fun s e => s.putPage e.1 e.2.1 0 e.2.2) s
        let s := (rangeFrom (b.fill + ps.length) (u - ps.length)).foldl
          (fun s j => s.putPage (1024 * k + j) 0xFFFFFFFF 2 []) s
        ((s.setBlock k { b with fill := b.fill + u }).closeFull k, outs.drop 1, some ppns)

/-- A map entry moved to a copy, while it still names the source page. -/
def State.moveMap (s : State) (src dst : Nat) : State :=
  match Tab.find s.flash.pages src with
  | some p => if s.mapOf p.lpn = some src then s.setMap p.lpn dst else s
  | none => s

/-- Valid pages of a run copied onto a plane in blocks of a kind. A page that fails every step stays where it is. -/
def Bg.copyRun (b : Bg) (pk kind : Nat) (srcs : List Nat) : Bg :=
  let g := b.s.geo (pk / 64)
  let (s, reads, good) := srcs.foldl (fun (acc : State × List FlashRead × List Nat) p =>
    let (s, reads, ok, _) := acc.1.arrayRead p acc.2.1
    (s, reads, if ok then acc.2.2 ++ [p] else acc.2.2)) (b.s, b.phys.reads, [])
  let ps := good.filterMap (fun p => (Tab.find s.flash.pages p).map (fun x => (x.lpn, s.pageData p)))
  let b := { b with s := s, phys := { b.phys with reads := reads } }
  if ps.isEmpty then b else
  if kind = 0 then
    match s.programUnit 4 pk ps b.phys.programs with
    | (s, outs, some ppns) =>
      { s := ((pairUp good ppns).foldl (fun s e => s.moveMap e.1 e.2) s).bumpNode G.GC_PAGES_MOVED ppns.length
        phys := { b.phys with programs := outs }, left := b.left - (g.tRead * srcs.length + g.tProg) }
    | (s, outs, none) => { b with s := s, phys := { b.phys with programs := outs } }
  else
    (pairUp good ps).foldl (fun (b : Bg) e =>
      match b.s.program 4 pk kind e.2.1 0 e.2.2 b.phys.programs with
      | (s, outs, .ok ppn) =>
        { s := (s.moveMap e.1 ppn).bumpNode G.GC_PAGES_MOVED 1
          phys := { b.phys with programs := outs }, left := b.left - (g.tReadPslc + g.tProgPslc) }
      | (s, outs, .error _) => { b with s := s, phys := { b.phys with programs := outs } }) b

/-- The worst time of copying `n` pages of a block of a kind. -/
def Geo.copyNs (g : Geo) (kind n : Nat) : Nat :=
  n * g.readNs kind + (if copyKind kind = 0 then g.tProg else n * g.tProgPslc)

/-- The valid pages of a block copied, unit by unit, while each fits in the window. -/
def Bg.copyBlock : Nat → Bg → Nat → Nat → Bg
  | 0, b, _, _ => b
  | f + 1, b, pk, k =>
    let kind := (b.s.blockAt k).kind
    let g := b.s.geo (pk / 64)
    let n := if copyKind kind = 0 then g.progPages else 1
    let srcs := ((b.s.validIn k).take n).map (·.1)
    if srcs.isEmpty || decide (b.left < g.copyNs kind srcs.length) then b else
    let b' := b.copyRun pk (copyKind kind) srcs
    -- a run that moved nothing ends the work on this block
    if b'.left = b.left then b' else b'.copyBlock f pk k

/-- A block that holds no valid page erased, as a block of a kind. -/
def Bg.erase (b : Bg) (pk k kind : Nat) : Bg :=
  let g := b.s.geo (pk / 64)
  let x := b.s.blockAt k
  if b.left < g.tErase then b else
  let outs := b.phys.programs
  let b := { b with phys := { b.phys with programs := outs.drop 1 }, left := b.left - g.tErase }
  match outs with
  | false :: _ => { b with s := b.s.retireBlock k x }
  | _ =>
    let s := b.s.setBlock k { x with state := 0, kind := kind, erases := x.erases + 1, fill := 0, retry := 0 }
    { b with s := { s with flash := { s.flash with pages := s.flash.pages.filter (fun e => !(e.1 / 1024 == k)) } } }

/-- A victim collected: its pages copied out, and erased once none is valid. -/
def Bg.collect (b : Bg) (pk k : Nat) : Bg :=
  let b := b.copyBlock 1024 pk k
  if (b.s.validIn k).isEmpty && (b.s.blockAt k).state != 3 then b.erase pk k (b.s.blockAt k).kind else b

def f32one : Nat := 0x3F800000
def f32ofNat (n : Nat) : Nat := fmt32.encode (Fl.ofNat n)
def f32div (a b : Nat) : Nat := fmt32.div (f32 a) (f32 b)

/-- GC_WEIGHTS entry of a mode: W_INV, W_AGE, W_WEAR, AGE_SPAN (R268). -/
def Dict.gcWeights (d : Dict) (kind : Nat) : Nat × Nat × Nat × Nat :=
  match (tableEntries (Dict.nodeBlob d G.GC_WEIGHTS) 16)[if kind = 2 then 1 else 0]? with
  | some e => (bf e 31 0, bf e 63 32, bf e 95 64, bf e 127 96)
  | none => (f32one, 0x3E800000, 0x3E800000, 0xFFFFFFFF)

/-- The score of R267, each operation in fp32. -/
def State.gcScore (s : State) (pk k : Nat) : Nat :=
  let b := s.blockAt k
  let g := s.geo (pk / 64)
  let (wi, wa, ww, span) := Dict.gcWeights s.gaz.regs b.kind
  let inv := f32mul wi (f32sub f32one (f32div (f32ofNat (s.validIn k).length) (f32ofNat (g.dataPages b.kind))))
  let age := f32mul wa (f32min f32one (f32div (f32ofNat (s.flash.seq - b.closeSeq)) (f32ofNat span)))
  let wear := f32mul ww (f32sub f32one (f32div (f32ofNat b.erases) (f32ofNat (if b.kind = 0 then g.pe else g.pePslc))))
  f32add (f32add inv age) wear

/-- The closed block of a mode that is collected next: one closed without a summary, one that must be refreshed, the
least worn when the spread exceeds WL_GAP, else the highest score. -/
def State.victim (s : State) (pk kind : Nat) : Option Nat :=
  let closed := s.blocksOf pk (fun b => b.state == 2 && b.kind == kind)
  let best := fun (le : Nat → Nat → Bool) (l : List Nat) => (sortBy le l).head?
  best (fun a b => decide (orderKey (s.gcScore pk b) ≤ orderKey (s.gcScore pk a))) closed

/-- Blocks to be collected whatever their score (R269, R270, R275). -/
def State.forcedVictims (s : State) (pk : Nat) : List Nat :=
  let bad := s.blocksOf pk (fun b => b.state == 3) |>.filter (fun k => !(s.validIn k).isEmpty)
  let torn := s.blocksOf pk (fun b => b.state == 4)
  let worn := (upto 3).flatMap (fun kind =>
    let cs := s.blocksOf pk (fun b => b.state == 2 && b.kind == kind)
    let es := cs.map (fun k => (s.blockAt k).erases)
    let lo := es.foldl min (es.headD 0)
    if es.foldl max 0 - lo > s.node G.WL_GAP then (cs.filter (fun k => (s.blockAt k).erases == lo)).take 1 else [])
  let tired := s.blocksOf pk (fun b => b.state == 2 && decide (s.node G.RETRY_REFRESH ≤ b.retry))
  torn ++ bad ++ worn ++ tired

/-- Free blocks of a mode on a plane. -/
def State.freeBlocks (s : State) (pk kind : Nat) : Nat := (s.erased pk kind).length

/-- Collection of a mode between GC_LOW and GC_HIGH. -/
def Bg.gc : Nat → Bg → Nat → Nat → Bg
  | 0, b, _, _ => b
  | f + 1, b, pk, kind =>
    let key := 4 * pk + kind
    let free := b.s.freeBlocks pk kind
    let on := (Tab.find b.s.flash.gcOn key).isSome
    if free < b.s.node G.GC_LOW ∨ (on ∧ free < b.s.node G.GC_HIGH) then
      let b := { b with s := { b.s with flash := { b.s.flash with gcOn := b.s.flash.gcOn.set key 1 } } }
      match b.s.victim pk kind with
      | none => b
      | some k =>
        let b' := b.collect pk k
        if b'.left = b.left then b' else b'.gc f pk kind
    else { b with s := { b.s with flash := { b.s.flash with gcOn := b.s.flash.gcOn.del key } } }

/-- Folding: closed cache blocks in close order (R266). -/
def Bg.fold (b : Bg) (pk : Nat) : Bg :=
  let cs := b.s.blocksOf pk (fun x => x.state == 2 && x.kind == 1)
  (sortBy (fun a c => decide ((b.s.blockAt a).closeSeq ≤ (b.s.blockAt c).closeSeq)) cs).foldl
    (fun b k => b.copyBlock 1024 pk k) b

/-- CACHE_READY erased cache blocks: those folding has emptied first, then free native blocks beyond RESERVE_BLOCKS. -/
def Bg.ready (b : Bg) (pk : Nat) : Bg :=
  let want := b.s.node G.CACHE_READY
  let empty := (b.s.blocksOf pk (fun x => (x.state == 2 || x.state == 4) && x.kind == 1)).filter
    (fun k => (b.s.validIn k).isEmpty)
  let b := empty.foldl (fun (b : Bg) k => if b.s.freeBlocks pk 1 < want then b.erase pk k 1 else b) b
  let spare := (b.s.erased pk 0).drop (Lay.reserve b.s.layout)
  (spare.take (want - b.s.freeBlocks pk 1)).foldl (fun (b : Bg) k =>
    let b' := b.erase pk k 1
    if (b'.s.blockAt k).kind = 1 ∧ (b'.s.blockAt k).state = 0 then { b' with s := b'.s.bumpNode G.CACHE_EXTEND 1 }
    else b') b

/-- Pages of a plane that lie off their binding are rewritten to it (R257). -/
def Bg.rebind (b : Bg) (pk : Nat) : Bg :=
  let d := b.s.gaz.regs
  let off := b.s.flash.pages.filterMap (fun e =>
    if Ppn.planeKey e.1 == pk && b.s.valid e.1 then
      match Dict.lpnOwner d e.2.lpn with
      | some i => match b.s.bindPage i e.2.lpn with
        | some t => if t = pk then none else some (e.1, t, if e.2.lpn < Lay.ckptStart b.s.layout then 1 else 2)
        | none => none
      | none => none
    else none)
  off.foldl (fun (b : Bg) e =>
    let g := b.s.geo (pk / 64)
    if b.left < g.tRead + g.tProgPslc ∨ b.s.flashUp (e.2.1 / 64) = false then b
    else b.copyRun e.2.1 e.2.2 [e.1]) b

/-- A void area that is half full is emptied: blocks its records name are collected, and block 2,047 is rewritten with
the records still needed. -/
def Bg.emptyVoid (b : Bg) (pk : Nat) : Bg :=
  let n := b.s.flash.voidN.get 0 pk
  if 2 * n < b.s.voidCap pk ∨ n = 0 then b else
  let mine := b.s.flash.pages.filter (fun e => Ppn.planeKey e.1 == pk && b.s.flash.void.contains e.2.seq)
  let b := (nub (mine.map (fun e => e.1 / 1024))).foldl (fun (b : Bg) k =>
    if (b.s.blockAt k).state = 1 then b.copyBlock 1024 pk k else b.collect pk k) b
  let g := b.s.geo (pk / 64)
  if b.left < g.tErase then b else
  let rec0 := blockKey (pk / 4) (pk % 4) 2047
  let held := b.s.flash.pages.filter (fun e => e.1 / 1024 != rec0)
  let still := b.s.flash.void.filter (fun q => held.any (fun e => e.2.seq == q))
  let here := still.filter (fun q => held.any (fun e => e.2.seq == q && Ppn.planeKey e.1 == pk))
  let s := { b.s with flash := { b.s.flash with
    pages := b.s.flash.pages.filter (fun e => !(e.1 / 1024 == rec0 && decide (8 ≤ Ppn.page e.1)))
    voidN := b.s.flash.voidN.del pk
    void := still.filter (fun q => !here.contains q) } }
  let again := chunks 2040 (here.length + 1) here
  let count := s.node G.VOID_RECORDS
  let s := again.foldl (fun s q => s.voidRecord pk q) s
  { b with s := s.setNum 16 G.VOID_RECORDS count, left := b.left - g.tErase }

/-- Background work of one plane within the window, in the model's order (DESIGN CHOICE, log entry 70). -/
def State.background (s : State) (phys : FlashPhys) (pk ns : Nat) : State × FlashPhys :=
  let b : Bg := ⟨s, phys, ns⟩
  let b := b.emptyVoid pk
  let b := (b.s.forcedVictims pk).foldl (fun b k => b.collect pk k) b
  let b := ((b.fold pk).ready pk).rebind pk
  let b := (b.gc 2048 pk 0).gc 2048 pk 2
  (b.s, b.phys)

/-- Block of the boot area that begins image slot 0 (A) or 1 (B) (Table 20-1). -/
def slotBlock (slot : Nat) : Nat := if slot = 0 then 0 else 6

/-- The image that waits goes to the slot not running (R412). -/
def State.writeImage (s : State) : State :=
  match s.sec.image with
  | none => s
  | some v => { s with
      flash := { s.flash with boot := s.flash.boot.set (slotBlock (1 - s.node G.IMAGE_SLOT)) v }
      sec := { s.sec with image := none } }

/-- BG_WINDOW: the map words of its dies are rescanned (R260), and each plane of its channels works. -/
def State.bgWork (s : State) (c : Cmd) (phys : FlashPhys) : State :=
  let p := leNat c.params
  let s := if bit (ScrP.chMask p) 0 then s.writeImage else s
  let chs := (setBits 32 0 (ScrP.chMask p)).filter s.flashUp
  let dies := chs.flatMap (fun ch => (setBits 16 0 (s.diesOf ch)).map (fun q => 16 * ch + q))
  let clean := fun lpn => match s.mapOf lpn with
    | some ppn => dies.contains (Ppn.die ppn)
    | none => true
  let s := { s with flash := { s.flash with mapBad := s.flash.mapBad.keep (fun l => !clean l) } }
  ((dies.flatMap (fun d => (upto 4).map (fun k => 4 * d + k))).foldl (fun (acc : State × FlashPhys) pk =>
    acc.1.background acc.2 pk (ScrP.windowNs p)) (s, phys)).1

/-- BG_WINDOW. -/
def execBgWindow (c : CmdRef) (phys : FlashPhys) (s : State) : Host.Outcome State Fault Refusal :=
  s.engineRowOpen c .ok 9 4 (fun _ => false) (fun s x => (s.bgWork x phys, .done Work.none))

/-- A background window holds the channel. -/
def State.inBgWindow (s : State) (ch : Nat) : Bool :=
  (upto 16).any (fun i => match (s.inset i).sheet with
    | none => false
    | some sh => sh.cmds.any (fun c =>
        c.phase.live && c.engine == 9 && c.opcode == 4 && bit (ScrP.chMask (leNat c.params)) ch))

/-- ZQ_CAL: repeated once ZQ_INTERVAL has passed, inside a background window of the channel (R254). -/
def execZqCal (channel : Nat) (s : State) : Host.Outcome State Fault Refusal :=
  if channel ≥ 32 then .fault .noSuchInstance
  else if s.flashUp channel && s.inBgWindow channel
      && decide (s.flash.zqAt.get 0 channel + s.node G.ZQ_INTERVAL * 2400000 ≤ s.clk.cycle) then
    .next { s with flash := { s.flash with zqAt := s.flash.zqAt.set channel s.clk.cycle } }
  else .next s

/-- The Inset that owns a flash channel. -/
def Dict.flashOwner (d : Dict) (ch : Nat) : Option Nat := (upto 16).find? (fun i => bit (Dict.num d i G.INSET_FLASH_CH) ch)

/-- Modes tried in order after a reset, and the one at which the four steps pass. -/
def trainMode (trained : List Nat) : Nat → Nat → Option Nat × Nat
  | 0, n => (if trained.contains 0 then some 0 else none, n)
  | m + 1, n => if trained.contains (m + 1) then (some (m + 1), n) else trainMode trained m (n + 1)

/-- FLASH_CHANNEL_RESET: the four sequences at the target mode and below (R254); `trained` are the modes at which every
step passes. The applied sequence table takes effect (R255). -/
def execFlashChannelReset (channel : Nat) (trained : List Nat) (s : State) : Host.Outcome State Fault Refusal :=
  if channel ≥ 32 then .fault .noSuchInstance else
  let s := { s with flash := { s.flash with seqs := s.flash.seqs.del channel } }
  let target := min (s.node G.FLASH_MODE_TARGET) (s.geo channel).modeMax
  let (mode, falls) := trainMode trained target 0
  let s := s.bumpNode G.FLASH_MODE_FALLBACK falls
  match mode with
  | some m => .next { s with flash := { s.flash with modes := s.flash.modes.set channel m
                                                     zqAt := s.flash.zqAt.set channel s.clk.cycle } }
  | none =>
    let s := { s with flash := { s.flash with modes := s.flash.modes.del channel } }
    .next (match Dict.flashOwner s.gaz.regs channel with
      | some i => s.event i Code.FLASH_CHANNEL_DOWN channel 0
      | none => s.nodeEvent Code.FLASH_CHANNEL_DOWN channel 0)

/-! ### Rebuild (R275) -/

/-- Progress of the rebuild: reads left, entries to apply (page, logical page, sequence), blocks, SUM_LOST. -/
structure Scan where
  reads  : List FlashRead
  ents   : List (Nat × Nat × Nat)
  blocks : Tab FlashBlock
  lost   : Nat

/-- One read of the scan: decoded or not. -/
def Scan.read (x : Scan) : Scan × Bool := ({ x with reads := x.reads.drop 1 }, (x.reads.headD (some 0)).isSome)

/-- Entries of a summary page. -/
def summaryEntries (k : Nat) (b : Bytes) : List (Nat × Nat × Nat) :=
  (upto (bf (sliceNat b 0 64) 95 80)).map (fun j =>
    (1024 * k + j, sliceNat b (64 + 12 * j) 4, sliceNat b (68 + 12 * j) 8))

/-- The OOB records of a block read in page order up to the first erased page. -/
def Scan.openPages (x : Scan) (k : Nat) (pages : Tab FlashPage) : Nat → Nat → Scan × Nat
  | 0, good => (x, good)
  | f + 1, good =>
    match pages with
    | [] => (x, good)
    | e :: rest =>
      let (x, ok) := x.read
      let x := if ok && e.2.kind == 0 then { x with ents := x.ents ++ [(e.1, e.2.lpn, e.2.seq)] } else x
      Scan.openPages x k rest f (if ok then good + 1 else good)

/-- One block that holds something. A block in the bad-block log stays bad; a channel that is down is not read. -/
def Scan.block (s : State) (x : Scan) (k : Nat) : Scan :=
  if !s.flashUp (keyDie k / 16) then x else
  let b := s.blockAt k
  let ps := s.pagesIn k
  let last := (s.geo (k / 8192 / 16)).blockPages b.kind - 1
  let torn := fun (x : Scan) =>
    let (x, good) := x.openPages k ps ps.length 0
    { x with blocks := x.blocks.set k { b with state := if good = 0 ∨ b.state = 3 then 3 else 4 } }
  match Tab.find ps (1024 * k + last) with
  | some sum =>
    let (x, ok) := x.read
    if ok then { x with ents := x.ents ++ summaryEntries k sum.bytes
                        blocks := x.blocks.set k { b with state := if b.state = 3 then 3 else 2 } }
    else torn { x with lost := x.lost + 1 }
  | none => torn x

/-- The map from entries: the highest sequence of each page, void ones skipped. -/
def applyEntries (void : List Nat) (ents : List (Nat × Nat × Nat)) : Tab Nat × Tab Nat :=
  ents.foldl (fun (acc : Tab Nat × Tab Nat) e =>
    let (ppn, lpn, q) := e
    if void.contains q || lpn == 0xFFFFFFFF then acc
    else match Tab.find acc.2 lpn with
      | some q' => if q > q' then (acc.1.set lpn ppn, acc.2.set lpn q) else acc
      | none => (acc.1.set lpn ppn, acc.2.set lpn q)) ([], [])

/-- SEQ values that the void records in the flash list. -/
def State.voidList (s : State) : List Nat :=
  (s.flash.pages.filter (fun e => e.2.kind == 4 && s.flashUp (Ppn.channel e.1))).flatMap (fun e =>
    (upto (sliceNat e.2.bytes 4 4)).map (fun j => sliceNat e.2.bytes (64 + 8 * j) 8))

/-- The highest erase count of a plane, for its erased blocks. -/
def State.wearAll (s : State) : State :=
  let planes := nub (s.flash.blocks.map (fun e => 4 * keyDie e.1 + keyPlane e.1))
  planes.foldl (fun s pk =>
    let top := (s.blocksOf pk (fun _ => true)).foldl (fun n k => max n (s.blockAt k).erases) (s.flash.wear.get 0 pk)
    let bs := (s.blocksOf pk (fun b => b.state == 0)).foldl (fun (t : Tab FlashBlock) k =>
      t.set k { s.blockAt k with erases := top }) s.flash.blocks
    { s with flash := { s.flash with blocks := bs, wear := s.flash.wear.set pk top } }) s

/-- REBUILD: the map from the block summaries and OOB records; `phys` gives the outcomes of the page reads in block
order, a read not listed decoding. -/
def execRebuild (phys : List FlashRead) (s : State) : Host.Outcome State Fault Refusal :=
  if s.flash.rebuilt ≠ 2 then .next s else
  let keys := (nub (s.flash.pages.map (fun e => e.1 / 1024))).filter (fun k => keyBlock k != 2047)
  let x := keys.foldl (Scan.block s) ⟨phys, [], s.flash.blocks, 0⟩
  let void := s.voidList
  let top := s.flash.pages.foldl (fun n e => max n (e.2.seq + 1)) 0
  let s := { s with flash := { s.flash with
    map := (applyEntries void x.ents).1, mapBad := [], blocks := x.blocks, seq := top, void := void, rebuilt := 1 } }
  let s := (s.wearAll).setNum 16 G.SUM_LOST x.lost
  .next (s.setNum 16 G.REBUILD_MS ((s.clk.cycle - s.flash.rebuildAt) / 2400000))

end Sys2Proof.Machine
end

