-- ==== Sys2Proof/Machine/Projection.lean ====
section
/-!
DEFINITION. The Projection unit (chapter 4): the descriptor, a matrix passed through the unit, and QUANT, DEQUANT and
RANGE.
-/

namespace Sys2Proof.Machine

/-! ### Descriptor (Table 4-5) and command block (Table 4-7) -/

namespace ProjD
def fmt (d : Nat) : Nat := bf d 3 0
def gran (d : Nat) : Nat := bf d 5 4
def round (d : Nat) : Nat := bf d 7 6
def recal (d : Nat) : Bool := bit d 8
def rerun (d : Nat) : Bool := bit d 9
def missEn (d : Nat) : Bool := bit d 10
def layer (d : Nat) : Nat := bf d 31 16
def missSync (d : Nat) : Nat := bf d 45 32
def qpOff (d : Nat) : Nat := bf d 71 48
def seed (d : Nat) : Nat := bf d 159 96
def reservedOk (d : Nat) : Bool := bf d 15 11 == 0 && bf d 47 46 == 0 && bf d 95 72 == 0 && bf d 255 160 == 0
end ProjD

namespace ProjP
def rows (p : Nat) : Nat := bf p 15 0
def cols (p : Nat) : Nat := bf p 31 16
def wideFmt (p : Nat) : Nat := bf p 35 32
def wideLayout (p : Nat) : Nat := bf p 37 36
def srcOff (p : Nat) : Nat := bf p 87 64
def dstOff (p : Nat) : Nat := bf p 111 88
def stageOff (p : Nat) : Nat := bf p 135 112
def projAt (p : Nat) : Nat := bf p 151 136
def reservedOk (p : Nat) : Bool := bf p 63 38 == 0 && bf p 255 152 == 0
/-- Layout of the wide matrix. -/
def wide (p : Nat) : Layout :=
  if wideLayout p = 1 then .c (wideBits (wideFmt p)) (cols p) else .flat (wideBits (wideFmt p)) (cols p)
end ProjP

/-- First byte of a tile's operand buffer (Table 11-2). -/
def tileAddr (t : Nat) : Nat := tileBase + t * 0x400000

/-- The 32-byte descriptor at an offset of the parameter area. -/
def descAt (area : Bytes) (o : Nat) : Nat := sliceNat area o 32

/-! ### Calibration table (Tables 4-8 and 4-9) -/

/-- The entry of a layer, if the table in force holds it. -/
def Dict.layer (d : Dict) (i layer : Nat) : Option Nat :=
  if layer = 0xFFFF then none
  else (tableEntries (Dict.blob d i G.PROJ_CALIB) 16).find? (fun e => bf e 15 0 == layer)

/-- RECAL_MARGIN of a layer, 1.0 without one. -/
def marginOf : Option Nat → Nat
  | some e => bf e 95 64
  | none => 0x3F800000

/-! ### The unit -/

/-- The record block in the tile buffer, and its size in bytes. -/
def recRange (base d rows cols : Nat) : Nat × Nat := (base + ProjD.qpOff d, 8 * recCount (ProjD.gran d) rows cols)

/-- What passing a matrix through the unit gives. -/
structure Projected where
  codes   : List (List Nat)
  recs    : List (Nat × Int)
  sat     : Nat
  nan     : Nat
deriving DecidableEq, Repr

/-- Elements of record `k`. -/
def recVals (d cols k : Nat) (vals : List (List Fl)) : List Fl :=
  (mapIdxFrom (fun r row => (mapIdxFrom (fun c v => (recOf (ProjD.gran d) cols r c, v)) 0 row)) 0 vals).flatten.filterMap
    (fun e => if e.1 = k then some e.2 else none)

/-- Quantisation of a whole matrix with its records (R85, R86, R90). -/
def projectAll (d cols : Nat) (recs : List (Nat × Int)) (vals : List (List Fl)) : Projected :=
  let q := mapIdxFrom (fun r row => mapIdxFrom (fun c v =>
    let p := nth (0x3F800000, 0) recs (recOf (ProjD.gran d) cols r c)
    let st := if ProjD.round d = 1 then some (stochR (ProjD.seed d) (r * cols + c)) else none
    quantise (ProjD.fmt d) p.1 p.2 st v) 0 row) 0 vals
  { codes := q.map (·.map (·.1))
    recs := recs
    sat := (q.flatten.filter (·.2.1)).length
    nan := (q.flatten.filter (·.2.2)).length }

/-- The records a command reads: their values, or none where one is invalid (R88). -/
def readRecs (fmt n : Nat) (bs : Bytes) : Option (List (Nat × Int)) :=
  let rs := (upto n).map (fun k => sliceNat bs (8 * k) 8)
  if rs.all (recOk fmt) then some (rs.map (fun x => (bf x 31 0, sext 8 (bf x 39 32)))) else none

/-- R96, R98: the counts of a command and a miss, applied at the end of its drain. -/
def projEffects (i d : Nat) (entry : Option Nat) (p : Projected) : List Eff :=
  let l := ProjD.layer d
  let miss := !ProjD.recal d && (match entry with | some e => decide (bf e 63 32 < p.sat) | none => false)
  [.addReg i G.PROJ_SAT_TOTAL p.sat, .addReg i G.PROJ_NAN p.nan]
    ++ (if miss then [.addReg i G.CALIB_MISS_COUNT 1] else [])
    ++ (if miss && ProjD.missEn d then [.syncAdd (ProjD.missSync d) 1] else [])
    ++ (if ProjD.rerun d then [.addReg i G.RERUN_COUNT 1] else [])
    ++ (if l = 0xFFFF then [] else
        [.layer i (l * 4) p.sat, .layer i (l * 4 + 1) (flagBit miss), .layer i (l * 4 + 2) (flagBit (ProjD.rerun d))])

/-- A wide matrix through the unit: codes, records, or the fault of R88. -/
def State.project (s : State) (i base d rows cols : Nat) (vals : List (List Fl)) : Except Nat Projected :=
  let n := recCount (ProjD.gran d) rows cols
  if ProjD.recal d then
    let m := marginOf (Dict.layer s.gaz.regs i (ProjD.layer d))
    .ok (projectAll d cols ((upto n).map (fun k => measure (ProjD.fmt d) m (recVals d cols k vals))) vals)
  else
    let (a, len) := recRange base d rows cols
    match readRecs (ProjD.fmt d) n (s.readBytes a len) with
    | some recs => .ok (projectAll d cols recs vals)
    | none => .error Code.PROJ_BAD_PARAM

/-- A range's contents as a number, where a half byte of it may have to be kept. -/
def State.oldFor (s : State) (l : Layout) (a rows : Nat) : Nat := if l.bits = 4 then s.readNat a (l.size rows) else 0

/-- Code (r, k) of a matrix of codes. -/
def codeAt (m : List (List Nat)) (r k : Nat) : Nat := nth 0 (nth [] m r) k

/-- Values of a stored matrix. -/
def loadMatrix (l : Layout) (store rows cols : Nat) (f : Nat → Fl) : List (List Fl) :=
  (upto rows).map (fun r => (upto cols).map (fun k => f (l.elem store r k)))

/-- R98: a wide re-run that found no miss. -/
def State.rerunIdle (s : State) (d : Nat) : Bool :=
  ProjD.rerun d && (s.syncObj (ProjD.missSync d)).value == 0

/-- The ranges a Projection command reads. -/
def projReads (base p d op : Nat) : List (Nat × Nat) :=
  let rows := ProjP.rows p
  let cols := ProjP.cols p
  if rows * cols = 0 then [] else
  let src := if op = 2 then (Layout.a (ProjD.fmt d) cols).size rows else (ProjP.wide p).size rows
  (base + ProjP.srcOff p, src) :: (if ProjD.recal d then [] else [recRange base d rows cols])

/-- Bytes of the records, and their writes at QP_OFF when they are measured. -/
def recWrites (base d : Nat) (recs : List (Nat × Int)) : List (Nat × Bytes) :=
  if ProjD.recal d then [(base + ProjD.qpOff d, (recs.map recBytes).flatten)] else []

/-- The work of a Projection command (R93): 1 QUANT, 2 DEQUANT, 3 RANGE. -/
def State.projWork (s : State) (op : Nat) (r : CmdRef) (c : Cmd) : State × Res :=
  let p := leNat c.params
  let d := descAt (s.areaOf r) (ProjP.projAt p)
  let base := tileAddr c.index
  let rows := ProjP.rows p
  let cols := ProjP.cols p
  let stage := base + ProjP.stageOff p
  let dst := base + ProjP.dstOff p
  if s.rerunIdle d then (s, .done Work.none) else
  let reads := projReads base p d op
  match s.firstBad reads with
  | some a => (s, .tile a)
  | none =>
    let s := s.noteReads reads
    if rows * cols = 0 then
      (s, .done (if ProjD.rerun d then { Work.none with onDrain := projEffects r.inset d none ⟨[], [], 0, 0⟩ } else Work.none))
    else if op = 2 then
      match readRecs (ProjD.fmt d) (recCount (ProjD.gran d) rows cols)
          (s.readBytes (recRange base d rows cols).1 (recRange base d rows cols).2) with
      | none => (s, .fault Code.PROJ_BAD_PARAM)
      | some recs =>
        let src := Layout.a (ProjD.fmt d) cols
        let store := s.readNat (base + ProjP.srcOff p) (src.size rows)
        let tgt := if ProjP.wideFmt p = 1 then fmtBf else fmt32
        let codes := (upto rows).map (fun i => (upto cols).map (fun k =>
          let q := nth (0x3F800000, 0) recs (recOf (ProjD.gran d) cols i k)
          dequantise tgt (ProjD.fmt d) q.1 q.2 (src.elem store i k)))
        let l := ProjP.wide p
        (s, .done (Work.ofWrites (l.writes stage 0 rows cols (codeAt codes) ++ l.writes dst 0 rows cols (codeAt codes))))
    else
      let l := ProjP.wide p
      let vals := loadMatrix l (s.readNat (base + ProjP.srcOff p) (l.size rows)) rows cols (wideValue (ProjP.wideFmt p))
      match s.project r.inset base d rows cols vals with
      | .error code => (s, .fault code)
      | .ok q =>
        let eff := projEffects r.inset d (Dict.layer s.gaz.regs r.inset (ProjD.layer d)) q
        let a := Layout.a (ProjD.fmt d) cols
        let recs := (q.recs.map recBytes).flatten
        let w :=
          if op = 3 then [(stage, recs)] ++ recWrites base d q.recs
          else
            a.writes stage (s.oldFor a stage rows) rows cols (codeAt q.codes)
              ++ (if ProjD.recal d then [(stage + roundUp (a.size rows) 64, recs)] else [])
              ++ a.writes dst (s.oldFor a dst rows) rows cols (codeAt q.codes) ++ recWrites base d q.recs
        (s, .done { Work.ofWrites w with onDrain := eff })

/-- The command has elements to convert. -/
def projData (c : Cmd) : Bool := ProjP.rows (leNat c.params) * ProjP.cols (leNat c.params) != 0

/-- QUANT (R85, R93): wide values to stored codes. -/
def execQuant (c : CmdRef) (hw : Hw) (s : State) : Host.Outcome State Fault Refusal :=
  s.engineRow c hw 3 1 projData (fun s x => s.projWork 1 c x)

/-- DEQUANT (R85, R93): stored codes to wide values. -/
def execDequant (c : CmdRef) (hw : Hw) (s : State) : Host.Outcome State Fault Refusal :=
  s.engineRow c hw 3 2 projData (fun s x => s.projWork 2 c x)

/-- RANGE (R93, R95): parameter records measured, no codes. RANGE counts NaN and infinite elements as QUANT would
(DEDUCED, log entry 42). -/
def execRange (c : CmdRef) (hw : Hw) (s : State) : Host.Outcome State Fault Refusal :=
  s.engineRow c hw 3 3 projData (fun s x => s.projWork 3 c x)

end Sys2Proof.Machine
end

