-- ==== Sys2Proof/Machine/Trans.lean ====
section
/-!
DEFINITION. The functions of R82 and RSQRT: the exact mathematical value rounded once to fp32. Values are formed in
fixed point with 400 fraction bits; no fp32 input is known whose exact value lies that close to a rounding boundary
(UNVERIFIED, log entry 40).
-/

namespace Sys2Proof.Machine

/-- Fraction bits of the working precision. -/
def FX : Nat := 400
def fxOne : Nat := 2 ^ FX

/-- Integer square root, one result bit a step, from bit `n` down: greatest r with r² ≤ x. -/
def isqrtFrom (x : Nat) : Nat → Nat → Nat
  | 0, r => r
  | n + 1, r => let t := r + 2 ^ n; isqrtFrom x n (if t * t ≤ x then t else r)

def isqrt (x : Nat) : Nat := isqrtFrom x (Nat.log2 x / 2 + 1) 0

/-- z + z³/3 + z⁵/5 + … for a fixed-point z: `p` is the running power z^(2k+1), `z2` is z². -/
def atanhSum (z2 : Nat) : Nat → Nat → Nat → Nat → Nat
  | 0, _, _, acc => acc
  | n + 1, p, k, acc => atanhSum z2 n (p * z2 / fxOne) (k + 2) (acc + p / k)

/-- atanh of n / d, at most 1/3. -/
def atanhFx (n d : Nat) : Nat :=
  let z := n * fxOne / d
  atanhSum (z * z / fxOne) 140 z 1 0

def ln2Fx : Nat := 2 * atanhFx 1 3

/-- 1 + r + r²/2 + … for a fixed-point r below 1. -/
def expSum (r : Nat) : Nat → Nat → Nat → Nat → Nat
  | 0, _, _, acc => acc
  | n + 1, t, k, acc => expSum r n (t * r / fxOne / k) (k + 1) (acc + t)

/-- e^x for x = num / den: a fixed-point mantissa in [1, 2) and a power of two. -/
def expRat (neg : Bool) (num den : Nat) : Nat × Int :=
  let mag := num * fxOne / den
  let l := ln2Fx
  let x : Int := if neg then -(mag : Int) else (mag : Int)
  let k : Int := x / (l : Int)
  let r := (x - k * (l : Int)).toNat
  (expSum r 90 fxOne 1 0, k)

/-- m · 2^k as a fraction. -/
def fxFrac (m : Nat) (k : Int) : Nat × Nat := if k ≥ 0 then (m * 2 ^ k.toNat, fxOne) else (m, fxOne * 2 ^ (-k).toNat)

/-- |n / d| is above a bound. -/
def ratAbove (n d b : Nat) : Bool := decide (b * d < n)

/-- e^x of a finite value. -/
def expFin (neg : Bool) (m : Nat) (e : Int) : Nat :=
  let (n, d) := fracOf m e
  if ratAbove n d 400 then (if neg then 0 else fmt32.infCode false)
  else
    let (t, k) := expRat neg n d
    let (a, b) := fxFrac t k
    fmt32.roundRat false a b

def fExp (x : Nat) : Nat :=
  match f32 x with
  | .nan => fmt32.qnan
  | .inf neg => if neg then 0 else fmt32.infCode false
  | .fin neg m e => expFin neg m e

/-- ln of a positive finite value m · 2^e: m normalised to [1, 2). -/
def lnFin (m : Nat) (e : Int) : Nat :=
  let b := Nat.log2 m
  let k : Int := e + (b : Int)
  -- value = (m / 2^b) · 2^k; ln = k · ln 2 + 2 · atanh ((m − 2^b) / (m + 2^b))
  let v : Int := k * (ln2Fx : Int) + 2 * (atanhFx (m - 2 ^ b) (m + 2 ^ b) : Int)
  fmt32.roundRat (decide (v < 0)) v.natAbs fxOne

def fLog (x : Nat) : Nat :=
  match f32 x with
  | .nan => fmt32.qnan
  | .inf neg => if neg then fmt32.qnan else fmt32.infCode false
  | .fin neg m e => if m = 0 then fmt32.infCode true else if neg then fmt32.qnan else lnFin m e

def fRecip (x : Nat) : Nat := fmt32.div (.fin false 1 0) (f32 x)

/-- 1 / √(m · 2^e): an integer square root with a sticky half, so that the one rounding is exact. -/
def rsqrtFin (m : Nat) (e : Int) : Nat :=
  let (m, e) := if e % 2 = 0 then (m, e) else (2 * m, e - 1)
  let q := 2 ^ 200 / m
  let y := isqrt q
  let t := 2 * y + (if y * y * m = 2 ^ 200 then 0 else 1)
  -- 1/√m = t / 2^101; times 2^(−e/2)
  let k : Int := -(e / 2) - 101
  let (a, b) := fracOf t k
  fmt32.roundRat false a b

def fRsqrt (x : Nat) : Nat :=
  match f32 x with
  | .nan => fmt32.qnan
  | .inf neg => if neg then fmt32.qnan else 0
  | .fin neg m e => if m = 0 then fmt32.infCode neg else if neg then fmt32.qnan else rsqrtFin m e

/-- tanh of a nonzero finite magnitude: (E − 1) / (E + 1), E = e^2x. -/
def tanhFin (neg : Bool) (m : Nat) (e : Int) : Nat :=
  let (n, d) := fracOf (2 * m) e
  if ratAbove n d 200 then fmt32.roundRat neg 1 1
  else
    let (t, k) := expRat false n d
    let (a, b) := fxFrac t k
    fmt32.roundRat neg (a - b) (a + b)

def fTanh (x : Nat) : Nat :=
  match f32 x with
  | .nan => fmt32.qnan
  | .inf neg => fmt32.roundRat neg 1 1
  | .fin neg m e => if m = 0 then fmt32.signBit neg else tanhFin neg m e

/-- scale / (1 + e^(−y)), scale = (−1)^sneg · sn / sd, for y = (−1)^neg · n / d. -/
def logistic (sneg : Bool) (sn sd : Nat) (neg : Bool) (n d : Nat) : Nat :=
  if ratAbove n d 1000 then (if neg then fmt32.signBit sneg else fmt32.roundRat sneg sn sd)
  else
    let (t, k) := expRat (!neg) n d
    let (a, b) := fxFrac t k
    -- e^(−y) = a / b
    fmt32.roundRat sneg (sn * b) (sd * (a + b))

def fSigmoid (x : Nat) : Nat :=
  match f32 x with
  | .nan => fmt32.qnan
  | .inf neg => if neg then 0 else fmt32.roundRat false 1 1
  | .fin neg m e => let (n, d) := fracOf m e; logistic false 1 1 neg n d

/-- The fp32 values nearest to 0.797885 and 0.044715. -/
def geluC0 : Fl := f32 (fmt32.roundRat false 797885 1000000)
def geluC1 : Fl := f32 (fmt32.roundRat false 44715 1000000)

/-- GELU: a · 1 / (1 + e^(−2u)), u = c0 (a + c1 a³), which is the formula of Table 3-8 exactly. -/
def fGelu (x : Nat) : Nat :=
  match f32 x with
  | .nan => fmt32.qnan
  | .inf neg => if neg then fmt32.signBit true else fmt32.infCode false
  | .fin neg m e =>
    if m = 0 then fmt32.signBit neg else
    let a : Fl := .fin neg m e
    match ((a.add ((a.mul a).mul (a.mul geluC1))).mul geluC0).mul (.fin false 2 0) with
    | .fin un um ue =>
      let (n, d) := fracOf um ue
      let (sn, sd) := fracOf m e
      logistic neg sn sd un n d
    | _ => fmt32.qnan

end Sys2Proof.Machine
end

