-- ==== Sys2Proof/Machine/Tiles.lean ====
section
/-!
DEFINITION. Tiles (chapter 3): MATMUL with the numerics of R70 to R73, and the vector operations of Table 3-8.
-/

namespace Sys2Proof.Machine

/-! ### MATMUL block (Table 3-5) -/

namespace MatP
def m (p : Nat) : Nat := bf p 15 0
def n (p : Nat) : Nat := bf p 31 16
def k (p : Nat) : Nat := bf p 47 32
def aFmt (p : Nat) : Nat := bf p 51 48
def bFmt (p : Nat) : Nat := bf p 55 52
def accMode (p : Nat) : Nat := bf p 57 56
def outProj (p : Nat) : Bool := bit p 58
def aOff (p : Nat) : Nat := bf p 87 64
def bOff (p : Nat) : Nat := bf p 111 88
def cOff (p : Nat) : Nat := bf p 135 112
def biasOff (p : Nat) : Nat := bf p 159 136
def stageOff (p : Nat) : Nat := bf p 183 160
def projAt (p : Nat) : Nat := bf p 199 184
def reservedOk (p : Nat) : Bool := bf p 63 59 == 0 && bf p 255 200 == 0
end MatP

/-! ### Numerics -/

/-- R72: an fp32 element split into bf16 parts: value, high, low. -/
def split32 (x : Fl) : Fl × Fl :=
  match x with
  | .fin _ _ _ =>
    let hi := fmtBf.decode (fmtBf.encode x)
    (hi, fmtBf.decode (fmtBf.encode (x.add hi.neg)))
  | v => (v, .fin false 0 0)

/-- A product of a pass with a lo factor: a zero lo factor against a special value contributes +0 (R72). -/
def loMul (lo hi : Fl) : Fl :=
  if lo.isZero && (hi.isNan || hi.isInf) then .fin false 0 0 else lo.mul hi

/-- One rounding to fp32 of the accumulator plus exact products (R71). -/
def accStep (acc : Nat) (prods : List Fl) : Nat := fmt32.encode (prods.foldl Fl.add (f32 acc))

/-- The K-steps of one output element over the paired values of its row and column, `ks` a step. -/
def floatSteps (acc : Nat) (steps : List (List (Fl × Fl))) : Nat :=
  steps.foldl (fun acc st => accStep acc (st.map (fun p => p.1.mul p.2))) acc

/-- R72: the three passes of each K-step. -/
def fp32Steps (acc : Nat) (steps : List (List (Fl × Fl))) : Nat :=
  steps.foldl (fun acc st =>
    let sp := st.map (fun p => (split32 p.1, split32 p.2))
    let acc := accStep acc (sp.map (fun p => loMul p.1.2 p.2.1))
    let acc := accStep acc (sp.map (fun p => loMul p.2.2 p.1.1))
    accStep acc (sp.map (fun p => p.1.1.mul p.2.1))) acc

/-- One output element (R70 to R73): initial code, row of A, column of B, as codes. -/
def matElem (fa fb init : Nat) (row col : List Nat) : Nat :=
  if fmtIsInt fa then
    wrapInt 32 ((pairUp row col).foldl (fun acc p => acc + sext (fmtBits fa) p.1 * sext (fmtBits fb) p.2) (sext 32 init))
  else
    let ps := pairUp (row.map (fmtValue fa)) (col.map (fmtValue fb))
    let steps := chunks (fmtKs fa) (ps.length + 1) ps
    let start := fmt32.encode (f32 init)
    if fa = 6 then fp32Steps start steps else floatSteps start steps

/-- Output blocks that hold a NaN (R73). -/
def nanBlocks (acc : List (List Nat)) : Nat :=
  (nub ((mapIdxFrom (fun r row => (mapIdxFrom (fun k x => (r / 8, k / 8, (f32 x).isNan)) 0 row)) 0 acc).flatten.filterMap
    (fun e => if e.2.2 then some (e.1, e.2.1) else none))).length

/-- The ranges a MATMUL reads. -/
def matReads (base p d : Nat) : List (Nat × Nat) :=
  let m := MatP.m p
  let n := MatP.n p
  let k := MatP.k p
  if m * n = 0 then [] else
  [(base + MatP.aOff p, (Layout.a (MatP.aFmt p) k).size m), (base + MatP.bOff p, (Layout.a (MatP.bFmt p) k).size n)]
    ++ (if MatP.accMode p = 1 then [(base + MatP.biasOff p, ceilDiv n 8 * 32)] else [])
    ++ (if MatP.accMode p = 2 then [(base + MatP.cOff p, (Layout.c 32 n).size m)] else [])
    ++ (if MatP.outProj p && !ProjD.recal d then [recRange base d m n] else [])

/-- The accumulators of a MATMUL. B in B layout is Bᵀ in A layout (R60). -/
def State.matAcc (s : State) (base p : Nat) : List (List Nat) :=
  let m := MatP.m p
  let n := MatP.n p
  let k := MatP.k p
  let la := Layout.a (MatP.aFmt p) k
  let lb := Layout.a (MatP.bFmt p) k
  let sa := s.readNat (base + MatP.aOff p) (la.size m)
  let sb := s.readNat (base + MatP.bOff p) (lb.size n)
  let bias := s.readNat (base + MatP.biasOff p) (if MatP.accMode p = 1 then ceilDiv n 8 * 32 else 0)
  let lc := Layout.c 32 n
  let old := s.readNat (base + MatP.cOff p) (if MatP.accMode p = 2 then lc.size m else 0)
  let cols := (upto n).map (fun j => (upto k).map (fun t => lb.elem sb j t))
  (upto m).map (fun i =>
    let row := (upto k).map (fun t => la.elem sa i t)
    mapIdxFrom (fun j col =>
      let init := if MatP.accMode p = 1 then (bias >>> (32 * j)) % 2 ^ 32
        else if MatP.accMode p = 2 then lc.elem old i j else 0
      matElem (MatP.aFmt p) (MatP.bFmt p) init row col) 0 cols)

/-- The work of a MATMUL (R66 to R74, R92, R96 to R98). -/
def State.matWork (s : State) (r : CmdRef) (c : Cmd) : State × Res :=
  let p := leNat c.params
  let d := if MatP.outProj p then descAt (s.areaOf r) (MatP.projAt p) else 0
  let base := tileAddr c.index
  let m := MatP.m p
  let n := MatP.n p
  if MatP.outProj p && s.rerunIdle d then (s, .done Work.none) else
  let reads := matReads base p d
  match s.firstBad reads with
  | some a => (s, .tile a)
  | none =>
    let s := s.noteReads reads
    if m * n = 0 then
      (s, .done (if MatP.outProj p && ProjD.rerun d then
        { Work.none with onDrain := projEffects r.inset d none ⟨[], [], 0, 0⟩ } else Work.none))
    else
    let acc := s.matAcc base p
    let s := if fmtIsInt (MatP.aFmt p) then s else s.bump r.inset G.CUBE_NAN (nanBlocks acc)
    let lc := Layout.c 32 n
    let stage := lc.writes (base + MatP.stageOff p) 0 m n (codeAt acc)
    if !MatP.outProj p then
      (s, .done (Work.ofWrites (stage ++ lc.writes (base + MatP.cOff p) 0 m n (codeAt acc))))
    else
      let vals := acc.map (·.map (wideValue (if fmtIsInt (MatP.aFmt p) then 3 else 0)))
      match s.project r.inset base d m n vals with
      | .error code => (s, .fault code)
      | .ok q =>
        let a := Layout.a (ProjD.fmt d) n
        let dst := base + MatP.cOff p
        (s, .done { Work.ofWrites (stage ++ a.writes dst (s.oldFor a dst m) m n (codeAt q.codes) ++ recWrites base d q.recs)
          with onDrain := projEffects r.inset d (Dict.layer s.gaz.regs r.inset (ProjD.layer d)) q })

/-- MATMUL (R65, R66). -/
def execMatmul (c : CmdRef) (hw : Hw) (s : State) : Host.Outcome State Fault Refusal :=
  s.engineRow c hw 1 1 (fun x => MatP.m (leNat x.params) * MatP.n (leNat x.params) != 0) (fun s x => s.matWork c x)

/-! ### Vector block (Table 3-7) -/

namespace VecP
def nElem (p : Nat) : Nat := bf p 31 0
def rowLen (p : Nat) : Nat := bf p 47 32
def srcFmt (p : Nat) : Nat := bf p 51 48
def dstFmt (p : Nat) : Nat := bf p 55 52
def layout (p : Nat) : Nat := bf p 57 56
def aOff (p : Nat) : Nat := bf p 87 64
def bOff (p : Nat) : Nat := bf p 111 88
def cOff (p : Nat) : Nat := bf p 135 112
def dstOff (p : Nat) : Nat := bf p 159 136
def stageOff (p : Nat) : Nat := bf p 183 160
def reservedOk (p : Nat) : Bool := bf p 63 58 == 0 && bf p 255 184 == 0
def isInt (p : Nat) : Bool := srcFmt p == 3
/-- Rows and columns of the element array in its layout. -/
def rows (p : Nat) : Nat := if layout p = 1 then nElem p / rowLen p else 1
def cols (p : Nat) : Nat := if layout p = 1 then rowLen p else nElem p
/-- Layout of an array of the command with elements of `b` bits. -/
def lay (p b : Nat) : Layout := if layout p = 1 then .c b (cols p) else .flat b (cols p)
end VecP

/-- Row operations. -/
def vecIsRow (op : Nat) : Bool := op == 0x20 || op == 0x21 || op == 0x22

/-- Number of sources. -/
def vecSources (op : Nat) : Nat :=
  if op = 4 ∨ op = 0x0B then 3
  else if op = 1 ∨ op = 2 ∨ op = 3 ∨ op = 5 ∨ op = 6 ∨ op = 0x0A then 2
  else 1

/-- Elements per ACLK cycle. -/
def vecRate (op : Nat) : Nat := if 0x10 ≤ op ∧ op ≤ 0x16 then 32 else 128

/-- Format of source `k`: the first source of SELECT is int32. -/
def vecFmt (p op k : Nat) : Nat := if op = 0x0B ∧ k = 0 then 3 else VecP.srcFmt p

/-- An fp32 code with every NaN the canonical one (R73). -/
def canon (x : Nat) : Nat := fmt32.encode (f32 x)

/-- CVT of an fp32 code to int32 (R82). -/
def cvtInt (x : Nat) : Nat :=
  match f32 x with
  | .nan => 0
  | .inf neg => if neg then 0x80000000 else 0x7FFFFFFF
  | .fin neg m e => wrapInt 32 (satInt 32 (roundInt neg m e))

/-- An element of an int32 operation. -/
def vecInt (op a b c : Nat) : Nat :=
  let x := sext 32 a
  let y := sext 32 b
  if op = 1 then wrapInt 32 (x + y)
  else if op = 2 then wrapInt 32 (x - y)
  else if op = 3 then wrapInt 32 (x * y)
  else if op = 5 then wrapInt 32 (min x y)
  else if op = 6 then wrapInt 32 (max x y)
  else if op = 7 then wrapInt 32 (if x < 0 then -x else x)
  else if op = 8 then wrapInt 32 (-x)
  else if op = 0x0A then (if y < x then 1 else 0)
  else if op = 0x0B then (if a ≠ 0 then b else c)
  else fmt32.encode (Fl.ofInt x)

/-- An element of an fp32 operation, on fp32 codes. -/
def vecFloat (op a b c : Nat) : Nat :=
  if op = 1 then f32add a b
  else if op = 2 then f32sub a b
  else if op = 3 then f32mul a b
  else if op = 4 then f32fma a b c
  else if op = 5 then f32min a b
  else if op = 6 then f32max a b
  else if op = 7 then fmt32.encode (f32 a).abs
  else if op = 8 then fmt32.encode (f32 a).neg
  else if op = 9 then f32max a 0
  else if op = 0x0A then (if (f32 b).lt (f32 a) then 1 else 0)
  else if op = 0x0B then (if a ≠ 0 then canon b else canon c)
  else if op = 0x0C then cvtInt a
  else if op = 0x10 then fExp a
  else if op = 0x11 then fLog a
  else if op = 0x12 then fRecip a
  else if op = 0x13 then fRsqrt a
  else if op = 0x14 then fTanh a
  else if op = 0x15 then fSigmoid a
  else fGelu a

/-! ### Row reductions (R81) -/

/-- Lane `j` of 128: elements j, j + 128, … of the row. -/
def laneElems (row : List Nat) (j : Nat) : List Nat := (upto (ceilDiv (row.length - j) 128)).map (fun t => nth 0 row (j + 128 * t))

/-- A lane's value: its elements added in order from the first, or its empty value. -/
def laneFold (add : Nat → Nat → Nat) (empty : Nat) : List Nat → Nat
  | [] => empty
  | x :: xs => xs.foldl add x

/-- One level of the pairwise tree. -/
def treeLevel (add : Nat → Nat → Nat) : List Nat → List Nat
  | a :: b :: r => add a b :: treeLevel add r
  | l => l

/-- Seven levels over 128 lanes. -/
def tree (add : Nat → Nat → Nat) : Nat → List Nat → List Nat
  | 0, l => l
  | n + 1, l => tree add n (treeLevel add l)

/-- One row's result. -/
def rowReduce (op : Nat) (isInt : Bool) (row : List Nat) : Nat :=
  let add : Nat → Nat → Nat :=
    if op = 0x21 then (if isInt then (fun a b => vecInt 6 a b 0) else f32max)
    else if isInt then (fun a b => vecInt 1 a b 0) else f32add
  let empty := if op = 0x21 then (if isInt then 0x80000000 else 0xFF800000) else 0
  let lane : List Nat → Nat :=
    if op = 0x22 then fun l => l.foldl (fun acc x => f32fma x x acc) 0 else laneFold add empty
  nth 0 (tree add 7 ((upto 128).map (fun j =>
    let l := laneElems row j
    if l.isEmpty then empty else lane l))) 0

/-- The fp32 or int32 codes of one source array. -/
def State.vecLoad (s : State) (base p op k : Nat) : List Nat :=
  let off := if k = 0 then VecP.aOff p else if k = 1 then VecP.bOff p else VecP.cOff p
  let f := vecFmt p op k
  let l := VecP.lay p (wideBits f)
  let store := s.readNat (base + off) (l.size (VecP.rows p))
  (upto (VecP.rows p)).flatMap (fun r => (upto (VecP.cols p)).map (fun c =>
    let x := l.elem store r c
    if f = 3 then x else if f = 0 then x else fmt32.encode (wideValue f x)))

/-- The ranges a vector command reads. -/
def vecReads (base p op : Nat) : List (Nat × Nat) :=
  if VecP.nElem p = 0 then [] else
  (upto (vecSources op)).map (fun k =>
    (base + (if k = 0 then VecP.aOff p else if k = 1 then VecP.bOff p else VecP.cOff p),
      (VecP.lay p (wideBits (vecFmt p op k))).size (VecP.rows p)))

/-- The results of a vector command, in element or row order. -/
def State.vecResults (s : State) (base p op : Nat) : List Nat :=
  let a := s.vecLoad base p op 0
  if vecIsRow op then
    (chunks (VecP.rowLen p) (VecP.nElem p / VecP.rowLen p) a).map (rowReduce op (VecP.isInt p))
  else
    let n := vecSources op
    let b := if 2 ≤ n then s.vecLoad base p op 1 else a
    let c := if 3 ≤ n then s.vecLoad base p op 2 else a
    (pairUp a (pairUp b c)).map (fun t =>
      if VecP.isInt p then vecInt op t.1 t.2.1 t.2.2 else vecFloat op t.1 t.2.1 t.2.2)

/-- The work of a vector command (R78 to R82). -/
def State.vecWork (s : State) (op : Nat) (c : Cmd) : State × Res :=
  let p := leNat c.params
  let base := tileAddr c.index
  let reads := vecReads base p op
  match s.firstBad reads with
  | some a => (s, .tile a)
  | none =>
    let s := s.noteReads reads
    if VecP.nElem p = 0 then (s, .done Work.none) else
    let res := s.vecResults base p op
    let w := fun (off : Nat) =>
      if vecIsRow op then [(base + off, (res.map (toLe 4)).flatten)]
      else
        let cols := VecP.cols p
        (VecP.lay p 32).writes (base + off) 0 (VecP.rows p) cols (fun r k => nth 0 res (r * cols + k))
    (s, .done (Work.ofWrites (w (VecP.stageOff p) ++ w (VecP.dstOff p))))

/-- The frame of every vector row. -/
def State.vecRow (s : State) (c : CmdRef) (hw : Hw) (op : Nat) : Host.Outcome State Fault Refusal :=
  s.engineRow c hw 2 op (fun x => VecP.nElem (leNat x.params) != 0) (fun s x => s.vecWork op x)

/-- ADD: a + b (Table 3-8). -/
def execAdd (c : CmdRef) (hw : Hw) (s : State) : Host.Outcome State Fault Refusal := s.vecRow c hw 0x1

/-- SUB: a − b (Table 3-8). -/
def execSub (c : CmdRef) (hw : Hw) (s : State) : Host.Outcome State Fault Refusal := s.vecRow c hw 0x2

/-- MUL: a × b (Table 3-8). -/
def execMul (c : CmdRef) (hw : Hw) (s : State) : Host.Outcome State Fault Refusal := s.vecRow c hw 0x3

/-- FMA: a × b + c, rounded once (Table 3-8). -/
def execFma (c : CmdRef) (hw : Hw) (s : State) : Host.Outcome State Fault Refusal := s.vecRow c hw 0x4

/-- MIN: the smaller of a and b (Table 3-8). -/
def execMin (c : CmdRef) (hw : Hw) (s : State) : Host.Outcome State Fault Refusal := s.vecRow c hw 0x5

/-- MAX: the larger of a and b (Table 3-8). -/
def execMax (c : CmdRef) (hw : Hw) (s : State) : Host.Outcome State Fault Refusal := s.vecRow c hw 0x6

/-- ABS: |a| (Table 3-8). -/
def execAbs (c : CmdRef) (hw : Hw) (s : State) : Host.Outcome State Fault Refusal := s.vecRow c hw 0x7

/-- NEG: −a (Table 3-8). -/
def execNeg (c : CmdRef) (hw : Hw) (s : State) : Host.Outcome State Fault Refusal := s.vecRow c hw 0x8

/-- RELU: max(a, +0) (Table 3-8). -/
def execRelu (c : CmdRef) (hw : Hw) (s : State) : Host.Outcome State Fault Refusal := s.vecRow c hw 0x9

/-- CMP_GT: 1 when a > b, else 0 (Table 3-8). -/
def execCmpGt (c : CmdRef) (hw : Hw) (s : State) : Host.Outcome State Fault Refusal := s.vecRow c hw 0xa

/-- SELECT of the vector unit: b when a ≠ 0, else c (Table 3-8). -/
def execVectorSelect (c : CmdRef) (hw : Hw) (s : State) : Host.Outcome State Fault Refusal := s.vecRow c hw 0xb

/-- CVT between int32 and fp32 (Table 3-8). -/
def execCvt (c : CmdRef) (hw : Hw) (s : State) : Host.Outcome State Fault Refusal := s.vecRow c hw 0xc

/-- EXP: eᵃ (Table 3-8). -/
def execExp (c : CmdRef) (hw : Hw) (s : State) : Host.Outcome State Fault Refusal := s.vecRow c hw 0x10

/-- LOG: ln a (Table 3-8). -/
def execLog (c : CmdRef) (hw : Hw) (s : State) : Host.Outcome State Fault Refusal := s.vecRow c hw 0x11

/-- RECIP: 1 / a (Table 3-8). -/
def execRecip (c : CmdRef) (hw : Hw) (s : State) : Host.Outcome State Fault Refusal := s.vecRow c hw 0x12

/-- RSQRT: 1 / √a (Table 3-8). -/
def execRsqrt (c : CmdRef) (hw : Hw) (s : State) : Host.Outcome State Fault Refusal := s.vecRow c hw 0x13

/-- TANH (Table 3-8). -/
def execTanh (c : CmdRef) (hw : Hw) (s : State) : Host.Outcome State Fault Refusal := s.vecRow c hw 0x14

/-- SIGMOID: 1 / (1 + e⁻ᵃ) (Table 3-8). -/
def execSigmoid (c : CmdRef) (hw : Hw) (s : State) : Host.Outcome State Fault Refusal := s.vecRow c hw 0x15

/-- GELU by the formula of Table 3-8 (Table 3-8). -/
def execGelu (c : CmdRef) (hw : Hw) (s : State) : Host.Outcome State Fault Refusal := s.vecRow c hw 0x16

/-- ROW_SUM: the sum of each row (R81) (Table 3-8). -/
def execRowSum (c : CmdRef) (hw : Hw) (s : State) : Host.Outcome State Fault Refusal := s.vecRow c hw 0x20

/-- ROW_MAX: the maximum of each row (R81) (Table 3-8). -/
def execRowMax (c : CmdRef) (hw : Hw) (s : State) : Host.Outcome State Fault Refusal := s.vecRow c hw 0x21

/-- ROW_SUMSQ: the sum of squares of each row (R81) (Table 3-8). -/
def execRowSumsq (c : CmdRef) (hw : Hw) (s : State) : Host.Outcome State Fault Refusal := s.vecRow c hw 0x22

end Sys2Proof.Machine
end

