-- ==== Sys2Proof/Machine/Sync.lean ====
section
/-!
DEFINITION. Sync objects over nodes: commit tokens (R41, R331), leases (R329), barriers (R332) and suspect marking (R386).
The payload of their messages is the model's own (log entry 32): byte 0 an operation, byte 1 the Inset, bytes 2 and 3
the command index.
-/

namespace Sys2Proof.Machine

/-- The Inset whose range holds a sync object. -/
def Dict.syncOwner (d : Dict) (o : Nat) : Option Nat :=
  (upto 16).find? (fun i => decide (Dict.num d i G.SYNC_Q_BASE ≤ o)
    && decide (o < Dict.num d i G.SYNC_Q_BASE + Dict.num d i G.SYNC_Q_COUNT))

/-- A counter of the Inset that owns an object. -/
def State.bumpSync (s : State) (o key : Nat) : State :=
  match Dict.syncOwner s.gaz.regs o with
  | some i => s.bump i key 1
  | none => s

/-! ### Tokens -/

/-- The answer of HOME reaches the command that asked. -/
def State.tokenAnswer (s : State) (inset idx : Nat) (granted : Bool) : State :=
  s.modCmd ⟨inset, idx⟩ (fun c => if c.token = 1 then { c with token := if granted then 2 else 3 } else c)

/-- HOME serves a token request (R331). -/
def State.tokenServe (s : State) (obj node inset idx : Nat) : State :=
  let o := s.syncObj obj
  let grant := !o.held
  let s := if grant then s.setSync obj { o with held := true, holder := node, hInset := inset } else s
  let s := s.bumpSync obj (if grant then G.BACKUP_WON else G.BACKUP_LOST_COUNT)
  if node = s.nodeId then s.tokenAnswer inset idx grant
  else s.syncSend 3 node obj (if grant then 1 else 2) inset idx []

/-! ### Leases -/

/-- HOME serves a lease request (R329): free, or held by the same node and Inset. Answers whether it is granted, and
whether newly. -/
def State.leaseTake (s : State) (obj node inset : Nat) : State × Bool × Bool :=
  let o := s.syncObj obj
  if !o.held then
    (s.setSync obj { o with held := true, holder := node, hInset := inset, renewTick := s.tickNo, renewAt := s.clk.cycle },
      true, true)
  else if o.holder = node ∧ o.hInset = inset then
    (s.setSync obj { o with renewTick := s.tickNo, renewAt := s.clk.cycle }, true, false)
  else (s, false, false)

/-- Running commands of an Inset that acquired a lease. -/
def State.leaseUsers (s : State) (obj inset : Nat) : List CmdRef :=
  match (s.inset inset).sheet with
  | none => []
  | some sh => (mapIdxFrom (fun k c => (k, c)) 0 sh.cmds).filterMap (fun kc =>
      if kc.2.phase.live && kc.2.leaseHeld && CmdW.waitSync kc.2.word == obj then some ⟨inset, kc.1⟩ else none)

/-- The revocation as the holder's node performs it. -/
def State.leaseLost (s : State) (obj inset : Nat) : State :=
  let users := s.leaseUsers obj inset
  let s := users.foldl (fun s r => s.kill r Code.LEASE_REVOKED) s
  ((s.leaseFree obj).bump inset G.LEASE_REVOKED 1).interrupt inset 13

/-- LEASE_REVOKED: LEASE_TIMEOUT passed without a renewal, at HOME; or detector 0x00E fires 1 µs after the issue of a
command that took the lease (R385). -/
def execLeaseRevoked (sync : Nat) (s : State) : Host.Outcome State Fault Refusal :=
  if sync ≥ 16384 then .fault .noSuchInstance else
  let o := s.syncObj sync
  let forced := (upto 16).findSome? (fun i => (s.leaseUsers sync i).find? (fun r => match s.cmd r with
    | some c => c.rehearsed == 0x00E && decide (c.issueAt + 2400 ≤ s.clk.cycle)
    | none => false))
  match forced with
  | some r => .next (s.killRehearsed r 0x00E Code.LEASE_REVOKED)
  | none =>
    if o.kind ≠ 1 ∨ !o.held ∨ o.home ≠ s.nodeId then .next s else
    let limit := match Dict.syncOwner s.gaz.regs sync with
      | some i => s.num i G.LEASE_TIMEOUT
      | none => 10000
    if s.clk.cycle < o.renewAt + usCycles limit then .next s
    else if o.holder = s.nodeId then .next (s.leaseLost sync o.hInset)
    else .next ((s.leaseFree sync).syncSend 4 o.holder sync 3 o.hInset 0 [])

/-! ### Barriers and suspect marking -/

/-- The rank of an arrival recorded in the window of R386. -/
def State.suspectStep (s : State) (i : Nat) (last : Bool) : State :=
  let w := s.num i G.SUSPECT_WINDOW
  let win := (s.inset i).window ++ [last]
  let win := win.drop (win.length - w)
  let s := s.modInset i (fun t => { t with window := win })
  let c := (win.filter id).length
  let limit := (f32 (s.num i G.SUSPECT_FRACTION)).mul (Fl.ofNat w)
  if limit.lt (Fl.ofNat c) ∧ s.num i G.SUSPECT = 0 then
    ((s.setNum i G.SUSPECT 1).event i Code.SUSPECT_MARKED 0 0).interrupt i 14
  else s

/-- The ranks of a complete barrier reach a node: `mine` lists the Inset and rank of its own arrivals. -/
def State.barrierDone (s : State) (obj : Nat) (mine : List (Nat × Nat)) : State :=
  let o := s.syncObj obj
  let last := (mine.getLast?.map (·.2)).getD o.lastRank
  let s := s.setSync obj { o with value := o.expect, lastRank := last }
  mine.foldl (fun s ir =>
    let isLast := decide (ir.2 + 1 = o.expect)
    let s := if isLast then s.bump ir.1 G.BARRIER_LAST 1 else s
    let s := if 2 ≤ o.expect then s.suspectStep ir.1 isLast else s
    s.interrupt ir.1 14) s

/-- HOME counts an arrival; the EXPECT-th sends every rank to each arriving node (R332). -/
def State.barrierArrive (s : State) (obj node inset : Nat) : State :=
  let o := s.syncObj obj
  let all := (s.sched.arrivals.filter (fun a => a.1 == obj)).map (fun a => a.2) ++ [(node, inset)]
  if all.length < o.expect then
    { s with sched := { s.sched with arrivals := s.sched.arrivals ++ [(obj, node, inset)] } }
  else
    let s := { s with sched := { s.sched with arrivals := s.sched.arrivals.filter (fun a => !(a.1 == obj)) } }
    let ranked := mapIdxFrom (fun k (a : Nat × Nat) => (a.1, a.2, k)) 0 all
    let body := ranked.flatMap (fun a => toLe 2 a.1 ++ toLe 2 a.2.1 ++ toLe 4 a.2.2)
    (nub (all.map (·.1))).foldl (fun s n =>
      if n = s.nodeId then s.barrierDone obj ((ranked.filter (fun a => a.1 == n)).map (fun a => a.2))
      else s.syncSend 5 n obj 1 inset 0 body) s

/-- Ranks of this node's arrivals in a BARRIER message of HOME. -/
def barrierRanks (node : Nat) (payload : Bytes) : List (Nat × Nat) :=
  ((chunks 8 4096 (payload.drop 4)).filter (fun c => sliceNat c 0 2 == node)).map (fun c => (sliceNat c 2 2, sliceNat c 4 4))

/-- SUSPECT_CLEAR's effect: SUSPECT 0 and an empty window. -/
def State.woSuspectClear (s : State) (i : Nat) (_ : Bytes) : State × Nat :=
  ((s.setNum i G.SUSPECT 0).modInset i (fun t => { t with window := [] }), 0)

end Sys2Proof.Machine
end

