-- ==== Sys2Proof/Machine/Torus.lean ====
section
/-!
DEFINITION. The torus (chapter 13): training, the link layer, spares in operation, link delay, arriving messages, and the
torus commands.
-/

namespace Sys2Proof.Machine

def nPorts : Nat := 8
def nLanes : Nat := 18

/-- The logical port that a physical port carries. -/
def State.logicalOf (s : State) (phys : Nat) : Option Nat := s.torus.logical.findIdx? (· == phys)

def State.modPort (s : State) (phys : Nat) (f : Port → Port) : State := s.setPort phys (f (s.port phys))

/-- Training starts again from DETECT. -/
def Port.restart (p : Port) (now restarts : Nat) : Port :=
  { p with train := 1, restarts := restarts, stateAt := now, fecRun := 0, probe := none }

/-! ### Equalisation policy (R282, R206) -/

/-- The preset that policy leaves of a receiver's choice for a physical lane. -/
def State.eqPolicy (s : State) (lane choice : Nat) : Nat :=
  let own := s.node G.EQ_OWNER
  let lo := s.node G.EQ_PRESET_MIN
  let a := if own = 1 then lo else if own = 2 then max lo (min (s.node G.EQ_PRESET_MAX) choice) else choice
  let pin := (nth 0xFF (s.blob 16 G.EQ_PIN) lane).toNat
  if pin ≠ 0xFF then pin else a

/-! ### Credits (R287) -/

/-- Flits of the pool of a logical port, tag and VC: U16 in that order (log entry 82). -/
def Dict.linkCredits (d : Dict) (p tag vc : Nat) : Nat :=
  sliceNat (Dict.nodeBlob d G.LINK_CREDITS) (2 * ((p * 16 + tag) * 8 + vc)) 2

/-- Every pool of a logical port. -/
def Dict.creditPools (d : Dict) (p : Nat) : Tab Int :=
  (upto 128).map (fun k => (k, ((Dict.linkCredits d p (k / 8) (k % 8) : Nat) : Int)))

/-! ### Training (R281, R299) -/

/-- The port takes part in the torus: its dimension is larger than 1, or it is a spare that is not OFF. -/
def State.portUsed (s : State) (phys : Nat) : Bool :=
  match s.logicalOf phys with
  | some p => decide (1 < dimSize (s.node G.TORUS_DIMS) (p / 2))
  | none => nth 0 (s.blob 16 G.SPARE_PORT_ROLE) (phys - 6) != 2

/-- PORT_TRAINING: DETECT to ACTIVE, with the neighbour checked in IDENT. With fewer than 16 lanes seen the port stays in
training. -/
def execPortTraining (port : Nat) (t : TrainIn) (s : State) : Host.Outcome State Fault Refusal :=
  if port ≥ nPorts then .fault .noSuchInstance else
  let p := s.port port
  let lanes := t.lanes.filter (fun l => decide (l < nLanes) && !p.failed.contains l)
  if p.train = 0 ∨ p.train = 6 ∨ s.clk.refBad ∨ !s.portUsed port ∨ lanes.length < 16 then .next s else
  let now := s.clk.cycle
  let chosen := (upto nLanes).map (fun l => nth 0 t.presets l)
  let kept := mapIdxFrom (fun l c => s.eqPolicy (nLanes * port + l) c) 0 chosen
  let s := s.bumpNode G.EQ_POLICY_HOLD ((pairUp chosen kept).filter (fun x => x.1 != x.2)).length
  let s := { s with tick := { s.tick with trainedAt := some now } }
  let dims := s.node G.TORUS_DIMS
  let wrong := match s.logicalOf port with
    | some l => neighbour dims s.nodeId l != some t.node
    | none => false
  if wrong then
    .next ((s.setPort port { p with train := 0, stateAt := now, farNode := t.node, farPort := t.farPort }).nodeEvent
      Code.NEIGHBOUR_MISMATCH port 0)
  else
    let pools := match s.logicalOf port with
      | some l => Dict.creditPools s.gaz.regs l
      | none => []
    .next (s.setPort port { p with
      train := 6, restarts := 0, stateAt := now, lanes := lanes.take 16, polarity := t.polarity, presets := kept
      farNode := t.node, farPort := t.farPort, fecRun := 0
      credits := if p.credits.isEmpty then pools else p.credits })

/-- Messages waiting for a logical port are discarded (R300). -/
def State.dropPort (s : State) (p : Nat) : State :=
  { s with tm := { s.tm with flows := s.tm.flows.map (fun e =>
      if e.1 / 128 = p ∧ e.1 < 768 then (e.1, { e.2 with queue := [], deficit := 0 }) else e) } }

/-- A physical port fails (R300): the peer is asked to swap to its replacement, or it stays down. -/
def State.failPort (s : State) (phys : Nat) : State :=
  let s := s.modPort phys (fun p => { p with train := 0, stateAt := s.clk.cycle })
  match s.logicalOf phys with
  | none => s.nodeEvent Code.LINK_DOWN phys 0
  | some p => match s.replacement p with
    | some q => s.emit (.ctrlFlit q 3 [p, q])
    | none => (s.dropPort p).nodeEvent Code.LINK_DOWN p 0

/-- TRAINING_TIMEOUT: training restarts, or after 3 restarts the port stays down. -/
def execTrainingTimeout (port : Nat) (s : State) : Host.Outcome State Fault Refusal :=
  if port ≥ nPorts then .fault .noSuchInstance else
  let p := s.port port
  if p.train = 0 ∨ p.train = 6 ∨ s.clk.cycle < p.stateAt + usCycles 1000 then .next s
  else if p.restarts ≥ 3 then .next (s.failPort port)
  else .next (s.setPort port (p.restart s.clk.cycle (p.restarts + 1)))

/-- RETRAIN. -/
def execRetrain (port : Nat) (s : State) : Host.Outcome State Fault Refusal :=
  if port ≥ nPorts then .fault .noSuchInstance else
  if (s.port port).train = 0 then .next s else .next (s.modPort port (fun p => p.restart s.clk.cycle 0))

/-- PRESET_REQ: a lane takes a preset under the policy of this node. -/
def execPresetReq (port lane preset _codeword : Nat) (s : State) : Host.Outcome State Fault Refusal :=
  if port ≥ nPorts ∨ lane ≥ nLanes ∨ preset ≥ 16 then .fault .noSuchInstance else
  if (s.port port).train ≠ 6 then .next s else
  let k := s.eqPolicy (nLanes * port + lane) preset
  .next ((s.modPort port (fun p => { p with presets := modNth (fun _ => k) p.presets lane })).bumpNode G.EQ_POLICY_HOLD
    (flagBit (k != preset)))

/-! ### Link layer (R283 to R287) -/

namespace FlitW
def ftype (h : Nat) : Nat := bf h 3 0
def vc (h : Nat) : Nat := bf h 6 4
def seq (h : Nat) : Nat := bf h 19 8
def ack (h : Nat) : Nat := bf h 31 20
def crVc (h : Nat) : Nat := bf h 34 32
def crN (h : Nat) : Nat := bf h 39 35
def crDom (h : Nat) : Nat := bf h 43 40
def dom (h : Nat) : Nat := bf h 47 44
def crc (h : Nat) : Nat := bf h 63 48
def crcOk (h : Nat) (payload : Bytes) : Bool := crc16 0xFFFF (toLe 6 h ++ payload) == crc h
end FlitW

/-- Distance from `a` to `b` in sequence numbers modulo 4,096. -/
def seqDist (a b : Nat) : Nat := (b % 4096 + 4096 - a % 4096) % 4096

/-- The last flit of a message has been acknowledged by the first hop: a TORUS_PUT of this node has reached its commit
point (R295). -/
def State.ackedMsg (s : State) (m : TxMsg) : State :=
  if MsgW.mtype m.hdr ≠ 0 ∨ MsgW.src m.hdr ≠ s.nodeId then s else
  let i := (nth 0xFF (s.blob 16 G.DOMAIN_MAP) m.tag).toNat
  if i ≥ 16 then s else
  s.modInset i (fun t => { t with sheet := t.sheet.map (fun sh => { sh with cmds := sh.cmds.map (fun c =>
    if c.engine = 0x0A ∧ c.opcode = 1 ∧ c.phase = .finished ∧ c.par 63 32 = MsgW.xfer m.hdr
        ∧ c.par 127 112 = MsgW.slot m.hdr ∧ c.par 19 8 = MsgW.dest m.hdr ∧ sh.seq % 2 ^ 42 = MsgW.stamp m.hdr
    then { c with progress := [1] } else c) }) })

/-- Every flit before `next` has arrived at the far end. -/
def State.takeAck (s : State) (phys next : Nat) : State :=
  let p := s.port phys
  let n := seqDist p.txAcked next
  if n = 0 ∨ n > seqDist p.txAcked p.txSeq then s else
  let gone := p.replay.filter (fun e => decide (seqDist p.txAcked e.1 < n))
  let s := s.setPort phys { p with txAcked := next % 4096
                                   replay := p.replay.filter (fun e => !decide (seqDist p.txAcked e.1 < n)) }
  let s := s.countBytes 0x7100 phys 16 phys 0 (256 * n)
  gone.foldl (fun s e => s.ackedMsg e.2) s

/-- A NAK naming the next expected SEQ. -/
def State.sendNak (s : State) (phys : Nat) : State := s.emit (.ctrlFlit phys 1 [(s.port phys).rxNext])

/-- FLIT_RECEIVE: one codeword's flit on an ACTIVE port: discarded with a NAK, or its acknowledgement and credits taken and
a sequenced flit accepted in order. -/
def execFlitReceive (port : Nat) (flit : FlitIn) (s : State) : Host.Outcome State Fault Refusal :=
  if port ≥ nPorts then .fault .noSuchInstance else
  let p := s.port port
  if p.train ≠ 6 then .next s else
  match s.timedEntry 0x010 port, flit.body with
  | some k, _ => .next ((s.fireTimed k 0x010 0 port).sendNak port)
  | none, none =>
    let s := s.bumpNode G.FEC_UNCORR 1
    if p.fecRun + 1 ≥ 4 then .next (s.setPort port (p.restart s.clk.cycle 0))
    else .next ((s.setPort port { p with fecRun := p.fecRun + 1 }).sendNak port)
  | none, some (h, payload) =>
    let s := s.setPort port { p with fecRun := 0 }
    if !FlitW.crcOk h payload ∨ 4 < FlitW.ftype h then .next (s.sendNak port) else
    let s := s.takeAck port (FlitW.ack h + 1)
    let s := if FlitW.crN h = 0 then s else s.modPort port (fun p =>
      { p with credits := p.credits.upd 0 (· + ((FlitW.crN h : Nat) : Int)) (8 * FlitW.crDom h + FlitW.crVc h) })
    if FlitW.ftype h ≠ 1 ∧ FlitW.ftype h ≠ 2 then .next s
    else if FlitW.seq h ≠ (s.port port).rxNext then .next (s.sendNak port)
    else
      let s := s.modPort port (fun p => { p with
        rxNext := (p.rxNext + 1) % 4096, owed := p.owed.upd 0 (· + 1) (8 * FlitW.dom h + FlitW.vc h) })
      .next (s.countBytes 0x7101 port 16 port 1 256)

/-- The flits from a SEQ are sent again, and their messages marked RETRIED. -/
def State.resendFrom (s : State) (phys seq : Nat) : State :=
  let p := s.port phys
  let n := seqDist seq p.txSeq
  let marked := p.replay.map (fun e => (e.1, { e.2 with hdr := setBf e.2.hdr 6 6 1 }))
  ((s.setPort phys { p with replay := marked }).emit (.resend phys seq n)).bumpNode G.FLIT_RETRY 1

/-- NAK: earlier flits have arrived; every unacknowledged flit from SEQ is resent (R285). -/
def execNak (port seq : Nat) (s : State) : Host.Outcome State Fault Refusal :=
  if port ≥ nPorts then .fault .noSuchInstance else
  if (s.port port).train ≠ 6 then .next s else
  let s := s.takeAck port seq
  let p := s.port port
  if seqDist seq p.txSeq = 0 ∨ seqDist seq p.txSeq > seqDist p.txAcked p.txSeq then .next s
  else .next (s.resendFrom port (seq % 4096))

/-! ### Spares in operation (R299, R300, R381, R385) -/

/-- A field repair enters the pending list (R381). -/
def State.addRepair (s : State) (kind unit failed spare : Nat) : State :=
  let e := kind % 256 + 2 ^ 8 + unit % 65536 * 2 ^ 16 + failed % 65536 * 2 ^ 32 + spare % 65536 * 2 ^ 48
    + s.tickNo % 2 ^ 64 * 2 ^ 64
  let s := { s with rel := { s.rel with pendingRepairs := s.rel.pendingRepairs ++ [e]
                                        spares := s.rel.spares ++ [(kind, unit, failed, spare)] } }
  s.setNum 16 G.REPAIR_PENDING s.rel.pendingRepairs.length

/-- A spare lane of a port. -/
def Port.spareLane (p : Port) : Option Nat :=
  (upto nLanes).find? (fun l => !p.lanes.contains l && !p.failed.contains l)

/-- LANE_SER_WINDOW: a traffic lane over LANE_SER_LIMIT, or out of lock, is to be swapped; a port left with fewer than 16
working lanes fails. -/
def execLaneSerWindow (port lane errors symbols : Nat) (lockLost : Bool) (s : State) : Host.Outcome State Fault Refusal :=
  if port ≥ nPorts ∨ lane ≥ nLanes then .fault .noSuchInstance else
  let p := s.port port
  let isOver := (((f32 (s.node G.LANE_SER_LIMIT)).mul (Fl.ofNat symbols)).lt (Fl.ofNat errors))
  let armed := (s.timedEntry 0x011 (nLanes * port + lane)).isSome
  if p.train ≠ 6 ∨ !p.lanes.contains lane ∨ !(isOver || lockLost || armed) then .next s else
  match p.spareLane with
  | some sp => .next (s.emit (.ctrlFlit port 2 [lane, sp]))
  | none => if isOver || lockLost then .next (s.failPort port) else .next s

/-- LANE_SWAP: both ends switch a lane to a spare at the named codeword. A rehearsal swap leaves no repair and returns. -/
def execLaneSwap (port lane spare _codeword : Nat) (s : State) : Host.Outcome State Fault Refusal :=
  if port ≥ nPorts ∨ lane ≥ nLanes ∨ spare ≥ nLanes then .fault .noSuchInstance else
  let p := s.port port
  if p.train ≠ 6 ∨ !p.lanes.contains lane ∨ p.lanes.contains spare ∨ p.failed.contains spare then .next s else
  let lanes := p.lanes.map (fun l => if l = lane then spare else l)
  match s.timedEntry 0x011 (nLanes * port + lane) with
  | some k =>
    .next ((s.setPort port { p with lanes := lanes
                                    rehearse := some (lane, spare, s.clk.cycle + usCycles 1000, false) }).fireTimed
      k 0x011 Code.LANE_SWAPPED (nLanes * port + lane))
  | none =>
    let s := s.setPort port { p with lanes := lanes, failed := p.failed ++ [lane] }
    .next (((s.bumpNode G.LANE_SWAPS 1).nodeEvent Code.LANE_SWAPPED port lane).addRepair 7 port lane spare)

/-- LINK_DOWN: a logical port fails. A rehearsed loss only asks for the swap. -/
def execLinkDown (port : Nat) (s : State) : Host.Outcome State Fault Refusal :=
  if port ≥ 6 then .fault .noSuchInstance else
  let phys := s.physical port
  match s.timedEntry 0x012 phys, s.replacement port with
  | some _, some q => .next (s.emit (.ctrlFlit q 3 [port, q]))
  | _, _ => if (s.port phys).train = 0 then .next s else .next (s.failPort phys)

/-- A logical port moved to another physical port with the flits that have not been acknowledged: a spare takes over the
link state, a port in use appends the messages to its own. -/
def State.movePort (s : State) (p phys : Nat) : State :=
  let old := s.physical p
  let o := s.port old
  let q := s.port phys
  let inUse := s.torus.logical.contains phys
  let q' := if inUse then
      { q with txSeq := (q.txSeq + seqDist o.txAcked o.txSeq) % 4096
               replay := q.replay ++ o.replay.map (fun e => ((q.txSeq + seqDist o.txAcked e.1) % 4096, e.2)) }
    else { q with txSeq := o.txSeq, rxNext := o.rxNext, txAcked := o.txAcked, replay := o.replay, credits := o.credits
                  mgmtCred := o.mgmtCred, owed := o.owed }
  let first := if inUse then q.txSeq else o.txAcked
  let s := s.setPort phys q'
  let s := s.setPort old { o with replay := [], txAcked := o.txSeq }
  let s := { s with torus := { s.torus with logical := modNth (fun _ => phys) s.torus.logical p } }
  s.emit (.resend phys first (seqDist o.txAcked o.txSeq))

/-- PORT_SWAP: the replacement of a failed logical port takes over. A rehearsal swap returns after 1 ms. -/
def execPortSwap (port spare : Nat) (s : State) : Host.Outcome State Fault Refusal :=
  if port ≥ 6 ∨ spare ≥ nPorts then .fault .noSuchInstance else
  let phys := s.physical port
  if s.replacement port ≠ some spare then .next s else
  match s.timedEntry 0x012 phys with
  | some k =>
    let s := s.movePort port spare
    .next ((s.modPort phys (fun p => { p with
      rehearse := some (port, spare, s.clk.cycle + usCycles 1000, true) })).fireTimed k 0x012 Code.PORT_SWAPPED port)
  | none =>
    if (s.port phys).train = 6 then .next s
    else .next ((((s.movePort port spare).bumpNode G.PORT_SWAPS 1).nodeEvent Code.PORT_SWAPPED port spare).addRepair
      8 phys phys spare)

/-- REHEARSAL_SWAP_RETURN: traffic moves back 1 ms after a rehearsal swap. -/
def execRehearsalSwapReturn (port : Nat) (s : State) : Host.Outcome State Fault Refusal :=
  if port ≥ nPorts then .fault .noSuchInstance else
  let p := s.port port
  match p.rehearse with
  | none => .next s
  | some (a, b, t, isPort) =>
    if s.clk.cycle < t then .next s
    else if isPort then
      let s := s.setPort port { p with rehearse := none }
      if s.physical a = b then .next (s.movePort a port) else .next s
    else .next (s.setPort port { p with rehearse := none, lanes := p.lanes.map (fun l => if l = b then a else l) })

/-! ### Link delay (R301) -/

/-- DELAY_PROBE: every DELAY_INTERVAL an ACTIVE port starts an exchange. -/
def execDelayProbe (port t1 : Nat) (s : State) : Host.Outcome State Fault Refusal :=
  if port ≥ nPorts then .fault .noSuchInstance else
  let p := s.port port
  if p.train ≠ 6 ∨ s.clk.cycle < p.probeAt + usCycles (s.node G.DELAY_INTERVAL) then .next s
  else .next ((s.setPort port { p with probe := some t1, probeAt := s.clk.cycle }).emit (.ctrlFlit port 4 [t1, 0, 0]))

/-- PROBE: the reply to this port's own t1 ends the exchange; any other is a neighbour's, and is answered. -/
def execProbe (port t1 t2 t3 t4 : Nat) (s : State) : Host.Outcome State Fault Refusal :=
  if port ≥ nPorts then .fault .noSuchInstance else
  let p := s.port port
  if p.train ≠ 6 then .next s
  else if p.probe = some t1 then
    .next (s.setPort port { p with probe := none, delays := ((t4 - t1 - (t3 - t2)) / 2 :: p.delays).take 8 })
  else .next (s.emit (.ctrlFlit port 4 [t1, t2, t3]))

/-- LINK_DELAY_PS of a physical port: the mean of the last 8 exchanges. -/
def Port.delayPs (p : Port) : Nat := if p.delays.isEmpty then 0 else p.delays.sum / p.delays.length

/-! ### Arriving messages (R286, R290 to R293, Table 13-8) -/

/-- The VC on which a message arrives at a logical port. -/
def State.arrivalVc (s : State) (m : Msg) : Nat :=
  hopVc (MsgW.cls m.hdr) (MsgW.src m.hdr) (s.port (s.physical m.port)).farNode (m.port / 2, m.port % 2 == 1)

/-- Credits of a message's flits go back to the sender. -/
def State.returnCredit (s : State) (m : Msg) : State :=
  let phys := s.physical m.port
  let p := s.port phys
  let vc := s.arrivalVc m
  let k := 8 * (m.tag % 16) + vc
  let n := min (p.owed.get 0 k) (flitsOf m.payload.length)
  if n = 0 then s else
  (s.setPort phys { p with owed := p.owed.upd 0 (· - n) k }).emit
    (.credit phys ((p.rxNext + 4095) % 4096) vc (m.tag % 16) n)

/-- A message for another node, or on a tag this node only forwards: sent on, with FWD_OVER for flits beyond LINK_PLAN. -/
def State.forward (s : State) (m : Msg) : State :=
  let isOver := match firstHop (s.node G.TORUS_DIMS) s.nodeId (MsgW.dest m.hdr) with
    | some h => min (flitsOf m.payload.length) (Config.forwardOver (s.blob 16 G.LINK_PLAN) (hopPort h)
        (s.clk.cycle - s.tick.lastAt) (flitsOf m.payload.length))
    | none => 0
  (s.routeMsg m.tag m.hdr m.payload).bumpNode G.FWD_OVER isOver

/-- The Inset of a message's tag. -/
def State.msgInset (s : State) (m : Msg) : Option Nat :=
  let b := (nth 0xFF (s.blob 16 G.DOMAIN_MAP) m.tag).toNat
  if m.tag < 16 ∧ b < 16 then some b else none

/-- What every message arriving on an ACTIVE port meets first: an unlisted type is discarded, a message of another row's type changes
nothing, one for elsewhere is forwarded (a management message has no tag). `act` takes what is left. -/
def State.arriveMsg (s : State) (mtype : Nat) (m : Msg) (act : State → State) : Host.Outcome State Fault Refusal :=
  if m.port ≥ 6 then .fault .noSuchInstance else
  if !s.portActive m.port then .next s else
  let t := MsgW.mtype m.hdr
  if 9 ≤ t then .next ((s.returnCredit m).bumpNode G.TORUS_BAD_MSG 1)
  else if t ≠ mtype then .next s
  else
    let s := s.returnCredit m
    let mgmt := decide (t = 6 ∨ t = 7)
    if MsgW.dest m.hdr ≠ s.nodeId || (!mgmt && (s.msgInset m).isNone) then .next (s.forward m)
    else if !MsgW.crcOk m.hdr m.payload ∧ 2 ≤ t then
      .next (match s.msgInset m with
        | some i => s.bump i G.TORUS_CRC_DROP 1
        | none => s)
    else .next (act s)

/-- A WAIT or A2A of an Inset's current Sheet that a message matches; `back` lets SEQ_BACK take the previous Sheet's. -/
def State.waiter (s : State) (i hdr : Nat) (back : Bool) : Option CmdRef :=
  match (s.inset i).sheet with
  | none => none
  | some sh => ((mapIdxFrom (fun k c => (k, c)) 0 sh.cmds).find? (fun kc =>
      let c := kc.2
      let seq := sh.seq % 2 ^ 42
      c.engine == 0x0A && (c.opcode == 2 || c.opcode == 3) && (c.phase == .pending || c.phase.live)
        && c.par 63 32 == MsgW.xfer hdr
        && (MsgW.stamp hdr == seq
            || (back && c.opcode == 2 && bit (leNat c.params) 20 && MsgW.stamp hdr + 1 == seq)))).map (fun kc => ⟨i, kc.1⟩)

def msgKey (i hdr : Nat) : Nat × Nat × Nat × Nat × Nat := (i, MsgW.src hdr, MsgW.xfer hdr, MsgW.stamp hdr, MsgW.slot hdr)

/-- Bytes of landing area in use by an Inset. -/
def State.landUsed (s : State) (i : Nat) : Nat :=
  ((s.torus.landed.filter (fun m => m.inset == i)).map (fun m => m.payload.length)).sum

/-- A PUT or A2A_SLOT for this node (Table 13-8, R293). -/
def State.landMsg (s : State) (m : Msg) : State :=
  match s.msgInset m with
  | none => s
  | some i =>
    if !MsgW.crcOk m.hdr m.payload then
      match s.waiter i m.hdr false with
      | some r => s.kill r Code.TORUS_MSG_CRC
      | none => s.bump i G.TORUS_CRC_DROP 1
    else if s.torus.seen.contains (msgKey i m.hdr) then s.bump i G.TORUS_DUP 1
    else if s.landUsed i + m.payload.length > s.num i G.TORUS_LAND_BYTES then
      let s := s.bump i G.TORUS_LAND_DROP 1
      match s.waiter i m.hdr true with
      | some r => s.kill r Code.TORUS_LAND_FULL
      | none => s
    else
      { s.charge i 8 m.payload.length with torus := { s.torus with
          landed := s.torus.landed ++ [⟨i, m.hdr, m.payload⟩], seen := s.torus.seen ++ [msgKey i m.hdr] } }

/-- PUT. -/
def execPut (m : Msg) (s : State) : Host.Outcome State Fault Refusal := s.arriveMsg 0 m (fun s => s.landMsg m)

/-- A2A_SLOT. -/
def execA2aSlot (m : Msg) (s : State) : Host.Outcome State Fault Refusal := s.arriveMsg 1 m (fun s => s.landMsg m)

/-- DONE: recorded by the master; a node that is no master has no use for it. -/
def execDone (m : Msg) (s : State) : Host.Outcome State Fault Refusal :=
  s.arriveMsg 2 m (fun s =>
    if s.lock = 3 then { s with tick := { s.tick with
      done := s.tick.done
        ++ [⟨m.tag, MsgW.src m.hdr, sliceNat m.payload 0 8, s.clk.cycle, sliceNat m.payload 8 8⟩] } }
    else s)

/-- Operation, Inset and command index of a sync message. -/
def syncOp (b : Bytes) : Nat := sliceNat b 0 1
def syncInset (b : Bytes) : Nat := sliceNat b 1 1
def syncIdx (b : Bytes) : Nat := sliceNat b 2 2

/-- TOKEN: HOME serves a request; the requester takes the answer. -/
def execToken (m : Msg) (s : State) : Host.Outcome State Fault Refusal :=
  s.arriveMsg 3 m (fun s =>
    let b := m.payload
    let o := MsgW.xfer m.hdr
    if syncOp b = 0 then s.tokenServe o (MsgW.src m.hdr) (syncInset b) (syncIdx b)
    else s.tokenAnswer (syncInset b) (syncIdx b) (syncOp b == 1))

/-- LEASE: HOME serves a request or a release; the requester takes the grant, the denial or the revocation. -/
def execLease (m : Msg) (s : State) : Host.Outcome State Fault Refusal :=
  s.arriveMsg 4 m (fun s =>
    let b := m.payload
    let o := MsgW.xfer m.hdr
    let src := MsgW.src m.hdr
    let i := syncInset b
    let k := s.syncObj o
    if k.home = s.nodeId then
      if syncOp b = 0 then
        let (s, ok, _) := s.leaseTake o src i
        s.syncSend 4 src o (if ok then 1 else 2) i (syncIdx b) []
      else if k.holder = src ∧ k.hInset = i then s.leaseFree o else s
    else
      let s := { s with sched := { s.sched with
        asked := s.sched.asked.filter (fun a => !(a.1 == o && a.2.inset == i && a.2.idx == syncIdx b)) } }
      if syncOp b = 1 then
        let fresh := !(k.held && k.holder == s.nodeId && k.hInset == i)
        let s := s.modCmd ⟨i, syncIdx b⟩ (fun c => { c with leaseHeld := true, leaseNew := fresh })
        s.setSync o { k with held := true, holder := s.nodeId, hInset := i, renewTick := s.tickNo, renewAt := s.clk.cycle }
      else if syncOp b = 3 then s.leaseLost o i
      else s)

/-- BARRIER: HOME counts an arrival; a node takes the ranks. -/
def execBarrier (m : Msg) (s : State) : Host.Outcome State Fault Refusal :=
  s.arriveMsg 5 m (fun s =>
    let b := m.payload
    let o := MsgW.xfer m.hdr
    if syncOp b = 0 then s.barrierArrive o (MsgW.src m.hdr) (syncInset b)
    else s.barrierDone o (barrierRanks s.nodeId b))

/-- TORUS_MGMT_ALLOW names a node. -/
def State.mgmtAllowed (s : State) (src : Nat) : Bool :=
  (chunks 2 4096 (s.blob 16 G.TORUS_MGMT_ALLOW)).any (fun b => leNat b == src)

/-- MGMT_REQ: queued for the Gazetteer server, or denied. -/
def execMgmtReq (m : Msg) (s : State) : Host.Outcome State Fault Refusal :=
  s.arriveMsg 6 m (fun s =>
    let r : GazReq := ⟨.torus (MsgW.src m.hdr) (MsgW.xfer m.hdr % 65536), sliceNat m.payload 0 32, m.payload.drop 32⟩
    if s.mgmtAllowed (MsgW.src m.hdr) then s.queueReq r else s.respond r Code.MGMT_DENIED)

/-- MGMT_RSP: handed to this node's software. -/
def execMgmtRsp (m : Msg) (s : State) : Host.Outcome State Fault Refusal :=
  s.arriveMsg 7 m (fun s => s.emit (.gazResp (.torus (MsgW.src m.hdr) 0) (sliceNat m.payload 0 32) (m.payload.drop 32)))

/-- EVENT: the record of a peer joins the event ring of the tag's Inset (log entry 83). -/
def execEvent (m : Msg) (s : State) : Host.Outcome State Fault Refusal :=
  s.arriveMsg 8 m (fun s =>
    match s.msgInset m with
    | none => s
    | some i =>
      let e := sliceNat m.payload 0 32
      s.eventFull i (bf e 15 0) (bf e 191 128) (bf e 255 192) (bit e 16))

/-! ### Torus commands (R294 to R297) -/

namespace TorP
def mask (p : Nat) : Nat := bf p 5 0
def cls (p : Nat) : Nat := bf p 7 6
def dest (p : Nat) : Nat := bf p 19 8
def seqBack (p : Nat) : Bool := bit p 20
def xfer (p : Nat) : Nat := bf p 63 32
def len (p : Nat) : Nat := bf p 95 64
def count (p : Nat) : Nat := bf p 111 96
def slot (p : Nat) : Nat := bf p 127 112
def inStride (p : Nat) : Nat := bf p 159 128
def outStride (p : Nat) : Nat := bf p 191 160
def src (p : Nat) : Nat := bf p 255 192
def dst (p : Nat) : Nat := bf p 319 256
def list (p : Nat) : Nat := bf p 383 320
def reservedOk (p : Nat) : Bool := bf p 31 21 == 0 && bf p 511 384 == 0
end TorP

/-- The command issued after WIN_CLOSE. -/
def Cmd.issuedLate (c : Cmd) (sh : Sheet) : Nat := flagBit (decide (CmdW.winClose c.word < c.issueAt - sh.startAt))

/-- Bad words of what a torus command sends: nothing leaves the node (Table 18-3). -/
def State.exportFault (s : State) (c : Cmd) (ranges : List (Nat × Nat)) : Option Res :=
  if c.rehearsed = 0x005 ∧ c.hasT1 then some (.forced Code.POISON_EXPORT)
  else if (s.firstBad ranges).isSome then some (.fault Code.POISON_EXPORT) else none

/-- TORUS_PUT: the message is queued; the commit point waits for the first hop's acknowledgement. -/
def execTorusPut (c : CmdRef) (s : State) : Host.Outcome State Fault Refusal :=
  s.engineRowOpen c .ok 0x0A 1 (fun _ => true) (fun s x =>
    let p := leNat x.params
    match s.exportFault x [(TorP.src p, TorP.len p)], s.sheetOf c with
    | some f, _ => (s, f)
    | none, none => (s, .done Work.none)
    | none, some sh =>
      let s := s.noteRead (TorP.src p) (TorP.len p)
      let data := s.readBytes (TorP.src p) (TorP.len p)
      let h := msgHeader 0 (TorP.cls p) (x.issuedLate sh) (TorP.dest p) s.nodeId data.length (TorP.dst p) (TorP.xfer p)
        (TorP.slot p) sh.seq data
      let s := (s.charge c.inset 8 data.length).modCmd c (fun k => { k with progress := [] })
      (match Dict.tagOf s.gaz.regs c.inset with
        | some t => s.routeMsg t h data
        | none => s, .done Work.none))

/-- Landed messages of an Inset of a type that a command takes. -/
def State.landedFor (s : State) (i mtype xfer stamp : Nat) (back : Bool) : List Landed :=
  s.torus.landed.filter (fun m => m.inset == i && MsgW.mtype m.hdr == mtype && MsgW.xfer m.hdr == xfer
    && (MsgW.stamp m.hdr == stamp || (back && MsgW.stamp m.hdr + 1 == stamp)))

/-- The cause that a consumer of these messages counts when it is late (R298). -/
def lateCauseOf (ms : List Landed) : Nat :=
  if ms.any (fun m => MsgW.retried m.hdr) then 3 else if ms.any (fun m => MsgW.late m.hdr) then 4 else 7

def Landed.free (m : Landed) : Eff :=
  .freeLanded m.inset (MsgW.src m.hdr) (MsgW.xfer m.hdr) (MsgW.stamp m.hdr) (MsgW.slot m.hdr)

def landedLe (a b : Landed) : Bool :=
  decide (MsgW.src a.hdr < MsgW.src b.hdr)
    || (MsgW.src a.hdr == MsgW.src b.hdr && decide (MsgW.slot a.hdr ≤ MsgW.slot b.hdr))

/-- TORUS_WAIT: ends once COUNT messages have landed; before, the row changes nothing. -/
def execTorusWait (c : CmdRef) (s : State) : Host.Outcome State Fault Refusal :=
  if !refOk c then .fault .noSuchInstance else
  match s.running c 0x0A 2, s.sheetOf c with
  | some x, some sh =>
    let p := leNat x.params
    let ms := s.landedFor c.inset 0 (TorP.xfer p) (sh.seq % 2 ^ 42) (TorP.seqBack p)
    if x.rehearsed = 0x00D ∧ !ms.isEmpty then .next (s.killRehearsed c 0x00D Code.TORUS_MSG_CRC)
    else if TorP.len p < (ms.map (fun m => m.payload.length)).sum then .next (s.kill c Code.TORUS_OVERFLOW)
    else if (nub (ms.map (fun m => (MsgW.src m.hdr, MsgW.slot m.hdr)))).length < TorP.count p then .next s
    else if ms.any (fun m => !x.inOutputs (MsgW.addr m.hdr) m.payload.length) then .next (s.kill c Code.TORUS_DEST)
    else
      let s := s.modCmd c (fun k => { k with lateCause := lateCauseOf ms })
      .next (s.finish c { Work.ofWrites ((sortBy landedLe ms).map (fun m => (MsgW.addr m.hdr, m.payload))) with
        onDrain := ms.map Landed.free })
  | _, _ => .next s

/-- Linear ids of an A2A's node list. -/
def State.a2aList (s : State) (p : Nat) : List Nat :=
  (upto (TorP.count p)).map (fun k => s.readNat (TorP.list p + 2 * k) 2)

/-- The issue of a TORUS_A2A: outgoing slots are read and sent, this node's own copied. Progress holds the number of
messages that have left. -/
def State.a2aSend (s : State) (r : CmdRef) (c : Cmd) (sh : Sheet) : State :=
  let p := leNat c.params
  let ids := s.a2aList p
  let heads := (upto ids.length).map (fun k => TorP.src p + k * TorP.outStride p)
  let sizes := heads.map (fun a => bf (s.readNat a 64) 447 416)
  let ranges := (TorP.list p, 2 * TorP.count p) :: pairUp heads sizes
  match s.exportFault c ranges with
  | some f => s.settle r c f
  | none =>
    if sizes.any (fun n => TorP.inStride p < n || TorP.outStride p < n) then s.kill r Code.TORUS_OVERFLOW else
    let j := (ids.findIdx? (· == s.nodeId)).getD 0
    let own := (nth 0 heads j, nth 0 sizes j)
    let s := s.noteReads ranges
    let s := s.modCmd r (fun k => { k with
      progress := [0], writes := [(TorP.dst p + j * TorP.inStride p, s.readBytes own.1 own.2)] })
    match Dict.tagOf s.gaz.regs r.inset with
    | none => s
    | some t => (mapIdxFrom (fun k (x : Nat × Nat × Nat) => (k, x)) 0 (pairUp ids (pairUp heads sizes))).foldl
        (fun (s : State) kx =>
          if kx.1 = j then s else
          let data := s.readBytes kx.2.2.1 kx.2.2.2
          (s.charge r.inset 8 data.length).routeMsg t
            (msgHeader 1 (TorP.cls p) (c.issuedLate sh) kx.2.1 s.nodeId data.length 0 (TorP.xfer p) j sh.seq data) data) s

/-- TORUS_A2A: first the sends; then, once every message has left and one has landed from every other node, the end. -/
def execTorusA2a (c : CmdRef) (s : State) : Host.Outcome State Fault Refusal :=
  if !refOk c then .fault .noSuchInstance else
  match s.running c 0x0A 3, s.sheetOf c with
  | some x, some sh =>
    if x.progress = [] then .next (s.a2aSend c x sh) else
    let p := leNat x.params
    let ids := s.a2aList p
    let others := (mapIdxFrom (fun k n => (k, n)) 0 ids).filter (fun kn => kn.2 != s.nodeId)
    let ms := s.landedFor c.inset 1 (TorP.xfer p) (sh.seq % 2 ^ 42) false
    let got := others.filterMap (fun kn => (ms.find? (fun m => MsgW.src m.hdr == kn.2)).map (fun m => (kn.1, m)))
    if x.rehearsed = 0x00D ∧ !ms.isEmpty then .next (s.killRehearsed c 0x00D Code.TORUS_MSG_CRC)
    else if got.any (fun km => decide (TorP.inStride p < km.2.payload.length)) then .next (s.kill c Code.TORUS_OVERFLOW)
    else if x.progress.headD 0 < others.length ∨ got.length < others.length then .next s
    else
      let s := s.modCmd c (fun k => { k with lateCause := lateCauseOf (got.map (·.2)) })
      .next (s.finish c { Work.ofWrites (x.writes ++ got.map (fun km =>
          (TorP.dst p + km.1 * TorP.inStride p, km.2.payload))) with onDrain := got.map (fun km => km.2.free) })
  | _, _ => .next s

/-- A message of this node has left on its port: an A2A of its Inset counts it. -/
def State.sentMsg (s : State) (tag hdr : Nat) : State :=
  if MsgW.mtype hdr ≠ 1 ∨ MsgW.src hdr ≠ s.nodeId then s else
  let i := (nth 0xFF (s.blob 16 G.DOMAIN_MAP) tag).toNat
  if i ≥ 16 then s else
  s.modInset i (fun t => { t with sheet := t.sheet.map (fun sh => { sh with cmds := sh.cmds.map (fun c =>
    if c.engine = 0x0A ∧ c.opcode = 3 ∧ c.phase = .running ∧ c.par 63 32 = MsgW.xfer hdr
        ∧ sh.seq % 2 ^ 42 = MsgW.stamp hdr
    then { c with progress := [c.progress.headD 0 + 1] } else c) }) })

end Sys2Proof.Machine
end

