-- ==== Sys2Proof/Machine/Commit.lean ====
section
/-!
DEFINITION. Issue, commit and drain (chapter 2): the conditions of R32 with R34, R37, R242 and R243, the commit point with
its SIGNAL_OP (R35, R41, R331, R332), the drain's end (R36, R38) and the abandon of R49.
-/

namespace Sys2Proof.Machine

/-! ### Effects -/

/-- A Survey counter of a table changed by `f` (R197); a table that ROW_VERSIONS does not list has none. -/
def State.surveyUpd (s : State) (i table key : Nat) (f : Nat → Nat) : State :=
  match Dict.rowVers s.gaz.regs i table with
  | none => s
  | some rv =>
    let a := RvD.survey rv + 4 * key
    s.storeBytes a (toLe 4 (f (s.readNat a 4)))

/-- A request completed by HOST_COMPLETE (R343, R53). -/
def State.finishReq (s : State) (i entry code : Nat) (words : List Nat) (shortfall trunc : Bool) : State :=
  match (s.inset i).opens.find? (fun o => Sub.reqId o.entry == Sub.reqId entry) with
  | none => s
  | some o =>
    let s := s.modInset i (fun t => { t with opens := t.opens.erase o })
    s.complete i o.entry ⟨code, o.overrun || o.yellow, if o.overrun then 1 else if o.yellow then 2 else 0, shortfall,
      o.fallback, trunc, o.datum, words, s.doneTick⟩

/-- One effect applied for a command. -/
def State.applyEff (s : State) (r : CmdRef) : Eff → State
  | .setReg i k v => s.setNum i k v
  | .addReg i k n => s.bump i k n
  | .setBlob i k b => s.setReg i k (.blob b)
  | .setSlot n sl =>
    let slots := match sl with
      | some x => s.search.slots.set n x
      | none => s.search.slots.del n
    ({ s with search := { s.search with slots := slots } }).slotViews r.inset
  | .setChart n v => { s with chart := if v = 0 then s.chart.del n else s.chart.set n v, chartBad := s.chartBad.del n }
  | .raise i c d a => s.eventFull i c d a (decide (0x8000 ≤ c ∧ c < 0x9000))
  | .send m => s.routeMsg m.tag m.hdr m.payload
  | .syncAdd o n => let k := s.syncObj o; s.setSync o { k with value := (k.value + n) % 2 ^ 32 }
  | .host i a b => s.enqueue (1040 + i) 1 (.hostWrite a b)
  | .freeLanded i src x st sl =>
    { s with torus := { s.torus with landed := s.torus.landed.filter (fun m =>
        !(m.inset == i && MsgW.src m.hdr == src && MsgW.xfer m.hdr == x && MsgW.stamp m.hdr == st
          && MsgW.slot m.hdr == sl)) } }
  | .modeChange ch m => s.askMode ch m
  | .qcLine ch n v => let u := s.unit ch; s.setUnit ch { u with qcache := u.qcache.set n v }
  | .resRegion ch o b =>
    let u := s.unit ch
    s.setUnit ch { u with result :=
      (mapIdxFrom (fun k x => (o + k, x)) 0 b).foldl (fun t e => t.set e.1 e.2.toNat) u.result }
  | .flashMap l p =>
    let s := s.setMap l p
    { s with flash := { s.flash with mapBad := s.flash.mapBad.del l } }
  | .hostAdmit i q x e d st y f =>
    (s.modInset i (fun t => { t with opens := t.opens ++ [⟨e, d, st, false, y, f⟩] })).markDone i q x
  | .complete i e c w sh tr => s.finishReq i e c w sh tr
  | .reject i q x e c => s.rejectSub i q x e c
  | .sqHead i q => s.sqAdvance (s.host.subs.length + 1) i q
  | .survey i t k n => s.surveyUpd i t k (fun c => min (c + n) (2 ^ 32 - 1))
  | .surveyTake i t k n => s.surveyUpd i t k (· - n)
  | .surveyLoad i t b => s.modInset i (fun x => { x with loads := x.loads.set t b })
  | .settled i t n => s.modInset i (fun x => { x with settled := x.settled.set t n })
  | .layer i k n => s.modInset i (fun x => { x with layers := x.layers.upd 0 (· + n) k })
  | .lookup i g (some t) => s.modInset i (fun x => { x with lookups := x.lookups.set g t })
  | .lookup i g none => s.modInset i (fun x => { x with lookups := x.lookups.del g })

def State.applyEffs (s : State) (r : CmdRef) (l : List Eff) : State := l.foldl (fun s e => s.applyEff r e) s

/-! ### Scoreboards and engines (R32, R75, R220, R261) -/

/-- Scoreboards a command stands in: one for each engine instance, each channel of a Scribe mask, each port of a torus
mask (port 8 the receive scoreboard of a mask of none). -/
def Cmd.boards (c : Cmd) : List (Nat × Nat) :=
  let p := leNat c.params
  if c.engine = 9 then (setBits 32 0 (ScrP.chMask p)).map (fun k => (9, k))
  else if c.engine = 0x0A then
    if TorP.mask p = 0 then [(0x0A, 8)] else (setBits 6 0 (TorP.mask p)).map (fun k => (0x0A, k))
  else [(c.engine, c.index)]

/-- What a command keeps busy while it runs and drains: cube groups, Projection slots, engine instances; engines 7, 8,
0x0A and 0x0C stand once for each Inset. -/
def Cmd.uses (c : Cmd) (inset : Nat) : List (Nat × Nat) :=
  let p := leNat c.params
  if c.engine = 1 then
    let gs := (setBits 4 0 (CmdW.cubeGroups c.word)).map (fun g => 4 * c.index + g)
    gs.map (fun g => (1, g)) ++ (if MatP.outProj p then gs.map (fun g => (3, g)) else [])
  else if c.engine = 3 then (upto 4).map (fun g => (3, 4 * c.index + g))
  else if c.engine = 7 ∨ c.engine = 8 ∨ c.engine = 0x0A ∨ c.engine = 0x0C then
    c.boards.map (fun b => (b.1, 256 * inset + b.2))
  else c.boards

def sharesKey (a b : List (Nat × Nat)) : Bool := a.any (fun x => b.contains x)

/-- Issued, and not at the end of its drain. -/
def Phase.busy : Phase → Bool
  | .running | .finished | .draining => true
  | _ => false

/-- Commands of every Inset with their references that satisfy `p`. -/
def State.cmdsWhere (s : State) (p : Cmd → Bool) : List (CmdRef × Cmd) :=
  (upto 16).flatMap (fun i => match (s.inset i).sheet with
    | none => []
    | some sh => (mapIdxFrom (fun k c => (k, c)) 0 sh.cmds).filterMap (fun kc =>
        if p kc.2 then some (⟨i, kc.1⟩, kc.2) else none))

/-- Command `x` of index `k` comes before command `c` of index `idx` on a scoreboard of both, by WIN_OPEN and then
index. -/
def Cmd.ahead (k : Nat) (x : Cmd) (idx : Nat) (c : Cmd) : Bool :=
  k != idx && sharesKey x.boards c.boards
    && (decide (CmdW.winOpen x.word < CmdW.winOpen c.word)
      || (CmdW.winOpen x.word == CmdW.winOpen c.word && decide (k < idx)))

/-- The command is at the head: nothing pending of its Sheet is ahead of it. -/
def Sheet.atHead (sh : Sheet) (idx : Nat) (c : Cmd) : Bool :=
  allIdx (fun k x => !(x.phase == .pending && x.ahead k idx c)) 0 sh.cmds

def State.engineIdle (s : State) (r : CmdRef) (c : Cmd) : Bool :=
  (s.cmdsWhere (fun x => x.phase.busy)).all (fun x => !sharesKey (x.2.uses x.1.inset) (c.uses r.inset))

/-- The command names a retired instance (R34, R378). -/
def State.namesRetired (s : State) (c : Cmd) : Bool :=
  if c.engine = 1 then
    (setBits 4 0 (CmdW.cubeGroups c.word)).any (fun g =>
      (upto 4).any (fun k => s.rel.retired.contains (1, 16 * c.index + 4 * g + k)))
  else c.engine == 4 && s.rel.retired.contains (2, c.index)

/-! ### Staging (R32, R242) -/

/-- Stack staging charge of a command in pool pages. -/
def State.chargePages (s : State) (i : Nat) (c : Cmd) : Nat :=
  let p := leNat c.params
  let md := (Dict.maint s.gaz.regs i (TrvP.index p)).getD 0
  ceilDiv (chargeBytes c.engine c.opcode c.descs (TrvP.slotCount p) (MntD.linkMax md) (MntD.repairMax md)
    (MntD.scanGranules md)) 65536

/-- Pages of the stack staging pool: what STAGE_T1_WORK and the landing area leave (R241, R291). -/
def Dict.poolPages (d : Dict) (i : Nat) : Nat :=
  (Dict.num d i G.STAGE_T1_BYTES - Dict.num d i G.STAGE_T1_WORK - Dict.num d i G.TORUS_LAND_BYTES) / 65536

/-- Both staging pools have room for the command. -/
def State.stagingFree (s : State) (i : Nat) (sh : Sheet) (c : Cmd) : Bool :=
  let on := sh.cmds.filter (fun x => x.phase.busy)
  decide ((on.map (fun x => CmdW.stagePages x.word)).sum + CmdW.stagePages c.word ≤ s.num i G.STAGE_POOL_PAGES)
    && decide ((on.map (s.chargePages i)).sum + s.chargePages i c ≤ Dict.poolPages s.gaz.regs i)

/-! ### Issue conditions -/

/-- Every named producer has committed (R31). -/
def Sheet.resident (sh : Sheet) (c : Cmd) : Bool :=
  c.inputs.all (fun d => Desc.producer d == 0xFFFF || (match sh.cmds[Desc.producer d]? with
    | some x => x.phase == .committed
    | none => true))

/-- WAIT_COND 1 and 2. -/
def State.waitMet (s : State) (c : Cmd) : Bool :=
  let v := (s.syncObj (CmdW.waitSync c.word)).value
  if CmdW.waitCond c.word = 1 then decide (CmdW.waitValue c.word ≤ v)
  else if CmdW.waitCond c.word = 2 then v == CmdW.waitValue c.word
  else true

/-- A descriptor touches a word locked by a drain (R37). -/
def State.locked (s : State) (c : Cmd) : Bool :=
  let held := s.drainingWords
  !held.isEmpty && c.descs.any (fun d => Desc.onNode d && (storageWords (Desc.addr d) (Desc.len d)).any held.contains)

/-- A channel that the command names, by a bank-side mask or by a descriptor, waits for its mode change (R213, R214,
R220). -/
def State.modePending (s : State) (c : Cmd) : Bool :=
  s.bsu.units.any (fun e => e.2.change.isSome && ((c.engine == 7 && c.bsuChannels.contains e.1)
    || c.descs.any (fun d => touches (Desc.addr d) (Desc.len d) e.1)))

/-! ### Lateness (R243) -/

/-- Tier of a producer in TIER_LATE_DETAIL: 0 T2, 1 T3 peer, 2 T3 host. -/
def Cmd.tierOf (c : Cmd) : Nat := if c.engine = 9 then 0 else if c.engine = 0x0A then 1 else 2

/-- Table 11-5 pairs the cause with the tier; any other becomes OTHER. -/
def pairedCause (tier cause : Nat) : Nat :=
  if cause = 6 ∨ (tier = 0 ∧ (cause = 1 ∨ cause = 2)) ∨ (tier = 1 ∧ (cause = 3 ∨ cause = 4)) ∨ (tier = 2 ∧ cause = 5)
  then cause else 7

/-- The first tier producer of an input that had not committed at WIN_CLOSE. -/
def Sheet.lateProducer (sh : Sheet) (c : Cmd) : Option Cmd :=
  c.inputs.findSome? (fun d => match sh.cmds[Desc.producer d]? with
    | some x => if x.tierProducer && !(x.phase == .committed && decide (x.endAt ≤ sh.startAt + CmdW.winClose c.word))
        then some x else none
    | none => none)

/-- The command stood at the head of its scoreboards at WIN_CLOSE. -/
def Sheet.headAtClose (sh : Sheet) (idx : Nat) (c : Cmd) : Bool :=
  allIdx (fun k x => !(x.ahead k idx c) || (x.phase != .pending
    && decide (x.issueAt ≤ sh.startAt + CmdW.winClose c.word))) 0 sh.cmds

/-- TIER_LATE counted once for a command past WIN_CLOSE. -/
def State.tierLate (s : State) (r : CmdRef) (sh : Sheet) (c : Cmd) : State :=
  if c.lateDone ∨ s.sheetTime sh ≤ CmdW.winClose c.word ∨ !sh.headAtClose r.idx c then s else
  match sh.lateProducer c with
  | none => s
  | some p =>
    let t := p.tierOf
    let cause := pairedCause t (if p.lateCause ≠ 0 then p.lateCause else if p.lateDone then 6 else 7)
    let b := s.blob r.inset G.TIER_LATE_DETAIL
    let b := if b.length = 168 then b else zeros 168
    let k := 8 * (7 * t + cause - 1)
    let s := s.setReg r.inset G.TIER_LATE_DETAIL
      (.blob (b.take k ++ toLe 8 (sliceNat b k 8 + 1) ++ b.drop (k + 8)))
    (s.modCmd r (fun x => { x with lateDone := true })).event r.inset Code.TIER_LATE 0 c.tag

/-! ### Sync objects at issue -/

/-- The command waits on or signals an object. -/
def Cmd.namesSync (c : Cmd) (o : Nat) : Bool :=
  (CmdW.waitCond c.word != 0 && CmdW.waitSync c.word == o) || (CmdW.signalOp c.word != 0 && CmdW.signalSync c.word == o)

/-- An uncorrectable object (Table 18-3): the commands that wait on or signal it are faulted, and VALUE reads 0. -/
def State.syncFault (s : State) (o : Nat) : State :=
  let s := (s.cmdsWhere (fun c => c.namesSync o && !c.phase.ended && !c.phase.past)).foldl
    (fun s x => s.kill x.1 Code.SYNC_UNCORRECTABLE) s
  s.setSync o { s.syncObj o with value := 0, bad := false }

/-- A bad object that the command names. -/
def State.badSync (s : State) (c : Cmd) : Option Nat :=
  [CmdW.waitSync c.word, CmdW.signalSync c.word].find? (fun o => c.namesSync o && (s.syncObj o).bad)

/-- What WAIT_COND 3 finds. -/
inductive LeaseStep where
  | ready | wait | ask
deriving DecidableEq, Repr

/-- The lease of a command: it may issue, it waits, or HOME has to be asked (R329). -/
def State.leaseStep (s : State) (r : CmdRef) (c : Cmd) : LeaseStep :=
  if CmdW.waitCond c.word ≠ 3 then .ready else
  let n := CmdW.waitSync c.word
  let o := s.syncObj n
  if o.home = s.nodeId then
    if !o.held || (o.holder == s.nodeId && o.hInset == r.inset) then .ready else .wait
  else if c.leaseHeld then .ready
  else if s.sched.asked.contains (n, r) then .wait else .ask

/-- The lease taken as the command issues. -/
def State.leaseIssue (s : State) (r : CmdRef) (c : Cmd) : State :=
  let n := CmdW.waitSync c.word
  if CmdW.waitCond c.word ≠ 3 ∨ (s.syncObj n).home ≠ s.nodeId then s else
  let (s, _, fresh) := s.leaseTake n s.nodeId r.inset
  s.modCmd r (fun x => { x with leaseHeld := true, leaseNew := fresh })

/-! ### Faults at issue -/

/-- The table a version writer writes (R193): EMB_APPLY, ROW_REPLACE, CHART_COMMIT. -/
def Cmd.writesTable (c : Cmd) : Option Nat :=
  if (c.engine = 6 ∧ c.opcode = 6) ∨ (c.engine = 0x0B ∧ (c.opcode = 1 ∨ c.opcode = 6)) then some (c.par 5 0) else none

def State.tooSoon (s : State) (r : CmdRef) (sh : Sheet) (c : Cmd) : Bool :=
  match c.writesTable with
  | none => false
  | some t => match Tab.find (s.inset r.inset).lastWrite t with
    | none => false
    | some q => decide (q < sh.seq) && decide (sh.seq - q < RvD.horizon ((Dict.rowVers s.gaz.regs r.inset t).getD 0))

/-- The first hop of a PUT, or of a message of an A2A, is down (R300). -/
def State.hopDown (s : State) (c : Cmd) : Bool :=
  c.engine == 0x0A && c.opcode != 2 &&
    (setBits 6 0 (TorP.mask (leNat c.params))).any (fun p => !s.portActive p)

/-- The code a command is faulted with where it would issue. -/
def State.issueFault (s : State) (r : CmdRef) (sh : Sheet) (c : Cmd) : Option Nat :=
  if c.engine = 9 ∧ s.flash.rebuilt ≠ 1 then some Code.REBUILD_PENDING
  else if s.tooSoon r sh c then some Code.VERSION_TOO_SOON
  else if s.hopDown c then some Code.LINK_DOWN
  else if s.notProc c then some Code.BSU_NOT_PROC
  else none

/-- Scheduler operations with no work of their own finish at once. -/
def Cmd.instant (c : Cmd) : Bool := c.engine == 0x0C && c.opcode != 0x10 && c.opcode != 0x11 && c.opcode != 0x20

/-- The command issues. -/
def State.issue (s : State) (r : CmdRef) (sh : Sheet) (c : Cmd) : State :=
  let s := s.leaseIssue r c
  let det := s.detector r c
  let s := s.modCmd r (fun x => { x with phase := .running, issueAt := s.clk.cycle, rehearsed := det })
  let s := if CmdW.winClose c.word < s.sheetTime sh then s.bump r.inset G.WINDOW_MISS 1 else s
  if det = 0x004 then s.killRehearsed r 0x004 Code.NOC_UNCORRECTABLE
  else if c.instant then s.finish r Work.none
  else s

/-- COMMAND_ISSUE. -/
def execCommandIssue (c : CmdRef) (s : State) : Host.Outcome State Fault Refusal :=
  if !refOk c then .fault .noSuchInstance else
  match s.cmd c, s.sheetOf c with
  | some x, some sh =>
    if x.phase ≠ .pending || !sh.atHead c.idx x || decide (s.sheetTime sh < CmdW.winOpen x.word) then .next s else
    let s := s.tierLate c sh x
    match s.badSync x with
    | some o => .next (s.syncFault o)
    | none =>
      if !sh.resident x || !s.waitMet x || !s.stagingFree c.inset sh x || s.locked x || s.modePending x then .next s
      else if s.scribeHeld x then .next (s.modCmd c (fun y => { y with lateCause := 2 }))
      else match s.leaseStep c x with
        | .wait => .next s
        | .ask =>
          let n := CmdW.waitSync x.word
          let s := { s with sched := { s.sched with asked := s.sched.asked ++ [(n, c)] } }
          .next (s.syncSend 4 (s.syncObj n).home n 0 c.inset c.idx [])
        | .ready =>
          if s.namesRetired x then .next (s.kill c Code.ENGINE_RETIRED)
          else if !s.engineIdle c x then .next s
          else match s.issueFault c sh x with
            | some code => .next (s.kill c code)
            | none => .next (s.issue c sh x)
  | _, _ => .next s

/-! ### Commit (R35, R41, R328 to R332) -/

/-- SIGNAL_OP 1 and 2 at the commit point: VALUE, a barrier arrival, the release of a lease or of a token. -/
def State.signal (s : State) (r : CmdRef) (c : Cmd) : State :=
  let n := CmdW.signalSync c.word
  let v := CmdW.signalValue c.word
  let o := s.syncObj n
  if CmdW.signalOp c.word = 1 then
    if o.kind = 3 then
      if o.home = s.nodeId then s.barrierArrive n s.nodeId r.inset else s.syncSend 5 o.home n 0 r.inset r.idx []
    else s.setSync n { o with value := (o.value + v) % 2 ^ 32 }
  else if CmdW.signalOp c.word = 2 then
    let s := s.setSync n { o with value := v }
    if v ≠ 0 then s
    else if o.kind = 1 ∧ o.held ∧ o.holder = s.nodeId ∧ o.hInset = r.inset then s.leaseRelease n r.inset
    else if o.kind = 2 ∧ o.home = s.nodeId then s.leaseFree n
    else s
  else s

/-- The command is recorded in the commit log and its drain begins. -/
def State.commit (s : State) (r : CmdRef) (sh : Sheet) (c : Cmd) : State :=
  let s := { s with sched := { s.sched with commitLog := s.sched.commitLog ++ [(r.inset, sh.seq, r.idx)] } }
  let s := s.modCmd r (fun x => { x with phase := .draining, commitAt := s.clk.cycle })
  let s := match c.writesTable with
    | some t => s.modInset r.inset (fun x => { x with lastWrite := x.lastWrite.set t sh.seq })
    | none => s
  (s.signal r c).applyEffs r c.onCommit

/-- The token a commit point needs is asked of HOME. -/
def State.askToken (s : State) (r : CmdRef) (c : Cmd) : State :=
  let n := CmdW.signalSync c.word
  let o := s.syncObj n
  let s := s.modCmd r (fun x => { x with token := 1 })
  if o.home = s.nodeId then s.tokenServe n s.nodeId r.inset r.idx else s.syncSend 3 o.home n 0 r.inset r.idx []

/-- COMMIT_POINT of a finished command; a TORUS_PUT also waits for its first hop's acknowledgement (R295). -/
def execCommitPoint (c : CmdRef) (s : State) : Host.Outcome State Fault Refusal :=
  if !refOk c then .fault .noSuchInstance else
  match s.cmd c, s.sheetOf c with
  | some x, some sh =>
    if x.phase ≠ .finished ∨ (x.engine = 0x0A ∧ x.opcode = 1 ∧ x.progress = []) then .next s else
    match s.badSync x with
    | some o => .next (s.syncFault o)
    | none =>
      if CmdW.signalOp x.word ≠ 3 then .next (s.commit c sh x) else
      let s := if x.token = 0 then s.askToken c x else s
      match (s.cmd c).map (·.token) with
      | some 2 => .next (s.commit c sh x)
      | some 3 => .next (s.kill c Code.BACKUP_LOST)
      | _ => .next s
  | _, _ => .next s

/-! ### Drain (R36, R38) -/

/-- Every write of a command, each storage word once (R36). A word whose staging word is bad is written as poison
(R38); so is one merged into a bad word (R371). Answers whether either was. -/
def State.drain (s : State) (c : Cmd) (badStage : List Nat) : State × Bool :=
  let bad := (badStage.filterMap storageOf).map (· / 64)
  let ws := wordWrites c.writes
  let lost := ws.filter (fun w => bad.contains w.1)
  let (s, merged) := s.storeAll (ws.filter (fun w => !bad.contains w.1))
  let s := lost.foldl (fun s w => s.poisonRange (w.1 * 64) 1) s
  (c.poison.foldl (fun s a => s.poisonRange a 1) s, merged || !lost.isEmpty)

/-- Stack bytes of a command: its T1 descriptors. -/
def Cmd.t1Bytes (c : Cmd) : Nat := ((c.descs.filter (fun d => Desc.tier d == 1)).map Desc.len).sum

/-- The drain waits: a BSU_MODE whose channels still change (R214). -/
def State.drainWaits (s : State) (c : Cmd) : Bool :=
  c.engine == 7 && c.opcode == 1 && c.bsuChannels.any (fun g => (s.unit g).change.isSome)

/-- The end of a drain. `badStage` lists target addresses whose staging words decode as uncorrectable. -/
def State.endDrain (s : State) (r : CmdRef) (sh : Sheet) (c : Cmd) (badStage : List Nat) : State :=
  let now := s.clk.cycle
  let (s, poisoned) := s.drain c badStage
  let forced := decide (c.rehearsed = 0x006) && !c.writes.isEmpty
  let s := s.applyEffs r c.onDrain
  let code := if poisoned then Code.COMMIT_POISON else if forced then 0x8006 else c.code
  let s := if poisoned then s.event r.inset Code.COMMIT_POISON 0 c.tag else s
  let s := if forced then
      (s.eventFull r.inset 0x8006 Code.COMMIT_POISON c.tag true).bump r.inset G.REHEARSAL_COUNT 1 else s
  let c' := { c with phase := .committed, code := code, endAt := now, writes := [], poison := [], onCommit := []
                     onDrain := [] }
  let s := s.modCmd r (fun _ => c')
  let s := if CmdW.est c.word < now - c.issueAt then s.bump r.inset G.EST_EXCEEDED 1 else s
  let s := s.sampleCmd r sh c' (now - c.commitAt)
  let s := (s.chargeCmd r.inset c now).charge r.inset 6 c.t1Bytes
  s.serveHeld.checkDone r.inset

/-- DRAIN_END. -/
def execDrainEnd (c : CmdRef) (badStage : List Nat) (s : State) : Host.Outcome State Fault Refusal :=
  if !refOk c then .fault .noSuchInstance else
  match s.cmd c, s.sheetOf c with
  | some x, some sh =>
    if x.phase ≠ .draining || s.drainWaits x then .next s else .next (s.endDrain c sh x badStage)
  | _, _ => .next s

/-- OVERRUN_ABANDON (R49): after OVERRUN_LIMIT slips of a Sheet that is not done. -/
def execOverrunAbandon (inset : Nat) (s : State) : Host.Outcome State Fault Refusal :=
  if inset ≥ 16 then .fault .noSuchInstance else
  match (s.inset inset).sheet with
  | none => .next s
  | some sh =>
    if sh.done ∨ sh.slips < s.num inset G.OVERRUN_LIMIT then .next s else
    let s := (s.killAll inset Code.OVERRUN_ABANDON).1
    .next (s.closeRequests inset Code.OVERRUN_ABANDON true none).1

end Sys2Proof.Machine
end

