-- ==== Sys2Proof/Machine/CheckCore.lean ====
section
/-!
DEFINITION. What a CHECK works on (R357): the dictionary it would produce, the commands of every Sheet image in it, and
the record of the check that failed (Table 17-4).
-/

namespace Sys2Proof.Machine

/-- A failed check: its code, the entry that failed with the place of the failing record in it, and for two claims of one
resource the second claim. -/
structure Fail where
  code     : Nat
  inst     : Nat
  key      : Nat
  detail   : Nat
  instB    : Nat
  keyB     : Nat
  resource : Nat
  unit     : Nat
  featA    : Nat
  featB    : Nat
deriving DecidableEq, Repr

def Fail.at (code inst key detail : Nat) : Fail := ⟨code, inst, key, detail, 0, 0, 0, 0, 0, 0⟩

/-- The 32-byte record of Table 17-4. -/
def Fail.record (f : Fail) : Nat :=
  f.code % 2 ^ 16 + f.key / 256 % 2 ^ 16 * 2 ^ 16 + f.key % 256 * 2 ^ 32 + f.inst % 32 * 2 ^ 40
    + f.keyB / 256 % 2 ^ 16 * 2 ^ 48 + f.keyB % 256 * 2 ^ 64 + f.instB % 32 * 2 ^ 72 + f.resource % 256 * 2 ^ 80
    + f.unit % 2 ^ 32 * 2 ^ 96 + f.featA % 256 * 2 ^ 128 + f.featB % 256 * 2 ^ 136 + f.detail % 2 ^ 64 * 2 ^ 192

/-- A CHECK: the state, the dictionary it would produce, the set checked (16 the node set) and what it stages. -/
structure Ck where
  s      : State
  d      : Dict
  set    : Nat
  staged : Tab GVal

/-- The set stages a value of a key. -/
def Ck.stages (k : Ck) (key : Nat) : Bool := k.staged.any (fun e => e.1 % 2 ^ 24 == key)
/-- The set stages one of `n` subindices. -/
def Ck.stagesAny (k : Ck) (key n : Nat) : Bool :=
  k.staged.any (fun e => decide (key ≤ e.1 % 2 ^ 24) && decide (e.1 % 2 ^ 24 < key + n))

/-- A command of a Sheet image: its Inset, the image with its offset in SHEET_IMAGE, and its index. -/
structure LoadCmd where
  inst  : Nat
  image : Image
  base  : Nat
  idx   : Nat
  cmd   : Cmd

/-- The images of an Inset with their offsets. -/
def Dict.loaded (d : Dict) (i : Nat) : List (Nat × Image) :=
  ((Dict.images d i).foldl (fun (acc : Nat × List (Nat × Image)) m =>
    (acc.1 + roundUp (Hdr.imageBytes m.header) 64, acc.2 ++ [(acc.1, m)])) (0, [])).2

/-- The commands of one image. -/
def loadCmds (i base : Nat) (m : Image) : List LoadCmd := mapIdxFrom (fun k c => ⟨i, m, base, k, c⟩) 0 m.cmds

/-- The commands of every image of every Inset. -/
def Dict.loadCmds (d : Dict) : List LoadCmd :=
  (upto 16).flatMap (fun i => (Dict.loaded d i).flatMap (fun bm => Sys2Proof.Machine.loadCmds i bm.1 bm.2))

/-- Commands of one engine type. -/
def Ck.cmdsOf (k : Ck) (p : LoadCmd → Bool) : List LoadCmd := (Dict.loadCmds k.d).filter p

def LoadCmd.fail (c : LoadCmd) (code : Nat) : Fail := Fail.at code c.inst G.SHEET_IMAGE (c.base + 64 + 64 * c.idx)

def LoadCmd.p (c : LoadCmd) : Nat := leNat c.cmd.params
def LoadCmd.w (c : LoadCmd) : Nat := c.cmd.word
def LoadCmd.engine (c : LoadCmd) : Nat := c.cmd.engine
def LoadCmd.op (c : LoadCmd) : Nat := c.cmd.opcode

/-- One row of a check table over commands. -/
def cmdRow (cs : List LoadCmd) (code : Nat) (bad : LoadCmd → Bool) : Option Fail := (cs.find? bad).map (fun c => c.fail code)

/-- One row over the entries of the 16 Insets. -/
def instRow (code key : Nat) (bad : Nat → Bool) : Option Fail := ((upto 16).find? bad).map (fun i => Fail.at code i key 0)

/-- One row over a node entry. -/
def nodeRow (code key : Nat) (bad : Bool) : Option Fail := if bad then some (Fail.at code 16 key 0) else none

/-- The framing of a table of every Inset, with its chapter's format code, then its reserved bits (R7). -/
def Dict.tableRows (d : Dict) (code key magic size maxN : Nat) (entryOk : Nat → Bool) : Option Fail :=
  instRow code key (fun i => !tableForm magic size maxN (Dict.blob d i key))
    <|> instRow Code.RESERVED_SET key (fun i => let b := Dict.blob d i key
      !(tableReserved b && (tableEntries b size).all entryOk))

/-- The same of a node table, where the set stages it. -/
def Dict.nodeTable (d : Dict) (code key magic size maxN : Nat) (entryOk : Nat → Bool) : Option Fail :=
  let b := Dict.nodeBlob d key
  nodeRow code key (!tableForm magic size maxN b)
    <|> nodeRow Code.RESERVED_SET key (!(tableReserved b && (tableEntries b size).all entryOk))

/-- The range check of the staged scalars of a chapter (R353): `mine` says which keys it lists, `code` which code it gives. -/
def Ck.ranges (k : Ck) (mine : Nat → Bool) (code : Nat → Nat) : Option Fail :=
  (k.staged.find? (fun e => let key := e.1 % 2 ^ 24
    mine (key / 256) && (match entryOf key with
      | some r => !r.inRange e.2.toNat
      | none => false))).map (fun e => Fail.at (code (e.1 % 2 ^ 24)) (e.1 / 2 ^ 24) (e.1 % 2 ^ 24) 0)

/-! ### Ranges and descriptors -/

/-- FCLK cycles of a tick before CLOSE_GUARD. -/
def Dict.budget (d : Dict) (i : Nat) : Nat :=
  (12000 * Dict.node d G.TICK_PERIOD - 12 * Dict.num d i G.CLOSE_GUARD) / 5

/-- A range inside one input, or one output, descriptor of a command. -/
def LoadCmd.inIn (c : LoadCmd) (a n : Nat) : Bool := c.cmd.inInputs a n
def LoadCmd.inOut (c : LoadCmd) (a n : Nat) : Bool := c.cmd.inOutputs a n

/-- The offsets in the channel of pinned address `b` whose interleaved address lies below `x` within the stack. -/
def interBelow (b x : Nat) : Nat :=
  let y := x - interBase - channelOf b / 8 * 0x600000000
  y / 2048 * 256 + min 256 (y % 2048 - channelOf b % 8 * 256)

/-- Two ranges of node addresses share a byte of storage, in either view of the stacks. -/
def storageMeet (a n b m : Nat) : Bool :=
  let pinned := fun x => decide (x < stackTop)
  let inter := fun x => decide (interBase ≤ x) && decide (x < interBase + stackTop)
  let cross := fun a n b m =>  -- `a` interleaved, `b` pinned
    decide ((a - interBase) / 0x600000000 = channelOf b / 8)
      && rangesMeet (interBelow b a) (interBelow b (a + n) - interBelow b a) (channelOff b) m
  if inter a && pinned b then cross a n b m
  else if pinned a && inter b then cross b m a n
  else rangesMeet a n b m

end Sys2Proof.Machine
end

