-- ==== Sys2Proof/Machine/Claims.lean ====
section
/-!
DEFINITION. Claims on resources (R239, R357, R361, Table 17-3): the partition resources of Table 15-1 and Table 11-3 by
Inset, and the resources that two features share.
-/

namespace Sys2Proof.Machine

/-! ### Partition resources -/

/-- An entry that gives Insets part of a resource: a bit set, or a range when a count entry goes with it. -/
structure Part where
  resource : Nat
  key      : Nat
  count    : Option Nat

/-- The partition entries, RESOURCE numbered by the rows of Table 15-1 from 0x10 (DEDUCED, log entry 95). -/
def parts : List Part :=
  [⟨0x10, G.INSET_CUBE_GROUPS, none⟩, ⟨0x11, G.INSET_TILE_UNITS, none⟩, ⟨0x12, G.INSET_TRAVERSE, none⟩,
   ⟨0x12, G.INSET_SELECT, none⟩, ⟨0x12, G.INSET_POOL, none⟩, ⟨0x14, G.INSET_FLASH_CH, none⟩,
   ⟨0x15, G.T1_CHANNELS, none⟩, ⟨0x15, G.SCRATCH_BASE, some G.SCRATCH_PAGES⟩,
   ⟨0x15, G.CHART_Q_BASE, some G.CHART_Q_COUNT⟩, ⟨0x15, G.T2_LPN_BASE, some G.T2_LPN_COUNT⟩,
   ⟨0x15, G.CKPT_LPN_BASE, some G.CKPT_LPN_COUNT⟩, ⟨0x16, G.SYNC_Q_BASE, some G.SYNC_Q_COUNT⟩,
   ⟨0x17, G.FLOW_Q_BASE, some G.FLOW_Q_COUNT⟩, ⟨0x17, G.SERVICE_Q_BASE, some G.SERVICE_Q_COUNT⟩,
   ⟨0x19, G.INSET_CORES, none⟩]

/-- The first instance that Inset `i` claims in one dictionary and Inset `j` in another. -/
def Part.meet (p : Part) (d : Dict) (i : Nat) (e : Dict) (j : Nat) : Option Nat :=
  match p.count with
  | none =>
    let both := Nat.land (Dict.val d i p.key).toNat (Dict.val e j p.key).toNat
    if both = 0 then none else (setBits 256 0 both).head?
  | some c =>
    let a := Dict.num d i p.key
    let b := Dict.num e j p.key
    if rangesMeet a (Dict.num d i c) b (Dict.num e j c) then some (max a b) else none

/-- Two owners of one resource instance: both in the state the set would produce, or one there and the other in the
applied state, whose release has not been applied (R357). -/
def Ck.partClash (k : Ck) (p : Part) (i j : Nat) : Option Nat :=
  let a := k.s.gaz.regs
  p.meet k.d i k.d j <|> p.meet a i k.d j <|> p.meet k.d i a j

def conflict (resource unit instA keyA featA instB keyB featB : Nat) : Fail :=
  ⟨Code.RESOURCE_CONFLICT, instA, keyA, 0, instB, keyB, resource, unit, featA, featB⟩

/-- The partition resources of some kinds. -/
def Ck.partition (k : Ck) (sel : Part → Bool) : Option Fail :=
  (parts.filter sel).findSome? (fun p => (upto 16).findSome? (fun i => (upto 16).findSome? (fun j =>
    if i < j then (k.partClash p i j).map (fun n => conflict p.resource n i p.key (0x10 + i) j p.key (0x10 + j)) else none)))

/-- The Chart engine and the domain tags, whose owners are node entries: one owner in a state, but none is handed from
one Inset to another in one step. -/
def Ck.handed (k : Ck) : Option Fail :=
  let a := k.s.gaz.regs
  let moved := fun (x y : Nat) => decide (x < 16) && decide (y < 16) && x != y
  let x := Dict.node a G.CHART_ENGINE_OWNER
  let y := Dict.node k.d G.CHART_ENGINE_OWNER
  if moved x y then
    some (conflict 0x13 0 16 G.CHART_ENGINE_OWNER (0x10 + x) 16 G.CHART_ENGINE_OWNER (0x10 + y))
  else (upto 16).findSome? (fun t =>
    let x := (nth 0xFF (Dict.nodeBlob a G.DOMAIN_MAP) t).toNat
    let y := (nth 0xFF (Dict.nodeBlob k.d G.DOMAIN_MAP) t).toNat
    if moved x y then some (conflict 0x18 t 16 G.DOMAIN_MAP (0x10 + x) 16 G.DOMAIN_MAP (0x10 + y)) else none)

/-- R260: a channel of the Scribe that an Inset holds. -/
def Ck.scribeClash (k : Ck) : Option Fail :=
  let ch := fun (d : Dict) => leNat (Dict.nodeBlob d G.SCRIBE_CHANNELS)
  let t1 := fun (d : Dict) (i : Nat) => leNat (Dict.blob d i G.T1_CHANNELS)
  let a := k.s.gaz.regs
  (upto 16).findSome? (fun i =>
    [(k.d, k.d), (a, k.d), (k.d, a)].findSome? (fun de =>
      ((setBits 256 0 (Nat.land (ch de.1) (t1 de.2 i))).head?).map (fun n =>
        conflict 0x15 n i G.T1_CHANNELS (0x10 + i) 16 G.SCRIBE_CHANNELS 0x0A)))

/-! ### Resources of two features (Table 17-3) -/

/-- A service staged or applied on a port node. -/
def Ck.serviceOn (k : Ck) (port : Nat) : Bool :=
  let recs := fun (i : Nat) => (chunks 18 4096 (Dict.blob k.d i G.TM_SERVICES)).map (fun r => sliceNat r 2 16)
  ((16 :: upto 16).flatMap recs).any (fun w => SvcW.port w == port)

/-- Channels that the staging store touches. -/
def Dict.storeChannels (d : Dict) : List Nat :=
  let n := Dict.node d G.GAZ_STORE_BYTES
  if n = 0 then [] else rangeFrom (channelOf (Dict.node d G.GAZ_STORE_BASE))
    (channelOf (Dict.node d G.GAZ_STORE_BASE + n - 1) + 1 - channelOf (Dict.node d G.GAZ_STORE_BASE))

/-- Claims of each shared resource instance: the resource, the feature and the entry that claims. A service on port node 6
claims the spare ports in the SERVICE role, and port 6 where there is none (DEDUCED, log entry 96). -/
def Ck.claims (k : Ck) : List (Nat × Nat × Nat × Nat) :=
  let n := fun key => Dict.node k.d key
  let role := fun q => (nth 0 (Dict.nodeBlob k.d G.SPARE_PORT_ROLE) q).toNat
  let forPort := fun q => (nth 0xFF (Dict.nodeBlob k.d G.SPARE_PORT_FOR) q).toNat
  let on := fun (b : Bool) (c : Nat × Nat × Nat × Nat) => if b then [c] else []
  (upto 2).flatMap (fun q =>
    on (role q == 0) (q + 1, 1, 16, G.SPARE_PORT_ROLE) ++ on (forPort q != 0xFF) (q + 1, 1, 16, G.SPARE_PORT_FOR)
      ++ on (role q == 1) (q + 1, 2, 16, G.SPARE_PORT_ROLE)
      ++ on (k.serviceOn 6 && (role q == 1 || (q == 0 && role 1 != 1))) (q + 1, 2, 16, G.TM_SERVICES))
    ++ on (n G.SAMPLE_ENABLE == 1) (3, 3, 16, G.SAMPLE_ENABLE) ++ on (n G.DUMP_STAGE_MODE == 1) (3, 4, 16, G.DUMP_STAGE_MODE)
    ++ on (n G.I3C_ENABLE == 1) (4, 5, 16, G.I3C_ENABLE)
    ++ (upto 16).flatMap (fun i => on (bit (Dict.num k.d i G.INSET_FLASH_CH) 0) (5, 7, i, G.INSET_FLASH_CH))
    ++ on (n G.RECOVERY_PORT == 1) (5, 8, 16, G.RECOVERY_PORT)

/-- Two features claim one resource. -/
def clashOf : List (Nat × Nat × Nat × Nat) → Option Fail
  | [] => none
  | (r, f, i, key) :: rest =>
    match rest.find? (fun c => c.1 == r && c.2.1 != f) with
    | some (_, g, j, key') => some (conflict r 0 i key f j key' g)
    | none => clashOf rest

def Ck.sharedClash (k : Ck) : Option Fail := clashOf k.claims

/-- A channel of the staging store given to an Inset or to the Scribe. -/
def Ck.storeClash (k : Ck) : Option Fail :=
  (Dict.storeChannels k.d).findSome? (fun ch =>
    if bit (leNat (Dict.nodeBlob k.d G.SCRIBE_CHANNELS)) ch then
      some (conflict 6 ch 16 G.GAZ_STORE_BASE 9 16 G.SCRIBE_CHANNELS 0x0A)
    else ((upto 16).find? (fun i => Dict.ownsChannel k.d i ch)).map (fun i =>
      conflict 6 ch 16 G.GAZ_STORE_BASE 9 i G.T1_CHANNELS (0x10 + i)))

/-- Every claim of R361. -/
def Ck.resources (k : Ck) : Option Fail :=
  k.sharedClash <|> k.storeClash <|> k.partition (fun _ => true) <|> k.handed <|> k.scribeClash

end Sys2Proof.Machine
end

