-- ==== Sys2Proof/Machine/CheckSheets.lean ====
section
/-!
DEFINITION. CHECK of chapter 2: Table 2-9 over every Sheet image, TICK_RANGE and CLOSE_GUARD_SHORT.
-/

namespace Sys2Proof.Machine

/-! ### Form (row 1, R30, R440) -/

/-- Regions of an image: header, commands, descriptors, reservations, as base and length. -/
def Image.regions (m : Image) : List (Nat × Nat) :=
  let h := m.header
  [(0, 64), (64, 64 * Hdr.cmdCount h), (Hdr.operandOffset h, 16 * Hdr.operandCount h),
   (Hdr.resvOffset h, 16 * Hdr.resvCount h)]

/-- The framing of an image: what must hold before its commands can be read. -/
def Image.framed (m : Image) (i : Nat) : Bool :=
  let h := m.header
  Hdr.magic h == 0x53484554 && Hdr.version h == 1 && Hdr.inset h == i
    && decide (64 ≤ Hdr.imageBytes h) && m.bytes.length == Hdr.imageBytes h && decide (1 ≤ Hdr.cmdCount h)
    && m.regions.all (fun r => decide (r.1 + r.2 ≤ Hdr.paramOffset h)) && decide (Hdr.paramOffset h ≤ Hdr.imageBytes h)
    && !anyMeet m.regions && crcHole m.bytes 60 == Hdr.crc h

/-- Counts and offsets of the commands of a framed image. -/
def Image.cmdsFramed (m : Image) : Bool :=
  m.cmdWords.all (fun w => decide (CmdW.operandNum w ≤ 8)
    && decide (CmdW.operandBase w + CmdW.operandNum w ≤ Hdr.operandCount m.header)
    && decide (Hdr.paramOffset m.header + CmdW.paramAt w + CmdW.paramLen w ≤ Hdr.imageBytes m.header))

/-- The Graticule reservations of an image name links, and windows inside the tick. -/
def Image.resvsOk (m : Image) (budget : Nat) : Bool :=
  m.resvs.all (fun r => Resv.exists_ r && decide (Resv.winStart r < Resv.winEnd r) && decide (Resv.winEnd r ≤ budget))

/-- No SHEET_ID comes twice. -/
def distinct : List Nat → Bool
  | [] => true
  | x :: xs => !xs.contains x && distinct xs

/-- Inset whose images a set's CHECK judges by Table 2-9 (R54): the set's own. -/
def Ck.own (k : Ck) : List Nat := if k.set < 16 then [k.set] else []

/-- Their commands. -/
def Ck.ownCmds (k : Ck) : List LoadCmd :=
  k.own.flatMap (fun i => (Dict.loaded k.d i).flatMap (fun bm => Sys2Proof.Machine.loadCmds i bm.1 bm.2))

/-- The images are judged against the TICK_PERIOD to come: those that the set stages. -/
def Ck.timed (k : Ck) : Bool := k.stages G.SHEET_IMAGE

def Ck.sheetForm (k : Ck) : Option Fail :=
  k.own.findSome? (fun i =>
    let ms := Dict.loaded k.d i
    match ms.find? (fun bm => !(bm.2.framed i && bm.2.cmdsFramed && (!k.timed || bm.2.resvsOk (Dict.budget k.d i)))) with
    | some bm => some (Fail.at Code.SHEET_FORMAT i G.SHEET_IMAGE bm.1)
    | none => ((mapIdxFrom (fun k bm => (k, bm)) 0 ms).find? (fun x =>
        (ms.take x.1).any (fun bm => Hdr.sheetId bm.2.header == Hdr.sheetId x.2.2.header))).map (fun x =>
          Fail.at Code.SHEET_FORMAT i G.SHEET_IMAGE x.2.1))

/-! Reserved bits of headers, commands, descriptors and reservations (row 2); parameter blocks belong to the engines. -/

/-- Offset in an image of its first record with a reserved bit set. -/
def Image.reservedAt (m : Image) : Option Nat :=
  let h := m.header
  if !Hdr.reservedOk h then some 0
  else match m.cmdWords.findIdx? (fun w => !CmdW.reservedOk w) with
    | some k => some (64 + 64 * k)
    | none => match (upto (Hdr.operandCount h)).find? (fun j => !Desc.reservedOk (m.desc j)) with
      | some j => some (Hdr.operandOffset h + 16 * j)
      | none => (m.resvs.findIdx? (fun r => !Resv.reservedOk r)).map (fun j => Hdr.resvOffset h + 16 * j)

def Ck.sheetReserved (k : Ck) : Option Fail :=
  k.own.findSome? (fun i => (Dict.loaded k.d i).findSome? (fun bm => bm.2.reservedAt.map (fun o =>
    Fail.at Code.RESERVED_SET i G.SHEET_IMAGE (bm.1 + o))))

/-! ### Store and links (rows 3 to 5) -/

def Ck.sheetStore (k : Ck) : Option Fail :=
  if k.set < 16 ∧ ((upto 16).map (fun i => (Dict.blob k.d i G.SHEET_IMAGE).length)).sum > 8388608 then
    some (Fail.at Code.SHEET_STORE_FULL k.set G.SHEET_IMAGE 0) else none

/-- A link names an image, or ends the stream. -/
def Dict.linked (d : Dict) (i id : Nat) : Bool := id == 0xFFFF || (Dict.imageOf d i id).isSome

/-- Links are judged for an Inset that has images, and for a link the set stages. -/
def Ck.sheetLinks (k : Ck) : Option Fail :=
  k.own.findSome? (fun i =>
    let has := !(Dict.images k.d i).isEmpty
    let judged := fun key => has || (k.set == i && k.stages key)
    if judged G.SHEET_ENTRY && !Dict.linked k.d i (Dict.num k.d i G.SHEET_ENTRY) then
      some (Fail.at Code.SHEET_LINK i G.SHEET_ENTRY 0)
    else match (Dict.loaded k.d i).find? (fun bm => !Dict.linked k.d i (Hdr.nextId bm.2.header)) with
      | some bm => some (Fail.at Code.SHEET_LINK i G.SHEET_IMAGE bm.1)
      | none => ((upto 4).find? (fun j => judged (G.STREAM_ENTRY + j)
          && !Dict.linked k.d i (Dict.num k.d i (G.STREAM_ENTRY + j)))).map
            (fun j => Fail.at Code.SHEET_LINK i (G.STREAM_ENTRY + j) 0))

def Ck.sheetPeriods (k : Ck) : Option Fail :=
  if !k.timed then none else k.own.findSome? (fun i => ((Dict.loaded k.d i).find? (fun bm =>
    Hdr.periodUs bm.2.header != Dict.node k.d G.TICK_PERIOD)).map (fun bm => Fail.at Code.SHEET_PERIOD i G.SHEET_IMAGE bm.1))

/-! ### Engines (row 6, Table 2-4, R77, R319, R320) -/

/-- Instances of an engine type; 0 for a type that is none. -/
def engineCount (e : Nat) : Nat := nth 0 [0, 32, 32, 32, 64, 16, 32, 8, 8, 32, 6, 1, 1] e

/-- An Inset owns the engine that a command names; engines 7, 8, 0x0A and 0x0C serve every Inset. -/
def Dict.ownsEngine (d : Dict) (i : Nat) (c : Cmd) : Bool :=
  let n := c.index
  match c.engine with
  | 1 => (setBits 4 0 (CmdW.cubeGroups c.word)).all (fun g => bit (leNat (Dict.blob d i G.INSET_CUBE_GROUPS)) (4 * n + g))
  | 2 | 3 => bit (Dict.num d i G.INSET_TILE_UNITS) n
  | 4 => bit (Dict.num d i G.INSET_TRAVERSE) n
  | 5 => bit (Dict.num d i G.INSET_SELECT) n
  | 6 => bit (Dict.num d i G.INSET_POOL) n
  | 9 => bit (Dict.num d i G.INSET_FLASH_CH) n
  | 0x0B => Dict.node d G.CHART_ENGINE_OWNER == i
  | _ => true

def Ck.sheetEngines (k : Ck) : Option Fail :=
  cmdRow k.ownCmds Code.SHEET_ENGINE (fun c =>
    !decide (c.cmd.index < engineCount c.engine) || !Dict.ownsEngine k.d c.inst c.cmd || k.s.namesRetired c.cmd)

/-! ### Windows and sync objects (rows 7, 8) -/

def Ck.sheetWindows (k : Ck) : Option Fail :=
  cmdRow k.ownCmds Code.SHEET_WINDOW (fun c =>
    decide (CmdW.winClose c.w < CmdW.winOpen c.w) || (k.timed && decide (Dict.budget k.d c.inst < CmdW.winOpen c.w + CmdW.est c.w)))

/-! A record of SYNC_CONFIG. -/
namespace SyncC
def number (r : Nat) : Nat := bf r 15 0
def kind (r : Nat) : Nat := bf r 23 16
def home (r : Nat) : Nat := bf r 47 32
def share (r : Nat) : Nat := bf r 63 48
def expect (r : Nat) : Nat := bf r 95 64
def reservedOk (r : Nat) : Bool := bf r 31 24 == 0 && bf r 127 96 == 0
end SyncC

/-- The records of an Inset's SYNC_CONFIG. -/
def Dict.syncConfig (d : Dict) (i : Nat) : List Nat :=
  (chunks 16 (16384) (Dict.blob d i G.SYNC_CONFIG)).map leNat

/-- Configuration of an object, by the Inset of its range. -/
def Dict.syncRecord (d : Dict) (o : Nat) : Option Nat :=
  (Dict.syncOwner d o).bind (fun i => (Dict.syncConfig d i).find? (fun r => SyncC.number r == o))

/-- An Inset may name an object: in its range, or a lease shared with it. -/
def Dict.maySync (d : Dict) (i o : Nat) : Bool :=
  Dict.syncOwner d o == some i || (match Dict.syncRecord d o with
    | some r => SyncC.kind r == 1 && bit (SyncC.share r) i
    | none => false)

def Ck.sheetSyncs (k : Ck) : Option Fail :=
  cmdRow k.ownCmds Code.SHEET_SYNC (fun c =>
    (CmdW.waitCond c.w != 0 && !Dict.maySync k.d c.inst (CmdW.waitSync c.w))
      || (CmdW.signalOp c.w != 0 && !Dict.maySync k.d c.inst (CmdW.signalSync c.w))
      || (CmdW.signalOp c.w == 3 && ((Dict.syncRecord k.d (CmdW.signalSync c.w)).map SyncC.kind != some 2)))

/-! ### Operands (row 9, R31) -/

/-- The descriptor is a T2 or T3 input that R31 exempts: the host input of a DM_HOST_READ, the flash descriptors of Scribe
commands. -/
def LoadCmd.mayFar (c : LoadCmd) (d : Nat) : Bool :=
  (c.engine == 8 && c.op == 3 && Desc.tier d == 3) || (c.engine == 9 && Desc.tier d == 2)

/-- A range of query cache lines of a channel that the Inset owns: TIER 1 (R222, R236). -/
def Dict.queryRange (d : Dict) (i a n : Nat) : Bool :=
  decide (apertureBase ≤ a) && decide (a < apertureBase + 256 * 0x100000)
    && Dict.ownsChannel d i ((a - apertureBase) / 0x100000)
    && decide (0x10000 ≤ (a - apertureBase) % 0x100000) && decide ((a - apertureBase) % 0x100000 + n ≤ 0x50000)

/-- A T2 range in the Inset's logical pages, or a T3 address of a KIND there is (R237). -/
def Dict.farOk (d : Dict) (i x : Nat) : Bool :=
  if Desc.tier x = 2 then
    decide (16384 * Dict.num d i G.T2_LPN_BASE ≤ Desc.addr x)
      && decide (Desc.addr x + Desc.len x ≤ 16384 * (Dict.num d i G.T2_LPN_BASE + Dict.num d i G.T2_LPN_COUNT))
  else decide (bf (Desc.addr x) 63 62 ≤ 1)

/-- A range of T0 or T1 that a descriptor may name, with its tier. -/
def Dict.nearOk (d : Dict) (i x : Nat) : Bool :=
  (Dict.rangeOwned d i (Desc.addr x) (Desc.len x) && rangeT1 (Desc.addr x) (Desc.len x) == (Desc.tier x == 1))
    || (Desc.tier x == 1 && Dict.queryRange d i (Desc.addr x) (Desc.len x))

def Ck.sheetOperands (k : Ck) : Option Fail :=
  cmdRow k.ownCmds Code.SHEET_OPERAND (fun c => c.cmd.descs.any (fun d =>
    (!Desc.isOut d && !Desc.onNode d && !c.mayFar d) || Desc.len d == 0
      || (if Desc.onNode d then !Dict.nearOk k.d c.inst d else !Dict.farOk k.d c.inst d)
      || (Desc.producer d != 0xFFFF && decide (c.idx ≤ Desc.producer d))))

/-! ### Hazards (row 10, R39, R40) -/

/-- Commands of a Sheet that a command can be reached from through PRODUCER links: `reach[j]` for every `j` below it. -/
def reachSets : List Cmd → List (List Nat) → List (List Nat)
  | [], acc => acc
  | c :: cs, acc =>
    let direct := nub ((c.descs.map Desc.producer).filter (fun p => decide (p < acc.length)))
    reachSets cs (acc ++ [nub (direct ++ direct.flatMap (fun p => nth [] acc p))])

/-- The command writes Datum-versioned objects: index maintenance, EMB_APPLY, ROW_REPLACE and the placement commands. -/
def Cmd.versionWriter (c : Cmd) : Bool :=
  (c.engine == 4 && decide (16 ≤ c.opcode)) || (c.engine == 6 && c.opcode == 6) || c.engine == 0x0B

/-- The command reads by the stamp rule of its engine the objects the other writes (R127, R191, R202). -/
def Cmd.stampReader (c w : Cmd) : Bool :=
  (c.engine == 4 && decide (c.opcode < 16) && w.engine == 4)
    || (c.engine == 6 && c.opcode != 6 && (w.engine == 6 || w.engine == 0x0B))

/-- Two EMB_APPLYs of one table with the same PARTS and different PART. -/
def combining (a b : Cmd) : Bool :=
  a.engine == 6 && a.opcode == 6 && b.engine == 6 && b.opcode == 6
    && PoolP.table (leNat a.params) == PoolP.table (leNat b.params)
    && PoolP.parts (leNat a.params) == PoolP.parts (leNat b.params)
    && PoolP.part (leNat a.params) != PoolP.part (leNat b.params)

/-- Two descriptors name a common place. -/
def descsMeet (x y : Nat) : Bool :=
  if Desc.onNode x && Desc.onNode y then storageMeet (Desc.addr x) (Desc.len x) (Desc.addr y) (Desc.len y)
  else Desc.tier x == Desc.tier y && rangesMeet (Desc.addr x) (Desc.len x) (Desc.addr y) (Desc.len y)

/-- A pair of accesses that R40 forbids to commands with no PRODUCER path between them. -/
def clash (a b : Cmd) (x y : Nat) : Bool :=
  (Desc.isOut x || Desc.isOut y) && descsMeet x y
    && !(Desc.isOut x && !Desc.isOut y && a.versionWriter && (Desc.datumRead y || b.stampReader a))
    && !(Desc.isOut y && !Desc.isOut x && b.versionWriter && (Desc.datumRead x || a.stampReader b))

/-- A gather reads and a Scribe write writes the whole T2 quota (chapter 12). -/
def quotaClash (a b : Cmd) : Bool :=
  a.engine == 9 && b.engine == 9 && decide (a.opcode ≤ 2) && decide (b.opcode ≤ 2) && (a.opcode == 2 || b.opcode == 2)

/-- Stack channels that a range of node addresses touches (R211). -/
def channelsOf (a n : Nat) : List Nat :=
  if n = 0 then []
  else if a < stackTop then rangeFrom (channelOf a) (channelOf (a + n - 1) + 1 - channelOf a)
  else if interBase ≤ a ∧ a < interBase + stackTop then
    let x := a - interBase
    let q := 8 * (x / 0x600000000)
    let g := x / 256
    let last := (x + n - 1) / 256
    if g + 7 ≤ last then rangeFrom q 8 else nub ((rangeFrom g (last + 1 - g)).map (fun j => q + j % 8))
  else []

/-- Channels whose storage a command touches by its descriptors, or that a bank-side command names. -/
def Cmd.channels (c : Cmd) : List Nat :=
  c.descs.flatMap (fun d => if Desc.onNode d then channelsOf (Desc.addr d) (Desc.len d) else [])
    ++ (if c.engine = 7 then c.bsuChannels else [])

/-- A BSU_MODE writes all storage of the channels it names (R215). -/
def modeClash (a b : Cmd) : Bool :=
  (a.engine == 7 && a.opcode == 1 && a.bsuChannels.any b.channels.contains)
    || (b.engine == 7 && b.opcode == 1 && b.bsuChannels.any a.channels.contains)

/-- Two commands of one Sheet break R40. -/
def hazard (a b : Cmd) : Bool :=
  quotaClash a b || modeClash a b || !combining a b
    && !(CmdW.signalOp a.word == 3 && CmdW.signalOp b.word == 3 && CmdW.signalSync a.word == CmdW.signalSync b.word)
    && a.descs.any (fun x => b.descs.any (clash a b x))

def Ck.sheetHazards (k : Ck) : Option Fail :=
  k.own.findSome? (fun i => (Dict.loaded k.d i).findSome? (fun bm =>
    let cs := loadCmds i bm.1 bm.2
    let reach := reachSets (cs.map (·.cmd)) []
    cmdRow cs Code.SHEET_HAZARD (fun c => (cs.take c.idx).any (fun b =>
      !(nth [] reach c.idx).contains b.idx && hazard b.cmd c.cmd))))

/-! ### Staging and the Graticule (rows 11, 12) -/

/-- Windows of two commands overlap: each holds its staging from WIN_OPEN to WIN_CLOSE + EST_CYCLES. -/
def holdsAt (c : Cmd) (t : Nat) : Bool :=
  decide (CmdW.winOpen c.word ≤ t) && decide (t < CmdW.winClose c.word + CmdW.est c.word)

/-- The most that commands of one Sheet hold at once, each counted by `f`: at the opening of some window. -/
def peak (cs : List Cmd) (f : Cmd → Nat) : Nat :=
  cs.foldl (fun n c => max n ((cs.filter (fun x => holdsAt x (CmdW.winOpen c.word))).map f).sum) 0

def Ck.sheetStaging (k : Ck) : Option Fail :=
  k.own.findSome? (fun i => ((Dict.loaded k.d i).find? (fun bm =>
    decide (Dict.num k.d i G.STAGE_POOL_PAGES < peak bm.2.cmds (fun c => CmdW.stagePages c.word)))).map
      (fun bm => Fail.at Code.SHEET_STAGING i G.SHEET_IMAGE bm.1))

/-- A sum of fractions exceeds 15/16. -/
def over1516 (l : List (Nat × Nat)) : Bool :=
  let s := l.foldl (fun (acc : Nat × Nat) f => (acc.1 * f.2 + f.1 * acc.2, acc.2 * f.2)) (0, 1)
  decide (15 * s.2 < 16 * s.1)

/-- Some link is reserved beyond 15/16 at the start of some window. -/
def Image.nocOver (m : Image) : Bool :=
  m.resvs.any (fun r => over1516 ((m.resvs.filter (fun x => Resv.linkOf x == Resv.linkOf r
    && decide (Resv.winStart x ≤ Resv.winStart r) && decide (Resv.winStart r < Resv.winEnd x))).map
      (fun x => (Resv.flits x, Resv.winEnd x - Resv.winStart x))))

def Ck.sheetNoc (k : Ck) : Option Fail :=
  k.own.findSome? (fun i => ((Dict.loaded k.d i).find? (fun bm => bm.2.nocOver)).map
    (fun bm => Fail.at Code.NOC_OVERSUBSCRIBED i G.SHEET_IMAGE bm.1))

/-! ### The chapter -/

/-- CLOSE_GUARD at least 2 × H_max × 0.3 µs + 2 µs (R43). -/
def Ck.closeGuards (k : Ck) : Option Fail :=
  instRow Code.CLOSE_GUARD_SHORT G.CLOSE_GUARD (fun i =>
    decide (Dict.num k.d i G.CLOSE_GUARD < 600 * hMax (Dict.node k.d G.TORUS_DIMS) + 2000))

def sheetRangeCode (key : Nat) : Nat := if key = G.TICK_PERIOD then Code.TICK_RANGE else Code.VALUE_RANGE

/-- Chapter 2, with the rows on power timing and on resources left to the chapters that own them. -/
def Ck.chapter2 (k : Ck) : Option Fail :=
  k.ranges (fun x => decide (0x2000 ≤ x ∧ x < 0x2200)) sheetRangeCode
    <|> k.sheetForm <|> k.sheetReserved <|> k.sheetStore <|> k.sheetLinks <|> k.sheetPeriods <|> k.sheetEngines
    <|> k.sheetWindows <|> k.sheetSyncs <|> k.sheetOperands <|> k.sheetHazards <|> k.sheetStaging <|> k.sheetNoc
    <|> (if k.stages G.SHEET_IMAGE then k.resources else none)
    <|> k.closeGuards

end Sys2Proof.Machine
end

