-- ==== Sys2Proof/Machine/CheckSearch.lean ====
section
/-!
DEFINITION. CHECK of chapters 6 and 7: Tables 6-11 and 7-7 over traverse and maintenance commands, INDEX_TABLE,
SEARCH_CLASSES and MAINT_TABLE.
-/

namespace Sys2Proof.Machine

/-! ### Search commands (Table 6-7) -/

/-- The least value of a field over the search classes of an Inset: what a command that names no class is judged by
(DEDUCED, log entry 94). -/
def Dict.leastClass (d : Dict) (i : Nat) (f : Nat → Nat) : Nat :=
  match tableEntries (Dict.blob d i G.SEARCH_CLASSES) 16 with
  | [] => 0
  | e :: es => es.foldl (fun m x => min m (f x)) (f e)

/-- The least value of a field over the index descriptors of an Inset. -/
def Dict.leastIndex (d : Dict) (i : Nat) (f : Nat → Nat) : Nat :=
  match tableEntries (Dict.blob d i G.INDEX_TABLE) 64 with
  | [] => 0
  | e :: es => es.foldl (fun m x => min m (f x)) (f e)

def LoadCmd.isMaint (c : LoadCmd) : Bool := decide (0x10 ≤ c.op)

/-- Table 6-11, row 1. -/
def LoadCmd.travParamOk (d : Dict) (c : LoadCmd) : Bool :=
  let p := c.p
  let start := c.op == 1
  ((decide (1 ≤ c.op) && decide (c.op ≤ 4)) || (decide (0x10 ≤ c.op) && decide (c.op ≤ 0x12)))
    && CmdW.paramLen c.w == 48 && CmdW.cubeGroups c.w == 0 && CmdW.stagePages c.w == 0
    && decide (1 ≤ TrvP.slotCount p) && decide (TrvP.slotBase p + TrvP.slotCount p ≤ 2048)
    && (if c.op = 2 then decide (1 ≤ TrvP.expB p) && decide (TrvP.expB p ≤ 64) else TrvP.expB p == 0)
    && (if start then (Dict.index d c.inst (TrvP.index p)).isSome && (Dict.searchClass d c.inst (TrvP.cls p)).isSome
        else TrvP.cls p == 0 && (if c.isMaint then (Dict.index d c.inst (TrvP.index p)).isSome else TrvP.index p == 0))
    && (start || c.op == 4 || c.isMaint || TrvP.inAddr p == 0)

/-- Input and output ranges that a traverse command uses. -/
def LoadCmd.travRanges (d : Dict) (c : LoadCmd) : List (Nat × Nat) × List (Nat × Nat) :=
  let p := c.p
  let n := TrvP.slotCount p
  let depth := Dict.leastClass d c.inst ClsD.depth
  let last := fun (stride size : Nat) => (n - 1) * stride + size
  if c.op = 1 then
    ([(TrvP.inAddr p, last (TrvP.inStride p) (128 + IdxD.vb ((Dict.index d c.inst (TrvP.index p)).getD 0)))], [])
  else if c.op = 3 then ([], [(TrvP.outAddr p, last (TrvP.outStride p) (8 * depth))])
  else if c.op = 4 then
    (if TrvP.inAddr p = 0 then []
      else [(TrvP.inAddr p, n * depth * Dict.leastIndex d c.inst (fun e => 2 ^ IdxD.strideLog e))],
     [(TrvP.outAddr p, last (TrvP.outStride p) (16 * depth)), (TrvP.statusAddr p, 32 * n)])
  else if c.op = 0x10 then ([], [(TrvP.outAddr p, 8 * n), (TrvP.statusAddr p, 32 * n)])
  else if c.op = 0x11 then ([(TrvP.inAddr p, 16 * n)], [(TrvP.statusAddr p, 32 * n)])
  else if c.op = 0x12 then ([], [(TrvP.statusAddr p, 64)])
  else ([], [])

/-- Table 6-11, row 2. -/
def LoadCmd.travOperandOk (d : Dict) (c : LoadCmd) : Bool :=
  let p := c.p
  let r := c.travRanges d
  let depth := Dict.leastClass d c.inst ClsD.depth
  (r.1 ++ r.2).all (fun x => x.1 % 64 == 0)
    && r.1.all (fun x => x.2 == 0 || c.inIn x.1 x.2) && r.2.all (fun x => x.2 == 0 || c.inOut x.1 x.2)
    && (c.op != 1 || TrvP.inStride p % 64 == 0)
    && (c.op != 3 || (TrvP.outStride p % 64 == 0 && decide (8 * depth ≤ TrvP.outStride p)))
    && (c.op != 4 || (TrvP.outStride p % 64 == 0 && decide (16 * depth ≤ TrvP.outStride p)))

/-! ### The tables -/

def indexOk (e : Nat) : Bool :=
  [0, 4, 5, 6].contains (IdxD.vfmt e) && decide (6 ≤ IdxD.strideLog e) && decide (IdxD.strideLog e ≤ 12)
    && decide (1 ≤ IdxD.dim e) && decide (IdxD.dim e ≤ 4096) && decide (IdxD.vecBytes e ≤ 2 ^ IdxD.strideLog e)
    && decide (1 ≤ IdxD.vcount e) && decide (IdxD.entry e < IdxD.vcount e)
    && IdxD.vbase e % 64 == 0 && IdxD.gbase e % 64 == 0
    && rangeT1 (IdxD.vbase e) (64 * IdxD.vcount e) && rangeT1 (IdxD.gbase e) (64 * IdxD.gcount e)

def classOk (e : Nat) : Bool :=
  decide (1 ≤ ClsD.poolSize e) && decide (ClsD.poolSize e ≤ 36) && decide (1 ≤ ClsD.budget e)
    && decide (1 ≤ ClsD.depth e) && decide (ClsD.depth e ≤ ClsD.poolSize e) && decide (ClsD.descentMax e ≤ 64)

def Dict.indexTableOk (d : Dict) (i : Nat) : Bool :=
  let b := Dict.blob d i G.INDEX_TABLE
  let es := tableEntries b 64
  tableForm 0x49584454 64 16 b && strictlyUp (es.map IdxD.id) && es.all indexOk

def Dict.classTableOk (d : Dict) (i : Nat) : Bool :=
  let b := Dict.blob d i G.SEARCH_CLASSES
  let es := tableEntries b 16
  tableForm 0x53434C53 16 16 b && strictlyUp (es.map ClsD.id) && es.all classOk

/-- Some index of an Inset with bound slots would change by `f`. -/
def Ck.boundChange (k : Ck) (f : Dict → Nat → Nat → Option Nat) (i : Nat) : Bool :=
  k.s.search.slots.any (fun e => e.2.inset == i && f k.s.gaz.regs i e.2.index != f k.d i e.2.index)

/-! ### Timing (R141, R165) -/

/-- CYC + D of a traverse or maintenance command. -/
def LoadCmd.travCycles (d : Dict) (c : LoadCmd) : Nat :=
  let p := c.p
  let n := TrvP.slotCount p
  let cls := (Dict.searchClass d c.inst (TrvP.cls p)).getD 0
  let ix := (Dict.index d c.inst (TrvP.index p)).getD 0
  let md := (Dict.maint d c.inst (TrvP.index p)).getD 0
  let least := fun f => Dict.leastClass d c.inst f
  let walk := fun (m : Nat) => max (64 * n * m) (768 * m)
  if c.op = 1 then 64 + 8 * n + walk (ClsD.descentMax cls + 1)
  else if c.op = 2 then 64 + 4 * n + walk (TrvP.expB p)
  else if c.op = 3 then 64 + 4 * n + ceilDiv (8 * n * least ClsD.depth) 128
  else if c.op = 4 then
    64 + 4 * n + (if TrvP.inAddr p = 0 then 0
        else n * (least ClsD.depth + 1) * ceilDiv (Dict.leastIndex d c.inst IdxD.vb) 128)
      + ceilDiv (n * (TrvP.outStride p + 32)) 128
  else if c.op = 0x10 then
    64 + 8 * n + n * (64 * (least ClsD.descentMax + 1) + 256 * (IdxD.topMax ix + 1) + 128 * MntD.linkMax md)
      + ceilDiv (128 + 40 * n) 128
  else if c.op = 0x11 then 64 + 64 * n + ceilDiv (128 + 32 * n) 128
  else 64 + 64 * MntD.scanGranules md + 256 * MntD.repairMax md + 2

/-- Chapter 6 (R142). -/
def Ck.chapter6 (k : Ck) : Option Fail :=
  let cs := k.cmdsOf (fun c => c.engine == 4)
  let form := fun i => Dict.indexTableOk k.d i
  let cform := fun i => Dict.classTableOk k.d i
  k.ranges (fun x => decide (0x5000 ≤ x ∧ x < 0x5002) || decide (0x5010 ≤ x ∧ x < 0x5040)) (fun _ => Code.VALUE_RANGE)
    <|> cmdRow cs Code.TRAV_PARAM (fun c => !c.travParamOk k.d)
    <|> cmdRow cs Code.RESERVED_SET (fun c => !TrvP.reservedOk c.p)
    <|> cmdRow cs Code.TRAV_OPERAND (fun c => !c.travOperandOk k.d)
    <|> Dict.tableRows k.d Code.INDEX_FORMAT G.INDEX_TABLE 0x49584454 64 16 IdxD.reservedOk
    <|> Dict.tableRows k.d Code.INDEX_FORMAT G.SEARCH_CLASSES 0x53434C53 16 16 ClsD.reservedOk
    <|> instRow Code.INDEX_FORMAT G.INDEX_TABLE (fun i => !form i)
    <|> instRow Code.INDEX_FORMAT G.SEARCH_CLASSES (fun i => !cform i)
    <|> cmdRow cs Code.QCACHE_RANGE (fun c => TrvP.bsuScore c.p && decide (4096 < TrvP.qcBase c.p + TrvP.slotCount c.p))
    <|> instRow Code.INDEX_IN_USE G.INDEX_TABLE (k.boundChange Dict.index)
    <|> cmdRow (cs.filter (fun c => !c.isMaint)) Code.SHEET_WINDOW (fun c => decide (CmdW.est c.w < c.travCycles k.d))

/-! ### Maintenance (Table 7-7) -/

/-- Table 7-3: the fields it does not name are 0. -/
def LoadCmd.maintFieldsOk (c : LoadCmd) : Bool :=
  let p := c.p
  !TrvP.bsuScore p && TrvP.qcBase p == 0 && TrvP.inStride p == 0 && TrvP.outStride p == 0
    && (c.op == 0x10 || TrvP.slotBase p == 0) && (c.op == 0x11 || TrvP.inAddr p == 0) && (c.op == 0x10 || TrvP.outAddr p == 0)
    && (c.op != 0x12 || TrvP.slotCount p == 1)

/-- Regions of a maintained index (R143), and those of the index. -/
def maintRegions (ix md : Nat) : List (Nat × Nat) :=
  [(MntD.base md, 128), (MntD.tmapBase md, ceilDiv (IdxD.vcount ix) 8), (MntD.rqBase md, 16 * MntD.rqEntries md)]

def maintOk (d : Dict) (i e : Nat) : Bool :=
  match Dict.index d i (MntD.id e) with
  | none => false
  | some ix =>
    let rs := maintRegions ix e
    decide (1 ≤ MntD.degreeMax e) && decide (MntD.degreeMax e ≤ 16) && decide (MntD.linkMax e ≤ 128)
      && decide (1 ≤ MntD.scanGranules e) && decide (MntD.scanGranules e ≤ 1048576)
      && decide (2 ≤ MntD.rqEntries e) && decide (MntD.rqEntries e ≤ 16777216)
      && rs.all (fun r => r.1 % 64 == 0 && rangeT1 r.1 r.2 && Dict.rangeOwned d i r.1 r.2)
      && !anyMeet (rs ++ [(IdxD.vbase ix, 64 * IdxD.vcount ix), (IdxD.gbase ix, 64 * IdxD.gcount ix)])

def Dict.maintTableOk (d : Dict) (i : Nat) : Bool :=
  let b := Dict.blob d i G.MAINT_TABLE
  let es := tableEntries b 64
  tableForm 0x4D4E5442 64 16 b && strictlyUp (es.map MntD.id) && es.all (maintOk d i)

/-- Base of the header of a maintenance command's index. -/
def LoadCmd.headerAt (d : Dict) (c : LoadCmd) : Nat := MntD.base ((Dict.maint d c.inst (TrvP.index c.p)).getD 0)

/-- Some input descriptor of a command covers a range and names a PRODUCER. -/
def LoadCmd.takesFrom (c : LoadCmd) (a n producer : Nat) : Bool :=
  c.cmd.inputs.any (fun x => inDescs [x] a n && Desc.producer x == producer)

/-- R147: a maintenance command takes the header from the one before it of its index. -/
def Ck.maintChains (k : Ck) : Option Fail :=
  (upto 16).findSome? (fun i => (Dict.loaded k.d i).findSome? (fun bm =>
    let ms := (loadCmds i bm.1 bm.2).filter (fun c => c.engine == 4 && c.isMaint)
    cmdRow ms Code.SHEET_HAZARD (fun c =>
      match ((ms.filter (fun b => TrvP.index b.p == TrvP.index c.p && decide (b.idx < c.idx))).getLast?) with
      | some b => !c.takesFrom (c.headerAt k.d) 128 b.idx
      | none => false)))

/-- R157: every INSERT_LINK is PRODUCER of a Scribe write over its whole write list. -/
def Ck.maintPairs (k : Ck) : Option Fail :=
  (upto 16).findSome? (fun i => (Dict.loaded k.d i).findSome? (fun bm =>
    let cs := loadCmds i bm.1 bm.2
    cmdRow (cs.filter (fun c => c.engine == 4 && c.op == 0x10)) Code.MAINT_FV_UNPAIRED (fun c =>
      !(cs.any (fun w => w.engine == 9 && w.op == 2 && w.takesFrom (TrvP.outAddr c.p) (8 * TrvP.slotCount c.p) c.idx)))))

/-- Chapter 7 (R166). -/
def Ck.chapter7 (k : Ck) : Option Fail :=
  let ms := k.cmdsOf (fun c => c.engine == 4 && c.isMaint)
  Dict.tableRows k.d Code.MAINT_FORMAT G.MAINT_TABLE 0x4D4E5442 64 16 MntD.reservedOk
    <|> k.ranges (fun x => decide (0x5002 ≤ x ∧ x < 0x5010) || decide (0x5040 ≤ x ∧ x < 0x5300)) (fun _ => Code.VALUE_RANGE)
    <|> cmdRow ms Code.TRAV_PARAM (fun c => !c.maintFieldsOk)
    <|> instRow Code.MAINT_FORMAT G.MAINT_TABLE (fun i => !Dict.maintTableOk k.d i)
    <|> cmdRow ms Code.MAINT_FORMAT (fun c => (Dict.maint k.d c.inst (TrvP.index c.p)).isNone)
    <|> instRow Code.INDEX_IN_USE G.MAINT_TABLE (k.boundChange Dict.maint)
    <|> cmdRow ms Code.MAINT_CHAIN (fun c => !(c.inIn (c.headerAt k.d) 128 && c.inOut (c.headerAt k.d) 128))
    <|> k.maintChains
    <|> k.maintPairs
    <|> cmdRow ms Code.SHEET_WINDOW (fun c => decide (CmdW.est c.w < c.travCycles k.d))

end Sys2Proof.Machine
end

