-- ==== Sys2Proof/Machine/Movers.lean ====
section
/-!
DEFINITION. Data movers (R224): DM_COPY, DM_FILL, DM_HOST_READ and BLOCK_TRANSPOSE (R64).
-/

namespace Sys2Proof.Machine

/-! Parameter blocks (Table 10-17, R64) -/
namespace MovP
def src (p : Nat) : Nat := bf p 63 0
def dst (p : Nat) : Nat := bf p 127 64
def len (p : Nat) : Nat := bf p 159 128
def allow (p : Nat) : Nat := bf p 191 160
def pattern (p : Nat) : Nat := bf p 255 192
/-- BLOCK_TRANSPOSE. -/
def rows (p : Nat) : Nat := bf p 159 128
def cols (p : Nat) : Nat := bf p 191 160
def fmt (p : Nat) : Nat := bf p 199 192
def transposeReserved (p : Nat) : Bool := bf p 223 200 == 0
end MovP

/-- The outcome of bad source words of a copy (R370): destination words written as poison and counted; under detector
0x005 the copy is correct and an event is written (R385). -/
def copyWork (i : Nat) (c : Cmd) (writes : List (Nat × Bytes)) (bad : List Nat) : Work :=
  let w := { Work.ofWrites writes with poison := bad, onDrain := [.addReg 16 G.POISON_PROPAGATED bad.length] }
  if c.rehearsed = 0x005 ∧ c.hasT1 then
    { w with onCommit := [.raise i 0x8005 Code.STACK_UNCORRECTABLE (CmdW.tag c.word), .addReg i G.REHEARSAL_COUNT 1] }
  else w

def State.copyMem (s : State) (r : CmdRef) (c : Cmd) : State × Res :=
  let p := leNat c.params
  let src := MovP.src p
  let words := (wordStarts src (MovP.len p)).filter (fun a => s.rangeBad a 64)
  let s' := s.noteRead src (MovP.len p)
  (s', .done (copyWork r.inset c [(MovP.dst p, s.readBytes src (MovP.len p))]
    (words.map (fun a => MovP.dst p + (a - src)))))

/-- DM_COPY. -/
def execDmCopy (c : CmdRef) (hw : Hw) (s : State) : Host.Outcome State Fault Refusal :=
  s.engineRow c hw 8 1 (fun _ => true) (fun s x => s.copyMem c x)

/-- DM_FILL. -/
def execDmFill (c : CmdRef) (hw : Hw) (s : State) : Host.Outcome State Fault Refusal :=
  s.engineRow c hw 8 2 (fun _ => true) (fun s x =>
    let p := leNat x.params
    (s, .done (Work.ofWrites [(MovP.dst p, (List.replicate (MovP.len p / 8) (toLe 8 (MovP.pattern p))).flatten)])))

/-- DM_HOST_READ: one RdCurr per 64-byte line. A line poisoned by the host is written as poison; a request answered
without data, or a lost link, faults the command. -/
def execDmHostRead (c : CmdRef) (reply : HostData) (s : State) : Host.Outcome State Fault Refusal :=
  s.engineRowOpen c .ok 8 3 (fun _ => true) (fun s x =>
    let p := leNat x.params
    let s := s.emit (.rdCurr (MovP.src p) (MovP.len p))
    let n := MovP.len p / 64
    if reply.length < n ∨ s.host.linkUp = false then (s, .fault Code.HOST_LINK_LOST)
    else
      let lines := reply.take n
      let bad := (mapIdxFrom (fun k l => (k, l)) 0 lines).filterMap (fun kl =>
        if kl.2.isNone then some (MovP.dst p + 64 * kl.1) else none)
      let bytes := lines.flatMap (fun l => (l.getD (zeros 64)).take 64 ++ zeros (64 - (l.getD (zeros 64)).length))
      let s := (s.countBytes 0x9101 0 c.inset 8 1 (64 * n)).charge c.inset 9 (64 * n)
      (s, .done { Work.ofWrites [(MovP.dst p, bytes)] with
        poison := bad, onDrain := [.addReg 16 G.POISON_PROPAGATED bad.length] }))

/-! ### BLOCK_TRANSPOSE (R64) -/

/-- Word of a layout, counted from its base, that holds the first bit of an element. -/
def elemWord (l : Layout) (r k : Nat) : Nat := l.pos r k / 512

def State.transposeWork (s : State) (r : CmdRef) (c : Cmd) : State × Res :=
  let p := leNat c.params
  let rows := MovP.rows p
  let cols := MovP.cols p
  let f := MovP.fmt p
  let src := Layout.a f cols
  let dst := Layout.a f rows
  let n := src.size rows
  let store := s.readNat (MovP.src p) n
  let size := dst.size cols
  let body := dst.writes 0 0 cols rows (fun i k => src.elem store k i)
  let img := body.foldl (fun (x : Nat) w => x + leNat w.2 * 2 ^ (8 * w.1)) 0
  let badSrc := (upto (ceilDiv n 64)).filter (fun w => s.rangeBad (MovP.src p + 64 * w) 64)
  let bad := if badSrc.isEmpty then [] else
    nub ((upto cols).flatMap (fun i => (upto rows).filterMap (fun k =>
      if badSrc.contains (elemWord src k i) then some (MovP.dst p + 64 * elemWord dst i k) else none)))
  let s' := s.noteRead (MovP.src p) n
  (s', .done (copyWork r.inset c [(MovP.dst p, toLe size img)] bad))

/-- BLOCK_TRANSPOSE. -/
def execBlockTranspose (c : CmdRef) (hw : Hw) (s : State) : Host.Outcome State Fault Refusal :=
  s.engineRow c hw 8 0x40 (fun _ => true) (fun s x => s.transposeWork c x)

end Sys2Proof.Machine
end

