-- ==== Sys2Proof/Machine/Tiers.lean ====
section
/-!
DEFINITION. Checkpoints and restores (chapter 11), with the flash format (R276): CKPT_CAPTURE, CKPT_RESTORE and its end,
FLASH_FORMAT.
-/

namespace Sys2Proof.Machine

/-! ### Sync object record (Table 15-3) -/

def syncWord (o : SyncObj) : Nat :=
  o.value % 2 ^ 32 + o.kind % 4 * 2 ^ 32 + o.owner % 16 * 2 ^ 34 + o.home % 4096 * 2 ^ 38 + o.share % 65536 * 2 ^ 50
    + o.holder % 4096 * 2 ^ 66 + o.hInset % 16 * 2 ^ 78 + o.renewTick % 2 ^ 64 * 2 ^ 96 + o.expect % 2 ^ 32 * 2 ^ 160
    + o.lastRank % 2 ^ 32 * 2 ^ 192

/-- An object with the values of a record. -/
def SyncObj.load (o : SyncObj) (w : Nat) : SyncObj :=
  { o with value := bf w 31 0, kind := bf w 33 32, owner := bf w 37 34, home := bf w 49 38, share := bf w 65 50
           holder := bf w 77 66, hInset := bf w 81 78, renewTick := bf w 159 96, expect := bf w 191 160
           lastRank := bf w 223 192, bad := false }

/-- Sync objects of an Inset. -/
def Dict.syncRange (d : Dict) (i : Nat) : List Nat := rangeFrom (Dict.num d i G.SYNC_Q_BASE) (Dict.num d i G.SYNC_Q_COUNT)

/-- Those a capture takes: every one but shared leases and commit tokens. -/
def State.capturedSync (s : State) (i : Nat) : List Nat :=
  (Dict.syncRange s.gaz.regs i).filter (fun n => let o := s.syncObj n; !(o.kind == 2 || (o.kind == 1 && o.share != 0)))

def Dict.chartRange (d : Dict) (i : Nat) : List Nat :=
  rangeFrom (Dict.num d i G.CHART_Q_BASE) (Dict.num d i G.CHART_Q_COUNT)

/-! ### CKPT_CAPTURE (R247) -/
namespace CapP
def ranges (p : Nat) : Nat := bf p 15 0
def sync (p : Nat) : Bool := bit p 16
def chart (p : Nat) : Bool := bit p 17
def dst (p : Nat) : Nat := bf p 127 64
def src (p k : Nat) : Nat := bf p (128 * k + 319) (128 * k + 256)
def len (p k : Nat) : Nat := bf p (128 * k + 351) (128 * k + 320)
def reservedOk (p : Nat) : Bool :=
  bf p 63 18 == 0 && bf p 255 128 == 0 && (upto (ranges p)).all (fun k => bf p (128 * k + 383) (128 * k + 352) == 0)
def list (p : Nat) : List (Nat × Nat) := (upto (ranges p)).map (fun k => (src p k, len p k))
/-- Size of the image with so many sync objects and Chart entries. -/
def size (p syncs charts : Nat) : Nat :=
  64 + 32 * syncs + roundUp (4 * charts) 64 + ((list p).map (·.2)).sum
end CapP

def State.captureWork (s : State) (r : CmdRef) (c : Cmd) : State × Res :=
  let p := leNat c.params
  let i := r.inset
  let syncs := if CapP.sync p then s.capturedSync i else []
  let charts := if CapP.chart p then Dict.chartRange s.gaz.regs i else []
  match s.readFault c (CapP.list p) with
  | some e => (s, e)
  | none =>
    if syncs.any (fun n => (s.syncObj n).bad) then (s, .fault Code.SYNC_UNCORRECTABLE)
    else if charts.any (fun n => (Tab.find s.chartBad n).isSome) then (s, .fault Code.CHART_UNCORRECTABLE)
    else
      let s := s.noteReads (CapP.list p)
      let h := 0x43415054 + syncs.length * 2 ^ 32 + charts.length * 2 ^ 64 + CapP.ranges p * 2 ^ 96
      let cs := charts.flatMap (fun n => toLe 4 (s.chart.get 0 n))
      let image := toLe 64 h ++ syncs.flatMap (fun n => toLe 32 (syncWord (s.syncObj n)))
        ++ cs ++ zeros (roundUp (4 * charts.length) 64 - 4 * charts.length)
        ++ (CapP.list p).flatMap (fun x => s.readBytes x.1 x.2)
      (s, .done (Work.ofWrites [(CapP.dst p, image)]))

/-- CKPT_CAPTURE. -/
def execCkptCapture (c : CmdRef) (hw : Hw) (s : State) : Host.Outcome State Fault Refusal :=
  s.engineRow c hw 0x0C 0x20 (fun _ => true) (fun s x => s.captureWork c x)

/-! ### FLASH_FORMAT (R276) -/

/-- A Scribe command is running or waits for its commit or drain. -/
def State.scribeBusy (s : State) : Bool :=
  (upto 16).any (fun i => match (s.inset i).sheet with
    | none => false
    | some sh => sh.cmds.any (fun c => c.engine == 9 && (c.phase.live || c.phase == .draining)))

/-- The limits of a format record. -/
def State.formatOk (s : State) (b : Bytes) : Bool :=
  decide (14 ≤ b.length) && decide (Lay.pages b ≤ 0xFFFFFFFE) && decide (Lay.ckptStart b ≤ Lay.pages b)
    && decide (4 ≤ Lay.cache b) && decide (8 ≤ Lay.reserve b)
    && decide (Lay.cache b + Lay.ckpt b + Lay.reserve b < (geoOf (Dict.flashSeq s.gaz.regs)).blocks - 1)
    && decide (4 * Lay.pages b + 0x6000000 ≤ s.node G.SCRIBE_REGION_BYTES)

/-- The flash formatted: every block but the bad ones erased, the record on block 2,047 of every plane, every logical page
unmapped. -/
def State.formatFlash (s : State) (b : Bytes) : State :=
  let dies := (upto 32).flatMap (fun ch =>
    if s.flashUp ch then (setBits 16 0 (s.diesOf ch)).map (fun p => 16 * ch + p) else [])
  let planes := dies.flatMap (fun d => (upto 4).map (fun k => 4 * d + k))
  let f := s.flash
  let blocks := f.blocks.map (fun e => if e.2.state = 3 then e else
    (e.1, { e.2 with state := 0, kind := defaultKind b e.1, erases := e.2.erases + 1, fill := 0, retry := 0 }))
  let wear := planes.map (fun pk => (pk, f.wear.get 0 pk + 1))
  let pages := mapIdxFrom (fun k pk =>
    (1024 * blockKey (pk / 4) (pk % 4) 2047, (⟨0xFFFFFFFF, 3, f.seq + k, b⟩ : FlashPage))) 0 planes
  { s with flash := { f with blocks := blocks, wear := wear, pages := pages, seq := f.seq + planes.length
                             map := [], mapBad := [], void := [], voidN := [], gcOn := [], format := some b } }

def State.woFormat (s : State) (_ : Nat) (b : Bytes) : State × Nat :=
  if s.scribeBusy || (upto 16).any (fun i => (s.inset i).sheet.isSome) then (s, Code.FLASH_BUSY)
  else if !s.formatOk b then (s, Code.FLASH_LAYOUT)
  else (s.formatFlash b, 0)

/-- FLASH_FORMAT. -/
def execFlashFormat (r : GazReq) (s : State) : Host.Outcome State Fault Refusal :=
  s.woRow r G.FLASH_FORMAT State.woFormat

/-! ### Restore (R251, R252) -/

/-- The bytes of a manifest area, as they read. -/
def State.areaBytes (s : State) (i area : Nat) : Bytes :=
  (upto (Dict.ckptPages s.gaz.regs i)).flatMap (fun j => s.lpnData (Dict.manifestLpn s.gaz.regs i area j))

/-- The header of an area whose magic, INSET and CRC hold. -/
def State.validManifest (s : State) (i area : Nat) : Option Nat :=
  let b := s.areaBytes i area
  let h := sliceNat b 0 512
  if bf h 31 0 = 0x434B4D46 ∧ bf h 35 32 = i ∧ crc32c (splice b 60 (zeros 4)) = bf h 511 480 then some h else none

/-- The manifest a request names: its area and header; the newest for a request of all ones. -/
def State.wantedManifest (s : State) (i req : Nat) : Option (Nat × Nat) :=
  let found := (upto 2).filterMap (fun a => (s.validManifest i a).map (fun h => (a, h)))
  if req = 2 ^ 64 - 1 then
    found.foldl (fun best x => match best with
      | none => some x
      | some y => if bf y.2 127 64 < bf x.2 127 64 then some x else some y) none
  else found.find? (fun x => bf x.2 127 64 == req)

def State.woRestore (s : State) (i : Nat) (b : Bytes) : State × Nat :=
  if s.flash.rebuilt ≠ 1 then (s, Code.REBUILD_PENDING)
  else if (s.inset i).sheet.isSome ∨ s.num i G.CKPT_STATE = 2 then (s, Code.RESTORE_BUSY)
  else match s.wantedManifest i (leNat b) with
    | none => (s, Code.CKPT_MISMATCH)
    | some (area, h) =>
      let plan := (Dict.imageOf s.gaz.regs i (bf h 143 128)).map (fun m => Hdr.planTag m.header)
      if bf h 767 512 ≠ leNat (s.blob i G.T1_CHANNELS) ∨ plan ≠ some (bf h 255 192) then (s, Code.CKPT_MISMATCH)
      else
        let s := (s.dropCkpt i).modInset i (fun t => { t with ckpt := { t.ckpt with restoring := some area } })
        (s.setNum i G.CKPT_STATE 2, 0)

/-- CKPT_RESTORE. -/
def execCkptRestore (r : GazReq) (s : State) : Host.Outcome State Fault Refusal :=
  s.woRow r G.CKPT_RESTORE State.woRestore

/-- Groups that a map lists as stored, with their slots, ascending. -/
def storedGroups (maps : List Bytes) : List (Nat × Nat) :=
  (mapIdxFrom (fun j b => (j, b)) 0 maps).flatMap (fun jb =>
    (mapIdxFrom (fun k x => (k, x)) 0 jb.2).flatMap (fun kx =>
      if kx.2 = 0 then [] else (upto 4).filterMap (fun q =>
        let st := kx.2.toNat / 4 ^ q % 4
        if st = 1 ∨ st = 2 then some (65536 * jb.1 + 4 * kx.1 + q, st - 1) else none)))

/-- Bytes of a group put down with no side of a write. -/
def MemState.putGroup (m : MemState) (base : Nat) (b : Bytes) : MemState :=
  m.setBytes ((mapIdxFrom (fun k x => (base + k, x)) 0 b).filter (fun c => c.2 != 0))

/-- One stored group restored, or written as poison when its page cannot be read (R436). -/
def State.restoreGroup (i : Nat) (acc : State × List FlashRead) (g : Nat × Nat) : State × List FlashRead :=
  let (s, reads) := acc
  let base := Dict.groupBase s.gaz.regs i g.1
  let lost := fun (s : State) =>
    let m := (rangeFrom (base / 64) 256).foldl (fun (m : MemState) w => m.poisonWord w) s.mem
    (({ s with mem := m }).bump i G.RESTORE_GROUPS_LOST 1).event i Code.RESTORE_GROUP_LOST g.1 base
  match s.mapOf (Dict.groupLpn s.gaz.regs i g.1 g.2) with
  | none => acc
  | some ppn =>
    if !s.flashUp (Ppn.channel ppn) then (lost s, reads) else
    match s.arrayRead ppn reads with
    | (s, reads, true, _) => ({ s with mem := s.mem.putGroup base (s.pageData ppn) }, reads)
    | (s, reads, false, _) => (lost s, reads)

/-- The CKPT_CAPTURE whose image lies at an address, among the applied images of the Inset. -/
def Dict.captureAt (d : Dict) (i addr : Nat) : Option Nat :=
  ((Dict.images d i).flatMap (fun m => (m.cmdWords.filter (fun w =>
    CmdW.engine w == 0x0C && CmdW.opcode w == 0x20)).map (fun w => leNat (m.paramsOf w)))).find?
    (fun p => CapP.dst p == addr)

/-- The capture image loaded back into its T0 ranges, sync objects and Chart quota. -/
def State.loadCapture (s : State) (i addr : Nat) : State :=
  let h := s.readNat addr 64
  if addr = 0 ∨ bf h 31 0 ≠ 0x43415054 then s else
  let ns := bf h 63 32
  let nc := bf h 95 64
  let syncs := (mapIdxFrom (fun k n => (k, n)) 0 (s.capturedSync i)).take ns
  let charts := (mapIdxFrom (fun k n => (k, n)) 0 (Dict.chartRange s.gaz.regs i)).take nc
  let at1 := addr + 64 + 32 * ns
  let at2 := at1 + roundUp (4 * nc) 64
  let s0 := s
  let s := syncs.foldl (fun s kn => s.setSync kn.2 ((s.syncObj kn.2).load (s0.readNat (addr + 64 + 32 * kn.1) 32))) s
  let s := charts.foldl (fun (s : State) kn =>
    { s with chart := s.chart.set kn.2 (s0.readNat (at1 + 4 * kn.1) 4), chartBad := s.chartBad.del kn.2 }) s
  match Dict.captureAt s.gaz.regs i addr with
  | none => s
  | some p => ((CapP.list p).foldl (fun (acc : State × Nat) x =>
      ({ acc.1 with mem := acc.1.mem.putWords (wordWrites [(x.1, s0.readBytes acc.2 x.2)]) }, acc.2 + x.2)) (s, at2)).1

/-- Leases and tokens of an Inset are free. -/
def State.freeLeases (s : State) (i : Nat) : State :=
  (Dict.syncRange s.gaz.regs i).foldl (fun s n =>
    let o := s.syncObj n
    if o.kind = 1 ∨ o.kind = 2 then s.setSync n { o with held := false, holder := 0, hInset := 0 } else s) s

/-- RESTORE_END: the groups, the poison list, the capture image, the dirty sets and the registers, in the order of
R252. -/
def execRestoreEnd (inset : Nat) (phys : List FlashRead) (s : State) : Host.Outcome State Fault Refusal :=
  if inset ≥ 16 then .fault .noSuchInstance else
  match (s.inset inset).ckpt.restoring with
  | none => .next s
  | some area =>
    let i := inset
    let d := s.gaz.regs
    let page0 := s.lpnData (Dict.manifestLpn d i area 0)
    let h := sliceNat page0 0 512
    let maps := (upto (bf h 383 352)).map (fun j => s.lpnData (Dict.manifestLpn d i area (1 + j)))
    let s := s.setNum i G.RESTORE_GROUPS_LOST 0
    let s := (Dict.channels d i).foldl (fun (s : State) ch =>
      { s with mem := s.mem.clear (ch * channelBytes) 0xBFFC0000 }) s
    let s := ((storedGroups maps).foldl (State.restoreGroup i) (s, phys)).1
    let words := (upto (bf h 159 144)).map (fun k => sliceNat page0 (512 + 8 * k) 8 / 64)
    let s := { s with mem := words.foldl (fun (m : MemState) w => m.poisonWord w) s.mem }
    let s := s.loadCapture i (bf h 447 384)
    let mine := fun (g : Nat) => !Dict.ownsChannel d i (channelOf (g * 4096))
    let s := { s with mem := { s.mem with dirty := s.mem.dirty.keep mine, snap := s.mem.snap.keep mine } }
    let s := s.modInset i (fun t => { t with ckpt := { Ckpt.idle with area := area } })
    let q := bf h 127 64
    let s := (((s.setNum i G.SHEET_SEQ q).setNum i G.DATUM_SEQ q).setNum i G.SHEET_ENTRY (bf h 143 128)).setNum i
      G.ATLAS_GEN (bf h 319 256)
    let s := (s.freeSlots i none).freeLeases i
    let s := (upto 16).foldl (fun s k => s.setNum i (G.OLDEST_LIVE_DATUM + k) (2 ^ 64 - 1)) s
    .next (((s.setNum i G.CKPT_LAST_SEQ q).setNum i G.CKPT_STATE 0).interrupt i 11)

end Sys2Proof.Machine
end

