-- ==== Sys2Proof/Machine/CheckMem.lean ====
section
/-!
DEFINITION. CHECK of chapters 10 and 11: Table 10-13 over bank-side and data-mover commands with the mode rule and the
power-timing claims, the quotas, stack staging and CKPT_CAPTURE.
-/

namespace Sys2Proof.Machine

/-! ### Modes (R213, R215, R218) -/

/-- Base entry of a channel. -/
def Dict.baseMode (d : Dict) (i ch : Nat) : Nat := (nth 0 (Dict.blob d i G.BSU_BASE_MAP) ch).toNat

/-- The mode byte that a BSU_MODE gives a channel, if it names it. -/
def LoadCmd.modeFor (c : LoadCmd) (ch : Nat) : Option Nat :=
  if c.engine = 7 ∧ c.op = 1 ∧ ch / 32 = c.cmd.index ∧ bit (ModeP.mask c.p) (ch % 32) then some (ModeP.byte c.p (ch % 32))
  else none

/-- The mode a channel has after the last of some commands that sets it. -/
def modeAfter (d : Dict) (cs : List LoadCmd) (i ch : Nat) : Nat :=
  ((cs.filterMap (fun c => c.modeFor ch)).getLast?).getD (Dict.baseMode d i ch)

/-- The commands of a Sheet with those on their PRODUCER chains. -/
def withChains (cs : List LoadCmd) : List (LoadCmd × List LoadCmd) :=
  let reach := reachSets (cs.map (·.cmd)) []
  cs.map (fun c => (c, cs.filter (fun b => (nth [] reach c.idx).contains b.idx)))

/-- R215 over one Sheet. -/
def modeConflicts (d : Dict) (i : Nat) (cs : List LoadCmd) : Option Fail :=
  let bad := (withChains cs).find? (fun x =>
    let c := x.1
    let proc := fun ch => bit (modeAfter d x.2 i ch) 0
    if c.engine = 7 ∧ c.op = 1 then false
    else if c.engine = 7 then c.cmd.bsuChannels.any (fun ch => !proc ch)
    else c.engine != 4 && c.cmd.channels.any proc)
  match bad with
  | some x => some (x.1.fail Code.BSU_MODE_CONFLICT)
  | none =>
    match (cs.filter (fun c => c.engine == 7 && c.op == 1)).find? (fun c =>
        c.cmd.bsuChannels.any (fun ch => modeAfter d cs i ch != Dict.baseMode d i ch)) with
    | some c => some (c.fail Code.BSU_MODE_CONFLICT)
    | none => none

/-- Reads in 64 cycles that a mode byte claims. -/
def claimReads (mode : Nat) : Nat := if !bit mode 0 then 0 else if bf mode 6 1 = 0 then 64 else bf mode 6 1

/-- Claim of every channel: the highest rate in the base map of its owner or a BSU_MODE of its Sheets (R218). -/
def Dict.claims (d : Dict) : List Nat :=
  let modes := (Dict.loadCmds d).filter (fun c => c.engine == 7 && c.op == 1)
  (upto 256).map (fun ch => match Dict.channelOwner d ch with
    | none => 0
    | some i => modes.foldl (fun m c => if c.inst = i then
        (match c.modeFor ch with | some b => max m (claimReads b) | none => m) else m) (claimReads (Dict.baseMode d i ch)))

/-- PT1, PT2 and PT6 of Table 10-3. -/
def Dict.powerOk (d : Dict) : Bool :=
  let cl := Dict.claims d
  decide ((cl.filter (fun x => decide (0 < x))).length ≤ 192)
    && (upto 8).all (fun k =>
      let st := (cl.drop (32 * k)).take 32
      decide ((st.filter (· == 64)).length ≤ 16) && decide (st.sum ≤ 1875))

/-! ### Bank-side commands (Table 10-13) -/

def LoadCmd.bsuOps (c : LoadCmd) : List Nat := (upto (RunP.count c.p)).map (RunP.op c.p)

def bsuParamLen (op p : Nat) : Nat := if op = 1 then 48 else if op = 2 then 32 + 32 * RunP.count p else 32

def LoadCmd.bsuFramed (c : LoadCmd) : Bool :=
  decide (1 ≤ c.op) && decide (c.op ≤ 3) && decide (RunP.count c.p ≤ 2046 ∨ c.op ≠ 2)
    && CmdW.paramLen c.w == bsuParamLen c.op c.p && CmdW.cubeGroups c.w == 0 && CmdW.stagePages c.w == 0

def LoadCmd.bsuReservedOk (c : LoadCmd) : Bool :=
  if c.op = 1 then ModeP.reservedOk c.p else if c.op = 2 then RunP.reservedOk c.p && c.bsuOps.all OpD.reservedOk
  else LoadP.reservedOk c.p

/-- A range of a channel that an operation may touch. -/
def chanRangeOk (d : Dict) (i ch lo hi : Nat) : Bool := Dict.ownsChannel d i ch && decide (lo ≤ hi) && decide (hi ≤ 0xBFFC0000)

/-- Bytes an operation holds in its unit until the drain. -/
def opHeld (x : Nat) : Nat := OpD.resultMax x + (if OpD.op x = 0x10 ∨ OpD.op x = 0x11 then 64 * OpD.count x else 0)

/-- Table 10-13, row 2. `seen` tells the mode of a channel. -/
def LoadCmd.bsuOperandOk (d : Dict) (seen : Nat → Nat) (c : LoadCmd) : Bool :=
  let p := c.p
  let i := c.inst
  let split := Dict.num d i G.BSU_QC_SPLIT
  if c.op = 1 then c.cmd.bsuChannels.all (Dict.ownsChannel d i)
  else if c.op = 2 then
    RunP.dst p % 64 == 0 && c.bsuOps.all (fun x =>
      let ch := c.cmd.channel (OpD.channel x)
      let a := RunP.dst p + OpD.dstOff x
      OpD.src x % 64 == 0 && OpD.dstOff x % 64 == 0 && chanRangeOk d i ch (OpD.src x) (OpD.srcEnd x)
        && (OpD.op x != 0x11 || (OpD.arg x % 64 == 0 && chanRangeOk d i ch (OpD.arg x) (OpD.arg x + 64 * OpD.count x)
              && !rangesMeet (OpD.src x) (64 * OpD.count x) (OpD.arg x) (64 * OpD.count x)))
        && decide (OpD.line x + OpD.lines x ≤ split)
        && c.inOut a (OpD.resultMax x)
        && (channelsOf a (OpD.resultMax x)).all (fun g => g == ch || !bit (seen g) 0))
      && c.cmd.bsuChannels.all (fun ch => decide (((c.bsuOps.filter (fun x => c.cmd.channel (OpD.channel x) == ch)).map opHeld).sum
            ≤ Dict.num d i G.BSU_RES_SPLIT))
  else
    LoadP.src p % 64 == 0 && decide (1 ≤ LoadP.lines p) && decide (LoadP.line p + LoadP.lines p ≤ split)
      && c.inIn (LoadP.src p) (64 * LoadP.lines p) && c.cmd.bsuChannels.all (Dict.ownsChannel d i)

/-- Cycles of one operation (Table 10-9). -/
def opCycles (mode x : Nat) : Nat :=
  let (kn, kd) := capFactor mode
  let n := OpD.count x
  let o := OpD.op x
  80 + (if o = 4 then ceilDiv n 32 * ceilDiv kn kd
    else if o = 5 then ceilDiv (kn * n) (8 * kd) + n * itemCost mode x
    else if o = 0x10 then 0
    else if o = 0x11 then ceilDiv (kn * n) (2 * kd) + 16 * ceilDiv n 32
    else n * itemCost mode x)

/-- CYC + D of a bank-side command (R223). -/
def LoadCmd.bsuCycles (seen : Nat → Nat) (c : LoadCmd) : Nat :=
  let p := c.p
  let chs := c.cmd.bsuChannels
  if c.op = 1 then
    64 + (if ModeP.target p then (if chs.all (fun g => bit (seen g) 0) then 0 else 10736)
      else if chs.all (fun g => !bit (seen g) 0) then 0 else 11824)
  else if c.op = 2 then
    let per := chs.map (fun g => ((c.bsuOps.filter (fun x => c.cmd.channel (OpD.channel x) == g)).map (opCycles (seen g))).sum)
    64 + 2 * per.foldl max 0 + 64 + ceilDiv ((c.bsuOps.map opHeld).sum) 128
  else 64 + ceilDiv (LoadP.lines p) 2 + LoadP.lines p * ceilDiv chs.length 4

/-- A row over the bank-side commands of every Sheet, each with the modes it sees. -/
def Ck.bsuRow (k : Ck) (code : Nat) (bad : (Nat → Nat) → LoadCmd → Bool) : Option Fail :=
  (upto 16).findSome? (fun i => (Dict.loaded k.d i).findSome? (fun bm =>
    ((withChains (loadCmds i bm.1 bm.2)).find? (fun x => x.1.engine == 7 && bad (modeAfter k.d x.2 i) x.1)).map
      (fun x => x.1.fail code)))

def Dict.baseMapOk (d : Dict) (i : Nat) : Bool :=
  let b := Dict.blob d i G.BSU_BASE_MAP
  (b.isEmpty || b.length == 256)
    && (mapIdxFrom (fun ch x => (ch, x.toNat)) 0 b).all (fun e =>
      e.2 == 0 || (Dict.ownsChannel d i e.1 && bit e.2 0))

/-! ### Data movers -/

def LoadCmd.movFramed (c : LoadCmd) : Bool :=
  ((decide (1 ≤ c.op) && decide (c.op ≤ 3) && CmdW.paramLen c.w == 32) || (c.op == 0x40 && CmdW.paramLen c.w == 28))
    && CmdW.cubeGroups c.w == 0 && CmdW.stagePages c.w == 0

/-- Bytes read and written by a data-mover command. -/
def LoadCmd.movIn (c : LoadCmd) : Nat :=
  if c.op = 0x40 then (Layout.a (MovP.fmt c.p) (MovP.cols c.p)).size (MovP.rows c.p) else if c.op = 2 then 0 else MovP.len c.p
def LoadCmd.movOut (c : LoadCmd) : Nat :=
  if c.op = 0x40 then (Layout.a (MovP.fmt c.p) (MovP.rows c.p)).size (MovP.cols c.p) else MovP.len c.p

def LoadCmd.movParamOk (c : LoadCmd) : Bool :=
  let p := c.p
  MovP.src p % 64 == 0 && MovP.dst p % 64 == 0
    && (c.op == 0x40 || (MovP.len p % 64 == 0 && decide (64 ≤ MovP.len p)
        && !(c.op == 1 && storageMeet (MovP.src p) (MovP.len p) (MovP.dst p) (MovP.len p))
        && decide (MovP.allow p ≤ 1000000) && (c.op == 3 || MovP.allow p == 0) && (c.op == 2 || MovP.pattern p == 0)
        && (c.op != 2 || MovP.src p == 0)))

/-- A host range in a window of the Inset, and in a TIER 3 input descriptor of KIND 1. -/
def LoadCmd.hostIn (d : Dict) (c : LoadCmd) : Bool :=
  let a := MovP.src c.p
  let n := MovP.len c.p
  (tableEntries16 (Dict.blob d c.inst G.T3_HOST_WINDOWS)).any (fun w => decide (bf w 63 0 ≤ a) && decide (a + n ≤ bf w 63 0 + bf w 127 64))
    && c.cmd.inputs.any (fun x => Desc.tier x == 3 && bf (Desc.addr x) 63 62 == 1 && decide (bf (Desc.addr x) 51 0 ≤ a)
          && decide (a + n ≤ bf (Desc.addr x) 51 0 + Desc.len x))
where
  tableEntries16 (b : Bytes) : List Nat := (chunks 16 8 b).map leNat

/-- CYC + D of a data-mover command (R225), the CXL port at ×16 and 32 GT/s. -/
def LoadCmd.movCycles (d : Dict) (c : LoadCmd) : Nat :=
  let rate := 8 * Dict.num d c.inst G.DM_SHARE
  let l := c.movOut
  64 + (if c.op = 3 then ceilDiv (12 * MovP.allow c.p) 5 + ceilDiv l (min rate 24) else ceilDiv l rate) + ceilDiv l 128

/-- Chapter 10 (R233). -/
def Ck.chapter10 (k : Ck) : Option Fail :=
  let bs := k.cmdsOf (fun c => c.engine == 7)
  let ms := k.cmdsOf (fun c => c.engine == 8)
  cmdRow bs Code.BSU_PARAM (fun c => !c.bsuFramed)
    <|> cmdRow bs Code.RESERVED_SET (fun c => !c.bsuReservedOk)
    <|> cmdRow ms Code.BSU_PARAM (fun c => !c.movFramed)
    <|> cmdRow ms Code.RESERVED_SET (fun c => c.op == 0x40 && !MovP.transposeReserved c.p)
    <|> instRow Code.RESERVED_SET G.BSU_BASE_MAP (fun i => (Dict.blob k.d i G.BSU_BASE_MAP).any (fun b => bit b.toNat 7))
    <|> k.ranges (fun x => x / 0x1000 == 7) (fun _ => Code.VALUE_RANGE)
    <|> cmdRow bs Code.BSU_PARAM (fun c => c.op == 2 && !c.bsuOps.all OpD.formOk)
    <|> k.bsuRow Code.BSU_OPERAND (fun seen c => !c.bsuOperandOk k.d seen)
    <|> nodeRow Code.BSU_POWER G.BSU_POWER_RULES (!Dict.powerOk k.d)
    <|> (upto 16).findSome? (fun i => (Dict.loaded k.d i).findSome? (fun bm => modeConflicts k.d i (loadCmds i bm.1 bm.2)))
    <|> instRow Code.BSU_MAP_FORMAT G.BSU_BASE_MAP (fun i => !Dict.baseMapOk k.d i)
    <|> cmdRow ms Code.BSU_PARAM (fun c => !c.movParamOk)
    <|> cmdRow ms Code.TILE_PARAM (fun c => c.op == 0x40
          && (decide (6 < MovP.fmt c.p) || storageMeet (MovP.src c.p) c.movIn (MovP.dst c.p) c.movOut))
    <|> cmdRow ms Code.BSU_OPERAND (fun c => (c.movOut != 0 && !c.inOut (MovP.dst c.p) c.movOut)
          || (if c.op = 3 then !c.hostIn k.d else c.movIn != 0 && !c.inIn (MovP.src c.p) c.movIn))
    <|> cmdRow ms Code.SHEET_ENGINE (fun c => Dict.num k.d c.inst G.DM_SHARE == 0)
    <|> k.bsuRow Code.SHEET_WINDOW (fun seen c => decide (CmdW.est c.w < c.bsuCycles seen))
    <|> cmdRow ms Code.SHEET_WINDOW (fun c => decide (CmdW.est c.w < c.movCycles k.d))

/-! ### Quotas (R238 to R241, R248) -/

/-- A T1 range on channels of the Inset. -/
def Dict.onChannels (d : Dict) (i a n : Nat) : Bool := n == 0 || (rangeT1 a n && (channelsOf a n).all (Dict.ownsChannel d i))

/-- CKPT_LPN_COUNT that an Inset's channels ask for. -/
def Dict.ckptNeed (d : Dict) (i : Nat) : Nat :=
  let g := 196592 * popCount 256 (leNat (Dict.blob d i G.T1_CHANNELS))
  2 * (1 + ceilDiv g 65536) + 2 * g

def Dict.quotaOk (d : Dict) (i : Nat) : Bool :=
  let ws := (chunks 16 1024 (Dict.blob d i G.T3_HOST_WINDOWS)).map leNat
  let win := Dict.blob d i G.T3_HOST_WINDOWS
  let peers := Dict.blob d i G.T3_PEERS
  let n := fun k => Dict.num d i k
  (Dict.blob d i G.T1_CHANNELS).length == 32
    && decide (n G.SCRATCH_BASE + n G.SCRATCH_PAGES ≤ 1536) && decide (n G.STAGE_POOL_PAGES ≤ n G.SCRATCH_PAGES)
    && decide (n G.CHART_Q_BASE + n G.CHART_Q_COUNT ≤ 16777216) && decide (n G.T2_LPN_BASE + n G.T2_LPN_COUNT ≤ 2 ^ 32)
    && peers.length % 2 == 0 && strictlyUp ((chunks 2 4096 peers).map leNat)
    && win.length % 16 == 0 && decide (ws.length ≤ 4)
    && ws.all (fun w => decide (bf w 63 0 + bf w 127 64 ≤ 2 ^ 52)) && !anyMeet (ws.map (fun w => (bf w 63 0, bf w 127 64)))
    && n G.STAGE_T1_BASE % 65536 == 0 && n G.STAGE_T1_BYTES % 65536 == 0 && decide (n G.STAGE_T1_WORK ≤ n G.STAGE_T1_BYTES)
    && Dict.onChannels d i (n G.STAGE_T1_BASE) (n G.STAGE_T1_BYTES)
    && (upto 8).all (fun k =>
        let b := n (G.CKPT_COW_BASE + k)
        let l := n (G.CKPT_COW_BYTES + k)
        l % 16384 == 0 && Dict.onChannels d i b l && (channelsOf b l).all (fun ch => ch / 32 == k))
    && decide (n G.CKPT_LPN_BASE + n G.CKPT_LPN_COUNT ≤ 2 ^ 32)
    && (n G.CKPT_LPN_COUNT == 0 || decide (Dict.ckptNeed d i ≤ n G.CKPT_LPN_COUNT))

/-! ### Stack staging (R242) and CKPT_CAPTURE (R247) -/

/-- Pool pages a command holds. -/
def LoadCmd.charge (d : Dict) (c : LoadCmd) : Nat :=
  let md := (Dict.maint d c.inst (TrvP.index c.p)).getD 0
  ceilDiv (chargeBytes c.engine c.op c.cmd.descs (TrvP.slotCount c.p) (MntD.linkMax md) (MntD.repairMax md)
    (MntD.scanGranules md)) 65536

/-- Charges of overlapping windows within the pool. -/
def Ck.stackStaging (k : Ck) : Option Fail :=
  (upto 16).findSome? (fun i =>
    let pool := (Dict.num k.d i G.STAGE_T1_BYTES - Dict.num k.d i G.STAGE_T1_WORK) / 65536
    ((Dict.loaded k.d i).find? (fun bm =>
      let cs := loadCmds i bm.1 bm.2
      cs.any (fun c => decide (pool < ((cs.filter (fun x => holdsAt x.cmd (CmdW.winOpen c.w))).map (LoadCmd.charge k.d)).sum)))).map
        (fun bm => Fail.at Code.SHEET_STAGING i G.SHEET_IMAGE bm.1))

def LoadCmd.isCapture (c : LoadCmd) : Bool := c.engine == 0x0C && c.op == 0x20

/-- Sync objects that a command signals or that a projected command advances. -/
def LoadCmd.signals (c : LoadCmd) (o : Nat) : Bool := CmdW.signalOp c.w != 0 && CmdW.signalSync c.w == o

/-- Sync objects a capture takes under a dictionary. -/
def Dict.captured (d : Dict) (i o : Nat) : Bool :=
  Dict.syncOwner d o == some i && (match Dict.syncRecord d o with
    | some r => !(SyncC.kind r == 2 || (SyncC.kind r == 1 && SyncC.share r != 0))
    | none => true)

/-- CKPT_HAZARD over one Sheet. -/
def captureHazards (d : Dict) (i : Nat) (cs : List LoadCmd) : Option Fail :=
  let caps := (withChains cs).filter (fun x => x.1.isCapture)
  let marked := cs.any (fun c => CmdW.ckptMark c.w)
  caps.findSome? (fun x =>
    let p := x.1.p
    let others := cs.filter (fun b => b.idx != x.1.idx && !(x.2.map (·.idx)).contains b.idx)
    let bad := !marked || caps.length != 1
      || others.any (fun b => b.cmd.outputs.any (fun o => Desc.onNode o
            && (CapP.list p).any (fun r => storageMeet (Desc.addr o) (Desc.len o) r.1 r.2)))
      || (CapP.sync p && others.any (fun b => CmdW.signalOp b.w != 0 && Dict.captured d i (CmdW.signalSync b.w)))
      || (CapP.chart p && cs.any (fun b => b.engine == 0x0B && (b.op == 6 || b.op == 7)))
    if bad then some (x.1.fail Code.CKPT_HAZARD) else none)

/-- Size of a capture's image. -/
def LoadCmd.captureSize (d : Dict) (c : LoadCmd) : Nat :=
  let p := c.p
  CapP.size p (if CapP.sync p then ((Dict.syncRange d c.inst).filter (Dict.captured d c.inst)).length else 0)
    (if CapP.chart p then Dict.num d c.inst G.CHART_Q_COUNT else 0)

/-- Parameters and operands of a capture: SHEET_OPERAND, as the scheduler's other commands. -/
def LoadCmd.captureOk (d : Dict) (c : LoadCmd) : Bool :=
  let p := c.p
  CmdW.cubeGroups c.w == 0 && CmdW.stagePages c.w == 0 && decide (CapP.ranges p ≤ 64) && CapP.dst p % 64 == 0
    && c.inOut (CapP.dst p) (c.captureSize d)
    && (CapP.list p).all (fun r => r.1 % 64 == 0 && r.2 % 64 == 0 && c.inIn r.1 r.2)

/-- Chapter 11, but for stack staging. -/
def Ck.chapter11 (k : Ck) : Option Fail :=
  let cs := k.cmdsOf (·.isCapture)
  let sheets := fun f => (upto 16).findSome? (fun i => (Dict.loaded k.d i).findSome? (fun bm => f i (loadCmds i bm.1 bm.2)))
  cmdRow cs Code.SHEET_OPERAND (fun c => CmdW.paramLen c.w != 32 + 16 * CapP.ranges c.p)
    <|> cmdRow cs Code.RESERVED_SET (fun c => !CapP.reservedOk c.p)
    <|> k.ranges (fun x => decide (0x3100 ≤ x ∧ x < 0x3200) || decide (0x8200 ≤ x ∧ x < 0x8300)) (fun _ => Code.VALUE_RANGE)
    <|> k.partition (fun p => p.resource == 0x15 || p.resource == 0x10)
    <|> instRow Code.QUOTA_FORMAT G.T1_CHANNELS (fun i => !Dict.quotaOk k.d i)
    <|> cmdRow cs Code.SHEET_OPERAND (fun c => !c.captureOk k.d)
    <|> sheets (captureHazards k.d)
    <|> cmdRow cs Code.SHEET_WINDOW (fun c => decide (CmdW.est c.w < 64 + 2 * ceilDiv (c.captureSize k.d) 128))

end Sys2Proof.Machine
end

