-- ==== Sys2Proof/Machine/Counters.lean ====
section
/-!
DEFINITION. Counters and samples (chapter 19): captures and dump records (R394, R395), COUNTER_CLEAR (R393), SAMPLE_RESET
(R398), port bandwidth (R400) and the views of the counter block.
-/

namespace Sys2Proof.Machine

/-! ### Value words -/

/-- The value word of a counter (Table 19-2). -/
def CtrState.word (t : CtrState) (cfg : Bytes) (c : Nat) : Nat :=
  t.values.get 0 c + flagBit (t.wrapped.get 0 c != 0) * 2 ^ 48 + flagBit (bit (counterCfg cfg c) 16) * 2 ^ 49
    + c * 2 ^ 50

/-- COUNTER_CONFIG as applied. -/
def Dict.counters (d : Dict) : Bytes :=
  match Tab.find d (rkey 16 G.COUNTER_CONFIG) with
  | some v => v.toBytes
  | none => []

/-- A counter cleared. -/
def CtrState.clear (t : CtrState) (c : Nat) : CtrState :=
  { t with values := t.values.set c 0, wrapped := t.wrapped.set c 0 }

/-! ### Captures (R394) -/

/-- Staging slots in all. -/
def State.dumpSlots (s : State) : Nat := if s.node G.DUMP_STAGE_MODE = 1 then 77 else 14

/-- The record of a capture as staged: header of Table 19-6 without DUMP_SEQ and SKIPPED, then the value words. -/
def State.captureBytes (s : State) (tickNo planTag : Nat) : Bytes :=
  let cfg := Dict.counters s.gaz.regs
  let on := (cfgCounters cfg).filter (fun c => bit (counterCfg cfg c) 18)
  let h := 0x44554D50 + on.length * 2 ^ 32 + tickNo % 2 ^ 64 * 2 ^ 64 + s.node G.TICK_PERIOD % 2 ^ 32 * 2 ^ 224
    + planTag % 2 ^ 64 * 2 ^ 256
  toLe 64 h ++ on.flatMap (fun c => toLe 8 (s.ctr.word cfg c)) ++ zeros (roundUp (8 * on.length) 64 - 8 * on.length)

/-- DUMP_CAPTURE at a boundary. -/
def State.dumpCapture (s : State) (tickNo planTag : Nat) : State :=
  let n := s.node G.DUMP_INTERVAL
  if n = 0 ∨ tickNo % n ≠ 0 then s
  else if s.ctr.stages.length ≥ s.dumpSlots then s.bumpNode G.DUMP_SKIPPED 1
  else { s with ctr := { s.ctr with stages := s.ctr.stages ++ [⟨tickNo, s.captureBytes tickNo planTag⟩] } }

/-! ### Dump records (R395) -/

/-- Some byte of [a, b) is unread: it lies from the read pointer up to the write pointer around the ring. -/
def coversUnread (rd wr size a b : Nat) : Bool :=
  let meets := fun (lo hi : Nat) => decide (a < hi) && decide (lo < b) && decide (lo < hi)
  if rd ≤ wr then meets rd wr else meets rd size || meets 0 wr

/-- DUMP_RECORD: the oldest capture becomes a record of the ring. -/
def execDumpRecord (s : State) : Host.Outcome State Fault Refusal :=
  match s.ctr.stages with
  | [] => .next s
  | st :: rest =>
    let size := s.node G.DUMP_RING_BYTES
    let i := s.node G.DUMP_RING_INSET
    let base := s.node G.DUMP_RING_BASE
    if size < st.bytes.length ∨ 16 ≤ i then .next s else
    let skipped := s.node G.DUMP_SKIPPED
    let h := setBf (setBf (sliceNat st.bytes 0 64) 191 128 s.ctr.dumpSeq) 223 192 (skipped - s.ctr.skipMark)
    let rec_ := toLe 64 h ++ st.bytes.drop 64
    let wr := s.node G.DUMP_WRITE_PTR
    let crosses := decide (size < wr + rec_.length)
    let at_ := if crosses then 0 else wr
    let isOver := coversUnread (s.node G.DUMP_READ_PTR) wr size at_ (at_ + rec_.length)
    let s := if crosses then s.storeBytes (base + wr) (zeros (size - wr)) else s
    let s := s.storeBytes (base + at_) rec_
    let s := if isOver then s.bumpNode G.DUMP_OVERWRITE 1 else s
    let s := { s with ctr := { s.ctr with stages := rest, dumpSeq := s.ctr.dumpSeq + 1, skipMark := skipped } }
    .next ((s.setNum 16 G.DUMP_WRITE_PTR ((at_ + rec_.length) % size)).interrupt i 15)

/-! ### COUNTER_CLEAR and SAMPLE_RESET -/

def State.woCounterClear (s : State) (_ : Nat) (v : Bytes) : State × Nat :=
  if v.length ≠ 512 then (s, Code.VALUE_RANGE)
  else ({ s with ctr := (setBits 4096 0 (leNat v)).foldl CtrState.clear s.ctr }, 0)

/-- COUNTER_CLEAR. -/
def execCounterClear (r : GazReq) (s : State) : Host.Outcome State Fault Refusal :=
  s.woRow r G.COUNTER_CLEAR State.woCounterClear

/-- The sample ring emptied. -/
def State.emptySamples (s : State) : State :=
  (({ s with ctr := { s.ctr with samples := [], sampleN := 0 } }).setNum 16 G.SAMPLE_HEAD 0).setNum 16 G.SAMPLE_READ 0

def State.woSampleReset (s : State) (_ : Nat) (_ : Bytes) : State × Nat := (s.emptySamples, 0)

/-- SAMPLE_RESET. -/
def execSampleReset (r : GazReq) (s : State) : Host.Outcome State Fault Refusal :=
  s.woRow r G.SAMPLE_RESET State.woSampleReset

/-! ### SAMPLE_BUFFER (R399) -/

/-- The records a path may see: through a mailbox those of other Insets are zero, as they are through the torus path
below rights 2. -/
def State.sampleBytes (s : State) (path : GazPath) : Bytes :=
  (upto s.ringSize).flatMap (fun k =>
    let r := s.ctr.samples.get 0 k
    toLe 32 (match path with
      | .mailbox f => if bf r 19 16 = f then r else 0
      | .field _ => r
      | .torus _ _ => if s.node G.TORUS_MGMT_RIGHTS = 2 then r else 0))

/-! ### Bandwidth (R400) -/

/-- One record of Table 19-8 for the bytes of a window of `ns`. -/
def bwRecord (port dir bytes ns : Nat) : Bytes :=
  toLe 16 (port + dir * 2 ^ 8 + fmt32.roundRat false bytes (max ns 1) * 2 ^ 32 + bytes % 2 ^ 64 * 2 ^ 64)

/-- PORT_BW of the window that closes; `ns` is the sum of its periods. -/
def CtrState.portBw (t : CtrState) (ns : Nat) : Bytes :=
  (upto 10).flatMap (fun p => (upto 2).flatMap (fun d =>
    bwRecord p d (if p = 9 then (if d = 0 then t.bw.get 0 18 + t.bw.get 0 19 else 0) else t.bw.get 0 (2 * p + d)) ns))
    ++ (rangeFrom 16 32).flatMap (fun p => bwRecord p 0 (t.bw.get 0 (2 * p) + t.bw.get 0 (2 * p + 1)) ns)

/-- The window at a boundary: `tickNo` the boundary's number, `period` of the tick that closes in µs. -/
def State.bwBoundary (s : State) (tickNo period : Nat) : State :=
  let ns := s.ctr.bwNs + 1000 * period
  let w := max (s.node G.BW_WINDOW_TICKS) 1
  if tickNo % w ≠ 0 then { s with ctr := { s.ctr with bwNs := ns } }
  else
    let s' := s.setReg 16 G.PORT_BW (.blob (s.ctr.portBw ns))
    { s' with ctr := { s'.ctr with bw := [], bwNs := 0 } }

end Sys2Proof.Machine
end

