-- ==== Sys2Proof/Machine/Insets.lean ====
section
/-!
DEFINITION. Insets (chapter 15): the stream switch of R325, pre-emption requests, the Inset reset of R334, spares at a
quiesce (R379), the node fault of R383 and the interrupt holdoff (R333).
-/

namespace Sys2Proof.Machine

/-! ### Whole regions of storage -/

/-- Offset of a storage byte in a range of node addresses of either view. -/
def regionOff (base n st : Nat) : Option Nat :=
  let a := if interBase ≤ base ∧ base < tileBase then interOf st else st
  if base ≤ a ∧ a < base + n then some (a - base) else none

/-- A range made zero and clean, with no side of a write. -/
def MemState.clearRegion (m : MemState) (base n : Nat) : MemState :=
  { m with
    bytes := m.bytes.filter (fun c => (regionOff base n c.1).isNone)
    chk := m.chk.keep (fun w => (regionOff base n (64 * w)).isNone)
    t0bad := m.t0bad.keep (fun w => (regionOff base n (64 * w)).isNone) }

/-- A range copied to another: bytes as they read, bad words as poison. -/
def MemState.copyRegion (m : MemState) (src dst n : Nat) : MemState :=
  let put := fun (o : Nat) => storageOf (dst + o)
  let words := ((m.chk.map (·.1)) ++ (m.t0bad.map (·.1))).filterMap (fun w =>
    (regionOff src n (64 * w)).map (fun o => (o, m.wordState w)))
  let plain := m.bytes.filterMap (fun c => match regionOff src n c.1 with
    | some o => (put o).map (fun st => (st, c.2))
    | none => none)
  let fixed := words.flatMap (fun x => match x.2, put x.1 with
    | .corrected d, some st => mapIdxFrom (fun k b => (st + k, b)) 0 (toLe 64 d)
    | _, _ => [])
  let bad := words.filterMap (fun x => if x.2.isBad then (put x.1).map (· / 64) else none)
  bad.foldl MemState.poisonWord (((m.clearRegion dst n).setBytes plain).setBytes fixed)

/-- Dirty bits of a whole range (R245). -/
def State.markRange (s : State) (base n : Nat) : State :=
  (upto (ceilDiv n 256)).foldl (fun s k => match storageOf (base + 256 * k) with
    | some st => s.markDirty st
    | none => s) s

/-! ### The switch (R325) -/

/-- The switched T0 state of an Inset: its tile quarters, then its scratch pages beyond the staging pool. -/
def Dict.switchedT0 (d : Dict) (i : Nat) : List (Nat × Nat) :=
  (setBits 128 0 (leNat (Dict.blob d i G.INSET_CUBE_GROUPS))).map (fun g => (tileBase + 0x100000 * g, 0x100000))
    ++ [(scratchBase + 65536 * (Dict.num d i G.SCRATCH_BASE + Dict.num d i G.STAGE_POOL_PAGES),
        65536 * (Dict.num d i G.SCRATCH_PAGES - Dict.num d i G.STAGE_POOL_PAGES))]

/-- Step 1: T0 to a stream's save area, the regions one after another (log entry 84). -/
def State.saveT0 (s : State) (i k : Nat) : State :=
  ((Dict.switchedT0 s.gaz.regs i).foldl (fun (acc : State × Nat) r =>
    let s := { acc.1 with mem := acc.1.mem.copyRegion r.1 acc.2 r.2 }
    (s.markRange acc.2 r.2, acc.2 + r.2)) (s, s.num i (G.STREAM_SAVE_T1 + k))).1

/-- Step 4: T0 loaded from a stream's save area. -/
def State.loadT0 (s : State) (i k : Nat) : State :=
  ((Dict.switchedT0 s.gaz.regs i).foldl (fun (acc : State × Nat) r =>
    ({ acc.1 with mem := acc.1.mem.copyRegion acc.2 r.1 r.2 }, acc.2 + r.2)) (s, s.num i (G.STREAM_SAVE_T1 + k))).1

/-- Channels of a stream's set. -/
def Dict.streamChannels (d : Dict) (i k : Nat) : List Nat := setBits 256 0 (leNat (Dict.blob d i (G.STREAM_CHANNELS + k)))

/-- First page of a channel in a stream's swap space (log entry 84). -/
def Dict.swapPage (d : Dict) (i k ch : Nat) : Option Nat :=
  ((Dict.streamChannels d i k).findIdx? (· == ch)).map (fun x => Dict.num d i (G.STREAM_SWAP_LPN + k) + 196608 * x)

/-- 16 KiB of a stack as they go to flash; the bytes of a bad word are a free value. -/
def State.swapBytes (s : State) (base : Nat) : Bytes :=
  (upto 256).flatMap (fun k =>
    if (s.mem.wordState (base / 64 + k)).isBad then toLe 64 (Config.freeValue 512 (s.draws + k))
    else (upto 64).map (fun j => s.mem.readByte (base + 64 * k + j)))

/-- One page of swap space programmed. -/
def State.swapOut (s : State) (i lpn base : Nat) : State :=
  match s.bindPage i lpn with
  | none => s
  | some pk =>
    let data := s.swapBytes base
    let s := { s with draws := s.draws + 256 }
    match s.program 8 pk 2 lpn 0 data [] with
    | (s, _, .ok ppn) => s.setMap lpn ppn
    | (s, _, .error _) => s

/-- Steps 2 and 3 for one channel of the target's set. -/
def State.swapChannel (s : State) (i target source ch : Nat) : State :=
  let d := s.gaz.regs
  let r := match (s.inset i).residents.get 0 ch with
    | 0 => if (Dict.streamChannels d i source).contains ch then source + 1 else 0
    | n => n
  if r = target + 1 then s else
  let base := ch * channelBytes
  let s := match (if r = 0 then none else Dict.swapPage d i (r - 1) ch) with
    | some p => (upto 196608).foldl (fun (s : State) j => s.swapOut i (p + j) (base + pageBytes * j)) s
    | none => s
  let m := s.mem.clear base 0xBFFC0000
  let m := match Dict.swapPage d i target ch with
    | some p => if (s.mapOf p).isNone then m else
        (upto 196592).foldl (fun (m : MemState) j => m.putGroup (base + pageBytes * j) (s.lpnData (p + j))) m
    | none => m
  ({ s with mem := m }.markRange base 0xBFFC0000).modInset i (fun t => { t with residents := t.residents.set ch (target + 1) })

/-- SWITCH_END: the four steps have been performed; the node reports DONE to the master (log entry 84). -/
def execSwitchEnd (inset : Nat) (s : State) : Host.Outcome State Fault Refusal :=
  if inset ≥ 16 then .fault .noSuchInstance else
  match (s.inset inset).switch with
  | none => .next s
  | some sw =>
    if sw.reported then .next s else
    let s := s.saveT0 inset sw.source
    let s := (Dict.streamChannels s.gaz.regs inset sw.target).foldl
      (fun s ch => s.swapChannel inset sw.target sw.source ch) s
    let s := s.loadT0 inset sw.target
    let s := s.modInset inset (fun t => { t with switch := some { sw with reported := true } })
    .next ((s.reportDone inset (s.datum inset) 0).interrupt inset 11)

/-! ### Pre-emption requests (R326) -/

/-- The stream that runs, or that a switch in progress leads to. -/
def State.runningStream (s : State) (i : Nat) : Nat :=
  match (s.inset i).switch with
  | some sw => sw.target % 4
  | none => s.num i G.ACTIVE_STREAM % 4

/-- A pre-emption of stream `S` at boundary `B`: TICK_NO U64, STREAM U8, 7 reserved bytes. -/
def State.woPreempt (s : State) (i : Nat) (v : Bytes) : State × Nat :=
  let r := leNat v
  let b := bf r 63 0
  let k := bf r 71 64
  if v.length ≠ 16 then (s, Code.VALUE_RANGE)
  else if bf r 127 72 ≠ 0 then (s, Code.RESERVED_SET)
  else if s.tooLate b then (s, Code.PREEMPT_LATE)
  else if 4 ≤ k ∨ s.num i (G.STREAM_ENTRY + k) = 0xFFFF
      ∨ s.num i (G.STREAM_PRIORITY + k) ≤ s.num i (G.STREAM_PRIORITY + s.runningStream i) then
    (s, Code.PREEMPT_PRIORITY)
  else (s.modInset i (fun t => { t with preempt := some ⟨b, k, none⟩ }), 0)

/-- PREEMPT. -/
def execPreempt (r : GazReq) (s : State) : Host.Outcome State Fault Refusal := s.woRow r G.PREEMPT State.woPreempt

/-! ### Spares at a quiesce (R77, R121, R378, R379) -/

/-- The Inset that owns a retired unit: cube (tile × 16 + cube), traverse engine, control core. -/
def Dict.unitOwner (d : Dict) (kind number : Nat) : Option Nat :=
  (upto 16).find? (fun i =>
    if kind = 1 then bit (leNat (Dict.blob d i G.INSET_CUBE_GROUPS)) (number / 4)
    else if kind = 2 then bit (Dict.num d i G.INSET_TRAVERSE) number
    else kind == 3 && bit (Dict.num d i G.INSET_CORES) number)

/-- Where the spare of a unit comes from: its tile, its search cluster, the node. -/
def spareGroup (kind number : Nat) : Nat := if kind = 3 then 0 else number / 16
def spareCount (kind : Nat) : Nat := if kind = 3 then 2 else 1

/-- Spares of a group in service. -/
def State.sparesUsed (s : State) (kind group : Nat) : Nat :=
  (s.rel.spares.filter (fun x => x.1 == kind && spareGroup kind x.2.2.1 == group)).length

/-- A spare takes the logical number of a retired unit, where one is left; the repair is recorded (R381). -/
def State.spareUnit (s : State) (kind number : Nat) : State :=
  let g := spareGroup kind number
  let n := s.sparesUsed kind g
  if n ≥ spareCount kind then s else
  let s := { s with rel := { s.rel with retired := s.rel.retired.filter (· != (kind, number))
                                        faults := s.rel.faults.del (unitKey kind number) } }
  s.addRepair kind g number n

/-- A quiesce of Inset `i`. -/
def State.quiesce (s : State) (i : Nat) : State :=
  (s.rel.retired.filter (fun u => Dict.unitOwner s.gaz.regs u.1 u.2 == some i)).foldl
    (fun s u => s.spareUnit u.1 u.2) s

/-! ### Inset reset (R334, R382) -/

/-- Drains in progress finish. -/
def State.finishDrains (s : State) (i : Nat) : State :=
  (s.cmdsWhere (fun c => c.phase == .draining)).foldl (fun s x =>
    if x.1.inset = i then match s.cmd x.1, s.sheetOf x.1 with
      | some c, some sh => s.endDrain x.1 sh c []
      | _, _ => s
    else s) s

/-- CXL.mem requests that wait in the flows of the Inset. -/
def State.flushWaiting (s : State) (i : Nat) : State :=
  let w := s.host.waiting
  (w.filter (fun h => h.inset == i)).foldl (fun s h => s.arrive h)
    { s with host := { s.host with waiting := w.filter (fun h => h.inset != i) } }

/-- Leases and tokens of the Inset, of its own range and shared with it, are freed. -/
def State.dropLeases (s : State) (i : Nat) : State :=
  let s := (s.sched.sync.filter (fun e => e.2.kind == 1 && e.2.held && e.2.holder == s.nodeId && e.2.hInset == i)).foldl
    (fun s e => s.leaseRelease e.1 i) s
  let s := s.freeLeases i
  { s with sched := { s.sched with asked := s.sched.asked.filter (fun a => a.2.inset != i) } }

/-- Staging pages of both pools. -/
def State.clearStaging (s : State) (i : Nat) : State :=
  let m := s.mem.clear (scratchBase + 65536 * s.num i G.SCRATCH_BASE) (65536 * s.num i G.STAGE_POOL_PAGES)
  { s with mem := m.clearRegion (s.num i G.STAGE_T1_BASE) (s.num i G.STAGE_T1_BYTES) }

/-- Sheets, streams and slices of the Inset cleared; its quotas, rings and sequence numbers stay. -/
def InsetSt.cleared (t : InsetSt) : InsetSt :=
  { t with sheet := none, nextId := InsetSt.reset.nextId, sliceIdx := 0, sliceLeft := 0, switch := none, preempt := none
           residents := [], startAt := none, lookups := [] }

/-- The steps of R334; `code` is what open requests and submissions complete with. -/
def State.resetInset (s : State) (i code : Nat) : State :=
  let s := s.modInset i (fun t => { t with masked := true })
  let s := (s.killAll i Code.INSET_RESET_KILL).1
  let s := s.finishDrains i
  let s := (s.closeRequests i code false none).1
  let s := s.rejectSubs i code (fun _ => true)
  let s := s.flushWaiting i
  let s := (s.dropLeases i).clearStaging i
  let s := if s.num i G.CKPT_STATE = 1 then (s.dropCkpt i).bump i G.CKPT_ABORTED 1 else s
  let s := (s.modInset i InsetSt.cleared).setNum i G.ACTIVE_STREAM 0
  let s := s.quiesce i
  let s := s.modInset i (fun t => { t with masked := false })
  let due := (s.inset i).gathered.map (·.1)
  let s := due.foldl (fun s v => if s.inHoldoff i v then s else s.fireVector i v) s
  s.interrupt i 12

def State.woReset (s : State) (i : Nat) (_ : Bytes) : State × Nat := (s.resetInset i Code.INSET_RESET_KILL, 0)

/-- INSET_RESET. -/
def execInsetReset (r : GazReq) (s : State) : Host.Outcome State Fault Refusal := s.woRow r G.INSET_RESET State.woReset

/-- INT_HOLDOFF: the holdoff of a vector has passed and its gathered events fire. -/
def execIntHoldoff (inset vector : Nat) (s : State) : Host.Outcome State Fault Refusal :=
  if inset ≥ 16 ∨ vector ≥ 128 then .fault .noSuchInstance else
  let t := s.inset inset
  if (Tab.find t.gathered vector).isNone || t.masked || s.inHoldoff inset vector then .next s
  else .next (s.fireVector inset vector)

/-! ### Node fault (R383) -/

/-- The node leaves lock as under R25, kills every command before its commit point, completes every open request and starts
no further Sheet. -/
def State.nodeFault (s : State) : State :=
  let s := (s.setNum 16 G.TICK_LOCK 0).nodeEvent Code.TICK_UNLOCK 0 0
  let s := { s with sched := { s.sched with halted := true } }
  (upto 16).foldl (fun s i => (((s.killAll i Code.NODE_FAULT).1).closeRequests i Code.NODE_FAULT false none).1) s

end Sys2Proof.Machine
end

