-- ==== Sys2Proof/Machine/Reliability.lean ====
section
/-!
DEFINITION. Reliability (chapter 18): the scrubber with its votes (R369, R374, R375), remaps and spare channels (R376,
R377), channel fills (R373), the Repair Record (R380, R381), measurement registers (R408) and SUSPECT_CLEAR.
-/

namespace Sys2Proof.Machine

/-! ### Instances of the memory classes -/

/-- 64-bit or 64-byte words of one instance: a stack channel, or a 64 KiB macro. -/
def instWords (mc : Nat) : Nat := if mc = 0 then 50331648 else 8192

/-- Instances of a class: stack channels; on-die macros in the order of Tables 1-2 and 1-3 (448 MiB); 14 macros for each
buffer-die unit, query cache then result region (log entry 88). Class 3 stands for the triplicated words of Table 18-2:
one per Inset, then the node's. -/
def instCount (mc : Nat) : Nat :=
  if mc = 0 then 256 else if mc = 1 then 7168 else if mc = 2 then 3584 else if mc = 3 then 17 else 0

/-- Where an on-die word lies: tile or scratch storage, a Chart entry, a sync object, or elsewhere. Macros are numbered
in the order of Tables 1-2 and 1-3. -/
inductive SramAt where
  | storage (word : Nat)
  | chart (entry : Nat)
  | sync (obj : Nat)
  | other
deriving DecidableEq, Repr

/-- On-die word `w` of macro `m`. -/
def sramAt (m w : Nat) : SramAt :=
  let o := 65536 * m + 8 * w
  if m < 2048 then .storage ((tileBase + o) / 64)
  else if m < 3072 then .other
  else if m < 4096 then .chart ((65536 * (m - 3072) + 8 * w) / 4)
  else if m < 5376 then .other
  else if m < 6912 then .storage ((scratchBase + 65536 * (m - 5376) + 8 * w) / 64)
  else if 7136 ≤ m ∧ m < 7144 then .sync ((65536 * (m - 7136) + 8 * w) / 32)
  else .other

/-! ### Remaps (R376, R377) -/

/-- Remap entries used or being filled by an instance. -/
def State.remapCount (s : State) (mc inst : Nat) : Nat :=
  ((s.rel.remaps ++ s.rel.remapping).filter (fun x => x.1 == mc && x.2.1 == inst)).length

/-- A row or line qualifies for a remap; a full channel table calls for a spare channel, of which each stack has two. -/
def State.qualify (s : State) (mc inst row : Nat) : State :=
  if s.rel.remaps.contains (mc, inst, row) || s.rel.remapping.contains (mc, inst, row) then s
  else if s.remapCount mc inst < 16 then
    { s with rel := { s.rel with remapping := s.rel.remapping ++ [(mc, inst, row)] } }
  else if mc ≠ 0 then s
  else
    let s := s.nodeEvent Code.REMAP_FULL inst 0
    let used := (s.rel.spares.filter (fun x => x.1 == 4 && x.2.1 == inst / 32)).length
      + ((rangeFrom (inst / 32 * 32) 32).filter (fun c => (s.unit c).sparing)).length
    if used < 2 ∧ !(s.unit inst).sparing then s.setUnit inst { s.unit inst with sparing := true } else s

/-- Row (2 KiB) or line (64 B) of a word of an instance. -/
def rowOf (mc w : Nat) : Nat := if mc = 0 then w / 32 else w / 8

/-! ### Votes (R369, R382) -/

/-- A triplicated word read: one copy differs and is rewritten, or no two agree. Instance 16 is the node's. -/
def State.vote (s : State) (inst : Nat) : ScrubFound → State
  | .asStored => s
  | .single => s.bumpNode G.VOTE_CORRECTED 1
  | .uncorrectable =>
    if inst < 16 then (s.event inst Code.VOTE_FAIL 0 0).resetInset inst Code.VOTE_FAIL
    else (s.nodeEvent Code.VOTE_FAIL 0 0).nodeFault

/-! ### SCRUB_READ (R374, R375) -/

/-- What the scrubber finds: nothing, a corrected word (its data where it was stored so), or an uncorrectable one. A word
written as poison is neither. -/
inductive Find where
  | clean | corrected | bad
deriving DecidableEq, Repr

/-- The stored condition of the word at a position. -/
def State.storedAt (s : State) (mc inst w : Nat) : WordState :=
  if mc = 0 then s.mem.wordState (inst * 50331648 + w)
  else if mc = 1 then match sramAt inst w with
    | .storage k => s.mem.wordState k
    | .chart e => if (Tab.find s.chartBad e).isSome || (Tab.find s.chartBad (e + 1)).isSome then .uncorrectable else .clean
    | .sync o => if (s.syncObj o).bad then .uncorrectable else .clean
    | .other => .clean
  else .clean

def findOf (st : WordState) : ScrubFound → Find
  | .uncorrectable => .bad
  | .single => .corrected
  | .asStored => match st with
    | .uncorrectable => .bad
    | .corrected _ => .corrected
    | _ => .clean

/-- Node address that the event of a position carries. -/
def posAddr (mc inst w : Nat) : Nat :=
  if mc = 0 then inst * channelBytes + 64 * w
  else if mc = 1 then match sramAt inst w with
    | .storage k => 64 * k
    | _ => 65536 * inst + 8 * w
  else 65536 * inst + 8 * w

/-- The word rewritten with its corrected data. -/
def State.rewrite (s : State) (mc inst w : Nat) : State :=
  match s.storedAt mc inst w with
  | .corrected d =>
    let k := inst * 50331648 + w
    let m := s.mem.setBytes (mapIdxFrom (fun j b => (64 * k + j, b)) 0 (toLe 64 d))
    { s with mem := { m with chk := m.chk.del k } }
  | _ => s

/-- The word rewritten as poison. -/
def State.rewritePoison (s : State) (mc inst w : Nat) : State :=
  if mc = 0 then { s with mem := s.mem.poisonWord (inst * 50331648 + w) }
  else if mc = 1 then match sramAt inst w with
    | .storage k => { s with mem := s.mem.poisonWord k }
    | .chart e => { s with chartBad := (s.chartBad.set e 1).set (e + 1) 1 }
    | .sync o => s.setSync o { s.syncObj o with bad := true }
    | .other => s
  else s

/-- Key of the scrubber of an instance. -/
def scrubKey (mc inst : Nat) : Nat := mc * 65536 + inst

/-- What a find leads to. -/
def State.scrubAct (s : State) (mc inst w : Nat) (sc : Scrub) : Find → State × Scrub
  | .clean => (s, sc)
  | .corrected =>
    let s := s.rewrite mc inst w
    let s := { s with rel := { s.rel with corrected := s.rel.corrected.upd 0 (· + 1) mc } }
    let row := rowOf mc w
    let n := sc.ce.get 0 row + 1
    (if n ≥ s.node G.REMAP_CE_LIMIT then s.qualify mc inst row else s, { sc with ce := sc.ce.set row n })
  | .bad =>
    let s := s.rewritePoison mc inst w
    let s := { s with rel := { s.rel with uncorr := s.rel.uncorr.upd 0 (· + 1) mc } }
    let s := s.nodeEvent (if mc = 0 then Code.STACK_UNCORRECTABLE else Code.SRAM_UNCORRECTABLE) 0 (posAddr mc inst w)
    (s.qualify mc inst (rowOf mc w), sc)

/-- The scrubber of an instance may read: its interval has passed, and a stack channel is in MEM. -/
def State.scrubReady (s : State) (mc inst : Nat) (sc : Scrub) : Bool :=
  let gap := if mc = 0 then nsCycles (s.node G.SCRUB_INTERVAL_NS) else 64
  decide (sc.lastAt + gap ≤ s.clk.cycle)
    && (mc == 1 || (let u := s.unit (if mc = 0 then inst else inst / 14); !bit u.mode 0 && u.change.isNone && !u.filling))

/-- SCRUB_READ: the next word of an instance; `mc` 3 is the read of a triplicated word. Detector 0x015 names channels
first, then on-die macros (log entry 88). -/
def execScrubRead (mc inst : Nat) (found : ScrubFound) (s : State) : Host.Outcome State Fault Refusal :=
  if inst ≥ instCount mc then .fault .noSuchInstance
  else if mc = 3 then .next (s.vote inst found)
  else
    let sc := s.rel.scrubs.get Scrub.reset (scrubKey mc inst)
    if !s.scrubReady mc inst sc then .next s else
    let now := s.clk.cycle
    let w := sc.next
    let (s, sc) := match (if mc = 2 then none else s.timedEntry 0x015 (if mc = 0 then inst else 256 + inst)) with
      | some k => (s.fireTimed k 0x015 (if mc = 0 then Code.STACK_UNCORRECTABLE else Code.SRAM_UNCORRECTABLE)
          (posAddr mc inst w), sc)
      | none => s.scrubAct mc inst w sc (findOf (s.storedAt mc inst w) found)
    let isOver := !sc.slow && decide (sc.lapAt + s.node G.SCRUB_LAP_LIMIT_S * 2400000000 < now)
    let s := if isOver then s.nodeEvent Code.SCRUB_SLOW mc inst else s
    let sc := { sc with slow := sc.slow || isOver, lastAt := now }
    let sc := if w + 1 < instWords mc then { sc with next := w + 1 }
      else { sc with next := 0, lapMs := (now - sc.lapAt) / 2400000, laps := sc.laps + 1, lapAt := now, slow := false
                     ce := [] }
    .next { s with rel := { s.rel with scrubs := s.rel.scrubs.set (scrubKey mc inst) sc } }

/-- REMAP_APPLIED: the copy of a row or line to its spare ends; a stack remap waits while its channel is in PROC. -/
def execRemapApplied (mc inst row : Nat) (s : State) : Host.Outcome State Fault Refusal :=
  if inst ≥ instCount mc ∨ 3 ≤ mc then .fault .noSuchInstance else
  if !s.rel.remapping.contains (mc, inst, row) || (mc == 0 && bit (s.unit inst).mode 0) then .next s else
  let n := (s.rel.remaps.filter (fun x => x.1 == mc && x.2.1 == inst)).length
  let s := { s with rel := { s.rel with remapping := s.rel.remapping.erase (mc, inst, row)
                                        remaps := s.rel.remaps ++ [(mc, inst, row)] } }
  let unit := if mc = 2 then 7168 + inst else inst
  .next ((s.nodeEvent Code.REMAP_APPLIED unit row).addRepair (if mc = 0 then 5 else 6) unit row n)

/-- CHANNEL_SPARED: the copy to the spare channel ends, in MEM; the spare has remap entries of its own. -/
def execChannelSpared (channel : Nat) (s : State) : Host.Outcome State Fault Refusal :=
  if channel ≥ 256 then .fault .noSuchInstance else
  let u := s.unit channel
  if !u.sparing ∨ bit u.mode 0 then .next s else
  let other := fun (x : Nat × Nat × Nat) => !(x.1 == 0 && x.2.1 == channel)
  let n := (s.rel.spares.filter (fun x => x.1 == 4 && x.2.1 == channel / 32)).length
  let s := s.setUnit channel { u with sparing := false }
  let s := { s with rel := { s.rel with remaps := s.rel.remaps.filter other, remapping := s.rel.remapping.filter other } }
  .next ((s.nodeEvent Code.CHANNEL_SPARED channel 0).addRepair 4 (channel / 32) channel n)

/-- CHANNEL_FILL: the zero fill of a channel taken from an Inset completes. -/
def execChannelFill (channel : Nat) (s : State) : Host.Outcome State Fault Refusal :=
  if channel ≥ 256 then .fault .noSuchInstance else
  if !(s.unit channel).filling then .next s
  else .next (({ s with mem := s.mem.clear (channel * channelBytes) channelBytes }).setUnit channel
    { s.unit channel with filling := false })

/-! ### Measurement registers (R408) -/

/-- A register extended: MR ← SHA3-512(MR ‖ d). -/
def State.extendMr (s : State) (n : Nat) (d : Bytes) : State :=
  { s with sec := { s.sec with mr := modNth (fun m => Config.sha3 (m ++ d)) s.sec.mr n } }

/-- MR6 of an Inset extended. -/
def State.extendMr6 (s : State) (i : Nat) (d : Bytes) : State :=
  let m := s.blob i G.MR6
  s.setReg i G.MR6 (.blob (Config.sha3 ((if m.isEmpty then zeros 64 else m) ++ d)))

/-! ### The Repair Record (R380, R381) -/

namespace RepR
def magic : Nat := 0x52505252
def factory (b : Bytes) : Nat := sliceNat b 6 2
def generation (b : Bytes) : Nat := sliceNat b 8 8
def count (b : Bytes) : Nat := sliceNat b 16 4
def sigAt (b : Bytes) : Nat := sliceNat b 20 4
/-- Entries as they stand. -/
def entries (b : Bytes) : List Nat := (upto (count b)).map (fun k => sliceNat b (64 + 16 * k) 16)
/-- Header and entries: what the signature covers. -/
def body (b : Bytes) : Bytes := b.take (sigAt b)
end RepR

/-- A record of the given entries, signed with the identity key. -/
def repairRecord (gen factory : Nat) (es : List Nat) : Bytes :=
  let n := es.length
  let h := RepR.magic + 0x00B1 * 2 ^ 32 + factory % 65536 * 2 ^ 48 + gen % 2 ^ 64 * 2 ^ 64 + n * 2 ^ 128
    + (64 + 16 * n) * 2 ^ 160
  let body := toLe 64 h ++ es.flatMap (toLe 16)
  body ++ Config.mldsaSign body

/-- Boot area contents of Table 20-1, under its block numbers: 0 and 6 the image slots, 12 the identity page, 13 the
owner record, 14 and 15 the Repair Record copies. -/
def State.boot (s : State) (k : Nat) : Bytes := s.flash.boot.get [] k
def State.setBoot (s : State) (k : Nat) (b : Bytes) : State :=
  { s with flash := { s.flash with boot := s.flash.boot.set k b } }

/-- Flash channel 0 may be written by a node core: a background window holds it, or no Inset owns it. -/
def State.bootWritable (s : State) : Bool :=
  !(upto 16).any (fun i => bit (s.num i G.INSET_FLASH_CH) 0)
    || s.inBgWindow 0

/-- REPAIR_RECORD_WRITE: the pending repairs join a new record in the older copy; a write that fails leaves the copy in
force. -/
def execRepairRecordWrite (ok : Bool) (s : State) : Host.Outcome State Fault Refusal :=
  if s.rel.pendingRepairs.isEmpty || !s.bootWritable || !s.serves then .next s
  else if !ok then .next (s.nodeEvent Code.REPAIR_WRITE_FAIL 0 0)
  else
    let gen := RepR.generation s.rel.record + 1
    let es := (RepR.entries s.rel.record ++ s.rel.pendingRepairs).take 4096
    let rec_ := repairRecord gen (RepR.factory s.rel.record) es
    let older := if RepR.generation (s.boot 14) ≤ RepR.generation (s.boot 15) then 14 else 15
    let s := s.setBoot older rec_
    let s := { s with rel := { s.rel with record := rec_, pendingRepairs := [] } }
    .next ((s.setNum 16 G.REPAIR_PENDING 0).extendMr 2 (Config.sha3 rec_))

/-- SUSPECT_CLEAR. -/
def execSuspectClear (r : GazReq) (s : State) : Host.Outcome State Fault Refusal :=
  s.woRow r G.SUSPECT_CLEAR State.woSuspectClear

/-! ### Reports -/

/-- Instances of a class that have been scrubbed. -/
def State.scrubsOf (s : State) (mc : Nat) : List Scrub :=
  (s.rel.scrubs.filter (fun e => e.1 / 65536 == mc)).map (·.2)

/-- SCRUB_REPORT: three records of Table 18-5. LAPS is 0 while an instance has not completed a lap. -/
def State.scrubReport (s : State) : Bytes :=
  (upto 3).flatMap (fun mc =>
    let l := s.scrubsOf mc
    let laps := if l.length < instCount mc then 0 else l.foldl (fun m x => min m x.laps) (l.headD Scrub.reset).laps
    toLe 32 (mc + (l.foldl (fun m x => max m x.lapMs) 0) % 2 ^ 32 * 2 ^ 32
      + s.rel.corrected.get 0 mc % 2 ^ 64 * 2 ^ 64 + s.rel.uncorr.get 0 mc % 2 ^ 64 * 2 ^ 128 + laps % 2 ^ 64 * 2 ^ 192))

/-- REMAP_USED: entries used per instance, channels then macros. -/
def State.remapUsed (s : State) : Bytes :=
  (upto 3).flatMap (fun mc => (upto (instCount mc)).map (fun i =>
    BitVec.ofNat 8 (s.rel.remaps.filter (fun x => x.1 == mc && x.2.1 == i)).length))

end Sys2Proof.Machine
end

