-- ==== Sys2Proof/Machine/Cartouche.lean ====
section
/-!
DEFINITION. The Cartouche (chapter 20): image manifests, the rollback floor, the owner record, measurement, attestation
and debug tokens. The manual names the fields of the manifest, of OWNER_KEY and of a debug token without their layout;
the ones here are the model's (log entry 90).
-/

namespace Sys2Proof.Machine

def pubBytes : Nat := 2592
def sigBytes : Nat := 4627
def keyHash (pub : Bytes) : Bytes := Config.sha3 pub

/-! ### Image manifests (R406) -/

namespace Man
def root (b : Bytes) : Bytes := slice b 0 pubBytes
def signing (b : Bytes) : Bytes := slice b pubBytes pubBytes
def endorse (b : Bytes) : Bytes := slice b (2 * pubBytes) sigBytes
def svn (b : Bytes) : Nat := sliceNat b 9811 4
def count (b : Bytes) : Nat := sliceNat b 9815 4
/-- Record `k`: type, load address, size, digest. -/
def rec_ (b : Bytes) (k : Nat) : Bytes := slice b (9819 + 80 * k) 80
def size (b : Bytes) (k : Nat) : Nat := sliceNat (rec_ b k) 12 4
def digest (b : Bytes) (k : Nat) : Bytes := slice (rec_ b k) 16 64
def bodyBytes (b : Bytes) : Nat := 9819 + 80 * count b
def signature (b : Bytes) : Bytes := slice b (bodyBytes b) sigBytes
def bytes (b : Bytes) : Nat := bodyBytes b + sigBytes
/-- The manifest alone. -/
def manifest (b : Bytes) : Bytes := b.take (bytes b)
/-- A valid manifest: the root key hash, and both signatures. -/
def valid (b : Bytes) : Bool :=
  decide (bytes b ≤ b.length) && decide (count b ≤ 16)
    && keyHash (root b) == Config.rootHash
    && Config.mldsaVerify (root b) (signing b) (endorse b)
    && Config.mldsaVerify (signing b) (b.take (bodyBytes b)) (signature b)
/-- Every component, one after another behind the manifest, has its digest. -/
def componentsOk (b : Bytes) : Bool :=
  ((upto (count b)).foldl (fun (acc : Bool × Nat) k =>
    (acc.1 && decide (acc.2 + size b k ≤ b.length) && Config.sha3 (slice b acc.2 (size b k)) == digest b k,
      acc.2 + size b k)) (true, bytes b)).1
end Man

/-! ### Security outcomes -/

/-- A code of class 7 raised as an event and answered. -/
def State.secCode (s : State) (code : Nat) : State × Nat := (s.nodeEvent code 0 0, code)

/-! ### IMAGE_WRITE (R412) -/

/-- The slot not running is written at once while channel 0 may be written; else the image waits, the latest accepted
one in place of an earlier. -/
def State.woImageWrite (s : State) (_ : Nat) (v : Bytes) : State × Nat :=
  if !Man.valid v || !Man.componentsOk v then s.secCode Code.IMAGE_AUTH_FAIL
  else if Man.svn v < s.node G.FLOOR_SVN then (s, Code.IMAGE_BELOW_FLOOR)
  else
    let s := { s with sec := { s.sec with image := some v } }
    (if s.bootWritable then s.writeImage else s, 0)

/-- IMAGE_WRITE. -/
def execImageWrite (r : GazReq) (s : State) : Host.Outcome State Fault Refusal :=
  s.woRow r G.IMAGE_WRITE State.woImageWrite

/-! ### Floor certificates (R410, R411) -/

namespace FcB
def magicOk (b : Nat) : Bool := bf b 31 0 == 0x464C4F52
def svn (b : Nat) : Nat := bf b 63 32
def tag (b : Nat) : Nat := bf b 127 64
def nonce (b : Nat) : Nat := bf b 383 128
def reservedOk (b : Nat) : Bool := bf b 511 384 == 0
end FcB

/-- The BOOT_NONCE of this boot as a number. -/
def State.nonce (s : State) : Nat := leNat (s.blob 16 G.BOOT_NONCE)

/-- FLOOR_STATE: 0 PENDING, 1 MET, 2 ABOVE_IMAGE, 3 UNOWNED. -/
def State.floorState (s : State) : Nat := s.node G.FLOOR_STATE

/-- The floor raised to at least `svn`. -/
def State.raiseFloor (s : State) (svn : Nat) : State :=
  let f := max (s.node G.FLOOR_SVN) svn
  let s := s.setNum 16 G.FLOOR_SVN f
  if f ≤ s.node G.IMAGE_SVN then s.setNum 16 G.FLOOR_STATE 1
  else (s.setNum 16 G.FLOOR_STATE 2).nodeEvent Code.FLOOR_ABOVE_IMAGE 0 0

def State.woFloorCert (s : State) (_ : Nat) (v : Bytes) : State × Nat :=
  let b := sliceNat v 0 64
  let pub := slice v 64 pubBytes
  if v.length ≠ 64 + pubBytes + sigBytes ∨ !FcB.magicOk b ∨ !FcB.reservedOk b then (s, Code.CART_FORMAT)
  else match s.timedEntry 0x100 0 with
    | some k => (s.fireTimed k 0x100 Code.FLOOR_SIG_FAIL 0, 0x8100)
    | none =>
      if keyHash pub ≠ s.blob 16 G.FLOOR_KEY_HASH ∨ !Config.mldsaVerify pub (v.take 64) (v.drop (64 + pubBytes))
          ∨ FcB.tag b ≠ s.node G.IDENTITY_TAG ∨ FcB.nonce b ≠ s.nonce then s.secCode Code.FLOOR_SIG_FAIL
      else ((s.raiseFloor (FcB.svn b)).extendMr 4 (Config.sha3 v), 0)

/-- FLOOR_CERT. -/
def execFloorCert (r : GazReq) (s : State) : Host.Outcome State Fault Refusal :=
  s.woRow r G.FLOOR_CERT State.woFloorCert

/-! ### The owner record (R410) -/

/-- FLOOR_KEY_HASH and DEBUG_POLICY, signed by the identity key. -/
def ownerRecord (hash : Bytes) (policy : Nat) : Bytes :=
  let body := hash ++ toLe 1 policy
  body ++ Config.mldsaSign body

/-- FLOOR_KEY_HASH is all zero. -/
def State.unowned (s : State) : Bool := leNat (s.blob 16 G.FLOOR_KEY_HASH) == 0

def State.setOwner (s : State) (pub : Bytes) : State :=
  let h := keyHash pub
  let s := if s.unowned then s.setNum 16 G.FLOOR_STATE 0 else s
  (s.setReg 16 G.FLOOR_KEY_HASH (.blob h)).setBoot 13 (ownerRecord h (s.node G.DEBUG_POLICY))

/-- On an unowned node the new key alone, from the field port; else the new key, the floor key in force and its
signature over SHA3-512(new key) ‖ BOOT_NONCE. -/
def State.woOwnerKey (path : GazPath) (s : State) (_ : Nat) (v : Bytes) : State × Nat :=
  if s.unowned then
    if v.length ≠ pubBytes then (s, Code.CART_FORMAT)
    else match path with
      | .field _ => (s.setOwner v, 0)
      | _ => s.secCode Code.OWNER_KEY_FAIL
  else
    let new := v.take pubBytes
    let cur := slice v pubBytes pubBytes
    if v.length ≠ 2 * pubBytes + sigBytes then (s, Code.CART_FORMAT)
    else if keyHash cur = s.blob 16 G.FLOOR_KEY_HASH
        ∧ Config.mldsaVerify cur (Config.sha3 new ++ toLe 32 s.nonce) (v.drop (2 * pubBytes)) then (s.setOwner new, 0)
    else s.secCode Code.OWNER_KEY_FAIL

/-- OWNER_KEY. -/
def execOwnerKey (r : GazReq) (s : State) : Host.Outcome State Fault Refusal :=
  s.woRow r G.OWNER_KEY (State.woOwnerKey r.path)

/-! ### Measurement and attestation (R408, R413) -/

def State.woMeasureExtend (s : State) (_ : Nat) (v : Bytes) : State × Nat :=
  if v.length ≠ 64 then (s, Code.VALUE_RANGE) else (s.extendMr 7 v, 0)

/-- MEASURE_EXTEND. -/
def execMeasureExtend (r : GazReq) (s : State) : Host.Outcome State Fault Refusal :=
  s.woRow r G.MEASURE_EXTEND State.woMeasureExtend

def State.woAttestNonce (s : State) (i : Nat) (v : Bytes) : State × Nat :=
  if v.length ≠ 32 then (s, Code.VALUE_RANGE)
  else if s.sec.signing.any (fun e => e.1 == i) then (s, Code.ATTEST_BUSY)
  else ({ s with sec := { s.sec with signing := s.sec.signing ++ [(i, v ++ toLe 8 s.tickNo)] } }, 0)

/-- ATTEST_NONCE. -/
def execAttestNonce (r : GazReq) (s : State) : Host.Outcome State Fault Refusal :=
  s.woRow r G.ATTEST_NONCE State.woAttestNonce

/-- The header of Table 20-4. -/
def State.reportHeader (s : State) (i tickNo : Nat) : Nat :=
  0x41545354 + 1 * 2 ^ 32 + Config.grade % 2 * 2 ^ 40 + s.floorState % 4 * 2 ^ 41 + s.node G.DEBUG_LEVEL % 4 * 2 ^ 43
    + i % 16 * 2 ^ 48 + s.nodeId % 4096 * 2 ^ 52 + tickNo % 2 ^ 64 * 2 ^ 64 + s.node G.IMAGE_SVN % 2 ^ 32 * 2 ^ 128
    + s.node G.FLOOR_SVN % 2 ^ 32 * 2 ^ 160 + s.node G.IDENTITY_TAG % 2 ^ 64 * 2 ^ 192 + 0x00B1 * 2 ^ 256

/-- MEASUREMENT n; MR6 that of an Inset. -/
def State.measurement (s : State) (n i : Nat) : Bytes :=
  if n = 6 then (let m := s.blob i G.MR6; if m.isEmpty then zeros 64 else m) else nth [] s.sec.mr n

/-- The report of an Inset. -/
def State.report (s : State) (i : Nat) (req : Bytes) : Bytes :=
  let body := toLe 64 (s.reportHeader i (sliceNat req 32 8)) ++ req.take 32 ++ toLe 32 s.nonce
    ++ (upto 8).flatMap (fun n => s.measurement n i)
  body ++ Config.mldsaSign body ++ s.blob 16 G.IDENTITY_PUBKEY ++ s.blob 16 G.MFG_CERT

/-- ATTEST_REPORT: signing of the report first in order completes; `ok` says that its signature passed its own
verification. -/
def execAttestReport (inset : Nat) (ok : Bool) (s : State) : Host.Outcome State Fault Refusal :=
  if inset ≥ 16 then .fault .noSuchInstance else
  match s.sec.signing with
  | [] => .next s
  | (i, req) :: rest =>
    if i ≠ inset then .next s else
    let s := { s with sec := { s.sec with signing := rest } }
    let head := toLe 64 (s.reportHeader i (sliceNat req 32 8))
    .next (match s.timedEntry 0x101 0 with
      | some k => (s.fireTimed k 0x101 Code.ATTEST_SIGN_FAIL 0).setReg i G.ATTEST_REPORT (.blob head)
      | none =>
        if ok then s.setReg i G.ATTEST_REPORT (.blob (s.report i req))
        else (s.nodeEvent Code.ATTEST_SIGN_FAIL 0 0).setReg i G.ATTEST_REPORT (.blob head))

/-! ### Debug (R414) -/

/-- Token: IDENTITY_TAG in [63:0], BOOT_NONCE in [319:64], the level in [321:320], then the public key and the signature. -/
def State.woDebugToken (s : State) (_ : Nat) (v : Bytes) : State × Nat :=
  let b := sliceNat v 0 64
  let pub := slice v 64 pubBytes
  let level := bf b 321 320
  let byDebug := keyHash pub == Config.debugKeyHash
  let byFloor := !s.unowned && keyHash pub == s.blob 16 G.FLOOR_KEY_HASH
  let policy := s.node G.DEBUG_POLICY
  if v.length ≠ 64 + pubBytes + sigBytes ∨ bf b 511 322 ≠ 0 ∨ level = 0 ∨ level = 3 then (s, Code.CART_FORMAT)
  else if bf b 63 0 ≠ s.node G.IDENTITY_TAG ∨ bf b 319 64 ≠ s.nonce
      ∨ !Config.mldsaVerify pub (v.take 64) (v.drop (64 + pubBytes))
      ∨ !(byDebug || (level == 1 && byFloor)) ∨ policy ≥ 2 ∨ (policy = 1 ∧ level = 2)
      ∨ (level = 2 ∧ (upto 16).any (fun i => (s.inset i).sheet.isSome)) then s.secCode Code.DEBUG_TOKEN_FAIL
  else
    let s := s.setNum 16 G.DEBUG_LEVEL (max (s.node G.DEBUG_LEVEL) level)
    ((s.extendMr 5 (Config.sha3 v)).nodeEvent Code.DEBUG_UNLOCKED level 0, 0)

/-- DEBUG_TOKEN. -/
def execDebugToken (r : GazReq) (s : State) : Host.Outcome State Fault Refusal :=
  s.woRow r G.DEBUG_TOKEN State.woDebugToken

/-- DEBUG_CHALLENGE: IDENTITY_TAG, BOOT_NONCE, GRADE and DEBUG_POLICY. -/
def State.challenge (s : State) : Bytes :=
  toLe 8 (s.node G.IDENTITY_TAG) ++ toLe 32 s.nonce ++ toLe 1 Config.grade ++ toLe 1 (s.node G.DEBUG_POLICY)

end Sys2Proof.Machine
end

