-- ==== Sys2Proof/Machine/Startup.lean ====
section
/-!
DEFINITION. Power-good, reset and the start-up phases (R404 to R410, R417, R418, R424, R431, R432), and INSET_START
(R437).
-/

namespace Sys2Proof.Machine

/-! ### Power-good and reset -/

/-- The part held in reset: nothing is kept but what the flash cells hold, the boot number and what has been put out. -/
def State.heldReset (s : State) (pwrGood resetN : Bool) : State :=
  { State.reset with
    clk := { ClkState.reset with cycle := s.clk.cycle, pwrGood := pwrGood, resetN := resetN }
    flash := { FlashState.reset with
      dies := s.flash.dies, wear := s.flash.wear, pages := s.flash.pages, blocks := s.flash.blocks
      format := s.flash.format, void := s.flash.void, voidN := s.flash.voidN, boot := s.flash.boot }
    sec := { SecState.reset with boots := s.sec.boots }
    out := s.out, draws := s.draws, pending := s.pending }

/-- Windows of Table 21-1 in mV at nominal, VDD_CORE at 0.75 V, in the order of that table. -/
def railWindows : List (Nat × Nat) := [(735, 765), (730, 770), (885, 915), (1070, 1130), (1164, 1236), (1710, 1890)]

/-- Every rail is inside its window; a rail not reported is not (R416, R417). -/
def railsOk (rails : RailIn) : Bool :=
  allIdx (fun k (w : Nat × Nat) => match nth none rails k with
    | some (mv, _) => decide (w.1 ≤ mv) && decide (mv ≤ w.2)
    | none => false) 0 railWindows

/-- PWR_GOOD_RISE: with a rail outside its window the part stays in reset and reports RAIL_FAULT. -/
def execPwrGoodRise (rails : RailIn) (s : State) : Host.Outcome State Fault Refusal :=
  if s.clk.pwrGood then .next s
  else if railsOk rails then
    .next { s with clk := { s.clk with pwrGood := true, railFault := false, t0 := s.clk.cycle } }
  else .next { s with clk := { s.clk with pwrGood := true, railFault := true, lastCode := Code.RAIL_FAULT } }

/-- PWR_GOOD_FALL: every clock stops, and nothing is drained. -/
def execPwrGoodFall (s : State) : Host.Outcome State Fault Refusal :=
  if s.clk.pwrGood then .next (s.heldReset false s.clk.resetN) else .next s

/-- RESET_N_ASSERT. A part held by RAIL_FAULT stays so until power is cycled. -/
def execResetNAssert (s : State) : Host.Outcome State Fault Refusal :=
  if !s.clk.resetN then .next s
  else
    let t := s.heldReset s.clk.pwrGood false
    .next { t with clk := { t.clk with railFault := s.clk.railFault
                                       lastCode := if s.clk.railFault then s.clk.lastCode else 0 } }

/-- RESET_N rises: BOOT_SRC is sampled, and t0 is now where PWR_GOOD is high. -/
def execResetN (bootSrc : Nat) (s : State) : Host.Outcome State Fault Refusal :=
  if s.clk.resetN then .next s
  else .next { s with clk := { s.clk with resetN := true, bootSrc := bootSrc % 4, t0 := s.clk.cycle } }

/-! ### The ROM phase (R404 to R410) -/

/-- A piece of the boot area: what the area holds, or what the phase found there the first time. -/
def State.bootRead (s : State) (k : Nat) (found : Bytes) : State :=
  if (Tab.find s.flash.boot k).isSome then s else s.setBoot k found

/-- The recovery state (R409), with the code it reports, 0 for the strap. -/
def State.enterRecovery (s : State) (code : Nat) : State :=
  { s with clk := { s.clk with recovery := true, bootState := 2, lastCode := if code = 0 then s.clk.lastCode else code } }

/-- The identity, its tag and certificate, the nonce of this boot, and MR0. -/
def State.makeIdentity (s : State) (mfgCert : Bytes) : State :=
  let s := s.setReg 16 G.IDENTITY_PUBKEY (.blob Config.identityKey)
  let s := s.setNum 16 G.IDENTITY_TAG (leNat ((Config.sha3 Config.identityKey).take 8))
  let s := s.setReg 16 G.MFG_CERT (.blob mfgCert)
  (s.extendMr 0 Config.rootHash).extendMr 0 Config.romVersion

/-- The nonce drawn at this boot (R410). -/
def State.makeNonce (s : State) : State :=
  let n := s.sec.boots + 1
  ({ s with sec := { s.sec with boots := n } }).setReg 16 G.BOOT_NONCE (.blob ((Config.bootNonce n ++ zeros 32).take 32))

/-- An image slot (0 A, 1 B) as the ROM reads it. -/
def State.slotImage (s : State) (k : Nat) : Bytes := s.boot (slotBlock k)

/-- The valid slot of higher IMAGE_SVN, slot A when equal (R406). -/
def State.firstSlot (s : State) : Option Nat :=
  match Man.valid (s.slotImage 0), Man.valid (s.slotImage 1) with
  | true, true => some (if Man.svn (s.slotImage 0) < Man.svn (s.slotImage 1) then 1 else 0)
  | true, false => some 0
  | false, true => some 1
  | false, false => none

/-- The slot loaded, with IMAGE_AUTH_FAIL where a component of the first choice differs. -/
def State.chooseSlot (s : State) : State × Option Nat :=
  match s.firstSlot with
  | none => (s, none)
  | some k =>
    if Man.componentsOk (s.slotImage k) then (s, some k)
    else
      let s := s.nodeEvent Code.IMAGE_AUTH_FAIL 0 0
      if Man.valid (s.slotImage (1 - k)) && Man.componentsOk (s.slotImage (1 - k)) then (s, some (1 - k)) else (s, none)

/-- The image of a slot running: IMAGE_SVN, IMAGE_SLOT and MR1. -/
def State.runImage (s : State) (k : Nat) : State :=
  let b := s.slotImage k
  ((s.setNum 16 G.IMAGE_SVN (Man.svn b)).setNum 16 G.IMAGE_SLOT k).extendMr 1 (Config.sha3 (Man.manifest b))

/-- Factory entries of the identity page: a U32 count, entries of 16 bytes, FACTORY_SIG (log entry 90). -/
def State.factoryEntries (s : State) : List Nat :=
  (upto (min 4096 (sliceNat (s.boot 12) 0 4))).map (fun k => sliceNat (s.boot 12) (4 + 16 * k) 16)

/-- FACTORY_SIG verifies over the entries and IDENTITY_TAG (R405). -/
def State.factorySigOk (s : State) : Bool :=
  let es := s.factoryEntries
  Config.mldsaVerify Config.manufacturingKey (es.flatMap (toLe 16) ++ toLe 8 (s.node G.IDENTITY_TAG))
    (slice (s.boot 12) (4 + 16 * es.length) sigBytes)

/-- A copy of the Repair Record is valid (R407). -/
def State.repairValid (s : State) (b : Bytes) : Bool :=
  sliceNat b 0 4 == RepR.magic
    && Config.mldsaVerify Config.identityKey (RepR.body b) (slice b (RepR.sigAt b) sigBytes)
    && (RepR.entries b).take (RepR.factory b) == s.factoryEntries
    && s.factorySigOk

/-- The record in force: the valid copy of higher GENERATION, else the factory entries alone (log entry 89). -/
def State.repairChoice (s : State) : State :=
  let a := s.boot 14
  let b := s.boot 15
  let put := fun (s : State) (r : Bytes) => ({ s with rel := { s.rel with record := r } }).extendMr 2 (Config.sha3 r)
  match s.repairValid a, s.repairValid b with
  | true, true => put s (if RepR.generation a < RepR.generation b then b else a)
  | true, false => put s a
  | false, true => put s b
  | false, false =>
    let es := s.factoryEntries
    put (s.nodeEvent Code.REPAIR_SIG_FAIL 0 0) (repairRecord 0 es.length es)

/-- FLOOR_KEY_HASH and DEBUG_POLICY of the owner record, where its signature verifies; a record that does not verify counts
as none (log entry 90). -/
def State.readOwner (s : State) : State :=
  let b := s.boot 13
  let s := if b.length ≥ 65 && Config.mldsaVerify Config.identityKey (b.take 65) (b.drop 65) then
      (s.setReg 16 G.FLOOR_KEY_HASH (.blob (b.take 64))).setNum 16 G.DEBUG_POLICY (sliceNat b 64 1)
    else s
  s.setNum 16 G.FLOOR_STATE (if s.unowned then 3 else 0)

/-- What the ROM does. It ends in the recovery state where the strap says so, the PUF fails or no image loads. -/
def State.romPhase (s : State) (p : PhaseIn) : State :=
  let s := (s.bootRead 0 (nth [] p.slots 0)).bootRead 6 (nth [] p.slots 1)
  let s := ((s.bootRead 14 (nth [] p.repair 0)).bootRead 15 (nth [] p.repair 1)).bootRead 12 (nth [] p.repair 2)
  let s := (s.bootRead 13 p.owner).makeNonce
  if !p.pufOk then s.enterRecovery Code.PUF_FAIL
  else
    let s := s.makeIdentity p.mfgCert
    if s.clk.bootSrc = 1 then s.enterRecovery 0
    else match s.chooseSlot with
      | (s, none) => s.enterRecovery Code.NO_VALID_IMAGE
      | (s, some k) => (s.runImage k).repairChoice.readOwner

/-! ### The REPAIR phase (R432) -/

namespace RepE
def kind (e : Nat) : Nat := bf e 7 0
def unit (e : Nat) : Nat := bf e 31 16
def failed (e : Nat) : Nat := bf e 47 32
def spare (e : Nat) : Nat := bf e 63 48
/-- FAILED and SPARE lie in the range of the KIND (log entry 86): FAILED is numbered within the node, a stack row by its
low 16 bits. -/
def inRange (e : Nat) : Bool :=
  let u := unit e
  let f := failed e
  let sp := spare e
  match kind e with
  | 1 => decide (u < 32) && f / 16 == u && sp == 0
  | 2 => decide (f < 64) && f / 16 == u && sp == 0
  | 3 => decide (f < 16) && decide (sp < 2)
  | 4 => decide (u < 8) && f / 32 == u && decide (sp < 2)
  | 5 => decide (u < 256) && decide (sp < 16)
  | 6 => decide (u < 10752) && decide (f < 1024) && decide (sp < 16)
  | 7 => decide (u < 8) && decide (f < 18) && decide (sp < 18) && f != sp
  | 8 => decide (f < 8) && (sp == 6 || sp == 7)
  | _ => false
/-- What the spare is, for the test that no two entries take the same. -/
def taken (e : Nat) : Nat × Nat × Nat := (kind e, (if kind e = 3 ∨ kind e = 8 then 0 else unit e), spare e)
end RepE

/-- A repair entry applied. -/
def State.applyRepair (s : State) (e : Nat) : State :=
  let u := RepE.unit e
  let f := RepE.failed e
  let sp := RepE.spare e
  let s := { s with rel := { s.rel with spares := s.rel.spares ++ [(RepE.kind e, u, f, sp)] } }
  match RepE.kind e with
  | 5 => { s with rel := { s.rel with remaps := s.rel.remaps ++ [(0, u, f)] } }
  | 6 => { s with rel := { s.rel with remaps := s.rel.remaps ++ [(if u < 7168 then (1, u, f) else (2, u - 7168, f))] } }
  | 7 => s.modPort u (fun p => { p with lanes := p.lanes.map (fun l => if l = f then sp else l), failed := p.failed ++ [f] })
  | 8 => { s with torus := { s.torus with logical := s.torus.logical.map (fun q => if q = f then sp else q) } }
  | _ => s

/-- The record in force applied in entry order; a bad entry is skipped. -/
def State.repairPhase (s : State) : State :=
  ((RepR.entries s.rel.record).foldl (fun (acc : State × List (Nat × Nat × Nat)) e =>
    if !RepE.inRange e || acc.2.contains (RepE.taken e) then
      ((acc.1.bumpNode G.REPAIR_SKIPPED 1).nodeEvent Code.REPAIR_ENTRY_BAD (RepE.kind e) (RepE.unit e), acc.2)
    else (acc.1.applyRepair e, acc.2 ++ [RepE.taken e])) (s, [])).1

/-! ### START_PHASE_END (R431, R433) -/

/-- The default tick period in µs. -/
def defaultPeriod : Nat := 500

/-- BOOT_TIMES with the end of a phase recorded; an end not reached reads 0. -/
def State.noteTime (s : State) (phase us : Nat) : State :=
  let b := s.blob 16 G.BOOT_TIMES
  let b := (b ++ zeros 28).take 28
  s.setReg 16 G.BOOT_TIMES (.blob (b.take (4 * phase) ++ toLe 4 us ++ b.drop (4 * phase + 4)))

/-- Phase 6: the image runs, and local ticks begin at TICK_NO 0. -/
def State.ready (s : State) : State :=
  let now := s.clk.cycle
  let s := { s with
    clk := { s.clk with bootState := 1 }
    tick := { s.tick with lastAt := now, nextAt := now + usCycles defaultPeriod }
    gaz := { s.gaz with announceAt := now } }
  s.setNum 16 G.TICK_NO 0

/-- START_PHASE_END: the phase in progress has done its work. Phases 0 and 3 leave nothing but memory at zero, as it stands
since reset; phase 4 likewise, its flash channel resets being rows of their own. -/
def execStartPhaseEnd (p : PhaseIn) (s : State) : Host.Outcome State Fault Refusal :=
  let n := s.node G.START_PHASE
  if !s.serves ∨ 6 ≤ n then .next s
  else
    let s := (if n = 1 then s.romPhase p else if n = 2 then s.repairPhase
      else if n = 5 then { s with clk := { s.clk with idleUj := p.idleUj } } else s)
    if s.clk.recovery then .next s
    else
      let s := (s.noteTime n p.atUs).setNum 16 G.START_PHASE (n + 1)
      .next (if n = 5 then s.ready else s)

/-! ### INSET_START (R437) -/

def State.woInsetStart (s : State) (i : Nat) (v : Bytes) : State × Nat :=
  let b := leNat v
  let t := s.inset i
  let floor := s.floorState
  if s.tooLate b then (s, Code.APPLY_LATE)
  else if s.lock = 0 ∨ s.lock = 2 then (s, Code.START_UNLOCKED)
  else if s.num i G.CKPT_STATE = 2 ∨ t.sheet.isSome ∨ s.num i G.SHEET_ENTRY = 0xFFFF ∨ floor = 0 ∨ floor = 2 then
    (s, Code.START_NOT_READY)
  else ((s.modInset i (fun t => { t with startAt := some b })).reportDone i (s.datum i) b, 0)

/-- INSET_START. -/
def execInsetStart (r : GazReq) (s : State) : Host.Outcome State Fault Refusal :=
  s.woRow r G.INSET_START State.woInsetStart

end Sys2Proof.Machine
end

