-- ==== Sys2Proof/Machine/Power.lean ====
section
/-!
DEFINITION. Power, clocks and signals (chapter 21): regulator telemetry, the core voltage loop with its emergency step,
temperature, the torus reference and the I3C address.
-/

namespace Sys2Proof.Machine

/-! ### Regulator telemetry (R419) -/

/-- One record of RAIL_TELEMETRY. -/
def railRecord (mv ma : Nat) (mc : Int) (status : Nat) : Bytes :=
  toLe 4 mv ++ toLe 4 ma ++ toLe 4 (wrapInt 32 mc) ++ toLe 2 status ++ zeros 2

/-- RAIL_TELEMETRY with `b` at `o`. -/
def State.setTelemetry (s : State) (o : Nat) (b : Bytes) : State :=
  let t := (s.blob 16 G.RAIL_TELEMETRY ++ zeros 96).take 96
  s.setReg 16 G.RAIL_TELEMETRY (.blob (t.take o ++ b ++ t.drop (o + b.length)))

/-- A regulator whose transfers fail (VR_LINK_FAIL). -/
def State.railLost (s : State) (k : Nat) : State :=
  ({ s with clk := { s.clk with vrFails := k :: s.clk.vrFails.filter (· != k) } }).nodeEvent Code.VR_LINK_FAIL k 0

/-- STATUS_WORD of a rail: any bit set is a fault (log entry 91), recorded, then cleared at the regulator. -/
def State.railStatus (s : State) (k status : Nat) : State :=
  let s := { s with clk := { s.clk with vrFails := s.clk.vrFails.filter (· != k) } }
  if status = 0 then s else (s.nodeEvent Code.RAIL_FAULT k status).emit (.regulator k 0x03)

/-- The rails in turn; `whole` says that the measurements are read too. A forced failure (detector 0x102) takes the first
transfer. -/
def State.readRails (s : State) (rails : RailIn) (whole : Bool) : State :=
  let (s, skip) := match s.timedEntry 0x102 0 with
    | some k => (s.fireTimed k 0x102 Code.VR_LINK_FAIL 0, 1)
    | none => (s, 0)
  ((mapIdxFrom (fun k r => (k, r)) 0 (rails.take 6)).drop skip).foldl (fun (s : State) x =>
    match x.2 with
    | none => s.railLost x.1
    | some (mv, ma, mc, status) =>
      let s := if whole then s.setTelemetry (16 * x.1) (railRecord mv ma mc status)
        else s.setTelemetry (16 * x.1 + 12) (toLe 2 status)
      s.railStatus x.1 status) s

/-- VR_POLL. -/
def execVrPoll (rails : RailIn) (s : State) : Host.Outcome State Fault Refusal :=
  if s.serves then .next (s.readRails rails true) else .next s

/-- VR_ALERT: STATUS_WORD is read at once. -/
def execVrAlert (rails : RailIn) (s : State) : Host.Outcome State Fault Refusal :=
  if s.serves then .next (s.readRails rails false) else .next s

/-! ### Core voltage (R420, R421) -/

def vcoreStep : Nat := 5
def vcoreTop : Nat := 820
def vcoreBottom : Nat := 620

/-- A new core setpoint, which does not move while the VDD_CORE regulator cannot be reached. -/
def State.setSetpoint (s : State) (mv : Nat) : State :=
  let c := s.clk
  if mv = c.setpointMv || c.vrFails.contains 0 then s
  else
    ({ s with clk := { c with setpointMv := mv, setpointAt := c.cycle
                              setpointSum := c.setpointSum + c.setpointMv * (c.cycle - c.setpointAt) } }).emit (.railSet mv)

/-- A monitor is below the floor. -/
def State.marginLow (s : State) (marginPs : Nat) : Bool := decide (marginPs < s.node G.VMARGIN_FLOOR_PS)

/-- VCORE_EMERGENCY: one step at once, in every mode and under a pin. -/
def execVcoreEmergency (marginPs : Nat) (s : State) : Host.Outcome State Fault Refusal :=
  if !s.serves || !s.marginLow marginPs then .next s
  else
    let s := s.bumpNode G.VCORE_EMERGENCY 1
    let s := { s with clk := { s.clk with emergencyAt := some s.tickNo, quietTicks := 0 } }
    .next (s.setSetpoint (min vcoreTop (s.clk.setpointMv + vcoreStep)))

/-- The setpoint is at 0.82 V, or at VCORE_MAX under BOUNDED. -/
def State.vcoreAtTop (s : State) : Bool :=
  decide (vcoreTop ≤ s.clk.setpointMv) || (s.node G.VCORE_OWNER == 2 && decide (s.node G.VCORE_MAX ≤ s.clk.setpointMv))

/-- VCORE_MARGIN: a monitor has stayed below the floor for 1 µs at the top setpoint. -/
def execVcoreMargin (marginPs : Nat) (s : State) : Host.Outcome State Fault Refusal :=
  if s.serves && s.marginLow marginPs && s.vcoreAtTop then .next ((s.nodeEvent Code.VCORE_MARGIN 0 0).nodeFault)
  else .next s

/-- The decision of the loop at a boundary (R420): the setpoint it chooses, and the ticks in a row above the target. -/
def vcoreDecision (target marginPs mv quiet : Nat) : Nat × Nat :=
  if marginPs < target then (min vcoreTop (mv + vcoreStep), 0)
  else if target + 15 < marginPs then
    if 15 ≤ quiet then (max vcoreBottom (mv - vcoreStep), 0) else (mv, quiet + 1)
  else (mv, 0)

/-- What the owner setting, the bounds and the pin leave of a decision. -/
def State.vcorePolicy (s : State) (choice : Nat) : Nat :=
  let pin := s.node G.VCORE_PIN
  let own := s.node G.VCORE_OWNER
  if pin ≠ 0 then pin
  else if own = 1 then s.node G.VCORE_SET
  else if own = 2 then max (s.node G.VCORE_MIN) (min (s.node G.VCORE_MAX) choice)
  else choice

/-- The core voltage loop at the boundary that closes a tick. An emergency step holds for 16 ticks; then the setpoint
returns one step per boundary (log entry 92). -/
def State.vcoreBoundary (s : State) (marginPs tickNo : Nat) : State :=
  let mv := s.clk.setpointMv
  let (choice, quiet) := vcoreDecision (s.node G.VMARGIN_TARGET_PS) marginPs mv s.clk.quietTicks
  let kept := s.vcorePolicy choice
  match s.clk.emergencyAt with
  | some t =>
    if tickNo < t + 16 then s
    else
      let next := if mv < kept then min kept (mv + vcoreStep) else max kept (mv - vcoreStep)
      let s := if next = kept then { s with clk := { s.clk with emergencyAt := none, quietTicks := quiet } } else s
      s.setSetpoint next
  | none =>
    let s := { s with clk := { s.clk with quietTicks := quiet } }
    let s := s.bumpNode G.VCORE_POLICY_HOLD (if kept = choice then 0 else 1)
    s.setSetpoint kept

/-! ### Temperature (R428, R429) -/

/-- A sensor crosses its threshold upward. -/
def State.warnOnce (s : State) (k : Nat) (t limit : Int) : State :=
  let was := nth false s.clk.thermWarn k
  let now := decide (limit ≤ t)
  let s := { s with clk := { s.clk with thermWarn := modNth (fun _ => now) s.clk.thermWarn k } }
  if now && !was then s.nodeEvent Code.THERMAL_WARN k 0 else s

/-- THERMAL_SAMPLE: temperatures in 1/16 °C, die first. Detector 0x103 reports the die at THERMAL_WARN_C. -/
def execThermalSample (temps : TempIn) (s : State) : Host.Outcome State Fault Refusal :=
  if !s.serves then .next s else
  let warn : Int := ((16 * s.node G.THERMAL_WARN_C : Nat) : Int)
  let ts := (temps ++ List.replicate 9 (0 : Int)).take 9
  let forced := s.timedEntry 0x103 0
  let ts := if forced.isSome then warn :: ts.drop 1 else ts
  let s := s.setReg 16 G.TEMP_MAX (.blob (ts.flatMap (fun t => toLe 2 (wrapInt 16 t))))
  let s := match forced with
    | some k => s.fireTimed k 0x103 Code.THERMAL_WARN 0
    | none => s.warnOnce 0 (nth 0 ts 0) warn
  let s := (rangeFrom 1 8).foldl (fun (s : State) k => s.warnOnce k (nth 0 ts k) 1440) s
  let trip := decide (1760 ≤ nth 0 ts 0) || (ts.drop 1).any (fun t => decide (1600 ≤ t))
  if trip && !s.clk.thermTripN then
    let s := { s with clk := { s.clk with thermTripN := true } }
    .next (((s.nodeEvent Code.THERMAL_TRIP 0 0).nodeFault).emit (.thermTrip true))
  else .next s

/-! ### The torus reference (R423) -/

/-- The node profile has been applied (log entry 93). -/
def State.profiled (s : State) : Bool := s.flash.rebuilt != 0

/-- Every torus port held down, or trained again. -/
def State.holdPorts (s : State) : State :=
  (upto nPorts).foldl (fun s k => s.modPort k (fun p => { p with train := 0, stateAt := s.clk.cycle })) s
def State.trainPorts (s : State) : State :=
  (upto nPorts).foldl (fun s k => s.modPort k (fun p => p.restart s.clk.cycle 0)) s

/-- REFCLK_CHECK: deviation of the torus reference and its variation in the measurement, and the CXL deviation, in ppb. -/
def execRefclkCheck (ppb : Int) (spreadPpb : Nat) (cxlPpb : Int) (s : State) : Host.Outcome State Fault Refusal :=
  if !s.alive then .next s else
  let s := s.setReg 16 G.REF_STATUS (.blob (toLe 4 (wrapInt 32 ppb) ++ toLe 4 (wrapInt 32 cxlPpb)))
  let bad := decide (100000 < ppb.natAbs) || decide (20000 < spreadPpb)
  if bad then
    let new := !s.clk.refBad
    let s := { s with clk := { s.clk with refBad := true, refGoodMs := 0 } }
    .next (if new then s.holdPorts.nodeEvent Code.REFCLK_OUT 0 0 else s)
  else if s.clk.refBad then
    let n := s.clk.refGoodMs + 1
    if n < 100 then .next { s with clk := { s.clk with refGoodMs := n } }
    else
      let s := { s with clk := { s.clk with refBad := false, refGoodMs := 0 } }
      .next (if s.profiled then s.trainPorts else s)
  else .next s

/-! ### I3C (R425) -/

/-- DYNAMIC_ADDRESS_ASSIGNMENT. -/
def execDynamicAddressAssignment (addr : Nat) (s : State) : Host.Outcome State Fault Refusal :=
  if addr ≥ 128 then .fault .noSuchInstance
  else if s.alive && s.node G.I3C_ENABLE == 1 then .next { s with clk := { s.clk with dynAddr := some addr } }
  else .next s

end Sys2Proof.Machine
end

