-- ==== Sys2Proof/Machine/Traffic.lean ====
section
/-!
DEFINITION. The traffic manager's own events (chapter 14): shaper releases, egress selection by gate class and deficit round
robin, time gates, and queue samples; and the field port's frames (R364).
-/

namespace Sys2Proof.Machine

/-! ### Field port (R364) -/

/-- Bytes as a number, most significant first. -/
def beNat (b : Bytes) : Nat := leNat b.reverse

/-- NODE_MAC: 02-57-4B, then the low 24 bits of IDENTITY_TAG. -/
def State.mac (s : State) : Nat := 0x02574B000000 + s.node G.IDENTITY_TAG % 2 ^ 24

def broadcastMac : Nat := 0xFFFFFFFFFFFF

/-- Bytes of a frame on the wire from its payload: header, padding to 46 and FCS. -/
def frameBytes (payload : Nat) : Nat := 18 + max 46 payload

/-- A received frame that the field port has released to the server: its source and Gazetteer frame. -/
def State.serveFrame (s : State) (src : Nat) (p : Bytes) : State :=
  let h := sliceNat p 0 32
  s.queueReq ⟨.field src, h, (p.drop 32).take (if 32 + GazH.len h ≤ p.length then GazH.len h else p.length)⟩

/-- FIELD_FRAME: one frame without its FCS, and whether the FCS holds. -/
def execFieldFrame (frame : Bytes) (fcsOk : Bool) (s : State) : Host.Outcome State Fault Refusal :=
  if !s.serves then .next s else
  let s := s.countBytes 0xC100 0 16 9 0 (frame.length + 4)
  let dst := beNat (slice frame 0 6)
  let src := beNat (slice frame 6 6)
  let p := frame.drop 14
  let h := sliceNat p 0 32
  let rack := s.node G.RACK_CONTROLLER_MAC
  if !fcsOk ∨ frame.length < 14 ∨ (dst ≠ s.mac ∧ dst ≠ broadcastMac) ∨ beNat (slice frame 12 2) ≠ s.node G.FIELD_ETHERTYPE then
    .next (s.bumpNode G.FIELD_DROPPED 1)
  else if dst = broadcastMac ∧ !(GazH.op h == 1 && decide (0x1000 ≤ GazH.index h ∧ GazH.index h ≤ 0x10FF)) then
    .next (s.bumpNode G.FIELD_DROPPED 1)
  else if rack ≠ 0 ∧ src ≠ rack % 2 ^ 48 then .next (s.bumpNode G.FIELD_REFUSED 1)
  else
    let f := s.flow 1056
    let wait := fun (s : State) => s.setFlow 1056 { s.flow 1056 with
      queue := (s.flow 1056).queue ++ [⟨1, s.clk.cycle, false, false, .fieldFrame src p⟩] }
    if !f.queue.isEmpty then .next (wait s)
    else match s.release 1056 1 with
      | some s => .next (s.serveFrame src p)
      | none => .next (wait s)

/-- ANNOUNCE: a broadcast once per second while NODE_ID has not been applied, with MAC and ordering code as data. Its TYPE
names no entry and is a free value. -/
def execAnnounce (s : State) : Host.Outcome State Fault Refusal :=
  if s.node G.START_PHASE < 6 ∨ (Tab.find s.gaz.regs (rkey 16 G.NODE_ID)).isSome ∨ s.clk.cycle < s.gaz.announceAt then .next s
  else
    let (ty, s) := s.draw 8
    let data := toLe 8 s.mac ++ Config.orderingCode
    let h := 1 + 8 * 2 ^ 8 + 2 ^ 13 + 2 ^ 14 + ty * 2 ^ 56 + data.length % 2 ^ 16 * 2 ^ 112
    let s := { s with gaz := { s.gaz with announceAt := s.clk.cycle + 2400000000 } }
    .next (s.enqueue 1057 1 (.fieldFrame broadcastMac (toLe 32 h ++ data)))

/-! ### Shaper release (R309) -/

/-- The first item of a list that satisfies `p`, changed by `f`. -/
def modFirst {α : Type} (p : α → Bool) (f : α → α) : List α → List α
  | [] => []
  | a :: as => if p a then f a :: as else a :: modFirst p f as

/-- SHAPER_RELEASE: the item of a flow that has waited longest goes once the buckets hold its size. -/
def execShaperRelease (flow : Nat) (s : State) : Host.Outcome State Fault Refusal :=
  if flow ≥ 1048576 then .fault .noSuchInstance
  else if 4096 ≤ flow then
    let sel := fun (m : SubMark) => m.flow == flow && !m.released
    if s.host.subs.any sel then
      match s.release flow 1 with
      | some s => .next (s.setSubs (modFirst sel (fun m => { m with released := true }) s.host.subs))
      | none => .next s
    else .next s
  else if 1024 ≤ flow ∧ flow < 1040 then
    match s.host.waiting.find? (fun h => h.inset == flow - 1024) with
    | none => .next s
    | some h => match s.release flow 1 with
      | some s => .next ({ s with host := { s.host with waiting := s.host.waiting.erase h } }.arrive h)
      | none => .next s
  else
    match (s.flow flow).queue.find? (fun it => !it.released) with
    | none => .next s
    | some it => match s.release flow it.units with
      | none => .next s
      | some s =>
        match flow == 1056, it.what with
        | true, .fieldFrame src p =>
          .next ((s.setFlow flow { s.flow flow with queue := (s.flow flow).queue.drop 1 }).serveFrame src p)
        | _, _ => .next (s.setFlow flow { s.flow flow with
            queue := modFirst (fun x => !x.released) (fun x => { x with released := true }) (s.flow flow).queue })

/-! ### Time gates (R314 to R316) -/

namespace GateL
def count (b : Bytes) : Nat := sliceNat b 4 2
def port (b : Bytes) : Nat := bf (sliceNat b 6 2) 3 0
def takeover (b : Bytes) : Nat := sliceNat b 8 8
/-- Entries: DURATION_NS and GATE_MASK. -/
def entries (b : Bytes) : List (Nat × Nat) :=
  (upto (count b)).map (fun k => let e := sliceNat b (24 + 8 * k) 8; (bf e 31 0, bf e 35 32))
def total (b : Bytes) : Nat := ((entries b).map (·.1)).sum
end GateL

def State.gate (s : State) (p : Nat) : Gate := s.tm.gates.get Gate.reset p
def State.setGate (s : State) (p : Nat) (g : Gate) : State := { s with tm := { s.tm with gates := s.tm.gates.set p g } }

/-- Time since the boundary in thirds of a picosecond: an FCLK cycle is 1,250 of them. -/
def State.sinceTick (s : State) : Nat := (s.clk.cycle - s.tick.lastAt) * 1250

/-- A class is open in an entry. -/
def gateOpen (c : Nat) (e : Nat × Nat) : Bool := c == 0 || bit e.2 c

/-- Length in ns of the run of entries with a class open at the head of a list. -/
def openRun (c : Nat) (es : List (Nat × Nat)) : Nat := ((es.takeWhile (gateOpen c)).map (·.1)).sum

/-- Longest open run of a class in a list. -/
def longestRun (c : Nat) : List (Nat × Nat) → Nat
  | [] => 0
  | e :: es => max (openRun c (e :: es)) (longestRun c es)

/-- Entry at which the open run that holds entry `k` begins. -/
def runStart (c : Nat) (es : List (Nat × Nat)) : Nat → Nat
  | 0 => 0
  | k + 1 => if gateOpen c (nth (0, 0) es k) then runStart c es k else k + 1

/-- What a gate lets an item of transmit time `need` (thirds of a ps) do. -/
inductive GateSays where
  | closed | start | overrun | defer
deriving DecidableEq, Repr

/-- R315. An item longer than every open run starts only at the beginning of a run: one that it was waiting for, and in
which nothing has started. -/
def State.gateSays (s : State) (g : Gate) (c need arrived : Nat) : GateSays :=
  let es := GateL.entries g.cur
  if es.isEmpty ∨ c = 0 then .start else
  if !gateOpen c (nth (0, 0) es g.entry) then .closed else
  let ends := ((es.take (g.entry + 1)).map (·.1)).sum
  let left := 3000 * ends - s.sinceTick + 3000 * openRun c (es.drop (g.entry + 1))
  if need ≤ left then .start
  else if 3000 * longestRun c es < need then
    let began := s.tick.lastAt + nsCycles ((es.take (runStart c es g.entry)).map (·.1)).sum
    if arrived ≤ began ∧ g.busyTo ≤ began then .overrun else .defer
  else .defer

/-- GATE_ENTRY: the running entry's DURATION_NS has passed and the next entry begins. -/
def execGateEntry (port : Nat) (s : State) : Host.Outcome State Fault Refusal :=
  if port ≥ 12 then .fault .noSuchInstance else
  let g := s.gate port
  let es := GateL.entries g.cur
  let ends := ((es.take (g.entry + 1)).map (·.1)).sum
  if g.entry + 1 < es.length ∧ 3000 * ends ≤ s.sinceTick then
    .next (s.setGate port { g with entry := g.entry + 1, startAt := s.clk.cycle })
  else .next s

/-! ### Egress selection (R312, R313) -/

/-- A queue as deficit round robin sees it: its number, WEIGHT, DEFICIT and the size of its head item. -/
structure DrrQ where
  id      : Nat
  weight  : Nat
  deficit : Nat
  size    : Nat
deriving DecidableEq, Repr

/-- Visits a queue needs before its head item goes. -/
def DrrQ.visits (quantum : Nat) (q : DrrQ) : Nat := max 1 (ceilDiv (q.size - q.deficit) (max 1 (q.weight * quantum)))

/-- The queue that sends next, from the one being visited (`turn` is its number plus 1), and every queue's deficit after
the item: queues up to the winner have had its number of visits, the others one fewer. -/
def drrPick (quantum turn : Nat) (qs : List DrrQ) : Option (Nat × List (Nat × Nat)) :=
  match qs.find? (fun q => q.id + 1 == turn && decide (q.size ≤ q.deficit)) with
  | some q => some (q.id, [(q.id, q.deficit - q.size)])
  | none =>
    let order := qs.filter (fun q => decide (turn ≤ q.id)) ++ qs.filter (fun q => decide (q.id < turn))
    match order with
    | [] => none
    | q0 :: rest =>
      let m := rest.foldl (fun m q => min m (q.visits quantum)) (q0.visits quantum)
      match order.findIdx? (fun q => q.visits quantum == m) with
      | none => none
      | some w =>
        let after := mapIdxFrom (fun k q =>
          let d := q.deficit + (if k ≤ w then m else m - 1) * (max 1 (q.weight * quantum))
          (q.id, if k = w then d - q.size else d)) 0 order
        some ((nth q0 order w).id, after)

/-- Transmit time of an item on a port node, in thirds of a picosecond (Table 14-1). -/
def sendTime (port : Nat) (it : Item) : Nat :=
  if port = 11 then (match it.what with
    | .fieldFrame _ b => frameBytes b.length * 2400000
    | _ => 0)
  else if port = 9 then it.units * 3000
  else it.units * 480

/-- The link lets a head item start: an ACTIVE port, a credit and replay room (R285, R287, R303). -/
def State.linkReady (s : State) (it : Item) : Bool :=
  match it.what with
  | .message p tag vc _ _ =>
    let q := s.port (s.physical p)
    q.train == 6 && decide (seqDist q.txAcked q.txSeq < 1024)
      && (if tag = 16 then decide (0 < q.mgmtCred) else decide (0 < q.credits.get 0 (8 * tag + vc)))
  | _ => true

/-- An item leaves on its port. -/
def State.sendItem (s : State) (flow : Nat) (it : Item) : State :=
  let i := (Dict.flowInset s.gaz.regs flow).getD 16
  match it.what with
  | .message p tag vc hdr payload =>
    let n := flitsOf payload.length
    let phys := s.physical p
    let q := s.port phys
    let q := { q with txSeq := (q.txSeq + n) % 4096
                      replay := q.replay ++ [((q.txSeq + n - 1) % 4096, (⟨tag, vc, hdr, payload⟩ : TxMsg))] }
    let q := if tag = 16 then { q with mgmtCred := q.mgmtCred - ((n : Nat) : Int) }
      else { q with credits := q.credits.upd 0 (· - ((n : Nat) : Int)) (8 * tag + vc) }
    ((s.setPort phys q).emit it.what).sentMsg tag hdr
  | .hostWrite _ b => ((s.countBytes 0x9100 0 i 8 0 b.length).charge i 9 b.length).emit it.what
  | .fieldFrame _ b => (s.countBytes 0xC100 0 16 9 0 (frameBytes b.length)).emit it.what
  | o => s.emit o

/-- The item leaves its queue: a queue that is now empty loses its deficit (R313). -/
def State.popItem (s : State) (flow deficit : Nat) : State :=
  let f := s.flow flow
  let rest := f.queue.drop 1
  let lost := if rest.isEmpty then deficit else 0
  (s.setFlow flow { f with queue := rest, deficit := deficit - lost }).bumpFlow flow G.CREDIT_LOST lost

/-- A service's deficit and turn after an item of it; a service with no backlogged flow loses the deficit. -/
def State.putService (s : State) (sv deficit turn : Nat) : State :=
  let v := s.service sv
  let busy := s.tm.flows.any (fun e => FlowW.service e.2.word == sv && !e.2.queue.isEmpty)
  let s := s.setService sv { v with deficit := if busy then deficit else 0, turn := turn }
  if !busy ∧ SvcW.owner v.word < 16 then s.bump (SvcW.owner v.word) G.CREDIT_LOST deficit else s

/-- A head item that may start: gate class, service, flow, the item and what its gate says. -/
structure Cand where
  cls  : Nat
  svc  : Nat
  flow : Nat
  item : Item
  gate : GateSays
deriving DecidableEq, Repr

/-- Head items of a port's flows that are released and that the link lets start. -/
def State.cands (s : State) (port : Nat) : List Cand :=
  s.tm.flows.filterMap (fun e =>
    if flowPort e.1 ≠ some port then none else
    match e.2.queue with
    | [] => none
    | it :: _ =>
      if !it.released || !s.linkReady it then none else
      let sv := FlowW.service e.2.word
      let c := SvcW.gateClass (s.service sv).word
      some ⟨c, sv, e.1, it, s.gateSays (s.gate port) c (sendTime port it) it.at_⟩)

def Cand.go (c : Cand) : Bool := c.gate == .start || c.gate == .overrun

/-- EGRESS_SELECT: the port's next item starts, or none can. A port that is still transmitting selects nothing. -/
def execEgressSelect (port : Nat) (s : State) : Host.Outcome State Fault Refusal :=
  if port ≥ 12 then .fault .noSuchInstance else
  let g := s.gate port
  if s.clk.cycle < g.busyTo then .next s else
  let all := s.cands port
  let late := (all.filter (fun c => c.gate == .defer && !g.deferred.contains c.flow)).map (·.flow)
  let s := (s.setGate port { g with deferred := g.deferred ++ late }).bumpNode G.GATE_DEFER late.length
  let ready := all.filter Cand.go
  match ready with
  | [] => .next s
  | c0 :: cs =>
    let cls := cs.foldl (fun m c => min m c.cls) c0.cls
    let ready := ready.filter (fun c => c.cls == cls)
    let quantum := s.node G.TM_QUANTUM
    let inner := (nub (ready.map (·.svc))).filterMap (fun sv =>
      (drrPick quantum (s.service sv).turn ((ready.filter (fun c => c.svc == sv)).map (fun c =>
        let f := s.flow c.flow
        (⟨c.flow, FlowW.weight f.word, f.deficit, c.item.units⟩ : DrrQ)))).bind (fun r =>
          (ready.find? (fun c => c.flow == r.1)).map (fun c => (sv, c, r.2))))
    let svcs := sortBy (fun (a b : DrrQ) => decide (a.id ≤ b.id)) (inner.map (fun x =>
      let v := s.service x.1
      (⟨x.1, SvcW.weight v.word, v.deficit, x.2.1.item.units⟩ : DrrQ)))
    match drrPick quantum ((s.gate port).turn.get 0 cls) svcs with
    | none => .next s
    | some (sv, sd) =>
      match inner.find? (fun x => x.1 == sv) with
      | none => .next s
      | some (_, c, fd) =>
        let s := sd.foldl (fun s d => s.setService d.1 { s.service d.1 with deficit := d.2 }) s
        let s := fd.foldl (fun s d => s.setFlow d.1 { s.flow d.1 with deficit := d.2 }) s
        let s := s.popItem c.flow (s.flow c.flow).deficit
        let s := s.putService sv (s.service sv).deficit (c.flow + 1)
        let s := if c.gate = .overrun then s.bumpNode G.GATE_OVERRUN 1 else s
        let g := s.gate port
        let s := s.setGate port { g with
          busyTo := s.clk.cycle + ceilDiv (sendTime port c.item) 1250
          deferred := g.deferred.filter (· != c.flow), turn := g.turn.set cls (sv + 1) }
        .next (s.sendItem c.flow c.item)

/-! ### Samples (R317) -/

/-- Depth of a flow in units and the arrival of its head item. -/
def State.flowDepth (s : State) (f : Nat) : Nat × Option Nat :=
  if 4096 ≤ f then
    let l := s.host.subs.filter (fun m => m.flow == f && decide (m.colour < 2))
    (l.length, l.head?.map (·.at_))
  else if 1024 ≤ f ∧ f < 1040 then
    let l := s.host.waiting.filter (fun h => h.inset == f - 1024)
    (l.length, l.head?.map (·.at_))
  else
    let l := (s.flow f).queue
    ((l.map (·.units)).sum, l.head?.map (·.at_))

/-- The earlier of two arrivals. -/
def earlier : Option Nat → Option Nat → Option Nat
  | some a, some b => some (min a b)
  | none, b => b
  | a, none => a

def serviceBit : Nat := 0x80000000

/-- Flows of a sampled queue: the flow itself, or every flow of the service. -/
def State.queueFlows (s : State) (q : Nat) : List Nat :=
  if serviceBit ≤ q then (s.tm.flows.filter (fun e => FlowW.service e.2.word == q - serviceBit)).map (·.1) else [q]

def State.queueDepth (s : State) (q : Nat) : Nat × Option Nat :=
  (s.queueFlows q).foldl (fun acc f => let d := s.flowDepth f; (acc.1 + d.1, earlier acc.2 d.2)) (0, none)

/-- Queues an Inset samples: its services in use, then the flows of SAMPLE_SET. -/
def State.sampled (s : State) (i : Nat) : List Nat :=
  let base := s.num i G.SERVICE_Q_BASE
  ((s.tm.services.keys.filter (fun k => decide (base ≤ k) && decide (k < base + s.num i G.SERVICE_Q_COUNT))).map (serviceBit + ·))
    ++ (chunks 4 4096 (s.blob i G.SAMPLE_SET)).map leNat

def accKey (i q : Nat) : Nat := i * 2 ^ 32 + q

/-- One depth sample of a queue. -/
def State.sampleDepth (s : State) (i q : Nat) : State :=
  let (d, head) := s.queueDepth q
  let a := s.tm.acc.get ⟨0, 0, 0, 0, 0, 0⟩ (accKey i q)
  let age := head.map (fun t => s.clk.cycle - t)
  let a := { a with n := a.n + 1, sum := a.sum + d, max := max a.max d
                    dn := a.dn + (if age.isSome then 1 else 0), dsum := a.dsum + age.getD 0, dmax := max a.dmax (age.getD 0) }
  { s with tm := { s.tm with acc := s.tm.acc.set (accKey i q) a } }

/-- DEPTH_SAMPLE: every 1,024 FCLK cycles. -/
def execDepthSample (s : State) : Host.Outcome State Fault Refusal :=
  if s.clk.cycle < s.tm.depthAt + 1024 then .next s
  else
    let s := { s with tm := { s.tm with depthAt := s.clk.cycle } }
    .next ((upto 16).foldl (fun s i => (s.sampled i).foldl (fun s q => s.sampleDepth i q) s) s)

/-- The record of Table 14-6. -/
def State.sampleRec (s : State) (i q : Nat) : Nat :=
  let a := s.tm.acc.get ⟨0, 0, 0, 0, 0, 0⟩ (accKey i q)
  let count := fun (t : Tab Nat) => sat 16 (((s.queueFlows q).map (t.get 0)).sum)
  q % 2 ^ 32 + sat 32 a.max * 2 ^ 32 + sat 32 (a.sum / max 1 a.n) * 2 ^ 64 + sat 32 (a.dmax * 5 / 12) * 2 ^ 96
    + sat 32 (a.dsum * 5 / (12 * max 1 a.dn)) * 2 ^ 128 + s.tickNo % 2 ^ 64 * 2 ^ 160
    + count s.tm.red * 2 ^ 224 + count s.tm.yellow * 2 ^ 240

/-- TM_SAMPLE: every SAMPLE_INTERVAL an Inset's records are written to its ring, and a new interval begins. -/
def execTmSample (inset : Nat) (s : State) : Host.Outcome State Fault Refusal :=
  if inset ≥ 16 then .fault .noSuchInstance
  else if s.clk.cycle < s.tm.sampleAt.get 0 inset + usCycles (s.num inset G.SAMPLE_INTERVAL) then .next s
  else
    let qs := s.sampled inset
    let size := s.num inset G.SAMPLE_RING_BYTES / 32
    let base := s.num inset G.SAMPLE_RING_BASE
    let s := if size = 0 then s else qs.foldl (fun (s : State) q =>
      let n := s.tm.records.get 0 inset
      let s := if size ≤ n then s.bump inset G.RING_OVERWRITE 1 else s
      let s := s.storeBytes (base + 32 * (n % size)) (toLe 32 (s.sampleRec inset q))
      { s with tm := { s.tm with records := s.tm.records.set inset (n + 1) } }) s
    let mine := fun (f : Nat) => Dict.flowInset s.gaz.regs f == some inset
    .next { s with tm := { s.tm with
      acc := s.tm.acc.keep (fun k => k / 2 ^ 32 != inset)
      red := s.tm.red.keep (fun f => !mine f)
      yellow := s.tm.yellow.keep (fun f => !mine f)
      sampleAt := s.tm.sampleAt.set inset s.clk.cycle } }

end Sys2Proof.Machine
end

