-- ==== Sys2Proof/Machine/CheckNet.lean ====
section
/-!
DEFINITION. CHECK of chapters 12 to 14: Tables 12-10, 13-12 and 14-7 over Scribe and torus commands, the flash sequence
table, the torus tables, flow edits, services, quotas and gate lists.
-/

namespace Sys2Proof.Machine

/-! ### Scribe commands (Table 12-10) -/

/-- Lowest set bit of a mask of `n` bits. -/
def lowest (n m : Nat) : Nat := ((setBits n 0 m).head?).getD 0

/-- Table 12-10, row 1 (R264, Table 12-8). -/
def LoadCmd.scribeParamOk (c : LoadCmd) : Bool :=
  let p := c.p
  let bare := [bf p 63 32, bf p 127 64, bf p 191 128, bf p 255 192, bf p 319 256].all (· == 0)
  decide (1 ≤ c.op) && decide (c.op ≤ 4) && CmdW.paramLen c.w == 64 && CmdW.cubeGroups c.w == 0
    && CmdW.stagePages c.w == 0 && c.cmd.index == lowest 32 (ScrP.chMask p)
    && (if c.op ≤ 2 then
          ScrP.windowNs p == 0 && (c.op == 2 || !ScrP.srcMode p) && decide (1 ≤ ScrP.planeMax p)
            && decide (1 ≤ ScrP.lenMax p) && decide (ScrP.lenMax p ≤ 4096) && decide (1 ≤ ScrP.lists p)
            && decide (ScrP.lists p ≤ 4096) && ScrP.listStride p % 8 == 0 && (c.op == 2 || ScrP.slot p % 64 == 0)
        else decide (1 ≤ ScrP.windowNs p) && bare)

/-- Table 12-10, row 2 (R442). -/
def LoadCmd.scribeOperandOk (c : LoadCmd) : Bool :=
  let p := c.p
  decide (2 < c.op) || (ScrP.listAddr p % 8 == 0 && ScrP.dataAddr p % 64 == 0
    && (ScrP.listBytes p == 0 || c.inIn (ScrP.listAddr p) (ScrP.listBytes p))
    && (if c.op = 1 then c.inOut (ScrP.dataAddr p) (ScrP.bitmapAt p + ScrP.bitmapBytes p - ScrP.dataAddr p)
        else ScrP.srcBytes p == 0 || c.inIn (ScrP.dataAddr p) (ScrP.srcBytes p)))

/-- R262: a consumer of a gather covers its bitmap. -/
def gatherConsumers (cs : List LoadCmd) : Option Fail :=
  cmdRow cs Code.SCRIBE_OPERAND (fun c => cs.any (fun g => g.engine == 9 && g.op == 1
    && c.cmd.inputs.any (fun x => Desc.producer x == g.idx)
    && !(c.takesFrom (ScrP.bitmapAt g.p) (ScrP.bitmapBytes g.p) g.idx)))

/-- CYC + D of a Scribe command (R265) on the channels and dies as they stand. -/
def LoadCmd.scribeCycles (s : State) (c : LoadCmd) : Nat :=
  let p := c.p
  let chs := setBits 32 0 (ScrP.chMask p)
  let rate := chs.foldl (fun m ch => min m (modeRate (s.flashMode ch))) 3600
  let nd := chs.foldl (fun m ch => max m (popCount 16 (s.diesOf ch))) 0
  let g := s.geo c.cmd.index
  let pm := ScrP.planeMax p
  let ra := ScrP.retryAllow p
  let tx := (ScrP.lenMax p + 64) * 1000
  let ty := 16448 * 1000
  -- times in ns × rate
  let gather := max ((pm + ra) * g.tRead * rate + tx) (4 * nd * pm * tx)
  let write := max ((pm * (g.tRead + g.tProgPslc) + ra * g.tRead) * rate + 2 * ty) (8 * nd * pm * ty)
  if c.op = 1 then
    64 + ceilDiv (12 * gather) (5 * rate) + ceilDiv (ScrP.count p * ScrP.slot p + ScrP.bitmapBytes p) 128
  else if c.op = 2 then 64 + ceilDiv (12 * write) (5 * rate) + 1 + ceilDiv (4 * ScrP.count p) 128
  else if c.op = 3 then 64 + ceilDiv (12 * ScrP.windowNs p) 5
  else 64 + ceilDiv (12 * (ScrP.windowNs p + g.tSuspend)) 5

/-- FLASH_SEQ (Table 12-3): steps, where a table is given. -/
def seqSteps (b : Bytes) : List Nat :=
  let o := 128 + 4 * bf (sliceNat b 48 4) 31 16 + 4 * bf (sliceNat b 12 4) 15 12
  (chunks 8 (b.length / 8 + 1) (b.drop o)).map leNat

/-- The framing of a FLASH_SEQ: magic, counts and length. -/
def flashSeqFramed (b : Bytes) : Bool :=
  let h := sliceNat b 0 128
  b.isEmpty || (decide (128 ≤ b.length) && bf h 31 0 == 0x46535154 && decide (bf h 415 400 ≤ 64)
    && b.length == 128 + 4 * bf h 415 400 + 4 * bf h 111 108 + 8 * (seqSteps b).length)

def flashSeqOk (b : Bytes) : Bool :=
  let h := sliceNat b 0 128
  let n := bf h 415 400
  let steps := seqSteps b
  b.isEmpty || (decide (128 ≤ b.length) && bf h 31 0 == 0x46535154 && bf h 51 48 == 4
    && decide (1 ≤ bf h 55 52) && decide (bf h 55 52 ≤ 4) && decide (1 ≤ bf h 74 64) && decide (bf h 74 64 ≤ 1024)
    && bf h 74 64 % bf h 55 52 == 0 && decide (2 ≤ bf h 90 80) && decide (bf h 90 80 ≤ bf h 74 64)
    && decide (32 ≤ bf h 107 96) && decide (bf h 107 96 ≤ 2048) && decide (bf h 114 112 ≤ 5)
    && decide (16 ≤ n) && decide (n ≤ 64) && b.length == 128 + 4 * n + 4 * bf h 111 108 + 8 * steps.length
    && (upto n).all (fun k => let e := sliceNat b (128 + 4 * k) 4; decide (bf e 15 0 + bf e 31 16 ≤ steps.length))
    && steps.all (fun x => decide (bf x 3 0 ≤ 9)) && crcHole b 124 == bf h 1023 992)

def flashSeqReserved (b : Bytes) : Bool :=
  let h := sliceNat b 0 128
  b.isEmpty || (bf h 63 56 == 0 && bf h 79 75 == 0 && bf h 95 91 == 0 && bf h 127 115 == 0 && bf h 991 416 == 0
    && (seqSteps b).all (fun x => bf x 7 4 == 0))

/-- GC_WEIGHTS (R268), and the size of the Scribe region (R260). -/
def gcWeightsOk (b : Bytes) : Bool :=
  b.isEmpty || (tableForm 0x47435754 16 2 b && (tableEntries b 16).length == 2
    && (tableEntries b 16).all (fun e => decide (1 ≤ bf e 127 96)))

def Ck.scribeRegionOk (k : Ck) : Bool :=
  leNat (Dict.nodeBlob k.d G.SCRIBE_CHANNELS) == 0
    || decide (4 * Lay.pages k.s.layout + 100663296 ≤ Dict.node k.d G.SCRIBE_REGION_BYTES)

/-- R256 and R272: the quotas of an Inset within the areas and the blocks of the format in force. -/
def Ck.flashQuotaOk (k : Ck) (i : Nat) : Bool :=
  let lay := k.s.layout
  let n := fun key => Dict.num k.d i key
  let di := ((setBits 32 0 (n G.INSET_FLASH_CH)).map (fun ch => popCount 16 (k.s.diesOf ch))).sum
  let blocks := (k.s.geo 0).blocks - (1 + Lay.cache lay + Lay.ckpt lay + Lay.reserve lay)
  (n G.T2_LPN_COUNT == 0 || (decide (n G.T2_LPN_BASE + n G.T2_LPN_COUNT ≤ Lay.ckptStart lay)
      && decide (100 * n G.T2_LPN_COUNT ≤ 93 * 1020 * blocks * 4 * di)))
    && (n G.CKPT_LPN_COUNT == 0 || (decide (Lay.ckptStart lay ≤ n G.CKPT_LPN_BASE)
      && decide (n G.CKPT_LPN_BASE + n G.CKPT_LPN_COUNT ≤ Lay.pages lay)
      && decide (10 * n G.CKPT_LPN_COUNT ≤ 9 * 255 * Lay.ckpt lay * 4 * di)))

/-- Chapter 12 (R277). -/
def Ck.chapter12 (k : Ck) : Option Fail :=
  let cs := k.cmdsOf (fun c => c.engine == 9)
  let seq := Dict.nodeBlob k.d G.FLASH_SEQ
  let staged := k.set == 16 && k.stages G.FLASH_SEQ
  cmdRow cs Code.SCRIBE_PARAM (fun c => CmdW.paramLen c.w != 64)
    <|> cmdRow cs Code.RESERVED_SET (fun c => !ScrP.reservedOk c.p)
    <|> nodeRow Code.FLASH_SEQ_FORMAT G.FLASH_SEQ (staged && !flashSeqFramed seq)
    <|> nodeRow Code.RESERVED_SET G.FLASH_SEQ (staged && !flashSeqReserved seq)
    <|> (if k.stages G.GC_WEIGHTS then Dict.nodeTable k.d Code.VALUE_RANGE G.GC_WEIGHTS 0x47435754 16 2 (fun _ => true)
          else none)
    <|> k.ranges (fun x => decide (0x8000 ≤ x ∧ x < 0x8200)) (fun _ => Code.VALUE_RANGE)
    <|> nodeRow Code.VALUE_RANGE G.GC_WEIGHTS (k.stages G.GC_WEIGHTS && !gcWeightsOk (Dict.nodeBlob k.d G.GC_WEIGHTS))
    <|> nodeRow Code.VALUE_RANGE G.SCRIBE_REGION_BYTES (!k.scribeRegionOk)
    <|> cmdRow cs Code.SCRIBE_PARAM (fun c => !c.scribeParamOk)
    <|> cmdRow cs Code.SCRIBE_OPERAND (fun c => !c.scribeOperandOk)
    <|> (upto 16).findSome? (fun i => (Dict.loaded k.d i).findSome? (fun bm => gatherConsumers (loadCmds i bm.1 bm.2)))
    <|> cmdRow cs Code.SHEET_ENGINE (fun c =>
          !(setBits 32 0 (ScrP.chMask c.p)).all (bit (Dict.num k.d c.inst G.INSET_FLASH_CH)))
    <|> nodeRow Code.FLASH_SEQ_FORMAT G.FLASH_SEQ (staged && !flashSeqOk seq)
    <|> cmdRow cs Code.SHEET_WINDOW (fun c => decide (CmdW.est c.w < c.scribeCycles k.s))
    <|> k.scribeClash
    <|> instRow Code.QUOTA_FORMAT G.T2_LPN_COUNT (fun i => !k.flashQuotaOk i)

/-! ### Torus commands (Table 13-12) -/

/-- Table 13-12, row 1. -/
def LoadCmd.torParamOk (c : LoadCmd) : Bool :=
  let p := c.p
  decide (1 ≤ c.op) && decide (c.op ≤ 3) && CmdW.paramLen c.w == 64 && CmdW.cubeGroups c.w == 0
    && CmdW.stagePages c.w == 0 && decide (1 ≤ TorP.cls p)
    && (c.op != 1 || decide (TorP.len p ≤ 1048576))
    && (c.op == 1 || (decide (1 ≤ TorP.count p) && decide (TorP.count p ≤ 4096)))
    && TorP.inStride p % 64 == 0 && TorP.outStride p % 64 == 0
    && c.cmd.index == lowest 6 (TorP.mask p) && (c.op != 2 || TorP.mask p == 0)

/-- Linear ids of an Inset's T3 peers. -/
def Dict.peers (d : Dict) (i : Nat) : List Nat := (chunks 2 4096 (Dict.blob d i G.T3_PEERS)).map leNat

/-- Table 13-12, row 2. The node list is read from memory as it stands. -/
def LoadCmd.torOperandOk (s : State) (d : Dict) (c : LoadCmd) : Bool :=
  let p := c.p
  let ids := s.a2aList p
  if c.op = 1 then
    TorP.src p % 64 == 0 && TorP.dst p % 64 == 0 && (TorP.len p == 0 || c.inIn (TorP.src p) (TorP.len p))
      && (Dict.peers d c.inst).contains (TorP.dest p)
      && c.cmd.outputs.any (fun x => Desc.tier x == 3 && bf (Desc.addr x) 63 62 == 0 && bf (Desc.addr x) 59 48 == TorP.dest p
            && decide (bf (Desc.addr x) 47 0 ≤ TorP.dst p)
            && decide (TorP.dst p + TorP.len p ≤ bf (Desc.addr x) 47 0 + Desc.len x))
  else if c.op = 3 then
    TorP.src p % 64 == 0 && TorP.dst p % 64 == 0 && TorP.list p % 2 == 0
      && c.inIn (TorP.list p) (2 * TorP.count p)
      && (TorP.outStride p == 0 || c.inIn (TorP.src p) (TorP.count p * TorP.outStride p))
      && (TorP.inStride p == 0 || c.inOut (TorP.dst p) (TorP.count p * TorP.inStride p))
      && strictlyUp ids && ids.contains (Dict.node d G.NODE_ID)
  else true

/-- Destinations of a command. -/
def LoadCmd.torDests (s : State) (d : Dict) (c : LoadCmd) : List Nat :=
  if c.op = 1 then [TorP.dest c.p]
  else if c.op = 3 then (s.a2aList c.p).filter (fun n => n != Dict.node d G.NODE_ID) else []

/-- A linear id inside TORUS_DIMS. -/
def insideDims (dims n : Nat) : Bool := decide (n < 4096) && (upto 3).all (fun k => decide (coord n k < dimSize dims k))

/-- Table 13-12, row 3. -/
def LoadCmd.torRouteOk (s : State) (d : Dict) (c : LoadCmd) : Bool :=
  let dims := Dict.node d G.TORUS_DIMS
  (c.torDests s d).all (fun n => insideDims dims n && (match firstHop dims (Dict.node d G.NODE_ID) n with
    | some h => bit (TorP.mask c.p) (hopPort h)
    | none => true))

/-- Directed links, as node × 8 + port, of the route from `a` to `b`, at most `n` of them. -/
def routeLinks (dims b : Nat) : Nat → Nat → List Nat
  | 0, _ => []
  | n + 1, a => match firstHop dims a b with
    | none => []
    | some h => (8 * a + hopPort h) :: (match neighbour dims a (hopPort h) with
      | some m => routeLinks dims b n m
      | none => [])

/-- Most messages of an all-to-all over `ids` on one link (R298). -/
def linkMessages (dims : Nat) (ids : List Nat) : Nat :=
  let use : Tab Nat := ids.foldl (fun t a => ids.foldl (fun t b => (routeLinks dims b 24 a).foldl (fun (t : Tab Nat) l =>
    t.upd 0 (· + 1) l) t) t) []
  use.foldl (fun m e => max m e.2) 0

/-- CYC + D of a torus command, Tw apart. -/
def LoadCmd.torCycles (s : State) (d : Dict) (c : LoadCmd) : Nat :=
  let p := c.p
  let dims := Dict.node d G.TORUS_DIMS
  let wire := fun flits => ceilDiv (1536 * flits) 1000
  if c.op = 1 then 64 + wire (flitsOf (TorP.len p)) + 720
  else if c.op = 2 then 64 + ceilDiv (TorP.len p) 128
  else
    let hops := (c.torDests s d).foldl (fun m n => max m (hopCount dims (Dict.node d G.NODE_ID) n)) 0
    64 + wire (linkMessages dims (s.a2aList p) * flitsOf (TorP.outStride p)) + 720 * hops
      + ceilDiv (TorP.count p * TorP.inStride p) 128

/-- Flits that a command sends on a logical port. -/
def LoadCmd.portFlits (s : State) (d : Dict) (port : Nat) (c : LoadCmd) : Nat :=
  let dims := Dict.node d G.TORUS_DIMS
  let n := ((c.torDests s d).filter (fun x => (firstHop dims (Dict.node d G.NODE_ID) x).map hopPort == some port)).length
  n * flitsOf (if c.op = 1 then TorP.len c.p else TorP.outStride c.p)

/-- Cycles of a command's window. -/
def LoadCmd.span (c : LoadCmd) : Nat := CmdW.winClose c.w + CmdW.est c.w - CmdW.winOpen c.w

/-- Flits LINK_PLAN reserves on a port in a window. -/
def Dict.planned (d : Dict) (port a b : Nat) : Nat :=
  let plan := Dict.nodeBlob d G.LINK_PLAN
  if plan.isEmpty then 0
  else ((upto 16).flatMap (fun t => (upto 8).map (fun v => Config.planFlits plan port t v a b))).sum

/-- R289 over one Sheet: at the opening of some window, own sends and LINK_PLAN exceed 15/16 of a port. -/
def portOver (s : State) (d : Dict) (cs : List LoadCmd) : Bool :=
  let ts := cs.filter (fun c => c.engine == 0x0A && c.op != 2)
  (upto 6).any (fun port => ts.any (fun c =>
    let a := CmdW.winOpen c.w
    let own := (ts.filter (fun x => holdsAt x.cmd a)).map (fun x => (1536 * x.portFlits s d port, 1000 * max 1 x.span))
    over1516 ((1536 * Dict.planned d port a (a + c.span), 1000 * max 1 c.span) :: own)))

/-- R298: landing demand of overlapping windows. -/
def landingOver (d : Dict) (i : Nat) (cs : List LoadCmd) : Bool :=
  let ts := cs.filter (fun c => c.engine == 0x0A && c.op != 1)
  let demand := fun (c : LoadCmd) => if c.op = 2 then TorP.len c.p else (TorP.count c.p - 1) * TorP.inStride c.p
  ts.any (fun c => decide (Dict.num d i G.TORUS_LAND_BYTES
    < ((ts.filter (fun x => holdsAt x.cmd (CmdW.winOpen c.w))).map demand).sum))

/-- EQ_PRESETS (R282). -/
def eqPresetsOk (b : Bytes) : Bool :=
  let es := tableEntries b 8
  b.isEmpty || (tableForm 0x45515052 8 16 b && es.length == 16 && es.all (fun e =>
    let c := (upto 5).map (fun k => sext 8 (bf e (8 * k + 7) (8 * k)))
    decide (0 < nth 0 c 3) && decide ((c.map Int.natAbs).sum ≤ 64)))

/-- DOMAIN_MAP: 16 bytes, each a local Inset or 0xFF. -/
def domainMapOk (b : Bytes) : Bool := b.length == 16 && b.all (fun x => decide (x.toNat < 16) || x.toNat == 0xFF)

def Dict.creditsOk (d : Dict) : Bool :=
  let b := Dict.nodeBlob d G.LINK_CREDITS
  decide (b.length ≤ 2048) && b.length % 2 == 0
    && (upto 8).all (fun p => decide (((upto 128).map (fun k => Dict.linkCredits d p (k / 8) (k % 8))).sum ≤ 2016))

/-- The first Sheet of which `bad` holds. -/
def Ck.sheetRow (k : Ck) (code : Nat) (bad : Nat → List LoadCmd → Bool) : Option Fail :=
  (upto 16).findSome? (fun i => ((Dict.loaded k.d i).find? (fun bm => bad i (loadCmds i bm.1 bm.2))).map
    (fun bm => Fail.at code i G.SHEET_IMAGE bm.1))

/-- Chapter 13 (R304). -/
def Ck.chapter13 (k : Ck) : Option Fail :=
  let cs := k.cmdsOf (fun c => c.engine == 0x0A)
  let eq := Dict.nodeBlob k.d G.EQ_PRESETS
  cmdRow cs Code.TORUS_PARAM (fun c => CmdW.paramLen c.w != 64)
    <|> cmdRow cs Code.RESERVED_SET (fun c => !TorP.reservedOk c.p)
    <|> (if k.stages G.EQ_PRESETS then Dict.nodeTable k.d Code.TORUS_TABLE_FORMAT G.EQ_PRESETS 0x45515052 8 16
            (fun e => bf e 63 40 == 0) else none)
    <|> k.ranges (fun x => x / 0x1000 == 9) (fun _ => Code.VALUE_RANGE)
    <|> cmdRow cs Code.TORUS_PARAM (fun c => !c.torParamOk)
    <|> cmdRow cs Code.TORUS_OPERAND (fun c => !c.torOperandOk k.s k.d)
    <|> cmdRow cs Code.TORUS_ROUTE (fun c => !c.torRouteOk k.s k.d)
    <|> nodeRow Code.TORUS_TABLE_FORMAT G.EQ_PRESETS (k.stages G.EQ_PRESETS && !eqPresetsOk eq)
    <|> nodeRow Code.TORUS_TABLE_FORMAT G.LINK_CREDITS (!Dict.creditsOk k.d)
    <|> nodeRow Code.TORUS_TABLE_FORMAT G.DOMAIN_MAP (!domainMapOk (Dict.nodeBlob k.d G.DOMAIN_MAP))
    <|> clashOf (k.claims.filter (fun c => decide (c.1 ≤ 2)))
    <|> k.sheetRow Code.TORUS_LANDING (landingOver k.d)
    <|> k.sheetRow Code.TORUS_OVERSUBSCRIBED (fun _ => portOver k.s k.d)
    <|> cmdRow cs Code.SHEET_WINDOW (fun c => decide (CmdW.est c.w < c.torCycles k.s k.d))

/-! ### Traffic manager (Table 14-7) -/

/-- Records of a flow edit: flow number and context. -/
def flowEdits (b : Bytes) : List (Nat × Nat) := (chunks 36 (b.length / 36 + 1) b).map (fun r => (sliceNat r 0 4, sliceNat r 4 32))
/-- Records of a service table: number and node. -/
def serviceEdits (b : Bytes) : List (Nat × Nat) := (chunks 18 (b.length / 18 + 1) b).map (fun r => (sliceNat r 0 2, sliceNat r 2 16))

/-- Scopes of the node's services and of the 16 Insets, the node first. -/
def scopes : List Nat := 16 :: upto 16

/-- Every service record staged or applied, by scope. -/
def Dict.services (d : Dict) : List (Nat × Nat × Nat) :=
  scopes.flatMap (fun i => (serviceEdits (Dict.blob d i G.TM_SERVICES)).map (fun e => (i, e.1, e.2)))

/-- Every flow record, by scope. -/
def Dict.flowRecords (d : Dict) : List (Nat × Nat × Nat) :=
  scopes.flatMap (fun i => (flowEdits (Dict.blob d i (if i = 16 then G.TM_FIXED_EDIT else G.TM_FLOW_EDIT))).map
    (fun e => (i, e.1, e.2)))

/-- The service node that will be in force: the last record that names it, or the one that stands. -/
def Ck.serviceWord (k : Ck) (n : Nat) : Nat :=
  match ((Dict.services k.d).filter (fun e => e.2.1 == n)).getLast? with
  | some e => e.2.2
  | none => (k.s.service n).word

/-- The flow context that will be in force. -/
def Ck.flowWord (k : Ck) (n : Nat) : Nat :=
  match ((Dict.flowRecords k.d).filter (fun e => e.2.1 == n)).getLast? with
  | some e => e.2.2
  | none => (k.s.flow n).word

/-- A port node that is in use. -/
def Dict.portInUse (d : Dict) (p : Nat) : Bool :=
  if p < 6 then decide (1 < dimSize (Dict.node d G.TORUS_DIMS) (p / 2))
  else if p = 6 then (Dict.nodeBlob d G.SPARE_PORT_ROLE).any (fun b => b.toNat == 1) else decide (p < 12)

/-- A flow record (Tables 14-1 and 14-2). -/
def Ck.flowOk (k : Ck) (e : Nat × Nat × Nat) : Bool :=
  let i := e.1
  let n := e.2.1
  let w := e.2.2
  let sv := k.serviceWord (FlowW.service w)
  match flowPort n with
  | none => false
  | some p =>
    (if i = 16 then decide (p ≠ 7) else Dict.flowInset k.d n == some i && decide (4096 ≤ n))
      && (i == 16 || (decide (Dict.num k.d i G.SERVICE_Q_BASE ≤ FlowW.service w)
            && decide (FlowW.service w < Dict.num k.d i G.SERVICE_Q_BASE + Dict.num k.d i G.SERVICE_Q_COUNT)))
      && SvcW.port sv == p && (p == 7 || decide (FlowW.mode w ≤ 1))
      && (decide (FlowW.mode w < 2) || (decide (FlowW.cir w ≤ FlowW.pir w) && decide (FlowW.cbs w ≤ FlowW.pbs w)))
      && (FlowW.mode w == 0 || FlowW.cbs w != 0) && FlowW.weight w != 0
      && (decide (6 < p) || SvcW.gateClass sv == n % 8 / 2)
      && (i != 16 || FlowW.valid w || !Dict.portInUse k.d p)

/-- A service record (Table 14-3). -/
def Ck.serviceOk (k : Ck) (e : Nat × Nat × Nat) : Bool :=
  let i := e.1
  let w := e.2.2
  decide (e.2.1 < 4096) && decide (SvcW.port w ≤ 11) && SvcW.weight w != 0
    && (if i = 16 then SvcW.owner w == 0xFF
        else SvcW.owner w == i && decide (Dict.num k.d i G.SERVICE_Q_BASE ≤ e.2.1)
          && decide (e.2.1 < Dict.num k.d i G.SERVICE_Q_BASE + Dict.num k.d i G.SERVICE_Q_COUNT))

/-- Quotas of flows and services, and the lengths of the records. -/
def Dict.tmQuotaOk (d : Dict) (i : Nat) : Bool :=
  let n := Dict.num d i G.FLOW_Q_COUNT
  (n == 0 || (decide (4096 ≤ Dict.num d i G.FLOW_Q_BASE) && decide (Dict.num d i G.FLOW_Q_BASE + n ≤ 1048576)))
    && decide (Dict.num d i G.SERVICE_Q_BASE + Dict.num d i G.SERVICE_Q_COUNT ≤ 4096)
    && (Dict.blob d i G.SAMPLE_SET).length % 4 == 0 && decide ((Dict.blob d i G.SAMPLE_SET).length ≤ 16384)

/-- R310: the units a second that sends and LINK_PLAN reserve for a flow in a command's window, as a fraction of FCLK. -/
def Ck.planConflict (k : Ck) (i : Nat) (cs : List LoadCmd) : Bool :=
  let ts := cs.filter (fun c => c.engine == 0x0A && c.op != 2)
  let plan := Dict.nodeBlob k.d G.LINK_PLAN
  match Dict.tagOf k.d i with
  | none => false
  | some t => ts.any (fun c => (upto 6).any (fun port =>
      let vc := 2 * TorP.cls c.p
      let a := CmdW.winOpen c.w
      let n := torusFlow port t vc
      let w := k.flowWord n
      let sv := k.serviceWord (FlowW.service w)
      let extra := if plan.isEmpty then 0 else Config.planFlits plan port t vc a (a + c.span)
      let own := (ts.filter (fun x => holdsAt x.cmd a && TorP.cls x.p == TorP.cls c.p)).map (fun x => (4 * x.portFlits k.s k.d port, max 1 x.span))
      let parts := (4 * extra, max 1 c.span) :: own
      let total := parts.foldl (fun (acc : Nat × Nat) f => (acc.1 * f.2 + f.1 * acc.2, acc.2 * f.2)) (0, 1)
      let isOver := fun rate => decide (rate * total.2 < 2400000000 * total.1)
      total.1 != 0 && ((FlowW.mode w == 1 && isOver (FlowW.cir w)) || (SvcW.shaped sv && isOver (SvcW.rate sv)))))

/-- A gate list (Table 14-5). -/
def gateOk (period port : Nat) (b : Bytes) : Bool :=
  b.isEmpty || (sliceNat b 0 4 == 0x47415445 && decide (1 ≤ GateL.count b) && decide (GateL.count b ≤ 256)
    && b.length == 24 + 8 * GateL.count b && GateL.port b == port && crcHole b 16 == sliceNat b 16 4
    && !(decide (7 ≤ port) && port != 9 && port != 11)
    && (GateL.entries b).all (fun e => decide (100 ≤ e.1)) && GateL.total b == 1000 * period)

/-- Its framing: magic, count, length and CRC. -/
def gateFramed (b : Bytes) : Bool :=
  b.isEmpty || (sliceNat b 0 4 == 0x47415445 && decide (GateL.count b ≤ 256) && b.length == 24 + 8 * GateL.count b
    && crcHole b 16 == sliceNat b 16 4)

def gateReserved (b : Bytes) : Bool :=
  b.isEmpty || (bf (sliceNat b 6 2) 15 4 == 0 && sliceNat b 20 4 == 0
    && (upto (GateL.count b)).all (fun k => bf (sliceNat b (24 + 8 * k) 8) 63 36 == 0))

/-- A row over the gate lists that the node set stages. -/
def Ck.gateRow (k : Ck) (code : Nat) (bad : Nat → Bytes → Bool) : Option Fail :=
  if k.set ≠ 16 then none else
  ((upto 12).find? (fun p => k.stages (G.TIME_GATES + p) && bad p (Dict.nodeBlob k.d (G.TIME_GATES + p)))).map
    (fun p => Fail.at code 16 (G.TIME_GATES + p) 0)

/-- A sample ring outside the Inset's T1 range (R317). -/
def Dict.ringOk (d : Dict) (i : Nat) : Bool :=
  let n := Dict.num d i G.SAMPLE_RING_BYTES
  n == 0 || (Dict.num d i G.SAMPLE_RING_BASE % 64 == 0 && Dict.onChannels d i (Dict.num d i G.SAMPLE_RING_BASE) n)

/-- Chapter 14 (R318). -/
def Ck.chapter14 (k : Ck) : Option Fail :=
  k.ranges (fun x => x / 0x1000 == 0xA) (fun _ => Code.VALUE_RANGE)
    <|> instRow Code.TM_FORMAT G.TM_FLOW_EDIT (fun i => (Dict.blob k.d i G.TM_FLOW_EDIT).length % 36 != 0)
    <|> instRow Code.TM_FORMAT G.TM_SERVICES (fun i => (Dict.blob k.d i G.TM_SERVICES).length % 18 != 0)
    <|> ((Dict.flowRecords k.d).find? (fun e => !FlowW.reservedOk e.2.2)).map (fun e =>
          Fail.at Code.RESERVED_SET e.1 (if e.1 = 16 then G.TM_FIXED_EDIT else G.TM_FLOW_EDIT) 0)
    <|> ((Dict.services k.d).find? (fun e => !SvcW.reservedOk e.2.2)).map (fun e => Fail.at Code.RESERVED_SET e.1 G.TM_SERVICES 0)
    <|> k.gateRow Code.GATE_FORMAT (fun _ b => !gateFramed b)
    <|> k.gateRow Code.RESERVED_SET (fun _ b => !gateReserved b)
    <|> instRow Code.TM_FORMAT G.FLOW_Q_BASE (fun i => !Dict.tmQuotaOk k.d i)
    <|> ((Dict.services k.d).find? (fun e => !k.serviceOk e)).map (fun e => Fail.at Code.TM_FORMAT e.1 G.TM_SERVICES 0)
    <|> ((Dict.flowRecords k.d).find? (fun e => !k.flowOk e)).map (fun e =>
          Fail.at Code.TM_FORMAT e.1 (if e.1 = 16 then G.TM_FIXED_EDIT else G.TM_FLOW_EDIT) 0)
    <|> k.partition (fun p => p.resource == 0x17)
    <|> k.sheetRow Code.TM_PLAN_CONFLICT k.planConflict
    <|> k.gateRow Code.GATE_FORMAT (fun p b => !gateOk (Dict.node k.d G.TICK_PERIOD) p b)
    <|> k.gateRow Code.GATE_TAKEOVER_PAST (fun _ b => !b.isEmpty && decide (GateL.takeover b ≤ k.s.node G.TICK_NO))
    <|> instRow Code.QUOTA_FORMAT G.SAMPLE_RING_BASE (fun i => !Dict.ringOk k.d i)

end Sys2Proof.Machine
end

