-- ==== Sys2Proof/Machine/CheckInset.lean ====
section
/-!
DEFINITION. CHECK of chapters 15 and 16: Table 15-6 over owner entries, streams, slices, sync objects and energy curves;
BIND_REQ, the host entries and the host commands.
-/

namespace Sys2Proof.Machine

/-! ### Streams and slices (R320 to R325) -/

/-- Streams of an Inset that are used. -/
def Dict.streams (d : Dict) (i : Nat) : List Nat := (upto 4).filter (fun k => Dict.num d i (G.STREAM_ENTRY + k) != 0xFFFF)

/-- Entries of a slice table: 4 bytes each. -/
def Dict.slices (d : Dict) (i : Nat) : List Nat := (chunks 4 4096 (Dict.blob d i G.SLICE_TABLE)).map leNat
namespace Slice
def stream (e : Nat) : Nat := bf e 1 0
def ticks (e : Nat) : Nat := bf e 31 16
def reservedOk (e : Nat) : Bool := bf e 15 2 == 0
end Slice

def Dict.slicesOk (d : Dict) (i : Nat) : Bool :=
  (Dict.blob d i G.SLICE_TABLE).length % 4 == 0 && decide ((Dict.slices d i).length ≤ 16)
    && (Dict.slices d i).all (fun e => decide (1 ≤ Slice.ticks e) && (Dict.streams d i).contains (Slice.stream e))

/-- NEXT_SHEET_ID stays in its stream. -/
def Dict.linksInStream (d : Dict) (i : Nat) : Bool :=
  (Dict.images d i).all (fun m => Hdr.nextId m.header == 0xFFFF
    || Hdr.nextId m.header / 16384 == Hdr.sheetId m.header / 16384)

/-- Bytes of T0 that a switch saves. -/
def Dict.t0Bytes (d : Dict) (i : Nat) : Nat := ((Dict.switchedT0 d i).map (·.2)).sum

/-- Save area and swap space of a stream (log entry 84 gives their layout). -/
def Dict.streamOk (d : Dict) (i k : Nat) : Bool :=
  let save := Dict.num d i (G.STREAM_SAVE_T1 + k)
  let chs := Dict.streamChannels d i k
  let swap := Dict.num d i (G.STREAM_SWAP_LPN + k)
  chs.all (Dict.ownsChannel d i)
    && save % 65536 == 0 && Dict.onChannels d i save (Dict.t0Bytes d i)
    && (chs.isEmpty || (decide (Dict.num d i G.CKPT_LPN_BASE ≤ swap)
          && decide (swap + 196608 * chs.length ≤ Dict.num d i G.CKPT_LPN_BASE + Dict.num d i G.CKPT_LPN_COUNT)))

/-- The row INSET_FORMAT: entries of the node, then of each Inset. Save and swap space are judged of an Inset with two
streams or more, which alone can switch. -/
def Ck.insetFormat (k : Ck) : Option Fail :=
  let d := k.d
  let sum := fun key => ((upto 16).map (fun i => Dict.num d i key)).sum
  let cores := (upto 16).foldl (fun m i => Nat.lor m (Dict.num d i G.INSET_CORES)) 0
  let isOver := fun (bad : Bool) (key : Nat) => if bad then some (Fail.at Code.INSET_FORMAT (min k.set 15) key 0) else none
  isOver (decide (16 ≤ popCount 16 cores)) G.INSET_CORES
    <|> isOver (decide (4 < sum G.INSET_PRIVILEGED)) G.INSET_PRIVILEGED
    <|> isOver (decide (16 < sum G.DM_SHARE)) G.DM_SHARE
    <|> instRow Code.INSET_FORMAT G.SLICE_TABLE (fun i => !Dict.slicesOk d i)
    <|> instRow Code.INSET_FORMAT G.SHEET_IMAGE (fun i => !Dict.linksInStream d i)
    <|> instRow Code.INSET_FORMAT G.STREAM_CHANNELS (fun i =>
          (upto 4).any (fun j => !(Dict.streamChannels d i j).all (Dict.ownsChannel d i)))
    <|> instRow Code.INSET_FORMAT G.STREAM_SAVE_T1 (fun i =>
          decide (2 ≤ (Dict.streams d i).length) && (Dict.streams d i).any (fun j => !Dict.streamOk d i j))

/-! ### Sync objects and energy curves -/

def Dict.syncOk (d : Dict) (i : Nat) : Bool :=
  let rs := Dict.syncConfig d i
  (Dict.blob d i G.SYNC_CONFIG).length % 16 == 0 && distinct (rs.map SyncC.number)
    && rs.all (fun r => decide (SyncC.kind r ≤ 3) && (Dict.syncRange d i).contains (SyncC.number r)
      && insideDims (Dict.node d G.TORUS_DIMS) (SyncC.home r)
      && (SyncC.kind r == 1 || !bit (SyncC.share r) i))

/-- ENERGY_CURVES (R337): at most one entry for each of the ten counts. -/
def curvesOk (b : Bytes) : Bool :=
  let es := tableEntries b 16
  tableForm 0x454E5243 16 16 b && (b.isEmpty || (es.all (fun e => decide (bf e 7 0 ≤ 9)) && distinct (es.map (fun e => bf e 7 0))))

/-- A ring in the Inset's T1 quota. -/
def Dict.ringIn (d : Dict) (i base bytes : Nat) : Bool := Dict.onChannels d i (Dict.num d i base) (Dict.num d i bytes)

def vectorMapOk (b : Bytes) : Bool := b.length == 16 && b.all (fun x => decide (x.toNat < 128) || x.toNat == 255)

/-- Chapter 15 (R338). -/
def Ck.chapter15 (k : Ck) : Option Fail :=
  let d := k.d
  let curves := Dict.nodeBlob d G.ENERGY_CURVES
  let vr := fun key bad => instRow Code.VALUE_RANGE key bad
  instRow Code.INSET_FORMAT G.SLICE_TABLE (fun i => (Dict.blob d i G.SLICE_TABLE).length % 4 != 0
      || decide (16 < (Dict.slices d i).length))
    <|> instRow Code.RESERVED_SET G.SLICE_TABLE (fun i => !(Dict.slices d i).all Slice.reservedOk)
    <|> instRow Code.SYNC_FORMAT G.SYNC_CONFIG (fun i => (Dict.blob d i G.SYNC_CONFIG).length % 16 != 0)
    <|> instRow Code.RESERVED_SET G.SYNC_CONFIG (fun i => !(Dict.syncConfig d i).all SyncC.reservedOk)
    <|> (if k.stages G.ENERGY_CURVES then Dict.nodeTable d Code.SYNC_FORMAT G.ENERGY_CURVES 0x454E5243 16 16
            (fun e => bf e 31 8 == 0 && bf e 127 96 == 0) else none)
    <|> k.ranges (fun x => decide (0x3000 ≤ x ∧ x < 0x3100)) (fun _ => Code.VALUE_RANGE)
    <|> vr G.INSET_CUBE_GROUPS (fun i => (Dict.blob d i G.INSET_CUBE_GROUPS).length != 16)
    <|> vr G.STREAM_CHANNELS (fun i => (upto 4).any (fun j => (Dict.blob d i (G.STREAM_CHANNELS + j)).length != 32))
    <|> vr G.SYNC_Q_BASE (fun i => decide (16384 < Dict.num d i G.SYNC_Q_BASE + Dict.num d i G.SYNC_Q_COUNT))
    <|> nodeRow Code.VALUE_RANGE G.CHART_ENGINE_OWNER
          (decide (16 ≤ Dict.node d G.CHART_ENGINE_OWNER) && Dict.node d G.CHART_ENGINE_OWNER != 255)
    <|> vr G.INT_MAP (fun i => !vectorMapOk (Dict.blob d i G.INT_MAP))
    <|> vr G.EVENT_RING_BASE (fun i => !Dict.ringIn d i G.EVENT_RING_BASE G.EVENT_RING_BYTES)
    <|> vr G.ACCT_RING_BASE (fun i => !Dict.ringIn d i G.ACCT_RING_BASE G.ACCT_RING_BYTES)
    <|> k.partition (fun _ => true) <|> k.handed
    <|> k.insetFormat
    <|> instRow Code.SYNC_FORMAT G.SYNC_CONFIG (fun i => !Dict.syncOk d i)
    <|> nodeRow Code.SYNC_FORMAT G.ENERGY_CURVES (k.stages G.ENERGY_CURVES && !curvesOk curves)

/-! ### Host commands and bindings -/

/-- Form and operands of a HOST_ADMIT: SHEET_OPERAND, as the scheduler's other commands. -/
def LoadCmd.admitOk (c : LoadCmd) : Bool :=
  let p := c.p
  CmdW.admitBit c.w && decide (1 ≤ AdmP.kind p) && decide (AdmP.kind p ≤ 4) && decide (1 ≤ AdmP.max p)
    && AdmP.dest p % 64 == 0 && AdmP.list p % 64 == 0 && AdmP.stride p % 64 == 0 && decide (64 ≤ AdmP.stride p)
    && c.inOut (AdmP.dest p) (AdmP.max p * AdmP.stride p) && c.inOut (AdmP.list p) (64 * AdmP.max p)

def LoadCmd.completeOk (c : LoadCmd) : Bool :=
  let p := c.p
  CplP.list p % 64 == 0 && CplP.res p % 64 == 0
    && (CplP.count p == 0 || (c.inIn (CplP.list p) (64 * CplP.count p)
          && (CplP.stride p == 0 || c.inIn (CplP.res p) (CplP.count p * CplP.stride p))))

/-- Length of the parameters of the two host commands; the other operations of the scheduler take none. -/
def LoadCmd.hostForm (c : LoadCmd) : Bool := (c.op != 0x10 && c.op != 0x11) || CmdW.paramLen c.w == 32

/-- R346: a binding record that is refused. -/
def Ck.bindOk (k : Ck) (b : Bytes) : Bool :=
  let r := leNat b
  let i := BindW.inset r
  let t := k.s.binding i
  let n := Dict.num k.d i G.XLOG_BYTES
  b.length == 64 && decide (bf r 5 4 ≤ 1) && decide (t.epoch < BindW.epoch r) && t.request.isNone && !t.oldBound
    && t.state != 2 && t.state != 4 && n != 0 && Dict.onChannels k.d i (Dict.num k.d i G.XLOG_BASE) n

/-- Chapter 16. -/
def Ck.chapter16 (k : Ck) : Option Fail :=
  let d := k.d
  let cs := k.cmdsOf (fun c => c.engine == 0x0C)
  let req := Dict.nodeBlob d G.BIND_REQ
  let binds := k.set == 16 && k.stages G.BIND_REQ && !req.isEmpty
  cmdRow cs Code.SHEET_OPERAND (fun c => !c.hostForm)
    <|> cmdRow cs Code.RESERVED_SET (fun c => (c.op == 0x10 && !AdmP.reservedOk c.p) || (c.op == 0x11 && !CplP.reservedOk c.p))
    <|> nodeRow Code.RESERVED_SET G.BIND_REQ (binds && !BindW.reservedOk (leNat req))
    <|> k.ranges (fun x => decide (0x1100 ≤ x ∧ x < 0x1200)) (fun _ => Code.VALUE_RANGE)
    <|> instRow Code.VALUE_RANGE G.FALLBACK_CLASS_MAP (fun i =>
          let b := Dict.blob d i G.FALLBACK_CLASS_MAP
          b.length != 16 || b.any (fun x => decide (16 ≤ x.toNat)))
    <|> nodeRow Code.VALUE_RANGE G.HDM_OWNER ((upto 4).any (fun j =>
          decide (16 ≤ Dict.node d (G.HDM_OWNER + j)) && Dict.node d (G.HDM_OWNER + j) != 255))
    <|> cmdRow cs Code.SHEET_OPERAND (fun c => (c.op == 0x10 && !c.admitOk) || (c.op == 0x11 && !c.completeOk))
    <|> nodeRow Code.BIND_FORMAT G.BIND_REQ (binds && !k.bindOk req)

end Sys2Proof.Machine
end

