-- ==== Sys2Proof/Machine/CheckRows.lean ====
section
/-!
DEFINITION. CHECK of chapters 8 and 9: Tables 8-12 and 9-8 over pool and Chart engine commands, the embedding tables,
row versions, Atlases and placement bounds.
-/

namespace Sys2Proof.Machine

/-! ### Pool commands (Table 8-12) -/

def LoadCmd.embT (d : Dict) (c : LoadCmd) : Nat := (Dict.embTable d c.inst (PoolP.table c.p)).getD 0

/-- Table 8-12, row 1. -/
def LoadCmd.embParamOk (d : Dict) (c : LoadCmd) : Bool :=
  let p := c.p
  decide (1 ≤ c.op) && decide (c.op ≤ 6) && CmdW.paramLen c.w == 64 && CmdW.cubeGroups c.w == 0
    && CmdW.stagePages c.w == 0 && PoolP.scatter p != 3 && !(PoolP.outLayout p == 1 && PoolP.outFmt p == 0)
    && decide (PoolP.part p < PoolP.parts p) && decide (1 ≤ PoolP.parts p) && decide (PoolP.parts p ≤ 32)
    && (c.op == 6 || PoolP.parts p == 1) && PoolP.slots p == (Dict.embNodes d c.inst).length
    && (Dict.embTable d c.inst (PoolP.table p)).isSome && !(c.op == 6 && EmbT.dfltClass (c.embT d) == 3)

/-- Bytes of an exchange area: every slot in full, and no less than a header. -/
def slotArea (slots stride : Nat) : Nat := if slots = 0 then 0 else max 64 (slots * stride)

/-- Ranges of a pool command (Table 8-5): those the command itself gives the size of; batches and lists whose length is
data by their headers. -/
def LoadCmd.embRanges (d : Dict) (c : LoadCmd) : List (Nat × Nat) × List (Nat × Nat) :=
  let p := c.p
  let ins := (PoolP.inAddr p, slotArea (PoolP.slots p) (PoolP.inStride p))
  let outs := (PoolP.outAddr p, slotArea (PoolP.slots p) (PoolP.outStride p))
  let aux := (PoolP.auxAddr p, 64)
  if c.op = 1 then ([(PoolP.inAddr p, 64)], [outs, aux])
  else if c.op = 2 then ([ins], [(PoolP.outAddr p, 8 * PoolP.fetchMax p)])
  else if c.op = 3 then ([ins, (PoolP.auxAddr p, PoolP.fetchMax p * rowBytes 2 (EmbT.dim (c.embT d)))], [outs])
  else if c.op = 4 then ([ins, aux], [(PoolP.statusAddr p, 64)])
  else if c.op = 5 then ([aux], [outs])
  else ([ins], [(PoolP.statusAddr p, 64)])

/-- Table 8-12, row 2. -/
def LoadCmd.embOperandOk (d : Dict) (c : LoadCmd) : Bool :=
  let p := c.p
  let r := c.embRanges d
  let usesIn := c.op == 2 || c.op == 3 || c.op == 4 || c.op == 6
  let usesOut := c.op == 1 || c.op == 3 || c.op == 5
  [PoolP.inAddr p, PoolP.outAddr p, PoolP.auxAddr p, PoolP.statusAddr p].all (fun a => a % 64 == 0)
    && (!usesIn || (PoolP.inStride p % 64 == 0 && decide (64 ≤ PoolP.inStride p)))
    && (!usesOut || (PoolP.outStride p % 64 == 0 && decide (64 ≤ PoolP.outStride p)))
    && r.1.all (fun x => x.2 == 0 || c.inIn x.1 x.2)
    && r.2.all (fun x => x.2 == 0 || (c.inOut x.1 x.2 && Dict.rangeOwned d c.inst x.1 x.2))

/-- Table 8-12, row 4: the EMB_APPLYs of one table in one Sheet. -/
def applyParts (cs : List LoadCmd) : Option Fail :=
  let as := cs.filter (fun c => c.engine == 6 && c.op == 6)
  cmdRow as Code.EMB_APPLY_DUP (fun c => as.any (fun b => decide (b.idx < c.idx) && PoolP.table b.p == PoolP.table c.p
    && (PoolP.parts b.p != PoolP.parts c.p || PoolP.part b.p == PoolP.part c.p)))

/-- A lookup of a table whose descriptor would change is admitted and not completed. -/
def Ck.lookupOpen (k : Ck) (i : Nat) : Bool :=
  (((k.s.inset i).opens.filter (fun o => Sub.kind o.entry == 2)).map (fun o => Sub.target o.entry)
    ++ (k.s.inset i).lookups.map (·.2)).any (fun t => Dict.embTable k.s.gaz.regs i t != Dict.embTable k.d i t)

/-- CYC + D of a pool command (Table 8-11), with N and B, which are data, at 0. -/
def LoadCmd.embCycles (d : Dict) (c : LoadCmd) : Nat :=
  let p := c.p
  let dim := EmbT.dim (c.embT d)
  let cv := ceilDiv dim 32
  let cr := ceilDiv dim 64
  let n := PoolP.slots p
  let i := PoolP.inMax p
  let site := PoolP.site p == 1
  if c.op = 1 then 64 + 2 * n + ceilDiv (64 * n + 64) 128
  else if c.op = 2 then 64 + 2 * i + ceilDiv (8 * PoolP.fetchMax p) 128
  else if c.op = 3 then
    64 + i * cr + (if site then i * cv else 0)
      + ceilDiv (128 * n + (if site then i * (16 + 4 * dim) else i * (1 + rowBytes 0 dim))) 128
  else if c.op = 4 then 65
  else if c.op = 5 then 64 + n
  else 64 + i * (cv + 2 * cr) + 1

/-- Chapter 8 (R188). -/
def Ck.chapter8 (k : Ck) : Option Fail :=
  let cs := k.cmdsOf (fun c => c.engine == 6)
  cmdRow cs Code.EMB_PARAM (fun c => CmdW.paramLen c.w != 64)
    <|> cmdRow cs Code.RESERVED_SET (fun c => !PoolP.reservedOk c.p)
    <|> Dict.tableRows k.d Code.EMB_TABLE_FORMAT G.EMB_TABLES 0x454D4254 64 64 EmbT.reservedOk
    <|> Dict.tableRows k.d Code.EMB_TABLE_FORMAT G.WIDTH_CLASSES 0x57434C53 16 64 (fun e => bf e 31 6 == 0)
    <|> Dict.tableRows k.d Code.EMB_TABLE_FORMAT G.EMB_NODES 0x454E4F44 2 4096 (fun _ => true)
    <|> k.ranges (fun x => decide (0x6000 ≤ x ∧ x < 0x6030)) (fun _ => Code.VALUE_RANGE)
    <|> cmdRow cs Code.EMB_PARAM (fun c => !c.embParamOk k.d)
    <|> cmdRow cs Code.EMB_OPERAND (fun c => !c.embOperandOk k.d)
    <|> instRow Code.EMB_TABLE_FORMAT G.EMB_TABLES (fun i => !Dict.embTablesOk k.d i)
    <|> instRow Code.EMB_TABLE_FORMAT G.WIDTH_CLASSES (fun i => !Dict.widthClassesOk k.d i)
    <|> instRow Code.EMB_TABLE_FORMAT G.EMB_NODES (fun i => !Dict.embNodesOk k.d i)
    <|> (upto 16).findSome? (fun i => (Dict.loaded k.d i).findSome? (fun bm => applyParts (loadCmds i bm.1 bm.2)))
    <|> instRow Code.EMB_TABLE_IN_USE G.EMB_TABLES k.lookupOpen
    <|> cmdRow cs Code.SHEET_WINDOW (fun c => decide (CmdW.est c.w < c.embCycles k.d))

/-! ### Chart engine commands (Table 9-8) -/

/-- Table 9-8, row 1, with the operand rule of R196. -/
def LoadCmd.chartParamOk (d : Dict) (c : LoadCmd) : Bool :=
  let p := c.p
  let n := ChartP.slots p
  let dim := EmbT.dim ((Dict.embTable d c.inst (ChartP.table p)).getD 0)
  let m := ChartP.countMax p
  let lists := (ChartP.inAddr p, slotArea (n + 1) (ChartP.inStride p))
  let r : List (Nat × Nat) × List (Nat × Nat) :=
    if c.op = 1 then ([(ChartP.inAddr p, 64 + roundUp (8 * m) 64 + 4 * dim * m)], [(ChartP.statusAddr p, 64)])
    else if c.op = 2 then ([], [(ChartP.outAddr p, slotArea n (ChartP.outStride p))])
    else if c.op = 3 then ([(ChartP.inAddr p, slotArea n (ChartP.inStride p))], [(ChartP.outAddr p, 64 + 16 * m), (ChartP.statusAddr p, 64)])
    else if c.op = 4 then ([lists], [(ChartP.outAddr p, 8 * m)])
    else if c.op = 5 then ([lists], [(ChartP.outAddr p, slotArea n (ChartP.outStride p))])
    else if c.op = 6 then ([lists, (ChartP.auxAddr p, slotArea n (ChartP.outStride p))], [(ChartP.statusAddr p, 64)])
    else ([], [])
  decide (1 ≤ c.op) && decide (c.op ≤ 7) && CmdW.paramLen c.w == 64 && CmdW.cubeGroups c.w == 0 && CmdW.stagePages c.w == 0
    && (if c.op = 7 then ChartP.table p == 0 && (Dict.atlas d c.inst (ChartP.atlas p)).isSome
        else (Dict.embTable d c.inst (ChartP.table p)).isSome)
    && (n == (Dict.embNodes d c.inst).length || ((c.op == 1 || c.op == 7) && n == 0))
    && (c.op == 7 || ChartP.atlas p == 0)
    && [ChartP.inAddr p, ChartP.outAddr p, ChartP.auxAddr p, ChartP.statusAddr p, ChartP.inStride p, ChartP.outStride p].all
        (fun a => a % 64 == 0)
    && r.1.all (fun x => x.2 == 0 || c.inIn x.1 x.2) && r.2.all (fun x => x.2 == 0 || c.inOut x.1 x.2)

/-- Table 9-8, row 2. -/
def atlasAlone (cs : List LoadCmd) : Option Fail :=
  cmdRow cs Code.PLACE_HAZARD (fun c => c.engine == 0x0B && c.op == 7
    && cs.any (fun b => b.idx != c.idx && (b.engine == 6 || b.engine == 0x0B)))

/-- The kind of version writer a command is of a table: 1 EMB_APPLY, 2 ROW_REPLACE, 3 CHART_COMMIT (R193). -/
def LoadCmd.writerOf (c : LoadCmd) : Option (Nat × Nat) :=
  if c.engine = 6 ∧ c.op = 6 then some (PoolP.table c.p, 1)
  else if c.engine = 0x0B ∧ c.op = 1 then some (ChartP.table c.p, 2)
  else if c.engine = 0x0B ∧ c.op = 6 then some (ChartP.table c.p, 3)
  else none

def Image.writers (m : Image) : List (Nat × Nat) := (loadCmds 0 0 m).filterMap (·.writerOf)

/-- One Sheet's writers of each table are of one kind, ROW_REPLACE and CHART_COMMIT once. -/
def writersOk (ws : List (Nat × Nat)) : Bool :=
  ws.all (fun w => ws.all (fun v => v.1 != w.1 || v.2 == w.2) && (w.2 == 1 || (ws.filter (· == w)).length == 1))

/-- SHEET_IDs met along NEXT links from one, at most `n`. -/
def Dict.walk (d : Dict) (i : Nat) : Nat → Nat → List Nat
  | 0, _ => []
  | n + 1, id => match Dict.imageOf d i id with
    | some m => id :: Dict.walk d i n (Hdr.nextId m.header)
    | none => []

/-- The Sheets of an Inset's streams. -/
def Dict.reachable (d : Dict) (i : Nat) : List Nat :=
  let n := (Dict.images d i).length
  nub ((Dict.num d i G.SHEET_ENTRY :: (upto 4).map (fun j => Dict.num d i (G.STREAM_ENTRY + j))).flatMap (Dict.walk d i n))

/-- R193: writers of one table are LOOKUP_HORIZON Sheets apart along every stream. -/
def Dict.spacingOk (d : Dict) (i : Nat) : Bool :=
  let writers := fun id => match Dict.imageOf d i id with
    | some m => m.writers
    | none => []
  (Dict.reachable d i).all (fun id =>
    let ws := writers id
    writersOk ws && (nub (ws.map (·.1))).all (fun t =>
      let h := RvD.horizon ((Dict.rowVers d i t).getD 0)
      ((Dict.walk d i h id).drop 1).all (fun x => (writers x).all (fun w => w.1 != t))))

/-- Form of ATLAS_DIR and of the placement bounds. -/
def Dict.atlasOk (d : Dict) (i : Nat) : Bool :=
  let b := Dict.blob d i G.ATLAS_DIR
  let es := tableEntries b 64
  tableForm 0x41544C53 64 4 b && strictlyUp (es.map (fun e => bf e 1 0))
    && es.all (fun e => [bf e 191 128, bf e 255 192, bf e 319 256].all (fun a => rangeT1 a 16))

def Dict.boundsOk (d : Dict) (i : Nat) : Bool :=
  let set := Dict.blob d i G.PLACE_OWNER_SET
  decide (Dict.num d i G.PLACE_CLASS_MIN ≤ Dict.num d i G.PLACE_CLASS_MAX)
    && set.length % 2 == 0 && strictlyUp ((chunks 2 4096 set).map leNat) && ((chunks 2 4096 set).map leNat).all (fun n => decide (n < 4096))

/-- R204: staged tables while an Atlas directory is in force. -/
def Ck.atlasOwns (k : Ck) : Option Fail :=
  if k.set < 16 ∧ !(Dict.blob k.d k.set G.ATLAS_DIR).isEmpty then
    if k.stages G.EMB_TABLES then some (Fail.at Code.ATLAS_OWNS_TABLES k.set G.EMB_TABLES 0)
    else if k.stages G.ROW_VERSIONS then some (Fail.at Code.ATLAS_OWNS_TABLES k.set G.ROW_VERSIONS 0)
    else none
  else none

/-- R201: a CHART_COMMIT is PRODUCER of a Scribe write of its flash write list. -/
def migPairs (cs : List LoadCmd) : Option Fail :=
  cmdRow (cs.filter (fun c => c.engine == 0x0B && c.op == 6)) Code.MIG_UNPAIRED (fun c =>
    !(cs.any (fun w => w.engine == 9 && w.op == 2 && w.takesFrom (ChartP.outAddr c.p) (8 * ChartP.countMax c.p) c.idx)))

/-- A row judged Sheet by Sheet. -/
def Ck.bySheet (k : Ck) (f : List LoadCmd → Option Fail) : Option Fail :=
  (upto 16).findSome? (fun i => (Dict.loaded k.d i).findSome? (fun bm => f (loadCmds i bm.1 bm.2)))

/-- Chapter 9 (R208). -/
def Ck.chapter9 (k : Ck) : Option Fail :=
  let cs := k.cmdsOf (fun c => c.engine == 0x0B)
  cmdRow cs Code.PLACE_PARAM (fun c => CmdW.paramLen c.w != 64)
    <|> cmdRow cs Code.RESERVED_SET (fun c => !ChartP.reservedOk c.p)
    <|> Dict.tableRows k.d Code.ROWVER_FORMAT G.ROW_VERSIONS 0x52564552 64 64 RvD.reservedOk
    <|> Dict.tableRows k.d Code.ROWVER_FORMAT G.ATLAS_DIR 0x41544C53 64 4 (fun e => bf e 63 2 == 0 && bf e 511 320 == 0)
    <|> k.ranges (fun x => decide (0x6030 ≤ x ∧ x < 0x7000)) (fun _ => Code.VALUE_RANGE)
    <|> cmdRow cs Code.PLACE_PARAM (fun c => !c.chartParamOk k.d)
    <|> k.bySheet atlasAlone
    <|> instRow Code.VERSION_SPACING G.SHEET_IMAGE (fun i => !Dict.spacingOk k.d i)
    <|> instRow Code.ROWVER_FORMAT G.ROW_VERSIONS (fun i => !Dict.rowVersOk k.d i)
    <|> instRow Code.ROWVER_FORMAT G.ATLAS_DIR (fun i => !Dict.atlasOk k.d i)
    <|> instRow Code.ROWVER_FORMAT G.PLACE_OWNER_SET (fun i => !Dict.boundsOk k.d i)
    <|> k.atlasOwns
    <|> k.bySheet migPairs

end Sys2Proof.Machine
end

