-- ==== Sys2Proof/Machine/Select.lean ====
section
/-!
DEFINITION. Select engines (chapter 5): SELECT, SORT, MERGE and KTH with their result records.
-/

namespace Sys2Proof.Machine

/-! ### Parameter block (Table 5-5) -/

namespace SelP
def elemFmt (p : Nat) : Nat := bf p 1 0
def scoreFmt (p : Nat) : Nat := bf p 3 2
def dir (p : Nat) : Nat := bf p 4 4
def tie (p : Nat) : Nat := bf p 5 5
def listCount (p : Nat) : Nat := bf p 31 16
def n (p : Nat) : Nat := bf p 63 32
def k (p : Nat) : Nat := bf p 95 64
def indexBase (p : Nat) : Nat := bf p 127 96
def stride (p : Nat) : Nat := bf p 159 128
def src (p : Nat) : Nat := bf p 255 192
def dst (p : Nat) : Nat := bf p 319 256
def work (p : Nat) : Nat := bf p 383 320
def reservedOk (p : Nat) : Bool := bf p 15 6 == 0 && bf p 191 160 == 0
/-- Bytes of an input element and of a result entry (Table 5-2). -/
def ib (p : Nat) : Nat := if elemFmt p = 0 then 4 else if elemFmt p = 1 then 8 else 16
def rb (p : Nat) : Nat := if elemFmt p = 2 then 16 else 8
end SelP

/-! ### Elements (R104 to R107) -/

/-- One element: score code, the word that travels with it, its id. -/
structure El where
  score : Nat
  aux   : Nat
  id    : Nat
deriving DecidableEq, Repr

/-- Order of scores: −0 equals +0, infinities at the ends (R106). -/
def scoreKey (fmt x : Nat) : Int :=
  if fmt = 1 then sext 32 x else if x < 2 ^ 31 then (x : Int) else -((x - 2 ^ 31 : Nat) : Int)

/-- The value of a score, for sums. -/
def scoreVal (fmt x : Nat) : Fl := if fmt = 1 then Fl.ofInt (sext 32 x) else f32 x

/-- Element at a position of a row, by its format. -/
def elOf (elemFmt base pos raw : Nat) : El :=
  if elemFmt = 0 then ⟨bf raw 31 0, 0, base + pos⟩
  else if elemFmt = 1 then ⟨bf raw 31 0, 0, bf raw 63 32⟩
  else ⟨bf raw 31 0, bf raw 63 32, bf raw 127 64⟩

/-- R105. -/
def El.valid (elemFmt scoreFmt : Nat) (e : El) : Bool :=
  !(scoreFmt == 0 && (f32 e.score).isNan) && (if elemFmt = 2 then e.id != 2 ^ 64 - 1 else e.id != 2 ^ 32 - 1)

/-- `a` has the better score. -/
def El.better (dir fmt : Nat) (a b : El) : Bool :=
  if dir = 0 then decide (scoreKey fmt b.score < scoreKey fmt a.score)
  else decide (scoreKey fmt a.score < scoreKey fmt b.score)

/-- `a`, earlier in input order, stands before `b` (R106, R107). -/
def El.before (dir fmt tie : Nat) (a b : El) : Bool :=
  El.better dir fmt a b || (!El.better dir fmt b a && (tie == 0 || decide (a.id ≤ b.id)))

/-- The 8 or 16 bytes of a result entry. -/
def El.bytes (rb : Nat) (e : El) : Bytes :=
  if rb = 16 then toLe 4 e.score ++ toLe 4 e.aux ++ toLe 8 e.id else toLe 4 e.score ++ toLe 4 e.id

/-- The sentinel entry (R109). -/
def sentinel (dir fmt rb : Nat) : El :=
  ⟨if dir = 0 then (if fmt = 1 then 0x80000000 else 0xFF800000) else (if fmt = 1 then 0x7FFFFFFF else 0x7F800000), 0,
   if rb = 16 then 2 ^ 64 - 1 else 2 ^ 32 - 1⟩

/-! ### Sums (R110) -/

/-- An exact sum rounded once to fp64, and whether a term was not finite. -/
def massSum (vs : List Fl) : Nat × Bool :=
  if vs.any (fun v => v.isNan || v.isInf) then (0x7FF8000000000000, true)
  else (fmt64.encode (vs.foldl Fl.add (.fin false 0 0)), false)

/-! ### The result record (Table 5-4) -/

/-- What a select command found. -/
structure Selected where
  k        : Nat
  entries  : List El
  count    : Nat
  valid    : Nat
  ties     : Nat
  dups     : Nat
  invalid  : Nat
  rest     : Nat
  sel      : Nat × Bool
  restSum  : Nat × Bool
  dupSum   : Nat × Bool
  below    : Bool
deriving DecidableEq, Repr

/-- The record: header and entries, padded with sentinels. -/
def Selected.record (p op : Nat) (r : Selected) : Bytes :=
  let rb := SelP.rb p
  let nonfin := r.sel.2 || r.restSum.2 || r.dupSum.2
  let h := 0x53454C52 + (if rb = 16 then 2 else 1) * 2 ^ 32 + SelP.scoreFmt p * 2 ^ 34 + SelP.dir p * 2 ^ 36
    + SelP.tie p * 2 ^ 37 + flagBit (decide (r.valid < r.k)) * 2 ^ 38 + flagBit r.below * 2 ^ 39
    + flagBit nonfin * 2 ^ 40 + (op % 16) * 2 ^ 48 + r.k * 2 ^ 64 + r.valid * 2 ^ 96 + (r.ties % 2 ^ 32) * 2 ^ 128
    + (r.dups % 2 ^ 32) * 2 ^ 160 + (r.invalid % 2 ^ 32) * 2 ^ 192 + r.count * 2 ^ 224
    + (r.rest % 2 ^ 64) * 2 ^ 256 + r.sel.1 * 2 ^ 320 + r.restSum.1 * 2 ^ 384 + r.dupSum.1 * 2 ^ 448
  let es := r.entries ++ List.replicate (r.count - r.entries.length) (sentinel (SelP.dir p) (SelP.scoreFmt p) rb)
  toLe 64 h ++ (es.map (El.bytes rb)).flatten

/-- Elements that score as `s` does. -/
def tiesWith (fmt : Nat) (s : El) (es : List El) : Nat :=
  (es.filter (fun e => scoreKey fmt e.score == scoreKey fmt s.score)).length

/-- SELECT (1), SORT (2), KTH (4) over a row (R109 to R111, R118). -/
def selectRow (p op : Nat) (row : List El) : Selected :=
  let sf := SelP.scoreFmt p
  let good := row.filter (El.valid (SelP.elemFmt p) sf)
  let sorted := sortBy (El.before (SelP.dir p) sf (SelP.tie p)) good
  let k := if op = 2 then good.length else SelP.k p
  let v := min k good.length
  let best := sorted.take v
  let entries := if op = 4 then (if good.length < k then [] else (best.drop (k - 1)).take 1) else best
  { k := k, entries := entries
    count := if op = 2 then SelP.n p else if op = 4 then 1 else SelP.k p
    valid := v
    ties := if v < k ∨ k = 0 then 0 else match best.getLast? with
      | some s => tiesWith sf s good
      | none => 0
    dups := 0, invalid := row.length - good.length, rest := good.length - v
    sel := massSum (best.map (fun e => scoreVal sf e.score))
    restSum := massSum ((sorted.drop v).map (fun e => scoreVal sf e.score))
    dupSum := (0, false), below := false }

/-! ### MERGE (R112 to R114) -/

/-- One input list: its header and entries. -/
structure InList where
  header  : Nat
  entries : List El
deriving DecidableEq, Repr

namespace LstH
def valid (h : Nat) : Nat := bf h 127 96
def ties (h : Nat) : Nat := bf h 159 128
def invalid (h : Nat) : Nat := bf h 223 192
def count (h : Nat) : Nat := bf h 255 224
def rest (h : Nat) : Nat := bf h 319 256
def sel (h : Nat) : Fl := fmt64.decode (bf h 383 320)
def restSum (h : Nat) : Fl := fmt64.decode (bf h 447 384)
def shortfall (h : Nat) : Bool := bit h 38
def below (h : Nat) : Bool := bit h 39
end LstH

/-- Valid entries of a list. -/
def InList.good (p : Nat) (l : InList) : List El := l.entries.filter (El.valid (SelP.elemFmt p) (SelP.scoreFmt p))

/-- Adjacent entries in order. -/
def inOrder (le : El → El → Bool) : List El → Bool
  | a :: b :: r => le a b && inOrder le (b :: r)
  | _ => true

/-- The header conditions of R112, known before the entries are read. -/
def headOk (p h : Nat) : Bool :=
  bf h 31 0 == 0x53454C52 && bf h 51 48 != 4 && bf h 33 32 == SelP.elemFmt p && bf h 35 34 == SelP.scoreFmt p
    && bf h 36 36 == SelP.dir p && bf h 37 37 == SelP.tie p
    && decide (64 + LstH.count h * SelP.rb p ≤ SelP.stride p)

/-- R112. -/
def InList.ok (p : Nat) (l : InList) : Bool :=
  let g := l.good p
  headOk p l.header && LstH.valid l.header == g.length
    && (l.entries.take g.length) == g
    && inOrder (El.before (SelP.dir p) (SelP.scoreFmt p) (SelP.tie p)) g

/-- Copies removed (R113): of each id the better score, the earlier of equals; kept entries stay in input order. -/
def dedup (dir fmt : Nat) (es : List El) : List El × List El :=
  es.foldl (fun (acc : List El × List El) e =>
    match acc.1.find? (fun k => k.id == e.id) with
    | none => (acc.1 ++ [e], acc.2)
    | some k =>
      if El.better dir fmt e k then (acc.1.filter (fun x => !(x.id == e.id)) ++ [e], acc.2 ++ [k])
      else (acc.1, acc.2 ++ [e])) ([], [])

/-- The kept entries in input order: the first position of the kept copy. -/
def keptInOrder (es kept : List El) : List El := nub (es.filter (fun e => kept.contains e))

/-- The merge of accepted lists. -/
def mergeLists (p : Nat) (ls : List InList) : Selected :=
  let sf := SelP.scoreFmt p
  let all := ls.flatMap (fun l => l.good p)
  let (kept, gone) := dedup (SelP.dir p) sf all
  let sorted := sortBy (El.before (SelP.dir p) sf (SelP.tie p)) (keptInOrder all kept)
  let k := SelP.k p
  let v := min k kept.length
  let best := sorted.take v
  let ties := if v < k ∨ k = 0 then 0 else match best.getLast? with
    | none => 0
    | some s =>
      tiesWith sf s kept + (ls.map (fun l =>
        match (l.good p).getLast? with
        | some e =>
          if !LstH.shortfall l.header && scoreKey sf e.score == scoreKey sf s.score then
            LstH.ties l.header - tiesWith sf s (l.good p)
          else 0
        | none => 0)).sum
  let val := fun (e : El) => scoreVal sf e.score
  { k := k, entries := best, count := k, valid := v, ties := ties, dups := gone.length
    invalid := (ls.map (fun l => LstH.invalid l.header)).sum
    rest := (ls.map (fun l => LstH.valid l.header + LstH.rest l.header)).sum - v - gone.length
    sel := massSum (best.map val)
    restSum := massSum (ls.flatMap (fun l => [LstH.sel l.header, LstH.restSum l.header])
      ++ best.map (fun e => (val e).neg) ++ gone.map (fun e => (val e).neg))
    dupSum := massSum (gone.map val)
    below := (decide (2 ≤ ls.length) && ls.any (fun l => decide (0 < LstH.rest l.header)))
      || ls.any (fun l => LstH.below l.header) }

/-- List `i` of a MERGE as it stands in memory. -/
def State.mergeList (s : State) (p i : Nat) : InList :=
  let a := SelP.src p + i * SelP.stride p
  let h := s.readNat a 64
  let rb := SelP.rb p
  ⟨h, if headOk p h then (upto (LstH.count h)).map (fun j =>
    elOf (SelP.elemFmt p) 0 0 (s.readNat (a + 64 + j * rb) rb)) else []⟩

/-- The ranges a MERGE reads: headers, and the entries of lists whose header holds. -/
def State.mergeReads (s : State) (p : Nat) : List (Nat × Nat) :=
  (upto (SelP.listCount p)).flatMap (fun i =>
    let a := SelP.src p + i * SelP.stride p
    let h := s.readNat a 64
    (a, 64) :: (if headOk p h then [(a + 64, LstH.count h * SelP.rb p)] else []))

/-! ### The commands -/

/-- R120: what a committed command counts. -/
def selectCounts (i : Nat) (r : Selected) : List Eff :=
  [.addReg i G.SELECT_CMDS 1, .addReg i G.SELECT_SHORTFALL (flagBit (decide (r.valid < r.k))),
   .addReg i G.SELECT_DUPS r.dups, .addReg i G.SELECT_DUP_BELOW_CUT (flagBit r.below),
   .addReg i G.SELECT_INVALID r.invalid]

/-- The work of SELECT, SORT and KTH. -/
def State.rowSelect (s : State) (op : Nat) (r : CmdRef) (c : Cmd) : State × Res :=
  let p := leNat c.params
  let reads := [(SelP.src p, SelP.n p * SelP.ib p)]
  match s.readFault c reads with
  | some f => (s, f)
  | none =>
    let row := (upto (SelP.n p)).map (fun j =>
      elOf (SelP.elemFmt p) (SelP.indexBase p) j (s.readNat (SelP.src p + j * SelP.ib p) (SelP.ib p)))
    let res := selectRow p op row
    (s.noteReads reads, .done { Work.ofWrites [(SelP.dst p, res.record p op)] with onCommit := selectCounts r.inset res })

/-- The work of MERGE; it examines no elements, so SELECT_INVALID does not advance (DEDUCED, log entry 99). -/
def State.mergeSelect (s : State) (r : CmdRef) (c : Cmd) : State × Res :=
  let p := leNat c.params
  let reads := s.mergeReads p
  match s.readFault c reads with
  | some f => (s, f)
  | none =>
    let ls := (upto (SelP.listCount p)).map (s.mergeList p)
    if ls.all (InList.ok p) then
      let res := mergeLists p ls
      (s.noteReads reads, .done { Work.ofWrites [(SelP.dst p, res.record p 3)] with onCommit := selectCounts r.inset { res with invalid := 0 } })
    else (s.bump r.inset G.SELECT_INPUT_FAULTS 1, .fault Code.SELECT_INPUT)

/-- The command reads elements or lists. -/
def selectData (c : Cmd) : Bool := SelP.n (leNat c.params) + SelP.listCount (leNat c.params) != 0

/-- SELECT (R103). -/
def execSelect (c : CmdRef) (hw : Hw) (s : State) : Host.Outcome State Fault Refusal :=
  s.engineRow c hw 5 1 selectData (fun s x => s.rowSelect 1 c x)

/-- SORT (R103). -/
def execSort (c : CmdRef) (hw : Hw) (s : State) : Host.Outcome State Fault Refusal :=
  s.engineRow c hw 5 2 selectData (fun s x => s.rowSelect 2 c x)

/-- MERGE (R112 to R114). -/
def execMerge (c : CmdRef) (hw : Hw) (s : State) : Host.Outcome State Fault Refusal :=
  s.engineRow c hw 5 3 selectData (fun s x => s.mergeSelect c x)

/-- KTH (R109). -/
def execKth (c : CmdRef) (hw : Hw) (s : State) : Host.Outcome State Fault Refusal :=
  s.engineRow c hw 5 4 selectData (fun s x => s.rowSelect 4 c x)

end Sys2Proof.Machine
end

