-- ==== Sys2Proof/Machine/CheckTiles.lean ====
section
/-!
DEFINITION. CHECK of chapters 3 to 5: Tables 3-9 and 4-11 over tile commands, PROJ_CALIB, and Table 5-7 over select
commands.
-/

namespace Sys2Proof.Machine

/-! ### Tile commands -/

/-- The command carries a Projection descriptor. -/
def LoadCmd.hasProj (c : LoadCmd) : Bool := c.engine == 3 || (c.engine == 1 && MatP.outProj c.p)
/-- Its place in the parameter area. -/
def LoadCmd.projAt (c : LoadCmd) : Nat := if c.engine = 3 then ProjP.projAt c.p else MatP.projAt c.p
/-- The descriptor itself. -/
def LoadCmd.proj (c : LoadCmd) : Nat := if c.hasProj then descAt c.image.area c.projAt else 0

/-- Rows and columns of the matrix that passes the Projection unit. -/
def LoadCmd.projDims (c : LoadCmd) : Nat × Nat :=
  if c.engine = 3 then (ProjP.rows c.p, ProjP.cols c.p) else (MatP.m c.p, MatP.n c.p)

/-- The opcodes of Table 3-8. -/
def vecOpOk (op : Nat) : Bool :=
  (decide (1 ≤ op) && decide (op ≤ 12)) || (decide (0x10 ≤ op) && decide (op ≤ 0x16)) || (decide (0x20 ≤ op) && decide (op ≤ 0x22))

/-- Table 3-8, Types: the opcode has an int32 form. -/
def vecHasInt (op : Nat) : Bool := [1, 2, 3, 5, 6, 7, 8, 0xA, 0xB, 0xC, 0x20, 0x21].contains op

/-- R80. -/
def vecTypesOk (op p : Nat) : Bool :=
  let s := VecP.srcFmt p
  let d := VecP.dstFmt p
  decide (s ≤ 3) && (d == 0 || d == 3) && (s != 3 || vecHasInt op)
    && (if op = 0xA then d == 3 else if op = 0xC then (d == 0) == (s == 3) else (d == 3) == (s == 3))

def matFmtsOk (p : Nat) : Bool :=
  let a := MatP.aFmt p
  let b := MatP.bFmt p
  decide (a ≤ 6) && decide (b ≤ 6) && (a == b || ((a == 2 || a == 3) && (b == 2 || b == 3)))

/-- Table 3-9, row 1, of engine types 1 and 2. -/
def LoadCmd.tileParamOk (c : LoadCmd) : Bool :=
  let p := c.p
  if c.engine = 1 then
    c.op == 1 && CmdW.paramLen c.w == 32 && matFmtsOk p && MatP.accMode p != 3
      && !(MatP.accMode p == 2 && MatP.outProj p) && CmdW.cubeGroups c.w != 0 && CmdW.stagePages c.w == 0
  else
    vecOpOk c.op && CmdW.paramLen c.w == 32 && decide (VecP.layout p ≤ 1) && vecTypesOk c.op p
      && CmdW.cubeGroups c.w == 0 && CmdW.stagePages c.w == 0

/-- The part of Table 4-11, row 1, that a descriptor and its command answer for. -/
def LoadCmd.projParamOk (d : Dict) (c : LoadCmd) : Bool :=
  let q := c.proj
  let recal := ProjD.recal q
  decide (c.projAt + 32 ≤ c.image.area.length) && decide (ProjD.fmt q ≤ 6) && decide (ProjD.round q ≤ 1)
    && (!ProjD.rerun q || recal)
    && (if c.engine = 3 then
          decide (1 ≤ c.op) && decide (c.op ≤ 3) && CmdW.paramLen c.w == 32 && CmdW.cubeGroups c.w == 0
            && CmdW.stagePages c.w == 0 && decide (ProjP.wideFmt c.p ≤ 3) && decide (ProjP.wideLayout c.p ≤ 1)
            && (c.op != 2 || decide (ProjP.wideFmt c.p ≤ 1)) && (c.op != 3 || recal)
        else bit (Dict.num d c.inst G.INSET_TILE_UNITS) c.cmd.index)

/-- An operand of a tile command: offset, bytes, whether it must lie in an output descriptor. -/
structure TileOp where
  off : Nat
  len : Nat
  out : Bool

/-- Bytes of the records that the unit writes beside the codes. -/
def LoadCmd.recBytes (c : LoadCmd) : Nat :=
  let q := c.proj
  if ProjD.recal q then roundUp (8 * recCount (ProjD.gran q) c.projDims.1 c.projDims.2) 64 else 0

/-- Bytes at the destination. -/
def LoadCmd.destBytes (c : LoadCmd) : Nat :=
  let p := c.p
  if c.engine = 1 then
    if MatP.outProj p then (Layout.a (ProjD.fmt c.proj) (MatP.n p)).size (MatP.m p) else (Layout.c 32 (MatP.n p)).size (MatP.m p)
  else if c.engine = 2 then
    if vecIsRow c.op then (if VecP.rowLen p = 0 then 0 else 4 * (VecP.nElem p / VecP.rowLen p))
    else (VecP.lay p 32).size (VecP.rows p)
  else if ProjP.rows p * ProjP.cols p = 0 ∨ c.op = 3 then 0
  else if c.op = 1 then (Layout.a (ProjD.fmt c.proj) (ProjP.cols p)).size (ProjP.rows p)
  else (ProjP.wide p).size (ProjP.rows p)

/-- Bytes at the staging region (R66, R78, R93). -/
def LoadCmd.stageBytes (c : LoadCmd) : Nat :=
  if c.engine = 1 then (Layout.c 32 (MatP.n c.p)).size (MatP.m c.p)
  else if c.engine = 2 then c.destBytes
  else if c.projDims.1 * c.projDims.2 = 0 then 0
  else if c.recBytes = 0 then c.destBytes else roundUp c.destBytes 64 + c.recBytes

/-- The operands of a tile command, parameter records apart. -/
def LoadCmd.tileOps (c : LoadCmd) : List TileOp :=
  let p := c.p
  if c.engine = 1 then
    [⟨MatP.aOff p, (Layout.a (MatP.aFmt p) (MatP.k p)).size (MatP.m p), false⟩,
     ⟨MatP.bOff p, (Layout.a (MatP.bFmt p) (MatP.k p)).size (MatP.n p), false⟩,
     ⟨MatP.cOff p, c.destBytes, true⟩, ⟨MatP.stageOff p, c.stageBytes, true⟩]
      ++ (if MatP.accMode p = 1 then [⟨MatP.biasOff p, ceilDiv (MatP.n p) 8 * 32, false⟩] else [])
      ++ (if MatP.accMode p = 2 then [⟨MatP.cOff p, (Layout.c 32 (MatP.n p)).size (MatP.m p), false⟩] else [])
  else if c.engine = 2 then
    (upto (vecSources c.op)).map (fun k =>
        (⟨if k = 0 then VecP.aOff p else if k = 1 then VecP.bOff p else VecP.cOff p,
          (VecP.lay p (wideBits (vecFmt p c.op k))).size (VecP.rows p), false⟩ : TileOp))
      ++ [⟨VecP.dstOff p, c.destBytes, true⟩, ⟨VecP.stageOff p, c.stageBytes, true⟩]
  else
    let src := if ProjP.rows p * ProjP.cols p = 0 then 0
      else if c.op = 2 then (Layout.a (ProjD.fmt c.proj) (ProjP.cols p)).size (ProjP.rows p) else (ProjP.wide p).size (ProjP.rows p)
    [⟨ProjP.srcOff p, src, false⟩, ⟨ProjP.stageOff p, c.stageBytes, true⟩]
      ++ (if c.op = 3 then [] else [⟨ProjP.dstOff p, c.destBytes, true⟩])

/-- Table 3-9, row 2. -/
def LoadCmd.tileLayoutOk (c : LoadCmd) : Bool :=
  let p := c.p
  c.tileOps.all (fun o => o.off % 64 == 0)
    && (c.engine != 2 || ((VecP.rowLen p == 0 || VecP.nElem p % VecP.rowLen p == 0)
          && !(VecP.rowLen p == 0 && decide (0 < VecP.nElem p) && (vecIsRow c.op || VecP.layout p == 1))))

/-- Output blocks of a MATMUL. -/
def LoadCmd.blocks (c : LoadCmd) : Nat := ceilDiv (MatP.m c.p) 8 * ceilDiv (MatP.n c.p) 8

def LoadCmd.groups (c : LoadCmd) : Nat := popCount 4 (CmdW.cubeGroups c.w)

/-- Table 3-9, row 3. -/
def LoadCmd.tileShapeOk (c : LoadCmd) : Bool :=
  (c.engine != 1 || decide (ceilDiv c.blocks (4 * c.groups) ≤ 4096))
    && (c.engine != 2 || decide (VecP.nElem c.p ≤ 4194304))
    && c.tileOps.all (fun o => decide (o.off + o.len ≤ 0x400000))

/-- An operand lies in owned quarters and inside a descriptor of its direction. -/
def LoadCmd.tileOpOk (d : Dict) (c : LoadCmd) (o : TileOp) : Bool :=
  let a := tileAddr c.cmd.index + o.off
  o.len == 0 || (Dict.rangeOwned d c.inst a o.len && (if o.out then c.inOut a o.len else c.inIn a o.len))

/-- ACLK cycles of a tile command (R58, R79, R92, R93). -/
def LoadCmd.tileCycles (c : LoadCmd) : Nat :=
  let p := c.p
  let q := c.proj
  if c.engine = 1 then
    let b := c.blocks
    let g := c.groups
    let steps := max (ceilDiv (MatP.k p) (fmtKs (MatP.aFmt p)) * (if MatP.aFmt p = 6 then 6 else 1)) 1
    let half := ceilDiv (2 * b) g
    let drain := if b = 0 then 0
      else if !MatP.outProj p then ceilDiv (b * 256) 1024
      else if ProjD.recal q then 2 * half + 32 else half + 16
    ceilDiv b (4 * g) * steps + 32 + (if MatP.accMode p = 2 then ceilDiv b g else 0) + drain
  else if c.engine = 2 then ceilDiv (VecP.nElem p) (vecRate c.op) + 24 + ceilDiv c.destBytes 1024
  else
    let e := ProjP.rows p * ProjP.cols p
    ceilDiv e 128 + 24 + (if ProjD.recal q then ceilDiv e 128 + 16 else 0) + ceilDiv c.stageBytes 1024

/-- Table 4-11, row 2. -/
def LoadCmd.projRecsOk (d : Dict) (c : LoadCmd) : Bool :=
  let q := c.proj
  let n := 8 * recCount (ProjD.gran q) c.projDims.1 c.projDims.2
  ProjD.qpOff q % 8 == 0
    && (c.projDims.1 * c.projDims.2 == 0 || c.tileOpOk d ⟨ProjD.qpOff q, n, ProjD.recal q⟩)

/-- Table 4-8 and 4-9. -/
def Dict.calibOk (d : Dict) (i : Nat) : Bool :=
  let b := Dict.blob d i G.PROJ_CALIB
  let es := tableEntries b 16
  tableForm 0x43414C42 16 4096 b && strictlyUp (es.map (fun e => bf e 15 0))
    && es.all (fun e => bf e 15 0 != 0xFFFF && decide (0x3F800000 ≤ bf e 95 64) && decide (bf e 95 64 ≤ 0x40800000))

/-- Reserved bits of tile parameter blocks and Projection descriptors. -/
def LoadCmd.tileReservedOk (c : LoadCmd) : Bool :=
  (if c.engine = 1 then MatP.reservedOk c.p else if c.engine = 2 then VecP.reservedOk c.p else ProjP.reservedOk c.p)
    && (!c.hasProj || ProjD.reservedOk c.proj)

/-- Sheets with more re-runs than PROJ_RERUN_MAX (R99). -/
def Ck.rerunLimit (k : Ck) : Option Fail :=
  (upto 16).findSome? (fun i => ((Dict.loaded k.d i).find? (fun bm =>
    decide (Dict.num k.d i G.PROJ_RERUN_MAX
      < ((loadCmds i bm.1 bm.2).filter (fun c => c.hasProj && ProjD.rerun c.proj)).length))).map
        (fun bm => Fail.at Code.PROJ_RERUN_LIMIT i G.SHEET_IMAGE bm.1))

/-- Chapters 3 and 4 (R83, R101). -/
def Ck.chapter4 (k : Ck) : Option Fail :=
  let ts := k.cmdsOf (fun c => decide (1 ≤ c.engine) && decide (c.engine ≤ 3))
  let ms := ts.filter (fun c => c.engine == 1 && c.hasProj)
  let ps := ts.filter (·.hasProj)
  ((ts.find? (fun c => CmdW.paramLen c.w != 32)).map (fun c => c.fail (if c.engine = 3 then Code.PROJ_PARAM else Code.TILE_PARAM)))
    <|> cmdRow ts Code.RESERVED_SET (fun c => !c.tileReservedOk)
    <|> Dict.tableRows k.d Code.PROJ_CALIB_FORMAT G.PROJ_CALIB 0x43414C42 16 4096
          (fun e => bf e 31 16 == 0 && bf e 127 96 == 0)
    <|> k.ranges (fun x => x / 0x1000 == 4) (fun _ => Code.VALUE_RANGE)
    <|> ((ts.find? (fun c => if c.engine = 3 then !c.projParamOk k.d else !c.tileParamOk)).map
          (fun c => c.fail (if c.engine = 3 then Code.PROJ_PARAM else Code.TILE_PARAM)))
    <|> cmdRow ts Code.TILE_LAYOUT (fun c => !c.tileLayoutOk)
    <|> cmdRow ts Code.TILE_SHAPE (fun c => !c.tileShapeOk)
    <|> cmdRow ts Code.TILE_OPERAND (fun c => !c.tileOps.all (c.tileOpOk k.d))
    <|> cmdRow ts Code.SHEET_WINDOW (fun c => decide (CmdW.est c.w < ceilDiv (2 * c.tileCycles) 3))
    <|> cmdRow ms Code.PROJ_PARAM (fun c => !c.projParamOk k.d)
    <|> cmdRow ps Code.TILE_OPERAND (fun c => !c.projRecsOk k.d)
    <|> cmdRow ps Code.TILE_SHAPE (fun c => decide (4194304 < c.projDims.1 * c.projDims.2))
    <|> cmdRow ps Code.PROJ_LAYER (fun c =>
          ProjD.layer c.proj != 0xFFFF && (Dict.layer k.d c.inst (ProjD.layer c.proj)).isNone)
    <|> cmdRow ps Code.SHEET_SYNC (fun c =>
          (ProjD.missEn c.proj || ProjD.rerun c.proj) && Dict.syncOwner k.d (ProjD.missSync c.proj) != some c.inst)
    <|> k.rerunLimit
    <|> instRow Code.PROJ_CALIB_FORMAT G.PROJ_CALIB (fun i => !Dict.calibOk k.d i)

/-! ### Select commands (R115 to R119) -/

/-- Table 5-7, row 1. -/
def LoadCmd.selParamOk (c : LoadCmd) : Bool :=
  let p := c.p
  decide (1 ≤ c.op) && decide (c.op ≤ 4) && CmdW.paramLen c.w == 48 && CmdW.cubeGroups c.w == 0
    && SelP.elemFmt p != 3 && decide (SelP.scoreFmt p ≤ 1) && (c.op != 2 || SelP.k p == 0) && (c.op != 4 || SelP.k p != 0)
    && (if c.op = 3 then SelP.elemFmt p != 0 && SelP.n p == 0 && decide (1 ≤ SelP.listCount p)
          && decide (SelP.listCount p ≤ 64) && SelP.stride p % 64 == 0 && decide (64 ≤ SelP.stride p)
        else SelP.listCount p == 0)
    && !(SelP.elemFmt p == 0 && decide (0xFFFFFFFF < SelP.indexBase p + SelP.n p))

/-- Table 5-7, row 2. -/
def LoadCmd.selLengthOk (c : LoadCmd) : Bool :=
  let p := c.p
  decide (SelP.n p ≤ 16777216) && decide (SelP.k p ≤ 16777216)
    && (c.op != 3 || decide (SelP.listCount p * ((SelP.stride p - 64) / SelP.rb p) ≤ 16777216))

/-- ENTRY_COUNT and RB. -/
def selEntries (op p : Nat) : Nat := if op = 2 then SelP.n p else if op = 4 then 1 else SelP.k p
def selBytes (op p : Nat) : Nat := 64 + selEntries op p * SelP.rb p

/-- C_merge with `fuel` passes left, from `r` runs. -/
def mergeCost (n k rb : Nat) : Nat → Nat → Nat
  | 0, _ => 0
  | f + 1, r => if r ≤ 1 then 0 else 2 * ceilDiv (min n (r * k) * rb) 128 + mergeCost n k rb f (ceilDiv r 16)

/-- k of R116, and the cycles of the merge passes. -/
def selK (op p : Nat) : Nat := if op = 2 then SelP.n p else SelP.k p
def selRuns (p : Nat) : Nat := ceilDiv (SelP.n p) (524288 / SelP.rb p)
def selMerge (op p : Nat) : Nat :=
  if op = 3 ∨ selK op p ≤ 4096 then 0 else mergeCost (SelP.n p) (selK op p) (SelP.rb p) 8 (selRuns p)

/-- WORK_BYTES (R117). -/
def selWork (op p : Nat) : Nat :=
  (if 0 < selMerge op p then 2 * min (SelP.n p) (selRuns p * selK op p) * SelP.rb p else 0)
    + (if 4194304 < selBytes op p then selBytes op p else 0)

/-- Bytes of the input. -/
def selIn (op p : Nat) : Nat := if op = 3 then SelP.listCount p * SelP.stride p else SelP.n p * SelP.ib p

/-- A work region of `n` bytes in the region's WORK part (R241). -/
def Dict.inWork (d : Dict) (i a n : Nat) : Bool :=
  decide (Dict.num d i G.STAGE_T1_BASE ≤ a)
    && decide (a + n ≤ Dict.num d i G.STAGE_T1_BASE + Dict.num d i G.STAGE_T1_WORK)

def LoadCmd.selOperandOk (d : Dict) (c : LoadCmd) : Bool :=
  let p := c.p
  let rb := selBytes c.op p
  let n := selIn c.op p
  SelP.src p % 64 == 0 && SelP.dst p % 64 == 0 && SelP.work p % 64 == 0
    && (n == 0 || c.inIn (SelP.src p) n) && c.inOut (SelP.dst p) rb
    && (if selWork c.op p = 0 then SelP.work p == 0 else Dict.inWork d c.inst (SelP.work p) (selWork c.op p))
    && CmdW.stagePages c.w == (if rb ≤ 4194304 then ceilDiv rb 65536 else 0)

/-- CYC + D of R116. -/
def selCycles (op p : Nat) : Nat :=
  let h := if selK op p ≤ 256 then 1 else 2
  h * ceilDiv (selIn op p) 128 + selMerge op p + 64 + 2 * ceilDiv (selBytes op p) 128

/-- Chapter 5 (Table 5-7). -/
def Ck.chapter5 (k : Ck) : Option Fail :=
  let cs := k.cmdsOf (fun c => c.engine == 5)
  cmdRow cs Code.SELECT_PARAM (fun c => CmdW.paramLen c.w != 48)
    <|> cmdRow cs Code.RESERVED_SET (fun c => !SelP.reservedOk c.p)
    <|> cmdRow cs Code.SELECT_PARAM (fun c => !c.selParamOk)
    <|> cmdRow cs Code.SELECT_LENGTH (fun c => !c.selLengthOk)
    <|> cmdRow cs Code.SELECT_OPERAND (fun c => !c.selOperandOk k.d)
    <|> cmdRow cs Code.SHEET_WINDOW (fun c => decide (CmdW.est c.w < selCycles c.op c.p))

end Sys2Proof.Machine
end

