-- ==== Sys2Proof/Machine/CheckMisc.lean ====
section
/-!
DEFINITION. CHECK of chapters 17 to 22 and its order over all chapters (R357): shared resources, reliability and rehearsal
entries, counters, power settings and the start-up range.
-/

namespace Sys2Proof.Machine

/-! ### Chapter 17 -/

def Ck.chapter17 (k : Ck) : Option Fail :=
  k.ranges (fun x => decide (0x1000 ≤ x ∧ x < 0x1100)) (fun _ => Code.VALUE_RANGE) <|> k.resources

/-! ### Rehearsal (R384, Table 18-11) -/

namespace RehE
def kind (e : Nat) : Nat := bf e 1 0
def det (e : Nat) : Nat := bf e 15 4
def cmd (e : Nat) : Nat := bf e 31 16
def sheet (e : Nat) : Nat := bf e 47 32
def inst (e : Nat) : Nat := bf e 63 48
def reservedOk (e : Nat) : Bool := bf e 3 2 == 0
end RehE

/-- The command is of a detector's kind. -/
def detCmd (det : Nat) (c : LoadCmd) : Bool :=
  let e := c.engine
  match det with
  | 0x001 | 0x003 => e == 1
  | 0x002 => decide (1 ≤ e) && decide (e ≤ 3)
  | 0x004 | 0x006 => true
  | 0x005 => c.cmd.inputs.any (fun d => Desc.tier d == 1)
  | 0x007 => e == 5
  | 0x008 => e == 4
  | 0x009 => e == 6
  | 0x00A => e == 7
  | 0x00B | 0x00C => e == 9
  | 0x00D => e == 0x0A
  | 0x00E => CmdW.waitCond c.w == 3
  | _ => false

/-- Instances of a timed detector; 0 for one that is none. -/
def detInstances : Nat → Nat
  | 0x010 | 0x012 => 8
  | 0x011 => 144
  | 0x013 | 0x014 | 0x100 | 0x101 | 0x102 | 0x103 => 1
  | 0x015 => 256 + instCount 1
  | 0x016 => 512
  | _ => 0

/-- The command that an entry names. -/
def Dict.rehearsed (d : Dict) (i e : Nat) : Option LoadCmd :=
  ((Dict.loaded d i).find? (fun bm => Hdr.sheetId bm.2.header == RehE.sheet e)).bind
    (fun bm => (Sys2Proof.Machine.loadCmds i bm.1 bm.2)[RehE.cmd e]?)

def Dict.rehearsalOk (d : Dict) (i : Nat) : Bool :=
  let es := tableEntries (Dict.blob d i G.REHEARSAL_TABLE) 16
  es.all (fun e => RehE.kind e == 0 && (match Dict.rehearsed d i e with
      | some c => CmdW.rehearsal c.w && detCmd (RehE.det e) c
      | none => false))
    && (Dict.loaded d i).all (fun bm => (Sys2Proof.Machine.loadCmds i bm.1 bm.2).all (fun c =>
      !CmdW.rehearsal c.w
        || (es.filter (fun e => RehE.sheet e == Hdr.sheetId bm.2.header && RehE.cmd e == c.idx)).length == 1))

def timedOk (b : Bytes) : Bool :=
  (tableEntries b 16).all (fun e => RehE.kind e == 1 && decide (RehE.inst e < detInstances (RehE.det e)))

/-- Chapter 18 (R387). -/
def Ck.chapter18 (k : Ck) : Option Fail :=
  let d := k.d
  let timed := Dict.nodeBlob d G.REHEARSAL_TIMED
  let frac := fun i => Dict.num d i G.SUSPECT_FRACTION
  k.ranges (fun x => x / 0x1000 == 0xB) (fun _ => Code.REL_FORMAT)
    <|> Dict.tableRows d Code.REL_FORMAT G.REHEARSAL_TABLE 0x52485253 16 1024 RehE.reservedOk
    <|> Dict.nodeTable d Code.REL_FORMAT G.REHEARSAL_TIMED 0x5248544D 16 256 RehE.reservedOk
    <|> instRow Code.REL_FORMAT G.SUSPECT_FRACTION (fun i => decide (0x3F800000 < frac i) && frac i != 0x80000000)
    <|> instRow Code.RESOURCE_FILLING G.T1_CHANNELS (fun i =>
          (Dict.channels d i).any (fun ch => (k.s.unit ch).filling && !Dict.ownsChannel k.s.gaz.regs i ch))
    <|> instRow Code.REHEARSAL_FORMAT G.REHEARSAL_TABLE (fun i => !Dict.rehearsalOk d i)
    <|> nodeRow Code.REHEARSAL_FORMAT G.REHEARSAL_TIMED (!timedOk timed)

/-! ### Counters (Table 19-9) -/

/-- A configuration record that names an event wrongly. EVENT 0 counts nothing and names none. -/
def counterEventOk (r : Nat) : Bool :=
  bf r 15 0 == 0 || (match catalogue.find? (fun e => bf e 15 0 == bf r 15 0) with
    | none => false
    | some e => !(bit r 17 && !bit e 16) && (bf r 47 32 == 0xFFFF || decide (bf r 47 32 < bf e 47 32))
        && decide (bf r 24 20 ≤ 16) && (bit e 19 || bf r 24 20 == 16))

/-- Bytes of a dump record of the counters with DUMP 1. -/
def dumpBytes (cfg : Bytes) : Nat :=
  64 + roundUp (8 * ((cfgCounters cfg).filter (fun c => bit (counterCfg cfg c) 18)).length) 64

def Ck.dumpOk (k : Ck) : Bool :=
  let n := fun key => Dict.node k.d key
  let i := n G.DUMP_RING_INSET
  n G.DUMP_INTERVAL == 0
    || (decide (i < 16) && n G.DUMP_RING_BASE % 64 == 0 && n G.DUMP_RING_BYTES % 64 == 0
        && decide (dumpBytes (Dict.nodeBlob k.d G.COUNTER_CONFIG) ≤ n G.DUMP_RING_BYTES)
        && Dict.onChannels k.d i (n G.DUMP_RING_BASE) (n G.DUMP_RING_BYTES))

def counterRange (key : Nat) : Nat :=
  if key = G.SAMPLE_PERIOD ∨ key = G.SAMPLE_ENGINES then Code.SAMPLE_FORMAT
  else if key = G.DUMP_RING_BASE ∨ key = G.DUMP_RING_BYTES then Code.COUNTER_FORMAT else Code.VALUE_RANGE

/-- Chapter 19 (R401). -/
def Ck.chapter19 (k : Ck) : Option Fail :=
  let cfg := Dict.nodeBlob k.d G.COUNTER_CONFIG
  let recs := (cfgCounters cfg).map (counterCfg cfg)
  let engines := Dict.node k.d G.SAMPLE_ENGINES
  k.ranges (fun x => x / 0x1000 == 0xC) counterRange
    <|> nodeRow Code.COUNTER_FORMAT G.COUNTER_CONFIG (decide (32768 < cfg.length) || cfg.length % 8 != 0)
    <|> nodeRow Code.RESERVED_SET G.COUNTER_CONFIG (recs.any (fun r => bit r 19 || bf r 31 25 != 0 || bf r 63 48 != 0))
    <|> nodeRow Code.COUNTER_FORMAT G.DUMP_RING_INSET (!k.dumpOk)
    <|> nodeRow Code.COUNTER_EVENT G.COUNTER_CONFIG (recs.any (fun r => !counterEventOk r))
    <|> nodeRow Code.SAMPLE_FORMAT G.SAMPLE_ENGINES (bit engines 0 || decide (8192 ≤ engines))
    <|> clashOf (k.claims.filter (fun c => c.1 == 3))

/-! ### Chapters 20 to 22 -/

def Ck.chapter20 (k : Ck) : Option Fail :=
  k.ranges (fun x => x / 0x1000 == 0xD) (fun _ => Code.VALUE_RANGE) <|> clashOf (k.claims.filter (fun c => c.1 == 5))

/-- A core voltage of R420. -/
def voltageOk (mv : Nat) : Bool := decide (620 ≤ mv) && decide (mv ≤ 820) && mv % 5 == 0

/-- Chapter 21 (R430). -/
def Ck.chapter21 (k : Ck) : Option Fail :=
  let n := fun key => Dict.node k.d key
  let addr := Dict.nodeBlob k.d G.VR_ADDR
  let edge := Dict.nodeBlob k.d G.EDGE_RATE
  nodeRow Code.RESERVED_SET G.VR_ADDR (k.stages G.VR_ADDR && (chunks 2 8 addr).any (fun r => bit (leNat r) 7))
    <|> k.ranges (fun x => x / 0x1000 == 0xE) (fun _ => Code.PWR_FORMAT)
    <|> nodeRow Code.PWR_FORMAT G.VCORE_MIN (decide (n G.VCORE_MAX < n G.VCORE_MIN))
    <|> nodeRow Code.PWR_FORMAT G.VCORE_SET (!([G.VCORE_MIN, G.VCORE_MAX, G.VCORE_SET].all (fun x => voltageOk (n x))))
    <|> nodeRow Code.PWR_FORMAT G.VCORE_PIN (n G.VCORE_PIN != 0 && !voltageOk (n G.VCORE_PIN))
    <|> nodeRow Code.PWR_FORMAT G.VMARGIN_FLOOR_PS (decide (n G.VMARGIN_TARGET_PS ≤ n G.VMARGIN_FLOOR_PS))
    <|> nodeRow Code.PWR_FORMAT G.VR_ADDR (k.stages G.VR_ADDR && addr.length != 12)
    <|> nodeRow Code.PWR_FORMAT G.EDGE_RATE (edge.length != 2 || edge.any (fun b => decide (2 < b.toNat)))
    <|> clashOf (k.claims.filter (fun c => c.1 == 4))

/-- Chapter 22 (R439). -/
def Ck.chapter22 (k : Ck) : Option Fail := k.ranges (fun x => decide (0x2200 ≤ x ∧ x < 0x3000)) (fun _ => Code.START_FORMAT)

/-! ### The whole check -/

/-- CHECK of a set (R357): the chapters in the order of the manual; the stack staging charge after the engine chapters
(R242). -/
def Ck.run (k : Ck) : Option Fail :=
  firstSome [k.chapter2, k.chapter4, k.chapter5, k.chapter6, k.chapter7, k.chapter8, k.chapter9, k.chapter10,
    k.chapter11, k.chapter12, k.chapter13, k.stackStaging, k.chapter14, k.chapter15, k.chapter16, k.chapter17,
    k.chapter18, k.chapter19, k.chapter20, k.chapter21, k.chapter22]

end Sys2Proof.Machine
end

