-- ==== Sys2Proof/Machine/Views.lean ====
section
/-!
DEFINITION. The values that a read returns (R354): the applied value of an entry, and for the RO entries that show other state
the record formed at the instant of the read.
-/

namespace Sys2Proof.Machine

/-! ### Dictionaries and staged sets -/

/-- A dictionary with staged values laid over it (R357). -/
def Dict.lay (d : Dict) (staged : Tab GVal) : Dict := staged.foldl (fun (t : Tab GVal) e => t.set e.1 e.2) d

def GazState.set (g : GazState) (i : Nat) : StageSet := Tab.get StageSet.empty g.sets i
def State.stageSet (s : State) (i : Nat) : StageSet := s.gaz.set i
def State.putSet (s : State) (i : Nat) (t : StageSet) : State :=
  { s with gaz := { s.gaz with sets := if t = StageSet.empty then Tab.del s.gaz.sets i else Tab.set s.gaz.sets i t } }

/-- Sets in the order in which sets of one boundary take effect: the node set, then the Insets. -/
def setOrder : List Nat := 16 :: upto 16

/-- PENDING sets in the order of their boundaries. -/
def State.pendingSets (s : State) : List Nat :=
  sortBy (fun a b => decide ((s.stageSet a).bound ≤ (s.stageSet b).bound))
    (setOrder.filter (fun i => (s.stageSet i).state == 3))

/-- The applied state with every PENDING set over it. -/
def State.plannedDict (s : State) : Dict := s.pendingSets.foldl (fun d i => Dict.lay d (s.stageSet i).staged) s.gaz.regs

/-- The state that a set would produce (R357). -/
def State.candidate (s : State) (i : Nat) : Ck :=
  let st := (s.stageSet i).staged
  ⟨s, Dict.lay s.plannedDict st, i, st⟩

/-! ### Records of the views -/

/-- STAGE_STATUS: Insets 0 to 15, then the node set. -/
def State.stageStatus (s : State) : Bytes :=
  (upto 17).flatMap (fun i => let t := s.stageSet i; toLe 16 (t.state % 4 + t.bound % 2 ^ 64 * 2 ^ 64))

def State.checkDetails (s : State) : Bytes := (upto 17).flatMap (fun i => toLe 32 (s.gaz.details.get 0 i))

/-- FEATURE that claims an instance of a shared resource, 0 free. -/
def Ck.feature (k : Ck) (resource : Nat) : Nat := ((k.claims.find? (fun c => c.1 == resource)).map (·.2.1)).getD 0

/-- FEATURE that claims a stack channel against the staging store. -/
def Ck.channelFeature (k : Ck) (ch : Nat) : Nat :=
  if (Dict.storeChannels k.d).contains ch then 9
  else if bit (leNat (Dict.nodeBlob k.d G.SCRIBE_CHANNELS)) ch then 0x0A
  else ((Dict.channelOwner k.d ch).map (0x10 + ·)).getD 0

/-- RESOURCE_TABLE: resources 1 to 5 once each, and resource 6 for every stack channel; applied, and with every set laid
over. -/
def State.resourceTable (s : State) : Bytes :=
  let a : Ck := ⟨s, s.gaz.regs, 16, []⟩
  let b : Ck := ⟨s, setOrder.foldl (fun d i => Dict.lay d (s.stageSet i).staged) s.gaz.regs, 16, []⟩
  (rangeFrom 1 5).flatMap (fun r => toLe 8 (r + a.feature r * 2 ^ 24 + b.feature r * 2 ^ 32))
    ++ (upto 256).flatMap (fun ch => toLe 8 (6 + ch * 2 ^ 8 + a.channelFeature ch * 2 ^ 24 + b.channelFeature ch * 2 ^ 32))

/-- BIND_STATE (log entry 97). -/
def State.bindState (s : State) (i : Nat) : Bytes :=
  let b := s.binding i
  toLe 4 b.epoch ++ toLe 2 b.binder ++ toLe 4 b.oldEpoch ++ toLe 2 b.oldBinder ++ toLe 1 b.state

/-- PROJ_LAYER_STATS, in table order. -/
def State.layerStats (s : State) (i : Nat) : Bytes :=
  let t := (s.inset i).layers
  (tableEntries (s.blob i G.PROJ_CALIB) 16).flatMap (fun e =>
    let l := bf e 15 0
    toLe 8 l ++ (upto 3).flatMap (fun c => toLe 8 (t.get 0 (4 * l + c))))

/-- PORT_MAP: for each logical port the physical port, the lane order and the polarity (log entry 97). -/
def State.portMap (s : State) : Bytes :=
  s.torus.logical.flatMap (fun phys =>
    let p := s.port phys
    toLe 1 phys ++ p.lanes.flatMap (toLe 1) ++ toLe 4 p.polarity)

/-- TM_FLOW_VIEW: the context words of the Inset's range with their tokens and deficits (Table 14-2). -/
def State.flowView (s : State) (i : Nat) : Bytes :=
  (rangeFrom (s.num i G.FLOW_Q_BASE) (s.num i G.FLOW_Q_COUNT)).flatMap (fun n =>
    let f := s.flow n
    toLe 32 (FlowW.rw f.word + wrapInt 40 f.tokC * 2 ^ 152 + wrapInt 40 f.tokP * 2 ^ 192 + f.deficit % 2 ^ 24 * 2 ^ 232))

/-- GATE_STATE: current and pending TAKEOVER_TICK of each port node; 0 where there is no list. -/
def State.gateState (s : State) : Bytes :=
  let at_ := fun (b : Bytes) => if b.isEmpty then 0 else GateL.takeover b
  (upto 12).flatMap (fun p => let g := s.gate p; toLe 8 (at_ g.cur) ++ toLe 8 (at_ (g.pending.getD [])))

/-- RO entries of an Inset that show other state. -/
def State.insetView (s : State) (i key : Nat) : Option GVal :=
  if key = G.BIND_STATE then some (.blob (s.bindState i))
  else if key = G.NEXT_IN_STREAM then some (.blob ((s.inset i).nextId.flatMap (toLe 2)))
  else if key = G.PROJ_LAYER_STATS then some (.blob (s.layerStats i))
  else if key = G.SURVEY_REPORT then some (.blob ((s.inset i).loads.flatMap (·.2)))
  else if key = G.TM_FLOW_VIEW then some (.blob (s.flowView i))
  else none

/-- RO entries of the node that show other state; a sample read depends on its path (R399). -/
def State.nodeView (s : State) (path : GazPath) (key : Nat) : Option GVal :=
  if key = G.NODE_MAC then some (.num s.mac)
  else if key = G.STAGE_STATUS then some (.blob s.stageStatus)
  else if key = G.CHECK_DETAIL then some (.blob s.checkDetails)
  else if key = G.RESOURCE_TABLE then some (.blob s.resourceTable)
  else if key = G.BSU_MODE_MAP then some (.blob ((upto 256).map (fun ch => BitVec.ofNat 8 (s.unit ch).mode)))
  else if key = G.PROC_EPOCH then some (.blob ((upto 256).flatMap (fun ch => toLe 4 (s.unit ch).epoch)))
  else if key = G.FLASH_MODE then some (.blob ((upto 32).map (fun ch => BitVec.ofNat 8 (s.flashMode ch))))
  else if key = G.FLASH_LAYOUT then some (.blob s.layout)
  else if key = G.PORT_MAP then some (.blob s.portMap)
  else if key = G.LINK_STATE then some (.blob ((upto nPorts).map (fun p => BitVec.ofNat 8 (s.port p).train)))
  else if key = G.LINK_DELAY_PS then some (.blob ((upto 6).flatMap (fun p => toLe 4 (s.port (s.physical p)).delayPs)))
  else if key = G.GATE_STATE then some (.blob s.gateState)
  else if key = G.REPAIR_RECORD then some (.blob s.rel.record)
  else if key = G.SCRUB_REPORT then some (.blob s.scrubReport)
  else if key = G.REMAP_USED then some (.blob s.remapUsed)
  else if key = G.READ_CORRECTED then some (.blob ((upto 3).flatMap (fun mc => toLe 8 (s.rel.readCorr.get 0 mc))))
  else if key = G.COUNTER_VALUES then
    let cfg := Dict.counters s.gaz.regs
    some (.blob ((upto 4096).flatMap (fun c => toLe 8 (s.ctr.word cfg c))))
  else if key = G.SAMPLE_BUFFER then some (.blob (s.sampleBytes path))
  else if G.MEASUREMENT ≤ key ∧ key < G.MEASUREMENT + 8 then some (.blob (s.measurement (key - G.MEASUREMENT) 0))
  else if key = G.DEBUG_CHALLENGE then some (.blob s.challenge)
  else if key = G.VCORE_NOW then some (.num s.clk.setpointMv)
  else none

/-- The value a READ returns. -/
def State.entryValue (s : State) (path : GazPath) (inst key : Nat) : GVal :=
  ((if inst < 16 then s.insetView inst key else s.nodeView path key)).getD (Dict.val s.gaz.regs inst key)

end Sys2Proof.Machine
end

