-- ==== Sys2Proof/Machine/Apply.lean ====
section
/-!
DEFINITION. A PENDING set at its applying Datum (R359): the repeated run-state checks, and what each entry does besides taking
its value.
-/

namespace Sys2Proof.Machine

/-! ### Run-state checks -/

/-- The checks whose result depends on run state. ATLAS_BUSY is judged where the ATLAS_SWITCH runs (log entry 98). -/
def Ck.runState (k : Ck) : Option Fail :=
  let req := Dict.nodeBlob k.d G.BIND_REQ
  instRow Code.INDEX_IN_USE G.INDEX_TABLE (k.boundChange Dict.index)
    <|> instRow Code.INDEX_IN_USE G.MAINT_TABLE (k.boundChange Dict.maint)
    <|> instRow Code.EMB_TABLE_IN_USE G.EMB_TABLES k.lookupOpen
    <|> nodeRow Code.BIND_FORMAT G.BIND_REQ (k.set == 16 && k.stages G.BIND_REQ && !req.isEmpty && !k.bindOk req)
    <|> instRow Code.RESOURCE_FILLING G.T1_CHANNELS (fun i =>
          (Dict.channels k.d i).any (fun ch => (k.s.unit ch).filling && !Dict.ownsChannel k.s.gaz.regs i ch))

/-! ### Resources taken and given (R373, R245) -/

/-- Numbers of a range that another range lacks. -/
def lostOf (a n b m : Nat) (x : Nat) : Bool :=
  decide (a ≤ x) && decide (x < a + n) && !(decide (b ≤ x) && decide (x < b + m))

/-- A quota of an Inset given by a base and a count: the numbers that `d` gives and `e` does not. -/
def Dict.lost (d e : Dict) (i base count x : Nat) : Bool :=
  lostOf (Dict.num d i base) (Dict.num d i count) (Dict.num e i base) (Dict.num e i count) x

/-- What is taken from an Inset becomes zero, and a channel taken starts to fill. -/
def State.takeBack (s : State) (old new : Dict) (i : Nat) : State :=
  let gone := fun key => fun q => bit (leNat (Dict.blob old i key)) q && !bit (leNat (Dict.blob new i key)) q
  let m := ((upto 128).filter (gone G.INSET_CUBE_GROUPS)).foldl
    (fun (m : MemState) q => m.clear (tileBase + 0x100000 * q) 0x100000) s.mem
  let m := ((upto 1536).filter (Dict.lost old new i G.SCRATCH_BASE G.SCRATCH_PAGES)).foldl
    (fun (m : MemState) p => m.clear (scratchBase + 65536 * p) 65536) m
  let chart := Dict.lost old new i G.CHART_Q_BASE G.CHART_Q_COUNT
  let sync := Dict.lost old new i G.SYNC_Q_BASE G.SYNC_Q_COUNT
  let flow := Dict.lost old new i G.FLOW_Q_BASE G.FLOW_Q_COUNT
  let serv := Dict.lost old new i G.SERVICE_Q_BASE G.SERVICE_Q_COUNT
  let s := { s with
    mem := m
    chart := Tab.keep (fun n => !chart n) s.chart
    chartBad := Tab.keep (fun n => !chart n) s.chartBad
    sched := { s.sched with sync := Tab.keep (fun n => !sync n) s.sched.sync }
    tm := { s.tm with flows := Tab.keep (fun n => !flow n) s.tm.flows
                      services := Tab.keep (fun n => !serv n) s.tm.services } }
  ((upto 256).filter (gone G.T1_CHANNELS)).foldl (fun (s : State) ch => s.setUnit ch { s.unit ch with filling := true }) s

/-- Every granule of the channels given to an Inset is dirty (R245). -/
def State.dirtyNew (s : State) (old new : Dict) (i : Nat) : State :=
  ((Dict.channels new i).filter (fun ch => !Dict.ownsChannel old i ch)).foldl (fun (s : State) ch =>
    let lo := ch * 786432
    let t := s.mem.dirty
    { s with mem := { s.mem with dirty := Tab.keep (fun g => decide (g < lo)) t
        ++ (rangeFrom lo 786432).map (fun g => (g, 1)) ++ Tab.keep (fun g => decide (lo + 786432 ≤ g)) t } }) s

/-! ### Sync objects (Table 15-3) -/

/-- Objects of an Inset's range take kind, home, share and expectation of their records; a new kind starts at value 0, free. -/
def State.syncTake (s : State) (i : Nat) : State :=
  let d := s.gaz.regs
  (Dict.syncRange d i).foldl (fun (s : State) n =>
    let o := s.syncObj n
    let r := ((Dict.syncConfig d i).find? (fun r => SyncC.number r == n)).getD 0
    let o := if o.kind = SyncC.kind r then o else SyncObj.zero
    let o := { o with kind := SyncC.kind r, owner := i, home := SyncC.home r, share := SyncC.share r, expect := SyncC.expect r }
    s.setSync n o) s

/-! ### Flows and services (R307, R308, R318) -/

/-- One record of a flow edit: the buckets are read under the old rates, and reset where the rates or the MODE change. -/
def State.flowEdit (s : State) (n w : Nat) : State :=
  let f := (s.flow n).refilled s.clk.cycle
  let same := bf f.word 151 24 == bf w 151 24 && FlowW.mode f.word == FlowW.mode w
  let f := { f with word := FlowW.rw w }
  s.setFlow n (if same then f else f.resetTokens s.clk.cycle)

/-- One record of a service table. -/
def State.serviceEdit (s : State) (n w : Nat) : State :=
  let v := (s.service n).refilled s.clk.cycle
  let same := bf v.word 87 24 == bf w 87 24 && SvcW.shaped v.word == SvcW.shaped w
  let v := { v with word := SvcW.rw w }
  s.setService n (if same then v else v.resetTokens s.clk.cycle)

/-- Submissions of an Inset that wait in a flow which is no longer valid, or no longer its own. -/
def State.dropFlows (s : State) (i : Nat) : State :=
  s.rejectSubs i Code.FLOW_REMOVED (fun m => m.colour != 3
    && (!FlowW.valid (s.flow m.flow).word || Dict.flowInset s.gaz.regs m.flow != some i))

/-- The edits that a set stages. -/
def State.tmEdits (s : State) (i : Nat) (has : Nat → Bool) : State :=
  let fkey := if i = 16 then G.TM_FIXED_EDIT else G.TM_FLOW_EDIT
  let s := if has G.TM_SERVICES then
      (serviceEdits (s.blob i G.TM_SERVICES)).foldl (fun s e => s.serviceEdit e.1 e.2) s else s
  if has fkey then (flowEdits (s.blob i fkey)).foldl (fun s e => s.flowEdit e.1 e.2) s else s

/-! ### Inset entries -/

/-- The stream whose state stands in T0. -/
def State.residentStream (s : State) (i : Nat) : Nat :=
  match (s.inset i).switch with
  | some w => if w.reported then w.target else w.source
  | none => s.num i G.ACTIVE_STREAM % 4

/-- The entry Sheet of a new image (R46): the Sheet that follows is SHEET_ENTRY, and its stream is the active one. During a
switch no stream is active. -/
def State.enterSheet (s : State) (i : Nat) : State :=
  let e := s.num i G.SHEET_ENTRY
  let k := if e = 0xFFFF then s.residentStream i else e / 16384
  let s := s.modInset i (fun t => { t with nextId := modNth (fun _ => e) t.nextId k })
  if (s.inset i).switch.isSome then s else s.setNum i G.ACTIVE_STREAM k

/-- New stream entries, and a new slice table from its first entry (R320, R323). -/
def State.newStreams (s : State) (i : Nat) (has : Nat → Bool) : State :=
  let s := (upto 4).foldl (fun (s : State) k =>
    if has (G.STREAM_ENTRY + k) then
      s.modInset i (fun t => { t with nextId := modNth (fun _ => s.num i (G.STREAM_ENTRY + k)) t.nextId k })
    else s) s
  if has G.SLICE_TABLE then
    s.modInset i (fun t => { t with sliceIdx := 0, sliceLeft := Slice.ticks ((Dict.slices s.gaz.regs i).headD 0) })
  else s

/-- Rings placed anew start empty. -/
def State.newRings (s : State) (i : Nat) (old : Dict) : State :=
  let moved := fun (a b : Nat) => decide (Dict.num old i a ≠ s.num i a) || decide (Dict.num old i b ≠ s.num i b)
  let s := if moved G.EVENT_RING_BASE G.EVENT_RING_BYTES then s.modInset i (fun t => { t with events := 0 }) else s
  let s := if moved G.ACCT_RING_BASE G.ACCT_RING_BYTES then s.modInset i (fun t => { t with acctRecs := 0 }) else s
  if moved G.SAMPLE_RING_BASE G.SAMPLE_RING_BYTES then { s with tm := { s.tm with records := Tab.del s.tm.records i } } else s

/-- Counts of the layers that the new table holds (R100). -/
def State.keepLayers (s : State) (i : Nat) : State :=
  let ids := (tableEntries (s.blob i G.PROJ_CALIB) 16).map (fun e => bf e 15 0)
  s.modInset i (fun t => { t with layers := Tab.keep (fun k => ids.contains (k / 4)) t.layers })

/-- What the set of Inset `i` does. -/
def State.insetEffects (s : State) (old : Dict) (i : Nat) (has : Nat → Bool) : State :=
  let new := s.gaz.regs
  let s := (s.takeBack old new i).dirtyNew old new i
  let s := if has G.SYNC_CONFIG || has G.SYNC_Q_BASE || has G.SYNC_Q_COUNT then s.syncTake i else s
  let s := (s.tmEdits i has).dropFlows i
  let s := s.newRings i old
  let s := if has G.PROJ_CALIB then s.keepLayers i else s
  let s := if has G.SHEET_IMAGE then s.extendMr6 i (Config.sha3 (s.blob i G.SHEET_IMAGE)) else s
  s.newStreams i has

/-! ### Node entries -/

/-- R255: a channel that is up keeps the table it had until its next reset. -/
def State.newFlashSeq (s : State) (old : Dict) : State :=
  let s := s.extendMr 3 (Config.sha3 (s.blob 16 G.FLASH_SEQ))
  (upto 32).foldl (fun (s : State) ch =>
    if s.flashUp ch && (Tab.find s.flash.seqs ch).isNone then
      { s with flash := { s.flash with seqs := Tab.set s.flash.seqs ch (Dict.flashSeq old) } }
    else s) s

/-- Pools changed in size: the credits held change by the difference. -/
def State.newCredits (s : State) (old : Dict) : State :=
  (upto 6).foldl (fun (s : State) p =>
    s.modPort (s.physical p) (fun q =>
      if q.credits.isEmpty then q else
      { q with credits := (Dict.creditPools s.gaz.regs p).foldl (fun (t : Tab Int) e =>
          t.upd 0 (· + (e.2 - ((Dict.linkCredits old p (e.1 / 8) (e.1 % 8) : Nat) : Int))) e.1) q.credits })) s

/-- A gate list becomes the port's pending list (R316); an empty image leaves the port without a list. -/
def State.newGate (s : State) (p : Nat) (b : Bytes) : State :=
  let g := s.gate p
  s.setGate p (if b.isEmpty then { g with cur := [], pending := none, entry := 0, deferred := [] } else { g with pending := some b })

/-- Counters whose EVENT, MODE, INSET_FILTER or INSTANCE changes (R393). -/
def State.newCounters (s : State) (old : Dict) : State :=
  let a := Dict.counters old
  let b := Dict.counters s.gaz.regs
  let sel := fun (r : Nat) => (bf r 15 0, bit r 17, bf r 24 20, bf r 47 32)
  let n := max (cfgCounters a).length (cfgCounters b).length
  { s with ctr := ((upto n).filter (fun c => sel (counterCfg a c) != sel (counterCfg b c))).foldl CtrState.clear s.ctr }

/-- The node profile: flash rebuild and port training begin (R433). -/
def State.applyProfile (s : State) : State :=
  if s.profiled then s
  else ({ s with flash := { s.flash with rebuilt := 2, rebuildAt := s.clk.cycle } }).trainPorts

/-- What the node set does. -/
def State.nodeEffects (s : State) (old : Dict) (has : Nat → Bool) : State :=
  let s := if has G.FLASH_SEQ then s.newFlashSeq old else s
  let s := s.tmEdits 16 has
  let s := (upto 16).foldl (fun s i => s.dropFlows i) s
  let s := (upto 12).foldl (fun (s : State) p =>
    if has (G.TIME_GATES + p) then s.newGate p (s.blob 16 (G.TIME_GATES + p)) else s) s
  let s := if has G.LINK_CREDITS then s.newCredits old else s
  let s := if has G.COUNTER_CONFIG then s.newCounters old else s
  let s := if Dict.node old G.DUMP_STAGE_MODE ≠ s.node G.DUMP_STAGE_MODE then s.emptySamples else s
  let s := if has G.REHEARSAL_TIMED then { s with rel := { s.rel with fired := [] } } else s
  let s := if has G.BIND_REQ && !(s.blob 16 G.BIND_REQ).isEmpty then s.bindApply (leNat (s.blob 16 G.BIND_REQ)) else s
  if has G.NODE_ID then s.applyProfile else s

/-! ### The set -/

/-- Set `i` takes effect at its applying Datum, or returns to OPEN with the code of the check that fails. -/
def State.applySet (s : State) (i : Nat) : State :=
  let t := s.stageSet i
  let old := s.gaz.regs
  let k : Ck := ⟨s, Dict.lay old t.staged, i, t.staged⟩
  match k.runState with
  | some f =>
    let s := s.putSet i { t with state := 1, bound := 0, stale := false }
    let s := { s with gaz := { s.gaz with details := Tab.set s.gaz.details i f.record } }
    if i = 16 then s.nodeEvent f.code 0 0 else s.event i f.code 0 0
  | none =>
    let s := { s with gaz := { s.gaz with regs := k.d, sets := Tab.del s.gaz.sets i } }
    let has := fun key => (Tab.find t.staged (rkey i key)).isSome
    if i = 16 then s.nodeEffects old has else s.insetEffects old i has

end Sys2Proof.Machine
end

