-- ==== Sys2Proof/Machine/Gazetteer.lean ====
section
/-!
DEFINITION. The Gazetteer's requests (R353 to R363): READ, READ_STAGED, WRITE of RWS and RW entries, CHECK, APPLY, DISCARD and
SET_STATE. A row serves its own operation only; a request of another changes nothing.
-/

namespace Sys2Proof.Machine

/-! ### READ and READ_STAGED -/

/-- A value as response data: a scalar in its type's bytes. -/
def EntryRow.bytes (e : EntryRow) (v : GVal) : Bytes :=
  match v with
  | .num n => toLe (typeBytes e.ty) n
  | .blob b => b

/-- The response to a read: a scalar or string whole, a DOMAIN by the segment at OFFSET. -/
def State.answerRead (s : State) (r : GazReq) (e : EntryRow) (v : GVal) : State :=
  let b := e.bytes v
  let typed := fun (h : Nat) => setBf h 63 56 e.ty
  if e.ty ≠ 9 then s.answer r 0 (fun h => setBf (typed h) 13 13 1) b
  else
    let off := GazH.offset r.hdr
    let seg := slice b off 1024
    s.answer r 0 (fun h => setBf (setBf (typed h) 191 160 b.length) 13 13 (if b.length ≤ off + 1024 then 1 else 0)) seg

/-- A read of either kind. -/
def State.readRow (s : State) (r : GazReq) (val : State → EntryRow → GVal) : State :=
  let s := s.unqueue r
  match s.entryFor r false with
  | .error c => s.respond r c
  | .ok e => if !GazH.reservedOk r.hdr then s.respond r Code.RESERVED_SET else s.answerRead r e (val s e)

/-- READ. A frame whose OP is not one of a request's names no row of its own and is answered here with FRAME_FORMAT. -/
def execRead (r : GazReq) (s : State) : Host.Outcome State Fault Refusal :=
  if !s.serves then .next s
  else if r.op = 1 then .next (s.readRow r (fun s _ => s.entryValue r.path r.inst r.key))
  else if r.op = 0 ∨ 7 < r.op then .next ((s.unqueue r).respond r Code.FRAME_FORMAT)
  else .next s

/-- READ_STAGED. -/
def execReadStaged (r : GazReq) (s : State) : Host.Outcome State Fault Refusal :=
  if s.serves ∧ r.op = 3 then
    .next (s.readRow r (fun s e =>
      match (if e.acc = .rws then Tab.find (s.stageSet r.inst).staged (rkey r.inst r.key) else none) with
      | some v => v
      | none => s.entryValue r.path r.inst r.key))
  else .next s

/-! ### WRITE -/

/-- Staged entries of all sets. -/
def State.stagedCount (s : State) : Nat := (s.gaz.sets.map (fun e => e.2.staged.length)).sum

/-- A value staged in a set, which is then OPEN (Table 17-2); STAGE_FULL beyond the limits. -/
def State.stage (s : State) (inst key : Nat) (v : GVal) : State × Nat :=
  let t := s.stageSet inst
  let s' := s.putSet inst { t with state := 1, stale := false, staged := Tab.set t.staged (rkey inst key) v }
  if s'.stagedCount > 4096 || decide (s'.gaz.storeUsed > s.node G.GAZ_STORE_BYTES) then (s, Code.STAGE_FULL) else (s', 0)

/-- A write of an RWS entry. -/
def State.stageWrite (s : State) (r : GazReq) (e : EntryRow) : State :=
  match s.value r e with
  | (s', .error c) =>
    if c = Code.VALUE_RANGE then s'.respond r c
    else if !GazH.reservedOk r.hdr then s.respond r Code.RESERVED_SET
    else if (s.stageSet r.inst).state = 3 then s.respond r Code.STAGE_STATE
    else s'.respond r c
  | (s', .ok v) =>
    if !GazH.reservedOk r.hdr then s.respond r Code.RESERVED_SET
    else if (s.stageSet r.inst).state = 3 then s.respond r Code.STAGE_STATE
    else match v with
      | none => s'.respond r 0
      | some b =>
        let (s, c) := s'.stage r.inst r.key (if e.ty = 9 ∨ e.ty = 8 then .blob b else .num (leNat b))
        s.respond r c

/-- The staging store may lie there: in the stacks, on channels that no applied T1_CHANNELS or SCRIBE_CHANNELS holds. -/
def Dict.storeFree (d : Dict) : Bool :=
  let n := Dict.node d G.GAZ_STORE_BYTES
  n == 0 || (decide (Dict.node d G.GAZ_STORE_BASE + n ≤ stackTop)
    && (Dict.storeChannels d).all (fun ch => (Dict.channelOwner d ch).isNone
      && !bit (leNat (Dict.nodeBlob d G.SCRIBE_CHANNELS)) ch))

/-- A write of GAZ_STORE_BASE or GAZ_STORE_BYTES. -/
def State.rwStore (key : Nat) (s : State) (_ : Nat) (v : Bytes) : State × Nat :=
  let s' := s.setNum 16 key (leNat v)
  if !Dict.storeFree s'.gaz.regs then (s, Code.VALUE_RANGE)
  else if !s.gaz.sets.isEmpty then (s, Code.STAGE_STATE)
  else (s', 0)

/-- DUMP_READ_PTR takes its value. -/
def State.rwPlain (key : Nat) (s : State) (_ : Nat) (v : Bytes) : State × Nat := (s.setNum 16 key (leNat v), 0)

/-- SAMPLE_READ: the next unread record; what lies before it has been read. -/
def State.rwSampleRead (s : State) (_ : Nat) (v : Bytes) : State × Nat :=
  let cap := s.ringSize
  let n := leNat v
  let s := s.setNum 16 G.SAMPLE_READ n
  ({ s with ctr := { s.ctr with sampleN := (s.node G.SAMPLE_HEAD + cap - n % cap) % cap } }, 0)

/-- The four RW entries. -/
def rwAct (key : Nat) : State → Nat → Bytes → State × Nat :=
  if key = G.GAZ_STORE_BASE ∨ key = G.GAZ_STORE_BYTES then State.rwStore key
  else if key = G.SAMPLE_READ then State.rwSampleRead
  else State.rwPlain key

/-- WRITE of anything but a WO entry, whose rows are its own. -/
def execWrite (r : GazReq) (s : State) : Host.Outcome State Fault Refusal :=
  if !s.serves ∨ r.op ≠ 2 then .next s
  else match entryOf r.key with
    | some e =>
      if e.acc = .wo then .next s
      else if e.acc = .rw then .next (s.actWrite r (rwAct r.key))
      else
        let s := s.unqueue r
        .next (match s.entryFor r true with
          | .error c => s.respond r c
          | .ok e => s.stageWrite r e)
    | none =>
      let s := s.unqueue r
      .next (match s.entryFor r true with
        | .error c => s.respond r c
        | .ok e => s.stageWrite r e)

/-! ### Requests on sets -/

/-- A request on a set: its form and rights, then `act`. -/
def State.setRow (s : State) (r : GazReq) (op : Nat) (write : Bool) (act : State → Nat → State) :
    Host.Outcome State Fault Refusal :=
  if !s.serves ∨ r.op ≠ op then .next s
  else
    let s := s.unqueue r
    .next (if !GazH.formed r.hdr r.data then s.respond r Code.FRAME_FORMAT
      else if !s.mayReach r none write then s.respond r Code.ACCESS_DENIED
      else if !GazH.reservedOk r.hdr then s.respond r Code.RESERVED_SET
      else act s r.inst)

/-- CHECK of a set (R357): the first failing check is recorded and answered. -/
def State.checkSet (s : State) (r : GazReq) (i : Nat) : State :=
  let t := s.stageSet i
  if t.state = 0 ∨ t.state = 3 then s.respond r Code.STAGE_STATE
  else
    let put := fun (s : State) (rec_ code state : Nat) =>
      let s := s.putSet i { t with state := state, stale := false }
      let s := { s with gaz := { s.gaz with details := Tab.set s.gaz.details i rec_ } }
      s.answer r code id (toLe 32 rec_)
    match (s.candidate i).run with
    | some f => put s f.record f.code 1
    | none => put s 0 0 2

/-- CHECK. -/
def execCheck (r : GazReq) (s : State) : Host.Outcome State Fault Refusal := s.setRow r 4 true (fun s i => s.checkSet r i)

/-- Images in progress of a set are dropped. -/
def State.dropImages (s : State) (i : Nat) : State :=
  { s with gaz := { s.gaz with images := s.gaz.images.filter (fun m => m.inst != i) } }

/-- The staged set holds Sheet images that R411 holds back. -/
def State.floorHolds (s : State) (i : Nat) : Bool :=
  (Tab.find (s.stageSet i).staged (rkey i G.SHEET_IMAGE)).isSome && (s.floorState == 0 || s.floorState == 2)

/-- The staged set holds a gate list that takes over before boundary `b` (R316). -/
def State.gatePast (s : State) (i b : Nat) : Bool :=
  i == 16 && (upto 12).any (fun p => match Tab.find (s.stageSet 16).staged (rkey 16 (G.TIME_GATES + p)) with
    | some v => !v.toBytes.isEmpty && decide (GateL.takeover v.toBytes < b)
    | none => false)

/-- APPLY of a set at boundary ARG (R358): the set is PENDING, and the CHECK of every other set is out of date. -/
def State.applyRow (s : State) (r : GazReq) (i : Nat) : State :=
  let t := s.stageSet i
  let b := GazH.arg r.hdr
  if t.state ≠ 2 then s.respond r Code.STAGE_STATE
  else if t.stale then s.respond r Code.STAGE_STALE
  else if s.tooLate b ∨ s.tickNo + 2 ^ 32 < b then s.respond r Code.APPLY_LATE
  else if s.floorHolds i then s.respond r Code.FLOOR_PENDING
  else if s.gatePast i b then s.respond r Code.GATE_TAKEOVER_PAST
  else
    let s := { s with gaz := { s.gaz with sets := s.gaz.sets.map (fun (e : Nat × StageSet) =>
      (e.1, if e.2.state = 2 then { e.2 with stale := true } else e.2)) } }
    ((s.putSet i { t with state := 3, bound := b, stale := false }).dropImages i).respond r 0

/-- APPLY. -/
def execApply (r : GazReq) (s : State) : Host.Outcome State Fault Refusal := s.setRow r 5 true (fun s i => s.applyRow r i)

/-- DISCARD of a set (R360). -/
def State.discardRow (s : State) (r : GazReq) (i : Nat) : State :=
  let t := s.stageSet i
  if t.state = 0 then s.respond r 0
  else if t.state = 3 ∧ s.tooLate t.bound then s.respond r Code.APPLY_LATE
  else ((s.putSet i StageSet.empty).dropImages i).respond r 0

/-- DISCARD. -/
def execDiscard (r : GazReq) (s : State) : Host.Outcome State Fault Refusal :=
  s.setRow r 6 true (fun s i => s.discardRow r i)

/-- SET_STATE: the set's state, and the boundary of a PENDING one, in ARG. -/
def execSetState (r : GazReq) (s : State) : Host.Outcome State Fault Refusal :=
  s.setRow r 7 false (fun s i =>
    let t := s.stageSet i
    let b := if t.state = 3 then t.bound else 0
    s.answer r 0 (fun h => setBf h 255 192 (t.state + b % 2 ^ 62 * 4)) [])

end Sys2Proof.Machine
end

