-- ==== Sys2Proof/Machine/Meridian.lean ====
section
/-!
DEFINITION. The Meridian tick between boundaries (R24 to R28, R302, R433, R435): the master's declarations and its TICK flits,
boundary messages, holdover, leaving and regaining lock, and how a node becomes master.
-/

namespace Sys2Proof.Machine

/-! ### The master list and the flood -/

/-- TICK_MASTER_LIST up to its end mark. -/
def State.masterList (s : State) : List Nat :=
  ((upto 4).map (fun k => s.node (G.TICK_MASTER_LIST + k))).takeWhile (· != 0xFFFF)

/-- Position of a node in the list. -/
def State.listPos (s : State) (n : Nat) : Option Nat := s.masterList.findIdx? (· == n)

/-- TICK_LEAD in FCLK cycles (R302). -/
def State.tickLead (s : State) : Nat := 720 * hMax (s.node G.TORUS_DIMS) + 2400

/-- FCLK cycles of `n` ps. -/
def psCycles (n : Nat) : Nat := n * 12 / 5000

/-- A TICK flit on every ACTIVE port but one. -/
def State.flood (s : State) (but : Option Nat) (tickNo period master hops remain : Nat) (decls : List TagDecl) : State :=
  ((upto nPorts).filter (fun p => (s.port p).train == 6 && but != some p)).foldl
    (fun (s : State) p => s.emit (.tickFlit p tickNo period master hops remain decls)) s

/-- The Inset of a domain tag. -/
def State.tagInset (s : State) (t : Nat) : Option Nat :=
  let b := (nth 0xFF (s.blob 16 G.DOMAIN_MAP) t).toNat
  if b < 16 then some b else none

/-- What the Insets of this node have to report, told to a master that has just changed (log entry 33): DONE of a finished
Sheet, the end of a switch, a waiting start. -/
def State.reportAgain (s : State) : State :=
  (upto 16).foldl (fun (s : State) i =>
    let t := s.inset i
    match t.sheet, t.switch, t.startAt with
    | some sh, _, _ => if sh.done then s.reportDone i sh.seq 0 else s
    | none, some sw, _ => if sw.reported then s.reportDone i (s.datum i) 0 else s
    | none, none, some b => s.reportDone i (s.datum i) b
    | none, none, none => s) s

/-! ### Declarations (R43, R437) -/

/-- The last DONE of a node for a tag that reached the master by a cycle. Where START_SEQ_MISMATCH stands, only that of an
INSET_START counts. -/
def State.doneOf (s : State) (t n by_ : Nat) : Option DoneRec :=
  (s.tick.done.filter (fun d => d.tag == t && d.node == n && decide (d.at_ ≤ by_)
    && (d.bound != 0 || !s.tick.mismatch.contains t))).getLast?

/-- DONE records of a tag used up. -/
def State.useDone (s : State) (t : Nat) : State :=
  { s with tick := { s.tick with done := s.tick.done.filter (fun d => d.tag != t) } }

/-- Datum `q` declared for a tag. -/
def State.declareDatum (s : State) (t q : Nat) : State × TagDecl :=
  let s := s.useDone t
  ({ s with tick := { s.tick with declared := s.tick.declared.set t q, mismatch := s.tick.mismatch.filter (· != t) } },
    ⟨q % 2 ^ 42, 1⟩)

/-- START_SEQ_MISMATCH on every node of a domain. -/
def State.seqMismatch (s : State) (t : Nat) (members : List Nat) : State :=
  let s := s.useDone t
  let s := { s with tick := { s.tick with mismatch := t :: s.tick.mismatch.filter (· != t) } }
  members.foldl (fun (s : State) n =>
    if n = s.nodeId then match s.tagInset t with
      | some i => s.event i Code.START_SEQ_MISMATCH 0 0
      | none => s
    else s.sendCtl 8 t n 0 (toLe 32 (eventRecord Code.START_SEQ_MISMATCH s.tickNo 0 0 false))) s

/-- CLOSE_GUARD of a tag in ns: that of its Inset here, else the default. -/
def State.closeGuard (s : State) (t : Nat) : Nat :=
  match s.tagInset t with
  | some i => s.num i G.CLOSE_GUARD
  | none => 20000

/-- What the master declares for a tag at boundary `b`, the next one, with the members of its domain. Where an INSET_START
that it has heard of names a later boundary, the tag has no declaration yet (log entry 33). -/
def State.declareTag (s : State) (t b : Nat) (members : List Nat) : State × TagDecl :=
  let slip : TagDecl := ⟨s.tick.declared.get 0 t % 2 ^ 42, 2⟩
  let stopped := match s.tagInset t with
    | some i => match (s.inset i).preempt, (s.inset i).sheet with
      | some p, some sh => if p.bound ≤ b then some sh.seq else none
      | _, _ => none
    | none => none
  match stopped with
  | some q => s.declareDatum t q
  | none =>
    let recs := members.map (fun n => s.doneOf t n (s.tick.nextAt - nsCycles (s.closeGuard t)))
    match recs with
    | [] => (s, ⟨0, 0⟩)
    | none :: _ => (s, slip)
    | some d :: _ =>
      if recs.any (fun r => match r with | some x => decide (b < x.bound) | none => false) then (s, ⟨0, 0⟩)
      else if recs.any (·.isNone) then (s, slip)
      else if recs.any (fun r => r.map (·.seq) != some d.seq) then (s.seqMismatch t members, slip)
      else s.declareDatum t d.seq

/-- The declarations of all 16 tags. -/
def State.declareAll (s : State) (b : Nat) (members : List (Nat × List Nat)) : State × List TagDecl :=
  (upto 16).foldl (fun (acc : State × List TagDecl) t =>
    let (s, d) := acc.1.declareTag t b ((members.find? (fun e => e.1 == t)).map (·.2) |>.getD [])
    (s, acc.2 ++ [d])) (s, [])

/-- TICK_SEND: the master's boundary message at TICK_LEAD before the boundary (R302). -/
def execTickSend (members : List (Nat × List Nat)) (s : State) : Host.Outcome State Fault Refusal :=
  let b := s.tickNo + 1
  if s.node G.START_PHASE < 6 ∨ !s.serves ∨ s.lock ≠ 3 ∨ s.clk.cycle + s.tickLead < s.tick.nextAt
      ∨ s.tick.msg.map (·.tickNo) = some b then .next s
  else
    let (s, decls) := s.declareAll b members
    let p := s.node G.TICK_PERIOD
    let s := { s with tick := { s.tick with msg := some ⟨b, p, s.nodeId, decls⟩, forwarded := some b } }
    .next (s.flood none b p s.nodeId 0 ((s.tick.nextAt - s.clk.cycle) * 5000 / 12) decls)

/-! ### Leaving lock (R25, R27, R28) -/

/-- The node leaves lock: an Inset whose Sheet is running finishes it, and any other leaves its domain now. -/
def State.leaveLock (s : State) (code : Nat) : State :=
  let s := s.setNum 16 G.TICK_LOCK 0
  let s := { s with tick := { s.tick with msg := none, missed := 0, holdoverAt := none, matched := none, done := [] } }
  let s := if code = 0 then s else s.nodeEvent code 0 0
  (upto 16).foldl (fun (s : State) i =>
    let s := s.modInset i (fun t => { t with startAt := none })
    match (s.inset i).sheet with
    | some sh => if sh.done then s.leaveDomain i else s
    | none => s.leaveDomain i) s

/-- HOLDOVER: three boundaries in a row without a message. -/
def execHoldover (s : State) : Host.Outcome State Fault Refusal :=
  if s.lock ≠ 1 ∨ s.tick.missed < 3 ∨ !s.serves then .next s
  else .next (({ s with tick := { s.tick with holdoverAt := some s.clk.cycle } }).setNum 16 G.TICK_LOCK 2)

/-- TICK_UNLOCK: holdover has lasted 32 ms. -/
def execTickUnlock (s : State) : Host.Outcome State Fault Refusal :=
  match s.tick.holdoverAt with
  | none => .next s
  | some t =>
    if s.lock ≠ 2 ∨ !s.serves ∨ s.clk.cycle < t + usCycles 32000 then .next s else .next (s.leaveLock Code.TICK_UNLOCK)

/-! ### Becoming master (R26, R435) -/

/-- The node is master; TICK_NO goes on. -/
def State.becomeMaster (s : State) : State :=
  let s := { s with tick := { s.tick with msg := none, missed := 0, holdoverAt := none, matched := none, done := []
                                          master := some s.nodeId, everLocked := true, joining := false } }
  s.setNum 16 G.TICK_LOCK 3

/-- MASTER_FAILOVER: the master has been silent for three boundaries and this node is the next locked one of the list. -/
def execMasterFailover (s : State) : Host.Outcome State Fault Refusal :=
  if !s.serves ∨ (s.lock ≠ 1 ∧ s.lock ≠ 2) ∨ s.tick.missed < 3 ∨ (s.listPos s.nodeId).isNone then .next s
  else .next ((s.becomeMaster.nodeEvent Code.MASTER_FAILOVER s.nodeId 0).reportAgain)

/-- MASTER_WAIT: no TICK flit for MASTER_WAIT_MS × (k + 1) after the last port left training, or since training began
where none has. -/
def execMasterWait (s : State) : Host.Outcome State Fault Refusal :=
  match s.listPos s.nodeId with
  | none => .next s
  | some k =>
    let from_ := s.tick.trainedAt.getD s.flash.rebuildAt
    if !s.serves ∨ !s.profiled ∨ s.lock ≠ 0 ∨ s.tick.everLocked ∨ s.sched.halted ∨ s.tick.forwarded.isSome
        ∨ s.clk.cycle < from_ + usCycles (1000 * s.node G.MASTER_WAIT_MS * (k + 1)) then .next s
    else .next s.becomeMaster

/-! ### BOUNDARY_MESSAGE -/

/-- First lock (R433): every PENDING set returns to CHECKED. -/
def State.relockSets (s : State) : State :=
  s.pendingSets.foldl (fun (s : State) i =>
    let s := s.putSet i { s.stageSet i with state := 2, bound := 0 }
    if i = 16 then s.nodeEvent Code.STAGE_RELOCKED 0 0 else s.event i Code.STAGE_RELOCKED 0 0) s

/-- The message taken for the next boundary, which is set from it (R24, log entry 34): arrival plus REMAIN_PS less the link
delay of the arrival port. -/
def State.takeMessage (s : State) (m : TickIn) : State :=
  let at_ := s.clk.cycle + psCycles (m.remainPs - (s.port m.port).delayPs)
  let new := s.tick.master != some m.master
  let s := { s with tick := { s.tick with
    nextAt := at_, msg := some ⟨m.tickNo, m.periodUs, m.master, m.decls⟩, missed := 0, holdoverAt := none, matched := none
    master := some m.master } }
  let s := (s.setNum 16 G.TICK_ERROR_NS (wrapInt 32 m.offsetNs)).setNum 16 G.TICK_LOCK 1
  if new then s.reportAgain else s

/-- A node that holds lock hears its boundary. -/
def State.hearLocked (s : State) (m : TickIn) : State :=
  if m.periodUs ≠ s.node G.TICK_PERIOD then s.leaveLock Code.PERIOD_MISMATCH
  else if 200 < m.offsetNs.natAbs then s.leaveLock Code.TICK_UNLOCK
  else if m.tickNo = s.tickNo + 1 then s.takeMessage m
  else s

/-- A node out of lock hears a boundary: the second of two consecutive ones that match gives lock. Under R435 its sets are
relocked (R433); under R27 the boundary must lie within 200 ns of its own. -/
def State.hearUnlocked (s : State) (m : TickIn) : State :=
  let put := fun (x : Option Nat) => { s with tick := { s.tick with matched := x, master := some m.master } }
  if m.periodUs ≠ s.node G.TICK_PERIOD then put none
  else if s.tick.matched.map (· + 1) = some m.tickNo ∧ (s.tick.joining ∨ m.offsetNs.natAbs ≤ 200) then
    let s := if s.tick.joining then s.relockSets else s
    let s := s.setNum 16 G.TICK_NO (m.tickNo - 1)
    ({ s with tick := { s.tick with everLocked := true, joining := false } }).takeMessage m
  else put (some m.tickNo)

/-- A master hears another of lower list position, and gives up the role (R435); any other it ignores. -/
def State.hearMaster (s : State) (m : TickIn) : State :=
  match s.listPos m.master, s.listPos s.nodeId with
  | some a, some b =>
    if b ≤ a then s else
    let s := s.leaveLock 0
    ({ s with tick := { s.tick with joining := true } }).hearUnlocked m
  | _, _ => s

/-- The TICK_NO of a flit has been seen. -/
def State.tickSeen (s : State) (m : TickIn) : Bool :=
  match s.tick.forwarded with
  | none => false
  | some k => k == m.tickNo || (decide (m.tickNo < k) && s.tick.master == some m.master)

/-- BOUNDARY_MESSAGE: the first copy of a TICK_NO is forwarded on every other ACTIVE port and used; later copies are
dropped. Detector 0x013 ignores three messages. -/
def execBoundaryMessage (m : TickIn) (s : State) : Host.Outcome State Fault Refusal :=
  if m.port ≥ nPorts then .fault .noSuchInstance
  else if s.node G.START_PHASE < 6 ∨ !s.serves ∨ (s.port m.port).train ≠ 6 then .next s
  else if s.tick.ignore ≠ 0 then .next { s with tick := { s.tick with ignore := s.tick.ignore - 1 } }
  else if s.tickSeen m then .next s
  else
    let remain := m.remainPs - (s.port m.port).delayPs - m.residePs
    let s := { s with tick := { s.tick with forwarded := some m.tickNo } }
    let s := s.flood (some m.port) m.tickNo m.periodUs m.master (m.hops + 1) remain m.decls
    .next (if s.lock = 3 then s.hearMaster m else if s.lock = 0 then s.hearUnlocked m else s.hearLocked m)

end Sys2Proof.Machine
end

