-- ==== Sys2Proof/Machine/Boundary.lean ====
section
/-!
DEFINITION. TICK_BOUNDARY: what happens at a boundary, in order: the counter capture and the accounts of the tick that closes,
pre-emptions, the declarations of R43 and R47, checkpoints at a Datum, sets that take effect, time gates, queues and bindings, and
the next Sheets.
-/

namespace Sys2Proof.Machine

/-! ### Accounts of the tick that closes (R336, R337) -/

/-- Busy cycles up to the boundary of commands that still run and of channels in PROC. -/
def State.chargeRunning (s : State) (now : Nat) : State :=
  let s := (s.cmdsWhere (fun c => c.phase.busy)).foldl (fun (s : State) x => s.chargeCmd x.1.inset x.2 now) s
  ((upto 256).filter (fun ch => bit (s.unit ch).mode 0)).foldl (fun (s : State) ch => s.chargeProc ch now) s

/-- Mean core setpoint of the tick in mV. -/
def State.meanMv (s : State) (now : Nat) : Nat :=
  let c := s.clk
  (c.setpointSum + c.setpointMv * (now - max c.setpointAt s.tick.lastAt)) / max 1 (now - s.tick.lastAt)

/-- Modelled energy of an Inset's counts in µJ. -/
def State.modelled (s : State) (i mv : Nat) : Nat :=
  (mapIdxFrom (fun k n => Config.modelledUj (s.blob 16 G.ENERGY_CURVES) k n mv) 0 (s.inset i).busy).sum

/-- CAL_K as a fraction: (E_pkg − E_idle) over the modelled energy, between 1/2 and 2. -/
def calK (pkg idle sum : Nat) : Nat × Nat :=
  if 2 * (pkg - idle) ≤ sum then (1, 2) else if 2 * sum ≤ pkg - idle then (2, 1) else (pkg - idle, sum)

/-- The accounting record of an Inset (Table 15-5). -/
def State.acctRecord (s : State) (i energy k : Nat) : Bytes :=
  let t := s.inset i
  let switch := t.switch.isSome
  let c := fun (j : Nat) => nth 0 t.busy j
  toLe 128 (s.tickNo % 2 ^ 64 + (if switch then 0 else s.seq i % 2 ^ 42) * 2 ^ 64 + s.num i G.ACTIVE_STREAM % 4 * 2 ^ 106
    + flagBit switch * 2 ^ 108 + c 0 % 2 ^ 32 * 2 ^ 128 + c 1 % 2 ^ 32 * 2 ^ 160 + c 2 % 2 ^ 32 * 2 ^ 192
    + c 3 % 2 ^ 32 * 2 ^ 224 + c 4 % 2 ^ 32 * 2 ^ 256 + c 5 % 2 ^ 32 * 2 ^ 288 + c 6 % 2 ^ 64 * 2 ^ 320
    + c 7 % 2 ^ 64 * 2 ^ 384 + c 8 % 2 ^ 64 * 2 ^ 448 + c 9 % 2 ^ 64 * 2 ^ 512 + energy % 2 ^ 32 * 2 ^ 576
    + k % 2 ^ 32 * 2 ^ 608)

/-- A record put into the Inset's ring, and its counts cleared. -/
def State.putAcct (s : State) (i energy k : Nat) : State :=
  let size := s.num i G.ACCT_RING_BYTES / 128
  let s := if size = 0 then s else
    let s := s.storeBytes (s.num i G.ACCT_RING_BASE + 128 * ((s.inset i).acctRecs % size)) (s.acctRecord i energy k)
    s.modInset i (fun t => { t with acctRecs := t.acctRecs + 1 })
  s.modInset i (fun t => { t with busy := InsetSt.reset.busy })

/-- The accounts of a tick: energy charged to each Inset by CAL_K, the remainder to NODE_UNCHARGED_UJ. With no modelled
energy the manual states no CAL_K, and the recorded factor is a free value. -/
def State.account (s : State) (energyUj now : Nat) : State :=
  let s := s.chargeRunning now
  let mv := s.meanMv now
  let model := (upto 16).map (fun i => s.modelled i mv)
  let k := calK energyUj (nth 0 s.clk.idleUj ((mv - vcoreBottom) / vcoreStep)) model.sum
  let (word, s) := if model.sum = 0 then s.draw 32 else (fmt32.roundRat false k.1 k.2, s)
  let charged := model.map (fun e => (2 * e * k.1 + k.2) / (2 * k.2))
  let s := (upto 16).foldl (fun (s : State) i => s.putAcct i (nth 0 charged i) word) s
  let s := s.bumpNode G.NODE_UNCHARGED_UJ (energyUj - charged.sum)
  { s with clk := { s.clk with setpointSum := 0, setpointAt := now } }

/-! ### Checkpoints at a Datum (R246, R249, R250) -/

/-- A programmed checkpoint becomes the restart point. -/
def State.ckptCommit (s : State) (i : Nat) : State :=
  let k := (s.inset i).ckpt
  if !k.programmed then s else
  let snap := Tab.keep (fun g => !Dict.ownsChannel s.gaz.regs i (channelOf (g * 4096))) s.mem.snap
  let s := { s with mem := { s.mem with snap := snap } }
  let s := s.modInset i (fun t => { t with ckpt := { Ckpt.idle with area := if k.area = 0 then 1 else 0 } })
  ((s.setNum i G.CKPT_LAST_SEQ (s.num i G.CKPT_OPEN_SEQ)).setNum i G.CKPT_STATE 0).setNum i G.CKPT_GROUPS_LEFT 0

/-- Address and length of the capture image of a Sheet, zero where it holds no CKPT_CAPTURE. -/
def State.captureOf (s : State) (i : Nat) (sh : Sheet) : Nat × Nat :=
  match sh.cmds.find? (fun c => c.engine == 0x0C && c.opcode == 0x20) with
  | none => (0, 0)
  | some c =>
    let p := leNat c.params
    (CapP.dst p, CapP.size p (if CapP.sync p then (s.capturedSync i).length else 0)
      (if CapP.chart p then Dict.num s.gaz.regs i G.CHART_Q_COUNT else 0))

/-- The checkpoint of Datum s taken: the sets exchange roles, and W is the groups with a snapshot bit. -/
def State.ckptTake (s : State) (i : Nat) (sh : Sheet) : State :=
  let d := s.gaz.regs
  let snap := Dict.granulesOf d i s.mem.dirty
  let other := fun (g : Nat) => !Dict.ownsChannel d i (channelOf (g * 4096))
  let mem := { s.mem with
    dirty := Tab.keep other s.mem.dirty
    snap := snap.foldl (fun (t : Tab Nat) e => t.set e.1 1) (Tab.keep other s.mem.snap) }
  let w := nub ((snap.filter (fun e => !reservedStack (4096 * e.1))).filterMap (fun e => Dict.groupOf d i (4096 * e.1)))
  let cap := s.captureOf i sh
  let s := ({ s with mem := mem }).modInset i (fun t => { t with ckpt := { Ckpt.idle with
    left := w, total := w.length, nextId := Hdr.nextId sh.header, periodUs := Hdr.periodUs sh.header
    planTag := Hdr.planTag sh.header, atlasGen := s.num i G.ATLAS_GEN, captureAt := cap.1, captureLen := cap.2
    area := t.ckpt.area } })
  ((s.setNum i G.CKPT_STATE 1).setNum i G.CKPT_OPEN_SEQ sh.seq).setNum i G.CKPT_GROUPS_LEFT w.length

/-- The checkpoint side of the Datum of a Sheet. -/
def State.ckptDatum (s : State) (i : Nat) (sh : Sheet) : State :=
  let s := s.ckptCommit i
  if !sh.cmds.any (fun c => CmdW.ckptMark c.word) then s
  else if sh.captureLost then (s.bump i G.CKPT_ABORTED 1).event i Code.CKPT_CAPTURE_LOST 0 0
  else if s.num i G.CKPT_STATE = 1 then (s.bump i G.CKPT_SKIPPED 1).event i Code.CKPT_BUSY 0 0
  else s.ckptTake i sh

/-- The Datum of the Sheet in force. -/
def State.closeSheet (s : State) (i : Nat) (sh : Sheet) : State :=
  let s := (s.setNum i G.DATUM_SEQ sh.seq).modInset i (fun t => { t with sheet := none })
  (s.ckptDatum i sh).setNum i G.SHEET_SEQ sh.seq

/-! ### Switches and pre-emptions (R323 to R327, R352) -/

/-- A switch begins. -/
def State.beginSwitch (s : State) (i target source : Nat) : State :=
  (s.modInset i (fun t => { t with switch := some ⟨target, source, false⟩ })).setNum i G.ACTIVE_STREAM 0xFF

/-- The slice of a stream begins: its next entry of the table after the one that ran (log entry 35). -/
def State.toSlice (s : State) (i k : Nat) : State :=
  let es := Dict.slices s.gaz.regs i
  let n := es.length
  let at_ := (s.inset i).sliceIdx
  match ((rangeFrom at_ (n + 1)).map (· % max 1 n)).find? (fun j => j < n && Slice.stream (nth 0 es j) == k) with
  | some j => s.modInset i (fun t => { t with sliceIdx := j, sliceLeft := Slice.ticks (nth 0 es j) })
  | none => s.modInset i (fun t => { t with sliceLeft := 0 })

/-- A pre-emption or role change at its boundary: the steps of R327. -/
def State.preemptNow (s : State) (i : Nat) (p : PreemptReq) : State :=
  let out := s.residentStream i
  let s := s.modInset i (fun t =>
    { t with preempt := none, startAt := none, sheet := t.sheet.map (fun sh => { sh with done := true }) })
  let (s, killed) := s.killAll i Code.PREEMPTED
  let s := s.finishDrains i
  let s := match (s.inset i).sheet with
    | some sh => s.closeSheet i sh
    | none => s
  let (s, closed) := s.closeRequests i Code.PREEMPTED false (some out)
  let s := if s.num i G.CKPT_STATE = 1 then s.abortCkpt i Code.CKPT_PREEMPTED else s
  let s := (s.bump i G.PREEMPTIONS 1).bump i G.PREEMPT_KILLED (killed + closed)
  (s.beginSwitch i p.stream out).toSlice i p.stream

/-! ### What a boundary is to an Inset -/

inductive AtBound where
  /-- No declaration reaches the Inset. -/
  | silent
  | slip
  /-- Datum of the Sheet in force, end of a switch, or start of a waiting Inset. -/
  | datum
  /-- A pre-emption took place. -/
  | preempted
deriving DecidableEq, Repr

/-- What boundary `b` brings Inset `i`. -/
def State.atBound (s : State) (decls : List TagDecl) (i b : Nat) : AtBound :=
  match Dict.tagOf s.gaz.regs i with
  | none => .silent
  | some t =>
    let d := nth (⟨0, 0⟩ : TagDecl) decls t
    let fits := fun (q : Nat) => d.seq == q % 2 ^ 42
    let x := s.inset i
    if d.state = 2 then .slip
    else if d.state ≠ 1 then .silent
    else match x.sheet, x.switch, x.startAt with
      | some sh, _, _ => if fits sh.seq then .datum else .silent
      | none, some w, _ => if w.reported && fits (s.datum i) then .datum else .silent
      | none, none, some k => if k ≤ b && fits (s.datum i) then .datum else .silent
      | none, none, none => .silent

/-- A slip at an Inset (R47, R48, R325, R437). -/
def State.slipInset (s : State) (i : Nat) : State :=
  let t := s.inset i
  if t.switch.isSome then s.bump i G.SWITCH_TICKS 1
  else if t.startAt.isSome then s.bump i G.START_WAIT 1
  else
    let s := s.bump i G.SLIP_COUNT 1
    match t.sheet with
    | none => s
    | some sh =>
      let s := s.modInset i (fun x => { x with
        sheet := some { sh with slips := sh.slips + 1 }, opens := x.opens.map (fun o => { o with overrun := true }) })
      if sh.slips = 0 then s.bump i G.OVERRUN_COUNT 1 else s

/-- The part of a boundary that closes the running Sheet of an Inset. -/
def State.closeInset (s : State) (i : Nat) : AtBound → State
  | .silent => s
  | .preempted => s
  | .slip => s.slipInset i
  | .datum => match (s.inset i).sheet with
    | some sh => s.closeSheet i sh
    | none => s

/-! ### Sets (R359, R433) -/

/-- The set of Inset `i` takes effect at this boundary. -/
def State.insetDue (s : State) (i b : Nat) (hadSheet : Bool) (k : AtBound) : Bool :=
  let t := s.stageSet i
  t.state == 3 && decide (t.bound ≤ b)
    && (s.lock == 0 || !hadSheet || (match k with | .datum => true | .preempted => true | _ => false))

/-- The node set takes effect at this boundary: its TICK flit carries a slip for no tag. -/
def State.nodeDue (s : State) (b : Nat) (decls : Option (List TagDecl)) : Bool :=
  let t := s.stageSet 16
  t.state == 3 && decide (t.bound ≤ b)
    && (s.lock == 0 || (match decls with | some l => l.all (fun d => d.state != 2) | none => false))

/-! ### Time gates (R316) -/

/-- The gates of one port at boundary `b`: a pending list takes over or is discarded, and the list in force starts again. -/
def State.gateBoundary (s : State) (p b now : Nat) : State :=
  let g := s.gate p
  let restart := fun (g : Gate) => { g with entry := 0, startAt := now, deferred := [] }
  match g.pending with
  | none => s.setGate p (restart g)
  | some l =>
    if b < GateL.takeover l then s.setGate p (restart g)
    else if GateL.total l ≠ 1000 * s.periodUs then (s.setGate p (restart { g with pending := none })).bumpNode G.GATE_LATE 1
    else
      (s.setGate p (restart { g with cur := l, pending := none })).bumpNode G.GATE_LATE
        (if GateL.takeover l < b then 1 else 0)

/-! ### The next Sheet -/

/-- No Sheet of the Inset starts (R29). -/
def State.noSheet (s : State) (i : Nat) : State :=
  (s.modInset i (fun t => { t with sheet := none, startAt := none })).setNum i G.SHEET_SEQ (s.datum i)

/-- The stream stops with a code (R28, R370). -/
def State.stopStream (s : State) (i code : Nat) : State :=
  ((s.closeRequests i code true none).1.event i code 0 0).noSheet i

/-- Landed messages of an Inset whose STAMP is two below SHEET_SEQ or more are discarded (Table 13-8). -/
def State.dropUnclaimed (s : State) (i seq : Nat) : State :=
  let old := fun (j stamp : Nat) => j == i && decide (stamp + 2 ≤ seq % 2 ^ 42)
  let gone := s.torus.landed.filter (fun m => old m.inset (MsgW.stamp m.hdr))
  let s := { s with torus := { s.torus with
    landed := s.torus.landed.filter (fun m => !old m.inset (MsgW.stamp m.hdr))
    seen := s.torus.seen.filter (fun k => !old k.1 k.2.2.2.1) } }
  s.bump i G.TORUS_UNCLAIMED gone.length

/-- SURVEY_BANK of each table that the Sheet closes flips (R197). -/
def flipBanks (banks : Tab Nat) (cs : List Cmd) : Tab Nat :=
  (nub ((cs.filter (fun c => c.engine == 0x0B && c.opcode == 2)).map (fun c => ChartP.table (leNat c.params)))).foldl
    (fun (t : Tab Nat) k => t.set k (1 - t.get 0 k)) banks

/-- A Sheet starts. -/
def State.beginSheet (s : State) (i k now : Nat) (m : Image) : State :=
  let seq := s.datum i + 1
  let oldest := (upto 16).map (fun j => s.num i (G.OLDEST_LIVE_DATUM + j))
  let s := { s with sched := { s.sched with commitLog := s.sched.commitLog.filter (fun e => e.1 != i) } }
  let s := s.modInset i (fun t => { t with
    sheet := some (m.start seq now), nextId := modNth (fun _ => Hdr.nextId m.header) t.nextId k, startAt := none
    switch := none, oldest := oldest, banks := flipBanks t.banks m.cmds
    sliceLeft := t.sliceLeft - (if Slice.stream (nth 0 (Dict.slices s.gaz.regs i) t.sliceIdx) = k then 1 else 0) })
  ((s.setNum i G.SHEET_SEQ seq).setNum i G.ACTIVE_STREAM k).dropUnclaimed i seq

/-- The next Sheet of stream `k` starts, or the stream ends or stops. -/
def State.nextSheet (s : State) (i k now : Nat) (bad : List Nat) : State :=
  let id := nth 0xFFFF (s.inset i).nextId k
  match (if id = 0xFFFF then none else Dict.imageOf s.gaz.regs i id) with
  | none => s.noSheet i
  | some m =>
    if Hdr.periodUs m.header ≠ s.periodUs then s.stopStream i Code.SHEET_PERIOD
    else if bad.contains i then s.stopStream i Code.SHEET_STORE_UNCORRECTABLE
    else s.beginSheet i k now m

/-- The stream has ended. -/
def State.ended (s : State) (i k : Nat) : Bool := nth 0xFFFF (s.inset i).nextId k == 0xFFFF

/-- The entry of the slice table that follows, passing over ended streams: its place and stream. -/
def State.nextSlice (s : State) (i : Nat) : Option (Nat × Nat) :=
  let es := Dict.slices s.gaz.regs i
  let n := es.length
  (((rangeFrom ((s.inset i).sliceIdx + 1) n).map (· % max 1 n)).map (fun j => (j, Slice.stream (nth 0 es j)))).find?
    (fun e => !s.ended i e.2)

/-- Conditions 1 and 2 of R324; no Sheet stays suspended here, since pre-emption kills. -/
def State.maySwitch (s : State) (i k : Nat) : Bool :=
  !(s.inset i).opens.any (fun o => o.stream == k) && s.num i G.CKPT_STATE != 1

/-- The slicer at the Datum that closes a Sheet of the active stream (R323, R324, log entry 35). -/
def State.slice (s : State) (i now : Nat) (bad : List Nat) : State :=
  let k := s.num i G.ACTIVE_STREAM % 4
  let es := Dict.slices s.gaz.regs i
  let mine := Slice.stream (nth 0 es (s.inset i).sliceIdx) == k
  let isOver := !es.isEmpty && (s.ended i k || (mine && (s.inset i).sliceLeft == 0))
  if !isOver then s.nextSheet i k now bad
  else match s.nextSlice i with
    | none => s.noSheet i
    | some (j, x) =>
      let enter := fun (s : State) => s.modInset i (fun t => { t with sliceIdx := j, sliceLeft := Slice.ticks (nth 0 es j) })
      if x = k then (enter s).nextSheet i k now bad
      else if s.maySwitch i k then (enter (s.beginSwitch i x k)).noSheet i
      else if s.ended i k then s.noSheet i
      else (s.bump i G.SLICE_LATE 1).nextSheet i k now bad

/-- What starts at a Datum of an Inset: the first Sheet after a switch or an INSET_START, or the slicer's choice. -/
def State.startInset (s : State) (i now : Nat) (bad : List Nat) (hadSheet : Bool) : State :=
  let t := s.inset i
  if s.sched.halted ∨ s.lock = 0 then s.noSheet i
  else match t.switch, t.startAt with
    | some w, _ =>
      let s := s.setNum i G.ACTIVE_STREAM w.target
      (s.modInset i (fun x => { x with switch := none })).nextSheet i w.target now bad
    | none, some _ =>
      let e := s.num i G.SHEET_ENTRY
      let k := e / 16384 % 4
      let s := s.modInset i (fun x => { x with nextId := modNth (fun _ => e) x.nextId k })
      ((s.setNum i G.ACTIVE_STREAM k).toSlice i k).nextSheet i k now bad
    | none, none => if hadSheet then s.slice i now bad else s

/-- Channels of an Inset whose mode differs from their base entry return to it (R213). -/
def State.restoreModes (s : State) (i : Nat) : State :=
  ((Dict.channels s.gaz.regs i).filter (fun ch =>
    (s.unit ch).change.isNone && (s.unit ch).mode != Dict.baseMode s.gaz.regs i ch)).foldl
    (fun (s : State) ch => (s.askMode ch (Dict.baseMode s.gaz.regs i ch)).bumpNode G.BSU_MODE_RESTORE 1) s

/-- The last part of a boundary for an Inset. -/
def State.openInset (s : State) (i now : Nat) (bad : List Nat) (hadSheet applied : Bool) (k : AtBound) : State :=
  let s := if k = .datum then s.startInset i now bad hadSheet else if k = .preempted then s.noSheet i else s
  let s := if k = .datum ∨ k = .preempted ∨ applied then s.restoreModes i else s
  if (s.inset i).sheet.isNone then s.quiesce i else s

/-! ### The boundary -/

/-- Timed rehearsals of the node: three boundary messages ignored, and one copy of TICK_NO that differs. -/
def State.tickRehearsals (s : State) : State :=
  let s := match s.timedEntry 0x013 0 with
    | some k => ({ s with tick := { s.tick with ignore := 3 } }).fireTimed k 0x013 0 0
    | none => s
  match s.timedEntry 0x014 0 with
  | some k => (s.fireTimed k 0x014 0 0).bumpNode G.VOTE_CORRECTED 1
  | none => s

/-- The declarations that reach the node at boundary `b`: the master's own, or those of the message held. -/
def State.boundaryDecls (s : State) (b : Nat) (members : List (Nat × List Nat)) : State × Option (List TagDecl) :=
  let held := match s.tick.msg with
    | some m => if m.tickNo = b then some m.decls else none
    | none => none
  if s.lock = 3 then match held with
    | some l => (s, some l)
    | none => let (s, l) := s.declareAll b members; (s, some l)
  else if s.lock = 1 then (s, held)
  else (s, none)

/-- PLAN_TAG of the Sheet that starts at the boundary, written into the capture made there (Table 19-6). -/
def State.tagCapture (s : State) (b : Nat) : State :=
  match (s.inset (s.node G.DUMP_RING_INSET)).sheet with
  | none => s
  | some sh =>
    if sh.startAt ≠ s.tick.lastAt then s else
    { s with ctr := { s.ctr with stages := s.ctr.stages.map (fun st =>
        if st.tickNo = b then { st with bytes := st.bytes.take 32 ++ toLe 8 (Hdr.planTag sh.header) ++ st.bytes.drop 40 }
        else st) } }

/-- Pre-emptions due at boundary `b`; answers what the boundary is to each Inset, and whether it had a Sheet. -/
def State.preemptions (s : State) (b : Nat) (decls : List TagDecl) : State × List (Nat × Bool × AtBound) :=
  (upto 16).foldl (fun (acc : State × List (Nat × Bool × AtBound)) i =>
    let s := acc.1
    let had := (s.inset i).sheet.isSome
    match (s.inset i).preempt with
    | some p =>
      if p.bound ≤ b then (s.preemptNow i p, acc.2 ++ [(i, had, .preempted)])
      else (s, acc.2 ++ [(i, had, s.atBound decls i b)])
    | none => (s, acc.2 ++ [(i, had, s.atBound decls i b)])) (s, [])

/-- The set of an Inset takes effect; where it holds a SHEET_IMAGE or SHEET_ENTRY and a Sheet was in force, the next Sheet is
SHEET_ENTRY (R46). -/
def State.takeInset (s : State) (i : Nat) (had : Bool) : State :=
  let held := (s.stageSet i).staged
  let enters := had && (Tab.find held (rkey i G.SHEET_IMAGE)).isSome || had && (Tab.find held (rkey i G.SHEET_ENTRY)).isSome
  let s := s.applySet i
  if enters && (s.stageSet i).state == 0 then s.enterSheet i else s

/-- Sets that take effect; answers the Insets whose set did. -/
def State.takeSets (s : State) (b : Nat) (decls : Option (List TagDecl)) (at_ : List (Nat × Bool × AtBound)) :
    State × List Nat :=
  let s := if s.nodeDue b decls then s.applySet 16 else s
  at_.foldl (fun (acc : State × List Nat) (x : Nat × Bool × AtBound) =>
    if acc.1.insetDue x.1 b x.2.1 x.2.2 then (acc.1.takeInset x.1 x.2.1, acc.2 ++ [x.1]) else acc) (s, [])

/-- Boundary `b` at cycle `now`. -/
def State.boundary (s : State) (b now : Nat) (x : BoundaryIn) : State :=
  let s := s.tickRehearsals
  let s := s.dumpCapture b 0
  let s := s.account x.energyUj now
  let s := (s.bwBoundary b s.periodUs).vcoreBoundary x.marginPs s.tickNo
  let (s, decls) := s.boundaryDecls b x.members
  let (s, at_) := s.preemptions b (decls.getD [])
  let s := at_.foldl (fun (s : State) (e : Nat × Bool × AtBound) => s.closeInset e.1 e.2.2) s
  let s := s.setNum 16 G.TICK_NO b
  let (s, applied) := s.takeSets b decls at_
  let s := if (Dict.flashOwner s.gaz.regs 0).isNone then s.writeImage else s
  let missed := if (s.lock = 1 ∨ s.lock = 2) ∧ decls.isNone then s.tick.missed + 1 else 0
  let s := { s with tick := { s.tick with lastAt := now, nextAt := now + usCycles s.periodUs, msg := none, missed := missed } }
  let s := (upto 12).foldl (fun (s : State) p => s.gateBoundary p b now) s
  let s := s.takeQueues.bindBoundary
  let s := at_.foldl (fun (s : State) (e : Nat × Bool × AtBound) =>
    s.openInset e.1 now x.badStore e.2.1 (applied.contains e.1) e.2.2) s
  s.tagCapture b

/-- TICK_BOUNDARY: the next local boundary has come, in phase 6. -/
def execTickBoundary (b : BoundaryIn) (s : State) : Host.Outcome State Fault Refusal :=
  if s.node G.START_PHASE < 6 ∨ !s.serves ∨ s.clk.cycle < s.tick.nextAt then .next s
  else .next (s.boundary (s.tickNo + 1) s.tick.nextAt b)

end Sys2Proof.Machine
end

