-- ==== Sys2Proof/Machine/Dispatch.lean ====
section
/-!
DEFINITION. The dispatch of commands to their meanings, one arm per constructor.
-/

namespace Sys2Proof.Machine

/-- The effect of a command on everything but the queue. -/
def exec (i : Instr) (s : State) : Host.Outcome State Fault Refusal :=
  match i with
  | .tickBoundary b => Sys2Proof.Machine.execTickBoundary b s
  | .boundaryMessage m => Sys2Proof.Machine.execBoundaryMessage m s
  | .holdover => Sys2Proof.Machine.execHoldover s
  | .tickUnlock => Sys2Proof.Machine.execTickUnlock s
  | .masterFailover => Sys2Proof.Machine.execMasterFailover s
  | .masterWait => Sys2Proof.Machine.execMasterWait s
  | .tickSend members => Sys2Proof.Machine.execTickSend members s
  | .commandIssue c => Sys2Proof.Machine.execCommandIssue c s
  | .commitPoint c => Sys2Proof.Machine.execCommitPoint c s
  | .drainEnd c badStage => Sys2Proof.Machine.execDrainEnd c badStage s
  | .overrunAbandon inset => Sys2Proof.Machine.execOverrunAbandon inset s
  | .matmul c hw => Sys2Proof.Machine.execMatmul c hw s
  | .add c hw => Sys2Proof.Machine.execAdd c hw s
  | .sub c hw => Sys2Proof.Machine.execSub c hw s
  | .mul c hw => Sys2Proof.Machine.execMul c hw s
  | .fma c hw => Sys2Proof.Machine.execFma c hw s
  | .min c hw => Sys2Proof.Machine.execMin c hw s
  | .max c hw => Sys2Proof.Machine.execMax c hw s
  | .abs c hw => Sys2Proof.Machine.execAbs c hw s
  | .neg c hw => Sys2Proof.Machine.execNeg c hw s
  | .relu c hw => Sys2Proof.Machine.execRelu c hw s
  | .cmpGt c hw => Sys2Proof.Machine.execCmpGt c hw s
  | .vectorSelect c hw => Sys2Proof.Machine.execVectorSelect c hw s
  | .cvt c hw => Sys2Proof.Machine.execCvt c hw s
  | .exp c hw => Sys2Proof.Machine.execExp c hw s
  | .log c hw => Sys2Proof.Machine.execLog c hw s
  | .recip c hw => Sys2Proof.Machine.execRecip c hw s
  | .rsqrt c hw => Sys2Proof.Machine.execRsqrt c hw s
  | .tanh c hw => Sys2Proof.Machine.execTanh c hw s
  | .sigmoid c hw => Sys2Proof.Machine.execSigmoid c hw s
  | .gelu c hw => Sys2Proof.Machine.execGelu c hw s
  | .rowSum c hw => Sys2Proof.Machine.execRowSum c hw s
  | .rowMax c hw => Sys2Proof.Machine.execRowMax c hw s
  | .rowSumsq c hw => Sys2Proof.Machine.execRowSumsq c hw s
  | .quant c hw => Sys2Proof.Machine.execQuant c hw s
  | .dequant c hw => Sys2Proof.Machine.execDequant c hw s
  | .range c hw => Sys2Proof.Machine.execRange c hw s
  | .select c hw => Sys2Proof.Machine.execSelect c hw s
  | .sort c hw => Sys2Proof.Machine.execSort c hw s
  | .merge c hw => Sys2Proof.Machine.execMerge c hw s
  | .kth c hw => Sys2Proof.Machine.execKth c hw s
  | .searchStart c hw => Sys2Proof.Machine.execSearchStart c hw s
  | .searchExpand c hw => Sys2Proof.Machine.execSearchExpand c hw s
  | .searchFetchList c hw => Sys2Proof.Machine.execSearchFetchList c hw s
  | .searchFinish c hw => Sys2Proof.Machine.execSearchFinish c hw s
  | .insertLink c hw => Sys2Proof.Machine.execInsertLink c hw s
  | .delete c hw => Sys2Proof.Machine.execDelete c hw s
  | .consolidate c hw => Sys2Proof.Machine.execConsolidate c hw s
  | .embRoute c hw => Sys2Proof.Machine.execEmbRoute c hw s
  | .embFetchList c hw => Sys2Proof.Machine.execEmbFetchList c hw s
  | .embServe c hw => Sys2Proof.Machine.execEmbServe c hw s
  | .embPool c hw => Sys2Proof.Machine.execEmbPool c hw s
  | .embScatter c hw => Sys2Proof.Machine.execEmbScatter c hw s
  | .embApply c hw => Sys2Proof.Machine.execEmbApply c hw s
  | .rowReplace c hw => Sys2Proof.Machine.execRowReplace c hw s
  | .surveyClose c hw => Sys2Proof.Machine.execSurveyClose c hw s
  | .placeDecide c hw => Sys2Proof.Machine.execPlaceDecide c hw s
  | .migFetchList c hw => Sys2Proof.Machine.execMigFetchList c hw s
  | .migSend c hw => Sys2Proof.Machine.execMigSend c hw s
  | .chartCommit c hw => Sys2Proof.Machine.execChartCommit c hw s
  | .atlasSwitch c hw => Sys2Proof.Machine.execAtlasSwitch c hw s
  | .bsuMode c => Sys2Proof.Machine.execBsuMode c s
  | .modeChangeSequence channel => Sys2Proof.Machine.execModeChangeSequence channel s
  | .bsuRun c hw => Sys2Proof.Machine.execBsuRun c hw s
  | .bsuQload c hw => Sys2Proof.Machine.execBsuQload c hw s
  | .scoreSketch c op hw => Sys2Proof.Machine.execScoreSketch c op hw s
  | .dotI8 c op hw => Sys2Proof.Machine.execDotI8 c op hw s
  | .l2I8 c op hw => Sys2Proof.Machine.execL2I8 c op hw s
  | .cmpSelect c op hw => Sys2Proof.Machine.execCmpSelect c op hw s
  | .poolRows c op hw => Sys2Proof.Machine.execPoolRows c op hw s
  | .fill c op hw => Sys2Proof.Machine.execFill c op hw s
  | .copy c op hw => Sys2Proof.Machine.execCopy c op hw s
  | .bsuHoldPoison channel => Sys2Proof.Machine.execBsuHoldPoison channel s
  | .apertureEnqueue channel slot data => Sys2Proof.Machine.execApertureEnqueue channel slot data s
  | .apFlush channel => Sys2Proof.Machine.execApFlush channel s
  | .dmCopy c hw => Sys2Proof.Machine.execDmCopy c hw s
  | .dmFill c hw => Sys2Proof.Machine.execDmFill c hw s
  | .dmHostRead c reply => Sys2Proof.Machine.execDmHostRead c reply s
  | .blockTranspose c hw => Sys2Proof.Machine.execBlockTranspose c hw s
  | .ckptCapture c hw => Sys2Proof.Machine.execCkptCapture c hw s
  | .hostAdmit c hw => Sys2Proof.Machine.execHostAdmit c hw s
  | .hostComplete c hw => Sys2Proof.Machine.execHostComplete c hw s
  | .scribeGather c reads => Sys2Proof.Machine.execScribeGather c reads s
  | .scribeWrite c phys => Sys2Proof.Machine.execScribeWrite c phys s
  | .ckptWindow c phys => Sys2Proof.Machine.execCkptWindow c phys s
  | .ckptManifest inset programmed => Sys2Proof.Machine.execCkptManifest inset programmed s
  | .bgWindow c phys => Sys2Proof.Machine.execBgWindow c phys s
  | .zqCal channel => Sys2Proof.Machine.execZqCal channel s
  | .flashChannelReset channel trained => Sys2Proof.Machine.execFlashChannelReset channel trained s
  | .rebuild phys => Sys2Proof.Machine.execRebuild phys s
  | .flashFormat r => Sys2Proof.Machine.execFlashFormat r s
  | .ckptRestore r => Sys2Proof.Machine.execCkptRestore r s
  | .restoreEnd inset phys => Sys2Proof.Machine.execRestoreEnd inset phys s
  | .portTraining port t => Sys2Proof.Machine.execPortTraining port t s
  | .trainingTimeout port => Sys2Proof.Machine.execTrainingTimeout port s
  | .flitReceive port flit => Sys2Proof.Machine.execFlitReceive port flit s
  | .nak port seq => Sys2Proof.Machine.execNak port seq s
  | .laneSerWindow port lane errors symbols lockLost => Sys2Proof.Machine.execLaneSerWindow port lane errors symbols lockLost s
  | .laneSwap port lane spare codeword => Sys2Proof.Machine.execLaneSwap port lane spare codeword s
  | .linkDown port => Sys2Proof.Machine.execLinkDown port s
  | .portSwap port spare => Sys2Proof.Machine.execPortSwap port spare s
  | .probe port t1 t2 t3 t4 => Sys2Proof.Machine.execProbe port t1 t2 t3 t4 s
  | .delayProbe port t1 => Sys2Proof.Machine.execDelayProbe port t1 s
  | .presetReq port lane preset codeword => Sys2Proof.Machine.execPresetReq port lane preset codeword s
  | .retrain port => Sys2Proof.Machine.execRetrain port s
  | .put m => Sys2Proof.Machine.execPut m s
  | .a2aSlot m => Sys2Proof.Machine.execA2aSlot m s
  | .done m => Sys2Proof.Machine.execDone m s
  | .token m => Sys2Proof.Machine.execToken m s
  | .lease m => Sys2Proof.Machine.execLease m s
  | .barrier m => Sys2Proof.Machine.execBarrier m s
  | .mgmtReq m => Sys2Proof.Machine.execMgmtReq m s
  | .mgmtRsp m => Sys2Proof.Machine.execMgmtRsp m s
  | .event m => Sys2Proof.Machine.execEvent m s
  | .torusPut c => Sys2Proof.Machine.execTorusPut c s
  | .torusWait c => Sys2Proof.Machine.execTorusWait c s
  | .torusA2a c => Sys2Proof.Machine.execTorusA2a c s
  | .sqTail fn queue value => Sys2Proof.Machine.execSqTail fn queue value s
  | .queueConfig fn queue field value => Sys2Proof.Machine.execQueueConfig fn queue field value s
  | .shaperRelease flow => Sys2Proof.Machine.execShaperRelease flow s
  | .egressSelect port => Sys2Proof.Machine.execEgressSelect port s
  | .gateEntry port => Sys2Proof.Machine.execGateEntry port s
  | .tmSample inset => Sys2Proof.Machine.execTmSample inset s
  | .depthSample => Sys2Proof.Machine.execDepthSample s
  | .switchEnd inset => Sys2Proof.Machine.execSwitchEnd inset s
  | .preempt r => Sys2Proof.Machine.execPreempt r s
  | .insetReset r => Sys2Proof.Machine.execInsetReset r s
  | .leaseRevoked sync => Sys2Proof.Machine.execLeaseRevoked sync s
  | .intHoldoff inset vector => Sys2Proof.Machine.execIntHoldoff inset vector s
  | .cxlMemRead hpa noc => Sys2Proof.Machine.execCxlMemRead hpa noc s
  | .cxlMemWrite hpa data mask poison => Sys2Proof.Machine.execCxlMemWrite hpa data mask poison s
  | .controlCoreAccess a => Sys2Proof.Machine.execControlCoreAccess a s
  | .hdmCommit decoder base size ways => Sys2Proof.Machine.execHdmCommit decoder base size ways s
  | .cxlSnoop addr => Sys2Proof.Machine.execCxlSnoop addr s
  | .cxlConfigRequest addr => Sys2Proof.Machine.execCxlConfigRequest addr s
  | .getSupportedLogs fn => Sys2Proof.Machine.execGetSupportedLogs fn s
  | .getLog fn uuid offset length => Sys2Proof.Machine.execGetLog fn uuid offset length s
  | .getTimestamp fn => Sys2Proof.Machine.execGetTimestamp fn s
  | .setTimestamp fn ns => Sys2Proof.Machine.execSetTimestamp fn ns s
  | .mailboxUnsupported fn opcode => Sys2Proof.Machine.execMailboxUnsupported fn opcode s
  | .switchInstant inset => Sys2Proof.Machine.execSwitchInstant inset s
  | .bindRelease r => Sys2Proof.Machine.execBindRelease r s
  | .hostLinkLost => Sys2Proof.Machine.execHostLinkLost s
  | .orphanAbort inset => Sys2Proof.Machine.execOrphanAbort inset s
  | .roleChange r => Sys2Proof.Machine.execRoleChange r s
  | .fieldFrame frame fcsOk => Sys2Proof.Machine.execFieldFrame frame fcsOk s
  | .announce => Sys2Proof.Machine.execAnnounce s
  | .read r => Sys2Proof.Machine.execRead r s
  | .write r => Sys2Proof.Machine.execWrite r s
  | .readStaged r => Sys2Proof.Machine.execReadStaged r s
  | .check r => Sys2Proof.Machine.execCheck r s
  | .apply r => Sys2Proof.Machine.execApply r s
  | .discard r => Sys2Proof.Machine.execDiscard r s
  | .setState r => Sys2Proof.Machine.execSetState r s
  | .scrubRead mc inst found => Sys2Proof.Machine.execScrubRead mc inst found s
  | .remapApplied mc inst row => Sys2Proof.Machine.execRemapApplied mc inst row s
  | .channelSpared channel => Sys2Proof.Machine.execChannelSpared channel s
  | .channelFill channel => Sys2Proof.Machine.execChannelFill channel s
  | .repairRecordWrite ok => Sys2Proof.Machine.execRepairRecordWrite ok s
  | .suspectClear r => Sys2Proof.Machine.execSuspectClear r s
  | .dumpRecord => Sys2Proof.Machine.execDumpRecord s
  | .counterClear r => Sys2Proof.Machine.execCounterClear r s
  | .sampleReset r => Sys2Proof.Machine.execSampleReset r s
  | .attestNonce r => Sys2Proof.Machine.execAttestNonce r s
  | .attestReport inset ok => Sys2Proof.Machine.execAttestReport inset ok s
  | .floorCert r => Sys2Proof.Machine.execFloorCert r s
  | .ownerKey r => Sys2Proof.Machine.execOwnerKey r s
  | .imageWrite r => Sys2Proof.Machine.execImageWrite r s
  | .measureExtend r => Sys2Proof.Machine.execMeasureExtend r s
  | .debugToken r => Sys2Proof.Machine.execDebugToken r s
  | .pwrGoodRise rails => Sys2Proof.Machine.execPwrGoodRise rails s
  | .pwrGoodFall => Sys2Proof.Machine.execPwrGoodFall s
  | .resetN bootSrc => Sys2Proof.Machine.execResetN bootSrc s
  | .startPhaseEnd p => Sys2Proof.Machine.execStartPhaseEnd p s
  | .vrPoll rails => Sys2Proof.Machine.execVrPoll rails s
  | .vrAlert rails => Sys2Proof.Machine.execVrAlert rails s
  | .vcoreEmergency marginPs => Sys2Proof.Machine.execVcoreEmergency marginPs s
  | .vcoreMargin marginPs => Sys2Proof.Machine.execVcoreMargin marginPs s
  | .thermalSample temps => Sys2Proof.Machine.execThermalSample temps s
  | .refclkCheck ppb spreadPpb cxlPpb => Sys2Proof.Machine.execRefclkCheck ppb spreadPpb cxlPpb s
  | .insetStart r => Sys2Proof.Machine.execInsetStart r s
  | .apertureOperation channel hw => Sys2Proof.Machine.execApertureOperation channel hw s
  | .rehearsalSwapReturn port => Sys2Proof.Machine.execRehearsalSwapReturn port s
  | .resetNAssert => Sys2Proof.Machine.execResetNAssert s
  | .dynamicAddressAssignment addr => Sys2Proof.Machine.execDynamicAddressAssignment addr s

end Sys2Proof.Machine
end

