-- ==== Sys2Proof/WellFormed.lean ====
section
/-!
DEFINITION. Well-formed commands: every operand that names an instance names one the node has (Tables 1-2 to 1-4, 10-1, 12-1,
13-1, 16-3), and every record is as wide as the manual gives it. A command outside these ranges is no event of the hardware.
-/

namespace Sys2Proof

/-- The Inset exists and the index fits a Sheet. -/
def CmdRef.wf (c : CmdRef) : Bool := decide (c.inset < 16) && decide (c.idx < 65536)

/-- A function, a MAC, or a node with a tag mask. -/
def GazPath.wf : GazPath → Bool
  | .mailbox f => decide (f < 16)
  | .field src => decide (src < 2 ^ 48)
  | .torus src mask => decide (src < 4096) && decide (mask < 65536)

/-- A frame of Table 17-5: a 32-byte header and at most 1,024 bytes. -/
def GazReq.wf (r : GazReq) : Bool := r.path.wf && decide (r.hdr < 2 ^ 256) && decide (r.data.length ≤ 1024)

/-- A message on a logical port, of a domain tag or (16) of the management pool, with the 32-byte header of Table 13-6. -/
def Msg.wf (m : Msg) : Bool := decide (m.port < 6) && decide (m.tag ≤ 16) && decide (m.hdr < 2 ^ 256)

/-- STATE_t and SEQ_t of Table 13-11. -/
def TagDecl.wf (d : TagDecl) : Bool := decide (d.seq < 2 ^ 42) && decide (d.state ≤ 2)

/-- Domain tags with their member nodes. -/
def membersWf (l : List (Nat × List Nat)) : Bool :=
  l.all (fun e => decide (e.1 < 16) && e.2.all (fun n => decide (n < 4096)))

def BoundaryIn.wf (b : BoundaryIn) : Bool := membersWf b.members && b.badStore.all (fun i => decide (i < 16))

/-- A TICK flit on a physical port. -/
def TickIn.wf (m : TickIn) : Bool :=
  decide (m.port < 8) && decide (m.master < 4096) && m.decls.length == 16 && m.decls.all TagDecl.wf

/-- Lanes of a port, and what IDENT reports. -/
def TrainIn.wf (t : TrainIn) : Bool :=
  t.lanes.all (fun l => decide (l < 18)) && decide (t.node < 4096) && decide (t.farPort < 8)

/-- A flit of 264 bytes, or one that failed decode. -/
def FlitIn.wf (f : FlitIn) : Bool :=
  match f.body with
  | none => true
  | some (h, p) => decide (h < 2 ^ 64) && p.length == 256

def CoreAccess.wf (a : CoreAccess) : Bool := decide (a.core < 16)

/-- The ROM reads two slots, two Repair Records and the identity page; idle energy is measured at 41 steps. -/
def PhaseIn.wf (p : PhaseIn) : Bool :=
  decide (p.slots.length ≤ 2) && decide (p.repair.length ≤ 3) && decide (p.idleUj.length ≤ 41)

/-- Instances that a memory class has for the scrubber: 0 stack channels, 1 on-die macros, 2 macros of the bank-side units,
3 triplicated words. -/
def scrubInstances (mc : Nat) : Nat :=
  if mc = 0 then 256 else if mc = 1 then 7168 else if mc = 2 then 3584 else if mc = 3 then 17 else 0

/-- A well-formed command. -/
def Instr.wf : Instr → Bool
  | .tickBoundary b => b.wf
  | .boundaryMessage m => m.wf
  | .holdover => true
  | .tickUnlock => true
  | .masterFailover => true
  | .masterWait => true
  | .tickSend members => membersWf members
  | .commandIssue c => c.wf
  | .commitPoint c => c.wf
  | .drainEnd c _ => c.wf
  | .overrunAbandon inset => decide (inset < 16)
  | .matmul c _ => c.wf
  | .add c _ => c.wf
  | .sub c _ => c.wf
  | .mul c _ => c.wf
  | .fma c _ => c.wf
  | .min c _ => c.wf
  | .max c _ => c.wf
  | .abs c _ => c.wf
  | .neg c _ => c.wf
  | .relu c _ => c.wf
  | .cmpGt c _ => c.wf
  | .vectorSelect c _ => c.wf
  | .cvt c _ => c.wf
  | .exp c _ => c.wf
  | .log c _ => c.wf
  | .recip c _ => c.wf
  | .rsqrt c _ => c.wf
  | .tanh c _ => c.wf
  | .sigmoid c _ => c.wf
  | .gelu c _ => c.wf
  | .rowSum c _ => c.wf
  | .rowMax c _ => c.wf
  | .rowSumsq c _ => c.wf
  | .quant c _ => c.wf
  | .dequant c _ => c.wf
  | .range c _ => c.wf
  | .select c _ => c.wf
  | .sort c _ => c.wf
  | .merge c _ => c.wf
  | .kth c _ => c.wf
  | .searchStart c _ => c.wf
  | .searchExpand c _ => c.wf
  | .searchFetchList c _ => c.wf
  | .searchFinish c _ => c.wf
  | .insertLink c _ => c.wf
  | .delete c _ => c.wf
  | .consolidate c _ => c.wf
  | .embRoute c _ => c.wf
  | .embFetchList c _ => c.wf
  | .embServe c _ => c.wf
  | .embPool c _ => c.wf
  | .embScatter c _ => c.wf
  | .embApply c _ => c.wf
  | .rowReplace c _ => c.wf
  | .surveyClose c _ => c.wf
  | .placeDecide c _ => c.wf
  | .migFetchList c _ => c.wf
  | .migSend c _ => c.wf
  | .chartCommit c _ => c.wf
  | .atlasSwitch c _ => c.wf
  | .bsuMode c => c.wf
  | .modeChangeSequence channel => decide (channel < 256)
  | .bsuRun c _ => c.wf
  | .bsuQload c _ => c.wf
  | .scoreSketch c _ _ => c.wf
  | .dotI8 c _ _ => c.wf
  | .l2I8 c _ _ => c.wf
  | .cmpSelect c _ _ => c.wf
  | .poolRows c _ _ => c.wf
  | .fill c _ _ => c.wf
  | .copy c _ _ => c.wf
  | .bsuHoldPoison channel => decide (channel < 256)
  | .apertureEnqueue channel slot data => decide (channel < 256) && decide (slot < 2048) && data.length == 8
  | .apFlush channel => decide (channel < 256)
  | .dmCopy c _ => c.wf
  | .dmFill c _ => c.wf
  | .dmHostRead c _ => c.wf
  | .blockTranspose c _ => c.wf
  | .ckptCapture c _ => c.wf
  | .hostAdmit c _ => c.wf
  | .hostComplete c _ => c.wf
  | .scribeGather c _ => c.wf
  | .scribeWrite c _ => c.wf
  | .ckptWindow c _ => c.wf
  | .ckptManifest inset _ => decide (inset < 16)
  | .bgWindow c _ => c.wf
  | .zqCal channel => decide (channel < 32)
  | .flashChannelReset channel _ => decide (channel < 32)
  | .rebuild _ => true
  | .flashFormat r => r.wf
  | .ckptRestore r => r.wf
  | .restoreEnd inset _ => decide (inset < 16)
  | .portTraining port t => decide (port < 8) && t.wf
  | .trainingTimeout port => decide (port < 8)
  | .flitReceive port flit => decide (port < 8) && flit.wf
  | .nak port seq => decide (port < 8) && decide (seq < 4096)
  | .laneSerWindow port lane _ _ _ => decide (port < 8) && decide (lane < 18)
  | .laneSwap port lane spare _ => decide (port < 8) && decide (lane < 18) && decide (spare < 18)
  | .linkDown port => decide (port < 6)
  | .portSwap port spare => decide (port < 6) && decide (spare < 8)
  | .probe port _ _ _ _ => decide (port < 8)
  | .delayProbe port _ => decide (port < 8)
  | .presetReq port lane preset _ => decide (port < 8) && decide (lane < 18) && decide (preset < 16)
  | .retrain port => decide (port < 8)
  | .put m => m.wf
  | .a2aSlot m => m.wf
  | .done m => m.wf
  | .token m => m.wf
  | .lease m => m.wf
  | .barrier m => m.wf
  | .mgmtReq m => m.wf
  | .mgmtRsp m => m.wf
  | .event m => m.wf
  | .torusPut c => c.wf
  | .torusWait c => c.wf
  | .torusA2a c => c.wf
  | .sqTail fn queue _ => decide (fn < 16) && decide (queue < 4)
  | .queueConfig fn queue field _ => decide (fn < 16) && decide (queue < 4) && decide (field < 6)
  | .shaperRelease flow => decide (flow < 1048576)
  | .egressSelect port => decide (port < 12)
  | .gateEntry port => decide (port < 12)
  | .tmSample inset => decide (inset < 16)
  | .depthSample => true
  | .switchEnd inset => decide (inset < 16)
  | .preempt r => r.wf
  | .insetReset r => r.wf
  | .leaseRevoked sync => decide (sync < 16384)
  | .intHoldoff inset vector => decide (inset < 16) && decide (vector < 128)
  | .cxlMemRead _ _ => true
  | .cxlMemWrite _ data mask _ => data.length == 64 && decide (mask < 2 ^ 64)
  | .controlCoreAccess a => a.wf
  | .hdmCommit decoder _ _ _ => decide (decoder < 4)
  | .cxlSnoop _ => true
  | .cxlConfigRequest _ => true
  | .getSupportedLogs fn => decide (fn < 16)
  | .getLog fn uuid _ _ => decide (fn < 16) && uuid.length == 16
  | .getTimestamp fn => decide (fn < 16)
  | .setTimestamp fn _ => decide (fn < 16)
  | .mailboxUnsupported fn _ => decide (fn < 16)
  | .switchInstant inset => decide (inset < 16)
  | .bindRelease r => r.wf
  | .hostLinkLost => true
  | .orphanAbort inset => decide (inset < 16)
  | .roleChange r => r.wf
  | .fieldFrame _ _ => true
  | .announce => true
  | .read r => r.wf
  | .write r => r.wf
  | .readStaged r => r.wf
  | .check r => r.wf
  | .apply r => r.wf
  | .discard r => r.wf
  | .setState r => r.wf
  | .scrubRead mc inst _ => decide (inst < scrubInstances mc)
  | .remapApplied mc inst _ => decide (mc < 3) && decide (inst < scrubInstances mc)
  | .channelSpared channel => decide (channel < 256)
  | .channelFill channel => decide (channel < 256)
  | .repairRecordWrite _ => true
  | .suspectClear r => r.wf
  | .dumpRecord => true
  | .counterClear r => r.wf
  | .sampleReset r => r.wf
  | .attestNonce r => r.wf
  | .attestReport inset _ => decide (inset < 16)
  | .floorCert r => r.wf
  | .ownerKey r => r.wf
  | .imageWrite r => r.wf
  | .measureExtend r => r.wf
  | .debugToken r => r.wf
  | .pwrGoodRise rails => rails.length == 6
  | .pwrGoodFall => true
  | .resetN bootSrc => decide (bootSrc < 4)
  | .startPhaseEnd p => p.wf
  | .vrPoll rails => rails.length == 6
  | .vrAlert rails => rails.length == 6
  | .vcoreEmergency _ => true
  | .vcoreMargin _ => true
  | .thermalSample temps => temps.length == 9
  | .refclkCheck _ _ _ => true
  | .insetStart r => r.wf
  | .apertureOperation channel _ => decide (channel < 256)
  | .rehearsalSwapReturn port => decide (port < 8)
  | .resetNAssert => true
  | .dynamicAddressAssignment addr => decide (addr < 128)

end Sys2Proof
end

