-- ==== Sys2Proof/Safety.lean ====
section
/-!
DEFINITION. What counts as a safe step, and the words the statements about commands are made of: what every command keeps,
what an engine leaves before the commit point, and which part of the state a row may touch.
-/

namespace Sys2Proof.Machine

/-- A safe step answers a next state: the block neither faults nor refuses. -/
def Safe (s : State) : Prop := ∃ t, step s = .next t

/-- What every command leaves as it is or lets only grow: the queue and the cycle count stay, outward effects are
appended, free values are only drawn, and memory keeps its canonical form. -/
structure Evolves (s t : State) : Prop where
  pending : t.pending = s.pending
  cycle : t.clk.cycle = s.clk.cycle
  out : ∃ l, t.out = s.out ++ l
  draws : s.draws ≤ t.draws
  mem : s.mem.wf = true → t.mem.wf = true

/-- Every byte of memory, and whether its word decodes, is as it was. -/
def SameMemory (s t : State) : Prop :=
  ∀ a, t.mem.byte a = s.mem.byte a ∧ t.mem.readByte a = s.mem.readByte a ∧ t.mem.wordState a = s.mem.wordState a

/-- A command with its engine's results beside it: finished, and waiting for its commit point (R35). -/
def Cmd.withResults (c : Cmd) (w : Work) : Cmd :=
  { c with phase := .finished, code := w.code, writes := w.writes, poison := w.poison, onCommit := w.onCommit,
           onDrain := w.onDrain }

/-- No other command and no other part of any Inset differs but command `r`. -/
structure OnlyCmd (s t : State) (r : CmdRef) : Prop where
  others : ∀ q, q ≠ r → t.cmd q = s.cmd q
  insets : ∀ i, i ≠ r.inset → t.inset i = s.inset i
  own : t.inset r.inset = { s.inset r.inset with sheet := (t.inset r.inset).sheet }
  header : (t.inset r.inset).sheet.map (fun sh => { sh with cmds := [] }) =
    (s.inset r.inset).sheet.map (fun sh => { sh with cmds := [] })
  sched : t.sched = { s.sched with insets := t.sched.insets }

/-- Command `r`, which ran as `c`, has finished with the results `w` of work that ended in state `u`: nothing outside its own
record and the counts, query lines and free values of `u` differs (R35: its writes wait for the commit point). -/
structure FinishedAs (s u t : State) (r : CmdRef) (c : Cmd) (w : Work) : Prop where
  cmd : t.cmd r = some (c.withResults w)
  only : OnlyCmd s t r
  mem : t.mem = s.mem
  regs : t.gaz = { s.gaz with regs := u.gaz.regs }
  counts : t.ctr = u.ctr ∧ t.rel = { s.rel with readCorr := u.rel.readCorr } ∧ t.bsu = u.bsu ∧ t.draws = u.draws
  rest : t.clk = s.clk ∧ t.tick = s.tick ∧ t.search = s.search ∧ t.chart = s.chart ∧ t.chartBad = s.chartBad
    ∧ t.flash = s.flash ∧ t.torus = s.torus ∧ t.tm = s.tm ∧ t.host = s.host ∧ t.sec = s.sec ∧ t.out = s.out
    ∧ t.pending = s.pending

/-- The row of a running command completes: command `r` runs the row's engine and opcode, the hardware reports nothing and
no forced detector kills it, and the engine's work on the state ends with results. -/
def RowFinishes (i : Instr) (r : CmdRef) (hw : Hw) (engine opcode : Nat) (data : Cmd → Bool)
    (work : State → Cmd → State × Res) : Prop :=
  ∀ s c u w, r.inset < 16 → s.running r engine opcode = some c → s.hwFault r c hw = none →
    forcedKill c (data c) = none → work s c = (u, .done w) →
    ∃ t, exec i s = .next t ∧ FinishedAs s u t r c w

end Sys2Proof.Machine
end

