-- ==== Sys2Proof/Certificates/Slice0/Obligations.lean ====
section
/-!
DEFINITION. The statements for the provers. Each says, for every state and operands that meet its hypotheses, what the block
does; OBLIGATIONS.json gives the rules they rest on.
-/

open Sys2Proof Sys2Proof.Machine

/-- A step takes the front command and runs it with the queue's rest. -/
def Obligations.StepRunsTheFrontCommand : Prop :=
  ∀ (c : Instr) (rest : List Instr) (s : State),
    step { s with pending := c :: rest } = exec c { s with pending := rest }

/-- An empty queue: one cycle passes (log entry 3). -/
def Obligations.IdleStepCountsOneCycle : Prop :=
  ∀ s : State, s.pending = [] →
    ∃ t, step s = .next t ∧ t = { s with clk := { s.clk with cycle := s.clk.cycle + 1 }, ctr := t.ctr }

/-- Every well-formed command has a next state, in every state. -/
def Obligations.WellFormedCommandAnswersNext : Prop :=
  ∀ (i : Instr) (s : State), i.wf = true → ∃ t, exec i s = .next t

/-- The one fault: an instance the node does not have. -/
def Obligations.CommandOfAbsentInstanceFaults : Prop :=
  (∀ (c : CmdRef) (hw : Hw) (s : State), 16 ≤ c.inset →
    exec (.matmul c hw) s = .fault .noSuchInstance ∧ exec (.commandIssue c) s = .fault .noSuchInstance
    ∧ exec (.commitPoint c) s = .fault .noSuchInstance ∧ exec (.select c hw) s = .fault .noSuchInstance
    ∧ exec (.dmCopy c hw) s = .fault .noSuchInstance ∧ exec (.torusWait c) s = .fault .noSuchInstance)
  ∧ (∀ (i : Nat) (s : State), 16 ≤ i → exec (.switchEnd i) s = .fault .noSuchInstance
    ∧ exec (.overrunAbandon i) s = .fault .noSuchInstance ∧ exec (.orphanAbort i) s = .fault .noSuchInstance)
  ∧ (∀ (ch : Nat) (s : State), 256 ≤ ch → exec (.modeChangeSequence ch) s = .fault .noSuchInstance
    ∧ exec (.apFlush ch) s = .fault .noSuchInstance ∧ exec (.channelFill ch) s = .fault .noSuchInstance)
  ∧ (∀ (ch : Nat) (s : State), 32 ≤ ch → exec (.zqCal ch) s = .fault .noSuchInstance)
  ∧ (∀ (p : Nat) (s : State), 8 ≤ p → exec (.retrain p) s = .fault .noSuchInstance
    ∧ exec (.trainingTimeout p) s = .fault .noSuchInstance)

/-- The frame of every command. -/
def Obligations.CommandKeepsQueueAndClock : Prop :=
  ∀ (i : Instr) (s t : State), exec i s = .next t →
    t.pending = s.pending ∧ t.clk.cycle = s.clk.cycle ∧ (∃ l, t.out = s.out ++ l) ∧ s.draws ≤ t.draws

/-- Memory's canonical form is an invariant of every step. -/
def Obligations.MemoryStaysCanonical : Prop :=
  ∀ s t : State, s.mem.wf = true → step s = .next t → t.mem.wf = true

/-- What reset leaves: the invariant of memory, and the defaults. -/
def Obligations.ResetStateHoldsItsDefaults : Prop :=
  State.reset.mem.wf = true
    ∧ (∀ a, State.reset.mem.byte a = 0 ∧ State.reset.mem.readByte a = 0 ∧ State.reset.mem.wordState a = .clean)
    ∧ State.reset.serves = true
    ∧ (∀ i k, Dict.val State.reset.gaz.regs i k = entryDefault k)
    ∧ State.reset.node G.START_PHASE = 0 ∧ State.reset.lock = 0 ∧ State.reset.node G.TICK_PERIOD = 500
    ∧ (∀ i, State.reset.seq i = 0)
    ∧ (∀ p, (State.reset.port p).train = 0) ∧ (∀ i, (State.reset.inset i).sheet = none)
    ∧ (∀ i, (State.reset.binding i).state = 0) ∧ (∀ i, (State.reset.stageSet i).state = 0)
    ∧ State.reset.out = [] ∧ State.reset.pending = []

/-- Read after write over one byte. -/
def Obligations.ByteReadAfterWrite : Prop :=
  ∀ (m : MemState) (a x : Nat) (b : Byte), m.wf = true → (m.setByte a b).byte x = if x = a then b else m.byte x

/-- R210's two views of the stacks. -/
def Obligations.InterleavedViewIsOneToOne : Prop :=
  (∀ x, x < stackTop → storageOf x = some x)
  ∧ (∀ x, x < stackTop → storageOf (interBase + x) =
      some ((8 * (x / 0x600000000) + x % 0x600000000 / 256 % 8) * channelBytes
        + 256 * (x % 0x600000000 / 256 / 8) + x % 256))
  ∧ (∀ x y, x < stackTop → y < stackTop → storageOf (interBase + x) = storageOf (interBase + y) → x = y)
  ∧ (∀ x st, x < stackTop → storageOf (interBase + x) = some st → st < stackTop)

/-- R9. -/
def Obligations.NodeIdFormsNameTheSameNode : Prop :=
  (∀ x y z, x < 16 → y < 16 → z < 16 →
    x + 16 * y + 256 * z < 4096 ∧ dimX (x + 16 * y + 256 * z) = x ∧ dimY (x + 16 * y + 256 * z) = y
      ∧ dimZ (x + 16 * y + 256 * z) = z)
  ∧ (∀ n, n < 4096 → n = dimX n + 16 * dimY n + 256 * dimZ n ∧ dimX n < 16 ∧ dimY n < 16 ∧ dimZ n < 16)
  ∧ (∀ n, coord n 0 = dimX n ∧ coord n 1 = dimY n ∧ coord n 2 = dimZ n)

/-- R10. -/
def Obligations.GlobalIdHoldsShardAndLocalId : Prop :=
  (∀ shard loc, shard < 2 ^ 24 → loc < 2 ^ 40 →
    shard * 2 ^ 40 + loc < 2 ^ 64 ∧ gidShard (shard * 2 ^ 40 + loc) = shard ∧ gidLocal (shard * 2 ^ 40 + loc) = loc)
  ∧ (∀ g, g < 2 ^ 64 → g = gidShard g * 2 ^ 40 + gidLocal g)

/-- The neighbours of R279. -/
def Obligations.NeighbourStepsOneCoordinate : Prop :=
  ∀ dims id p, p < 6 → id < 4096 → (∀ k, k < 3 → coord id k < dimSize dims k) →
    (dimSize dims (p / 2) = 1 → neighbour dims id p = none)
    ∧ (dimSize dims (p / 2) ≠ 1 → ∃ m, neighbour dims id p = some m ∧ m < 4096
        ∧ coord m (p / 2) = (if p % 2 = 0 then (coord id (p / 2) + 1) % dimSize dims (p / 2)
            else (coord id (p / 2) + dimSize dims (p / 2) - 1) % dimSize dims (p / 2))
        ∧ (∀ k, k < 3 → k ≠ p / 2 → coord m k = coord id k)
        ∧ neighbour dims m (p / 2 * 2 + (1 - p % 2)) = some id)

/-- R392. -/
def Obligations.CounterAddsModuloTwoTo48 : Prop :=
  (∀ (t : CtrState) (c n : Nat),
    (t.add c n).values.get 0 c = (t.values.get 0 c + n) % 2 ^ 48
    ∧ (t.add c n).wrapped.get 0 c = (if 2 ^ 48 ≤ t.values.get 0 c + n then 1 else t.wrapped.get 0 c)
    ∧ ∀ d, d ≠ c → (t.add c n).values.get 0 d = t.values.get 0 d ∧ (t.add c n).wrapped.get 0 d = t.wrapped.get 0 d)
  ∧ (∀ (t : CtrState) (c : Nat),
    (t.clear c).values.get 0 c = 0 ∧ (t.clear c).wrapped.get 0 c = 0
    ∧ ∀ d, d ≠ c → (t.clear c).values.get 0 d = t.values.get 0 d ∧ (t.clear c).wrapped.get 0 d = t.wrapped.get 0 d)

/-- R70. -/
def Obligations.IntegerMatmulIsExactModulo : Prop :=
  (∀ (fa fb init : Nat) (row col : List Nat), fmtIsInt fa = true →
    let exact : Int := sext 32 init + ((pairUp row col).map (fun p => sext (fmtBits fa) p.1 * sext (fmtBits fb) p.2)).sum
    (matElem fa fb init row col : Int) = exact % 2 ^ 32
    ∧ (-2 ^ 31 ≤ exact → exact < 2 ^ 31 → sext 32 (matElem fa fb init row col) = exact))
  ∧ (∀ (s : State) (r : CmdRef) (c : Cmd), fmtIsInt (MatP.aFmt (leNat c.params)) = true →
    MatP.outProj (leNat c.params) = false → s.firstBad (matReads (tileAddr c.index) (leNat c.params) 0) = none →
    ∃ w, s.matWork r c = (s.noteReads (matReads (tileAddr c.index) (leNat c.params) 0), .done w)
      ∧ w.code = 0 ∧ w.onCommit = [] ∧ w.onDrain = [] ∧ w.poison = [])

/-- Table 3-8 on int32 elements. -/
def Obligations.IntegerVectorElementsWrap : Prop :=
  ∀ a b c : Nat, a < 2 ^ 32 → b < 2 ^ 32 → c < 2 ^ 32 →
    vecInt 1 a b c = (a + b) % 2 ^ 32 ∧ vecInt 2 a b c = (a + 2 ^ 32 - b) % 2 ^ 32
    ∧ vecInt 3 a b c = a * b % 2 ^ 32 ∧ vecInt 8 a b c = (2 ^ 32 - a) % 2 ^ 32
    ∧ vecInt 5 a b c = (if sext 32 a ≤ sext 32 b then a else b)
    ∧ vecInt 6 a b c = (if sext 32 a ≤ sext 32 b then b else a)
    ∧ vecInt 7 a b c = (if a < 2 ^ 31 then a else 2 ^ 32 - a)
    ∧ vecInt 0x0A a b c = (if sext 32 b < sext 32 a then 1 else 0)
    ∧ vecInt 0x0B a b c = (if a ≠ 0 then b else c)

/-- Decode of encode for message headers. -/
def Obligations.MessageHeaderReadsBack : Prop :=
  ∀ (ty cls late dest src len addr xfer slot stamp : Nat) (payload : Bytes),
    ty < 16 → cls < 4 → late < 2 → dest < 4096 → src < 4096 → len < 2 ^ 32 → addr < 2 ^ 64 → xfer < 2 ^ 32 →
    slot < 65536 → stamp < 2 ^ 42 →
    let h := msgHeader ty cls late dest src len addr xfer slot stamp payload
    MsgW.mtype h = ty ∧ MsgW.cls h = cls ∧ MsgW.late h = (late == 1) ∧ MsgW.retried h = false ∧ MsgW.dest h = dest
    ∧ MsgW.src h = src ∧ MsgW.len h = len ∧ MsgW.addr h = addr ∧ MsgW.xfer h = xfer ∧ MsgW.slot h = slot
    ∧ MsgW.stamp h = stamp ∧ MsgW.crcOk h payload = true ∧ MsgW.crcOk (setBf h 6 6 1) payload = true

/-- Decode of encode for event records (source class: log entry 12). -/
def Obligations.EventRecordReadsBack : Prop :=
  ∀ (code tick detail addr : Nat) (reh : Bool), code < 2 ^ 16 → tick < 2 ^ 64 → detail < 2 ^ 64 → addr < 2 ^ 64 →
    let e := eventRecord code tick detail addr reh
    e < 2 ^ 256 ∧ bf e 15 0 = code ∧ bit e 16 = reh ∧ bf e 23 20 = code / 0x1000 ∧ bf e 127 64 = tick
    ∧ bf e 191 128 = detail ∧ bf e 255 192 = addr

/-- R229 and R230: decode of encode with no, one and two bit errors. -/
def Obligations.StackWordCodeCorrectsAndDetects : Prop :=
  ∀ d : Nat, d < 2 ^ 512 →
    decodeWord d (checkField d) = .clean ∧ decodeWord d (poisonField d) = .poisoned
    ∧ (∀ p, p < 512 → decodeWord (d ^^^ 2 ^ p) (checkField d) = .corrected d)
    ∧ (∀ p, p < 27 → decodeWord d (checkField d ^^^ 2 ^ p) = .corrected d)
    ∧ (∀ p q, p < q → q < 512 → decodeWord (d ^^^ 2 ^ p ^^^ 2 ^ q) (checkField d) = .uncorrectable)
    ∧ (∀ p q, p < 512 → q < 27 → decodeWord (d ^^^ 2 ^ p) (checkField d ^^^ 2 ^ q) = .uncorrectable)
    ∧ (∀ p q, p < q → q < 27 → decodeWord d (checkField d ^^^ 2 ^ p ^^^ 2 ^ q) = .uncorrectable)
    ∧ (∀ p, p < 512 → decodeWord (d ^^^ 2 ^ p) (poisonField d) = .uncorrectable)
    ∧ (∀ p, p < 27 → decodeWord d (poisonField d ^^^ 2 ^ p) = .uncorrectable)
    ∧ (∀ p, 27 ≤ p → p < 32 → decodeWord d (checkField d ^^^ 2 ^ p) = .clean)

/-- No word of memory decodes as bad, and no detector is forced in the command. -/
structure ReadsGood (s : State) (c : Cmd) : Prop where
  words : ∀ w, (s.mem.wordState w).isBad = false
  unforced : c.rehearsed = 0

/-- An engine's work ends with results. -/
def EndsDone (x : State × Res) : Prop := ∃ u w, x = (u, .done w)

/-- Completion and frame of the tile and Projection rows. -/
def Obligations.MatmulAndProjectionRowsFinish : Prop :=
  (∀ (r : CmdRef) (hw : Hw),
    RowFinishes (.matmul r hw) r hw 1 1 (fun x => MatP.m (leNat x.params) * MatP.n (leNat x.params) != 0)
      (fun s x => s.matWork r x)
    ∧ RowFinishes (.quant r hw) r hw 3 1 projData (fun s x => s.projWork 1 r x)
    ∧ RowFinishes (.dequant r hw) r hw 3 2 projData (fun s x => s.projWork 2 r x)
    ∧ RowFinishes (.range r hw) r hw 3 3 projData (fun s x => s.projWork 3 r x))
  ∧ (∀ (s : State) (r : CmdRef) (c : Cmd), MatP.outProj (leNat c.params) = false →
      s.firstBad (matReads (tileAddr c.index) (leNat c.params) 0) = none → EndsDone (s.matWork r c))
  ∧ (∀ (s : State) (r : CmdRef) (c : Cmd), ReadsGood s c →
      let p := leNat c.params
      let d := descAt (s.areaOf r) (ProjP.projAt p)
      let at_ := recRange (tileAddr c.index) d (ProjP.rows p) (ProjP.cols p)
      (ProjD.recal d = true → EndsDone (s.projWork 1 r c) ∧ EndsDone (s.projWork 3 r c))
      ∧ ((readRecs (ProjD.fmt d) (recCount (ProjD.gran d) (ProjP.rows p) (ProjP.cols p))
            (s.readBytes at_.1 at_.2)).isSome = true →
        EndsDone (s.projWork 1 r c) ∧ EndsDone (s.projWork 2 r c) ∧ EndsDone (s.projWork 3 r c)))

/-- The vector rows with their opcodes (Table 3-8). -/
def vectorRows (r : CmdRef) (hw : Hw) : List (Nat × Instr) :=
  [(0x1, .add r hw), (0x2, .sub r hw), (0x3, .mul r hw), (0x4, .fma r hw), (0x5, .min r hw), (0x6, .max r hw),
   (0x7, .abs r hw), (0x8, .neg r hw), (0x9, .relu r hw), (0xa, .cmpGt r hw), (0xb, .vectorSelect r hw), (0xc, .cvt r hw),
   (0x10, .exp r hw), (0x11, .log r hw), (0x12, .recip r hw), (0x13, .rsqrt r hw), (0x14, .tanh r hw),
   (0x15, .sigmoid r hw), (0x16, .gelu r hw), (0x20, .rowSum r hw), (0x21, .rowMax r hw), (0x22, .rowSumsq r hw)]

/-- The writes of a vector command's results at an offset of its tile: whole rows' values, or elements in its layout. -/
def vectorWrites (s : State) (op : Nat) (c : Cmd) (off : Nat) : List (Nat × Bytes) :=
  let p := leNat c.params
  let res := s.vecResults (tileAddr c.index) p op
  if VecP.nElem p = 0 then [] else if vecIsRow op then [(tileAddr c.index + off, (res.map (toLe 4)).flatten)]
  else (VecP.lay p 32).writes (tileAddr c.index + off) 0 (VecP.rows p) (VecP.cols p)
    (fun r k => nth 0 res (r * VecP.cols p + k))

/-- Completion, results and frame of the vector rows. -/
def Obligations.VectorRowsFinishWithTheirResults : Prop :=
  ∀ (r : CmdRef) (hw : Hw) (op : Nat) (i : Instr), (op, i) ∈ vectorRows r hw →
    ∀ (s : State) (c : Cmd), r.inset < 16 → s.running r 2 op = some c → s.hwFault r c hw = none →
      forcedKill c (VecP.nElem (leNat c.params) != 0) = none →
      s.firstBad (vecReads (tileAddr c.index) (leNat c.params) op) = none →
      let u := s.noteReads (vecReads (tileAddr c.index) (leNat c.params) op)
      ∃ t, exec i s = .next t ∧ FinishedAs s u t r c (Work.ofWrites
        (vectorWrites u op c (VecP.stageOff (leNat c.params)) ++ vectorWrites u op c (VecP.dstOff (leNat c.params))))

/-- R76 for a word a vector command reads. -/
def Obligations.TileWordFaultKillsItsReaders : Prop :=
  ∀ (r : CmdRef) (hw : Hw) (op : Nat) (i : Instr), (op, i) ∈ vectorRows r hw →
    ∀ (s : State) (c : Cmd) (a : Nat), r.inset < 16 → s.running r 2 op = some c → s.hwFault r c hw = none →
      forcedKill c (VecP.nElem (leNat c.params) != 0) = none →
      s.firstBad (vecReads (tileAddr c.index) (leNat c.params) op) = some a →
      let readers := s.tileCmds c.index (fun x => x.inInputs (a / 64 * 64) 64)
      (readers = [r] → exec i s = .next (s.kill r Code.OPBUF_UNCORRECTABLE))
      ∧ (2 ≤ readers.length → exec i s = .next (readers.foldl (fun s x => s.kill x Code.TILE_SHARED_FAULT) s))

/-- Completion and frame of the select rows. -/
def Obligations.SelectRowsFinish : Prop :=
  (∀ (r : CmdRef) (hw : Hw),
    RowFinishes (.select r hw) r hw 5 1 selectData (fun s x => s.rowSelect 1 r x)
    ∧ RowFinishes (.sort r hw) r hw 5 2 selectData (fun s x => s.rowSelect 2 r x)
    ∧ RowFinishes (.merge r hw) r hw 5 3 selectData (fun s x => s.mergeSelect r x)
    ∧ RowFinishes (.kth r hw) r hw 5 4 selectData (fun s x => s.rowSelect 4 r x))
  ∧ (∀ (s : State) (r : CmdRef) (c : Cmd) (op : Nat),
      s.readFault c [(SelP.src (leNat c.params), SelP.n (leNat c.params) * SelP.ib (leNat c.params))] = none →
      ∃ u w b, s.rowSelect op r c = (u, .done w) ∧ w.writes = [(SelP.dst (leNat c.params), b)] ∧ w.code = 0 ∧ w.poison = [])
  ∧ (∀ (s : State) (r : CmdRef) (c : Cmd), s.readFault c (s.mergeReads (leNat c.params)) = none →
      ((upto (SelP.listCount (leNat c.params))).map (s.mergeList (leNat c.params))).all (InList.ok (leNat c.params)) = true →
      ∃ u w b, s.mergeSelect r c = (u, .done w) ∧ w.writes = [(SelP.dst (leNat c.params), b)] ∧ w.code = 0 ∧ w.poison = [])

/-- Completion and frame of the traverse rows. -/
def Obligations.TraverseRowsFinish : Prop :=
  (∀ (r : CmdRef) (hw : Hw),
    RowFinishes (.searchStart r hw) r hw 4 1 slotData (fun s x => s.startWork r x)
    ∧ RowFinishes (.searchExpand r hw) r hw 4 2 slotData (fun s x => s.expandWork r x)
    ∧ RowFinishes (.searchFetchList r hw) r hw 4 3 slotData (fun s x => s.fetchWork x)
    ∧ RowFinishes (.searchFinish r hw) r hw 4 4 slotData (fun s x => s.finishWork r x)
    ∧ RowFinishes (.insertLink r hw) r hw 4 0x10 slotData (fun s x => s.linkWork r x)
    ∧ RowFinishes (.delete r hw) r hw 4 0x11 slotData (fun s x => s.deleteWork r x)
    ∧ RowFinishes (.consolidate r hw) r hw 4 0x12 slotData (fun s x => s.consolidateWork r x))
  ∧ (∀ (s : State) (r : CmdRef) (c : Cmd), (∃ w, s.expandWork r c = (s, .done w)) ∧ ∃ w, s.fetchWork c = (s, .done w))
  ∧ (∀ (s : State) (r : CmdRef) (c : Cmd),
      (∀ k, k < TrvP.slotCount (leNat c.params) → s.slot c.index (TrvP.slotBase (leNat c.params) + k) = none
        ∧ QryH.filterMode (s.readNat (TrvP.inAddr (leNat c.params) + k * TrvP.inStride (leNat c.params)) 64) ≠ 3) →
      EndsDone (s.startWork r c))
  ∧ (∀ (s : State) (r : CmdRef) (c : Cmd), ReadsGood s c →
      let ix := TrvP.index (leNat c.params)
      let md := (Dict.maint s.gaz.regs r.inset ix).getD 0
      EndsDone (s.finishWork r c)
      ∧ (headerOk (s.readNat (MntD.base md) 128) (s.index r.inset ix) md = true →
        EndsDone (s.linkWork r c) ∧ EndsDone (s.deleteWork r c) ∧ EndsDone (s.consolidateWork r c)))

/-- Every slot holds a well-formed batch of a kind for this node (R177), of one lookup where that is asked. -/
def BatchesGood (s : State) (kind table stride : Nat) (oneLookup : Bool) (sls : List InSlot) : Prop :=
  ∀ x ∈ sls, x.headOk kind table s.nodeId stride = true ∧ keysUp kind (s.slotKeys x) = true
    ∧ (oneLookup = true → ∀ y ∈ sls, BatH.tag x.hdr = BatH.tag y.hdr ∧ BatH.datum x.hdr = BatH.datum y.hdr)

/-- Completion and frame of the embedding rows. -/
def Obligations.EmbeddingRowsFinish : Prop :=
  (∀ (r : CmdRef) (hw : Hw),
    RowFinishes (.embRoute r hw) r hw 6 1 (fun _ => true) (fun s x => s.routeWork r x)
    ∧ RowFinishes (.embFetchList r hw) r hw 6 2 (fun _ => true) (fun s x => s.fetchListWork r x)
    ∧ RowFinishes (.embServe r hw) r hw 6 3 (fun _ => true) (fun s x => s.serveWork r x)
    ∧ RowFinishes (.embPool r hw) r hw 6 4 (fun _ => true) (fun s x => s.poolWork r x)
    ∧ RowFinishes (.embScatter r hw) r hw 6 5 (fun _ => true) (fun s x => s.scatterWork r x)
    ∧ RowFinishes (.embApply r hw) r hw 6 6 (fun _ => true) (fun s x => s.applyWork r x))
  ∧ (∀ (s : State) (r : CmdRef) (c : Cmd), ReadsGood s c →
    let p := leNat c.params
    let table := PoolP.table p
    let sls := s.inSlots r.inset (PoolP.inAddr p) (PoolP.inStride p)
    let now := s.stampOf r.inset
    let n := (sls.map (fun x => (s.slotKeys x).length)).sum
    EndsDone (s.scatterWork r c)
    ∧ (let h := s.readNat (PoolP.inAddr p) 64
      bf h 31 0 = 0x454C4B42 → bf h 223 192 ≤ 4194304 → bf h 255 224 ≤ 1048576 → bf h 37 32 = table →
      s.expired r.inset table (if CmdW.admitBit c.word then s.datum r.inset % 2 ^ 42 else bf h 169 128) now = false →
      EndsDone (s.routeWork r c))
    ∧ (BatchesGood s 1 table (PoolP.inStride p) true sls → n ≤ PoolP.inMax p →
      (sls.map (fun x => BatH.contribs x.hdr)).sum ≤ PoolP.inMax p →
      s.expired r.inset table ((sls.head?.map (fun x => BatH.datum x.hdr)).getD 0) now = false →
      EndsDone (s.fetchListWork r c) ∧ EndsDone (s.serveWork r c))
    ∧ (BatchesGood s (2 + PoolP.site p) table (PoolP.inStride p) true sls →
      s.expired r.inset table
        ((sls.head?.map (fun x => BatH.datum x.hdr)).getD (bf (s.readNat (PoolP.auxAddr p) 64) 105 64)) now = false →
      EndsDone (s.poolWork r c))
    ∧ (BatchesGood s 4 table (PoolP.inStride p) false sls → n ≤ PoolP.inMax p →
      (∀ x ∈ sls, ∀ y ∈ sls, BatH.scatter x.hdr = BatH.scatter y.hdr) → EndsDone (s.applyWork r c)))

/-- The change lists of a round are well formed and within COUNT_MAX (R196). -/
def ListsGood (s : State) (r : CmdRef) (c : Cmd) : Prop :=
  let p := leNat c.params
  let nodes := Dict.embNodes s.gaz.regs r.inset
  let at_ := fun k => ChartP.inAddr p + k * ChartP.inStride p
  let e := EmbT.entries (s.chartTable r.inset p)
  ((upto (nodes.length + 1)).map (fun k => bf (s.readNat (at_ k) 64) 127 96)).sum ≤ ChartP.countMax p
  ∧ (mapIdxFrom (fun k node => s.readChanges (at_ k) (ChartP.table p) e node false) 0 nodes).all (·.isSome) = true
  ∧ (s.readChanges (at_ nodes.length) (ChartP.table p) e 0 true).isSome = true

/-- Completion and frame of the Chart rows. -/
def Obligations.ChartRowsFinish : Prop :=
  (∀ (r : CmdRef) (hw : Hw),
    RowFinishes (.rowReplace r hw) r hw 0x0B 1 (fun _ => true) (fun s x => s.replaceWork r x)
    ∧ RowFinishes (.surveyClose r hw) r hw 0x0B 2 (fun _ => true) (fun s x => s.surveyWork r x)
    ∧ RowFinishes (.placeDecide r hw) r hw 0x0B 3 (fun _ => true) (fun s x => s.decideWork r x)
    ∧ RowFinishes (.migFetchList r hw) r hw 0x0B 4 (fun _ => true) (fun s x => s.migFetchWork r x)
    ∧ RowFinishes (.migSend r hw) r hw 0x0B 5 (fun _ => true) (fun s x => s.migSendWork r x)
    ∧ RowFinishes (.chartCommit r hw) r hw 0x0B 6 (fun _ => true) (fun s x => s.commitWork r x)
    ∧ RowFinishes (.atlasSwitch r hw) r hw 0x0B 7 (fun _ => true) (fun s x => s.atlasWork r x))
  ∧ (∀ (s : State) (r : CmdRef) (c : Cmd), ReadsGood s c →
    let p := leNat c.params
    let i := r.inset
    let table := ChartP.table p
    let t := s.chartTable i p
    let sls := s.inSlots i (ChartP.inAddr p) (ChartP.inStride p)
    let aux := s.inSlots i (ChartP.auxAddr p) (ChartP.inStride p)
    let one := InSlot.mk (ChartP.inAddr p) (s.readNat (ChartP.inAddr p) 64) s.nodeId
    EndsDone (s.surveyWork r c)
    ∧ (BatchesGood s 4 table (ChartP.inStride p) false [one] → BatH.count one.hdr ≤ ChartP.countMax p →
      EndsDone (s.replaceWork r c))
    ∧ ((∀ x ∈ sls, x.headOk 6 table s.nodeId (ChartP.inStride p) = true ∧ BatH.tag x.hdr = s.num i G.ATLAS_GEN) →
      EndsDone (s.decideWork r c))
    ∧ (ListsGood s r c → EndsDone (s.migFetchWork r c) ∧ EndsDone (s.migSendWork r c)
      ∧ (BatchesGood s 5 table (ChartP.inStride p) false aux →
        (∀ rd, s.lists r c = .ok rd → ∀ x ∈ rd.changes, x.owner = s.nodeId →
          (s.migBody t (gidOfEntry t x.entry) (aux.map (fun x => (x, s.slotKeys x)))).isSome = true) → EndsDone (s.commitWork r c)))
    ∧ (let a := (Dict.atlas s.gaz.regs i (ChartP.atlas p)).getD 0
      let tb := s.tableImage (bf a 191 128)
      let rb := s.tableImage (bf a 255 192)
      let d := Tab.set (Tab.set s.gaz.regs (rkey i G.EMB_TABLES) (GVal.blob tb)) (rkey i G.ROW_VERSIONS) (GVal.blob rb)
      (s.inset i).opens.any (fun o => Sub.kind o.entry == 2) = false →
      Dict.embTablesOk d i = true → Dict.embReservedOk d i = true → Dict.rowVersOk d i = true →
      Dict.rowVersReservedOk d i = true →
      ((upto (((tableEntries tb 64).map EmbT.entries).sum)).map (fun k => s.readNat (bf a 319 256 + 4 * k) 4)).all chartImageOk
        = true →
      EndsDone (s.atlasWork r c)))

/-- DM_FILL and DM_COPY. -/
def Obligations.FillAndCopyStageExactBytes : Prop :=
  (∀ (s : State) (r : CmdRef) (hw : Hw) (c : Cmd), r.inset < 16 → s.running r 8 2 = some c → s.hwFault r c hw = none →
    ∃ t bytes, exec (.dmFill r hw) s = .next t
      ∧ FinishedAs s s t r c (Work.ofWrites [(MovP.dst (leNat c.params), bytes)])
      ∧ bytes.length = 8 * (MovP.len (leNat c.params) / 8)
      ∧ ∀ k, k < bytes.length →
          bytes[k]? = some (BitVec.ofNat 8 (MovP.pattern (leNat c.params) / 256 ^ (k % 8))))
  ∧ (∀ (s : State) (r : CmdRef) (hw : Hw) (c : Cmd), r.inset < 16 → s.running r 8 1 = some c → s.hwFault r c hw = none →
    let p := leNat c.params
    ∃ t w, exec (.dmCopy r hw) s = .next t ∧ FinishedAs s (s.noteRead (MovP.src p) (MovP.len p)) t r c w
      ∧ w.writes = [(MovP.dst p, s.readBytes (MovP.src p) (MovP.len p))] ∧ w.code = 0
      ∧ w.poison = ((wordStarts (MovP.src p) (MovP.len p)).filter (fun a => s.rangeBad a 64)).map
          (fun a => MovP.dst p + (a - MovP.src p))
      ∧ w.onDrain = [.addReg 16 G.POISON_PROPAGATED w.poison.length] ∧ (c.rehearsed ≠ 0x005 → w.onCommit = []))

/-- Completion and frame of the remaining closed rows. -/
def Obligations.BankSideAndSchedulerRowsFinish : Prop :=
  (∀ (s : State) (r : CmdRef) (c : Cmd), r.inset < 16 → s.running r 7 1 = some c →
    let p := leNat c.params
    ∃ t w, exec (.bsuMode r) s = .next t ∧ FinishedAs s s t r c w ∧ w.writes = [] ∧ w.poison = [] ∧ w.onDrain = []
      ∧ w.code = 0
      ∧ w.onCommit = (setBits 32 0 (ModeP.mask p)).map (fun k => Eff.modeChange (c.channel k) (ModeP.byte p k)))
  ∧ (∀ (s : State) (r : CmdRef) (hw : Hw) (c : Cmd), r.inset < 16 → s.running r 7 3 = some c → s.hwFault r c hw = none →
    let p := leNat c.params
    let u := s.noteRead (LoadP.src p) (64 * LoadP.lines p)
    s.readFault c [(LoadP.src p, 64 * LoadP.lines p)] = none →
    ∃ t w, exec (.bsuQload r hw) s = .next t ∧ FinishedAs s u t r c w ∧ w.writes = [] ∧ w.poison = [] ∧ w.onCommit = []
      ∧ w.code = 0
      ∧ w.onDrain = (setBits 32 0 (LoadP.mask p)).flatMap (fun k => (upto (LoadP.lines p)).map (fun n =>
          Eff.qcLine (c.channel k) (LoadP.line p + n) (s.readNat (LoadP.src p + 64 * n) 64))))
  ∧ (∀ (r : CmdRef) (hw : Hw),
    RowFinishes (.blockTranspose r hw) r hw 8 0x40 (fun _ => true) (fun s x => s.transposeWork r x)
    ∧ RowFinishes (.ckptCapture r hw) r hw 0x0C 0x20 (fun _ => true) (fun s x => s.captureWork r x)
    ∧ RowFinishes (.hostAdmit r hw) r hw 0x0C 0x10 (fun _ => true) (fun s x => s.admitWork r x)
    ∧ RowFinishes (.hostComplete r hw) r hw 0x0C 0x11 (fun _ => true) (fun s x => s.completeWork r x))
  ∧ (∀ (s : State) (r : CmdRef) (c : Cmd), EndsDone (s.transposeWork r c)
    ∧ (ReadsGood s c → EndsDone (s.admitWork r c) ∧ EndsDone (s.completeWork r c)
      ∧ ((CapP.sync (leNat c.params) = true → ∀ n ∈ s.capturedSync r.inset, (s.syncObj n).bad = false) →
        (CapP.chart (leNat c.params) = true → ∀ n ∈ Dict.chartRange s.gaz.regs r.inset, Tab.find s.chartBad n = none) →
        EndsDone (s.captureWork r c))))

/-- The issue conditions of R32 on a command of a Sheet. -/
structure MayIssue (s : State) (r : CmdRef) (sh : Sheet) (x : Cmd) : Prop where
  ref : r.inset < 16
  cmd : s.cmd r = some x
  sheet : s.sheetOf r = some sh
  pending : x.phase = .pending
  head : sh.atHead r.idx x = true
  opened : CmdW.winOpen x.word ≤ s.sheetTime sh
  sync : s.badSync x = none
  resident : sh.resident x = true
  wait : s.waitMet x = true
  staging : s.stagingFree r.inset sh x = true
  unlocked : s.locked x = false
  modes : s.modePending x = false
  scribe : s.scribeHeld x = false
  lease : CmdW.waitCond x.word ≠ 3
  present : s.namesRetired x = false
  idle : s.engineIdle r x = true
  sound : s.issueFault r sh x = none
  unforced : s.detector r x = 0

/-- COMMAND_ISSUE of a command that may issue. -/
def Obligations.IssueStartsACommandWhoseConditionsHold : Prop :=
  ∀ (s : State) (r : CmdRef) (sh : Sheet) (x : Cmd), MayIssue s r sh x →
    let y := { x with phase := .running, issueAt := s.clk.cycle, rehearsed := 0 }
    let z := if x.instant then y.withResults Work.none else y
    (s.sheetTime sh ≤ CmdW.winClose x.word →
      ∃ t, exec (.commandIssue r) s = .next t ∧ t.cmd r = some z ∧ OnlyCmd s t r ∧ t = { s with sched := t.sched })
    ∧ (CmdW.winClose x.word < s.sheetTime sh → x.lateDone = true →
      ∃ t, exec (.commandIssue r) s = .next t ∧ t.cmd r = some z ∧ OnlyCmd s t r ∧ SameMemory s t
        ∧ t.num r.inset G.WINDOW_MISS = (s.num r.inset G.WINDOW_MISS + 1) % typeMod G.WINDOW_MISS
        ∧ t = { s with sched := t.sched, gaz := (s.setNum r.inset G.WINDOW_MISS (s.num r.inset G.WINDOW_MISS + 1)).gaz
                       ctr := t.ctr })

/-- COMMAND_ISSUE of a command that may not issue. -/
def Obligations.CommandWaitsUntilItMayIssue : Prop :=
  ∀ (s : State) (r : CmdRef) (sh : Sheet) (x : Cmd), r.inset < 16 → s.cmd r = some x → s.sheetOf r = some sh →
    (x.phase ≠ .pending ∨ sh.atHead r.idx x = false ∨ s.sheetTime sh < CmdW.winOpen x.word →
      exec (.commandIssue r) s = .next s)
    ∧ (s.sheetTime sh ≤ CmdW.winClose x.word → s.badSync x = none →
      (sh.resident x = false ∨ s.waitMet x = false ∨ s.stagingFree r.inset sh x = false ∨ s.locked x = true
        ∨ s.modePending x = true
        ∨ (s.scribeHeld x = false ∧ CmdW.waitCond x.word ≠ 3 ∧ s.namesRetired x = false ∧ s.engineIdle r x = false)) →
      exec (.commandIssue r) s = .next s)
    ∧ (x.phase = .pending → sh.atHead r.idx x = true → CmdW.winOpen x.word ≤ s.sheetTime sh →
      s.sheetTime sh ≤ CmdW.winClose x.word → s.badSync x = none → sh.resident x = true → s.waitMet x = true →
      s.stagingFree r.inset sh x = true → s.locked x = false → s.modePending x = false → s.scribeHeld x = false →
      CmdW.waitCond x.word ≠ 3 →
      (s.namesRetired x = true → exec (.commandIssue r) s = .next (s.kill r Code.ENGINE_RETIRED))
      ∧ (s.namesRetired x = false → s.engineIdle r x = true → ∀ code, s.issueFault r sh x = some code →
        exec (.commandIssue r) s = .next (s.kill r code)))

/-- COMMIT_POINT. -/
def Obligations.CommitPointLogsAndBeginsTheDrain : Prop :=
  ∀ (s : State) (r : CmdRef) (sh : Sheet) (x : Cmd), r.inset < 16 → s.cmd r = some x → s.sheetOf r = some sh →
    let log := s.sched.commitLog ++ [(r.inset, sh.seq, r.idx)]
    (x.phase = .finished → ¬ (x.engine = 0x0A ∧ x.opcode = 1 ∧ x.progress = []) → s.badSync x = none →
      x.onCommit = [] → x.writesTable = none → CmdW.signalOp x.word ≠ 3 →
      (CmdW.signalOp x.word = 2 → CmdW.signalValue x.word ≠ 0) →
      (CmdW.signalOp x.word = 1 → (s.syncObj (CmdW.signalSync x.word)).kind ≠ 3) →
      ∃ t, exec (.commitPoint r) s = .next t
        ∧ t.cmd r = some { x with phase := .draining, commitAt := s.clk.cycle }
        ∧ t = { s with sched := t.sched } ∧ t.sched.commitLog = log
        ∧ (∀ q, q ≠ r → t.cmd q = s.cmd q) ∧ (∀ i, i ≠ r.inset → t.inset i = s.inset i)
        ∧ (∀ o, t.syncObj o =
            if o = CmdW.signalSync x.word ∧ CmdW.signalOp x.word = 1 then
              { s.syncObj o with value := ((s.syncObj o).value + CmdW.signalValue x.word) % 2 ^ 32 }
            else if o = CmdW.signalSync x.word ∧ CmdW.signalOp x.word = 2 then
              { s.syncObj o with value := CmdW.signalValue x.word }
            else s.syncObj o))
    ∧ (x.phase = .finished → ¬ (x.engine = 0x0A ∧ x.opcode = 1 ∧ x.progress = []) → s.badSync x = none →
      (CmdW.signalOp x.word ≠ 3 ∨ x.token = 2 → exec (.commitPoint r) s = .next (s.commit r sh x))
      ∧ (CmdW.signalOp x.word = 3 → x.token = 3 → exec (.commitPoint r) s = .next (s.kill r Code.BACKUP_LOST))
      ∧ (CmdW.signalOp x.word = 3 → x.token = 1 → exec (.commitPoint r) s = .next s))
    ∧ (x.engine = 0x0A → x.opcode = 1 → x.progress = [] → exec (.commitPoint r) s = .next s)

/-- A storage byte after writes at node addresses: the last that names it, else the byte before. -/
def drainedByte (ws : List (Nat × Bytes)) (old : Byte) (st : Nat) : Byte :=
  (ws.flatMap (fun w => mapIdxFrom (fun k b => (w.1 + k, b)) 0 w.2)).foldl
    (fun b e => if storageOf e.1 = some st then e.2 else b) old

/-- DRAIN_END of a command that only writes. -/
def Obligations.DrainWritesEveryByteOnce : Prop :=
  ∀ (s : State) (r : CmdRef) (sh : Sheet) (x : Cmd), r.inset < 16 → s.mem.wf = true → s.cmd r = some x →
    s.sheetOf r = some sh → x.phase = .draining → s.drainWaits x = false → x.onDrain = [] → x.poison = [] →
    x.rehearsed ≠ 0x006 → s.host.held = [] → (∀ i, (s.inset i).ckpt.left = []) →
    (∃ q y, q ≠ r ∧ q.inset = r.inset ∧ s.cmd q = some y ∧ y.phase.ended = false) →
    (∀ w ∈ (wordWrites x.writes).map (·.1), (s.mem.wordState w).isBad = false) →
    ∃ t, exec (.drainEnd r []) s = .next t
      ∧ t.cmd r = some { x with phase := .committed, endAt := s.clk.cycle, writes := [], onCommit := [] }
      ∧ (∀ q, q ≠ r → t.cmd q = s.cmd q)
      ∧ ∀ st, t.mem.readByte st = drainedByte x.writes (s.mem.readByte st) st
        ∧ t.mem.wordState (st / 64) =
          if ((wordWrites x.writes).map (·.1)).contains (st / 64) then .clean else s.mem.wordState (st / 64)

/-- OVERRUN_ABANDON. -/
def Obligations.OverrunAbandonKillsOnlyAfterTheLimit : Prop :=
  (∀ (s : State) (i : Nat), i < 16 → (s.inset i).sheet = none → exec (.overrunAbandon i) s = .next s)
  ∧ (∀ (s : State) (i : Nat) (sh : Sheet), i < 16 → (s.inset i).sheet = some sh →
      (sh.done = true ∨ sh.slips < s.num i G.OVERRUN_LIMIT → exec (.overrunAbandon i) s = .next s)
      ∧ (sh.done = false → s.num i G.OVERRUN_LIMIT ≤ sh.slips → s.lock ≠ 0 →
        ∃ t, exec (.overrunAbandon i) s = .next t
          ∧ ∀ k x, s.cmd ⟨i, k⟩ = some x →
            ((x.phase = .pending ∨ x.phase.live = true) →
              ∃ y, t.cmd ⟨i, k⟩ = some y ∧ y.phase = .killed ∧ y.code = Code.OVERRUN_ABANDON ∧ y.writes = [])
            ∧ (x.phase ≠ .pending → x.phase.live = false → t.cmd ⟨i, k⟩ = some x)))

/-- TORUS_WAIT. -/
def Obligations.TorusWaitTakesItsMessages : Prop :=
  ∀ (s : State) (r : CmdRef) (sh : Sheet) (x : Cmd), r.inset < 16 → s.running r 0x0A 2 = some x → s.sheetOf r = some sh →
    x.rehearsed ≠ 0x00D →
    let p := leNat x.params
    let ms : List Landed := s.landedFor r.inset 0 (TorP.xfer p) (sh.seq % 2 ^ 42) (TorP.seqBack p)
    let size := (ms.map (fun m => m.payload.length)).sum
    let senders := (nub (ms.map (fun m => (MsgW.src m.hdr, MsgW.slot m.hdr)))).length
    (TorP.len p < size → exec (.torusWait r) s = .next (s.kill r Code.TORUS_OVERFLOW))
    ∧ (size ≤ TorP.len p → senders < TorP.count p → exec (.torusWait r) s = .next s)
    ∧ (size ≤ TorP.len p → TorP.count p ≤ senders →
      (ms.all (fun m => x.inOutputs (MsgW.addr m.hdr) m.payload.length) = false →
        exec (.torusWait r) s = .next (s.kill r Code.TORUS_DEST))
      ∧ (ms.all (fun m => x.inOutputs (MsgW.addr m.hdr) m.payload.length) = true →
        ∃ t, exec (.torusWait r) s = .next t ∧ OnlyCmd s t r ∧ t = { s with sched := t.sched }
          ∧ t.cmd r = some ({ x with lateCause := lateCauseOf ms }.withResults
              ⟨(sortBy landedLe ms).map (fun (m : Landed) => (MsgW.addr m.hdr, m.payload)), [], [], ms.map Landed.free, 0⟩)))

/-- TORUS_A2A. -/
def Obligations.TorusA2aSendsThenCollects : Prop :=
  ∀ (s : State) (r : CmdRef) (sh : Sheet) (x : Cmd), r.inset < 16 → s.running r 0x0A 3 = some x → s.sheetOf r = some sh →
    let p := leNat x.params
    let others := (mapIdxFrom (fun k n => (k, n)) 0 (s.a2aList p)).filter (fun kn => kn.2 != s.nodeId)
    let ms := s.landedFor r.inset 1 (TorP.xfer p) (sh.seq % 2 ^ 42) false
    let got : List (Nat × Landed) := others.filterMap (fun kn => (ms.find? (fun m => MsgW.src m.hdr == kn.2)).map (fun m => (kn.1, m)))
    (x.progress = [] → exec (.torusA2a r) s = .next (s.a2aSend r x sh))
    ∧ (x.progress ≠ [] → x.rehearsed ≠ 0x00D →
      ((∃ km ∈ got, TorP.inStride p < km.2.payload.length) →
        exec (.torusA2a r) s = .next (s.kill r Code.TORUS_OVERFLOW))
      ∧ ((∀ km ∈ got, km.2.payload.length ≤ TorP.inStride p) →
        (x.progress.headD 0 < others.length ∨ got.length < others.length → exec (.torusA2a r) s = .next s)
        ∧ (others.length ≤ x.progress.headD 0 → others.length ≤ got.length →
          ∃ t, exec (.torusA2a r) s = .next t ∧ OnlyCmd s t r ∧ t = { s with sched := t.sched }
            ∧ t.cmd r = some ({ x with lateCause := lateCauseOf (got.map Prod.snd) }.withResults
                ⟨x.writes ++ got.map (fun (km : Nat × Landed) => (TorP.dst p + km.1 * TorP.inStride p, km.2.payload)), [], [],
                  got.map (fun (km : Nat × Landed) => km.2.free), 0⟩))))

/-- TORUS_PUT. -/
def Obligations.TorusPutSendsOneMessage : Prop :=
  ∀ (s : State) (r : CmdRef) (sh : Sheet) (x : Cmd), r.inset < 16 → s.running r 0x0A 1 = some x → s.sheetOf r = some sh →
    s.hwFault r x .ok = none → forcedKill x true = none →
    let p := leNat x.params
    let data := s.readBytes (TorP.src p) (TorP.len p)
    (∀ f, s.exportFault x [(TorP.src p, TorP.len p)] = some f → exec (.torusPut r) s = .next (s.settle r x f))
    ∧ (s.exportFault x [(TorP.src p, TorP.len p)] = none →
      let u := ((s.noteRead (TorP.src p) (TorP.len p)).charge r.inset 8 data.length).modCmd r
        (fun k => { k with progress := [] })
      let hdr := msgHeader 0 (TorP.cls p) (x.issuedLate sh) (TorP.dest p) s.nodeId data.length (TorP.dst p) (TorP.xfer p)
        (TorP.slot p) sh.seq data
      let v := match Dict.tagOf s.gaz.regs r.inset with
        | some t => u.routeMsg t hdr data
        | none => u
      exec (.torusPut r) s = .next (v.finish r Work.none))

/-- The bank operations' rows with their operation codes (Table 10-6). -/
def bankRows (r : CmdRef) (k : Nat) (hw : Hw) : List (Nat × Instr) :=
  [(0x01, .scoreSketch r k hw), (0x02, .dotI8 r k hw), (0x03, .l2I8 r k hw), (0x04, .cmpSelect r k hw),
   (0x05, .poolRows r k hw), (0x10, .fill r k hw), (0x11, .copy r k hw)]

/-- The seven bank operations. -/
def Obligations.BankOperationsStageTheirRecord : Prop :=
  ∀ (r : CmdRef) (k : Nat) (hw : Hw) (kind : Nat) (i : Instr), (kind, i) ∈ bankRows r k hw →
    ∀ (s : State) (c : Cmd), r.inset < 16 → s.running r 7 2 = some c →
      let p := leNat c.params
      let d := RunP.op p k
      let g := c.channel (OpD.channel d)
      (c.opReady k = false ∨ OpD.op d ≠ kind → exec i s = .next s)
      ∧ (c.opReady k = true → OpD.op d = kind → s.hwFault r c hw = none → c.rehearsed = 0 →
        let view := s.staged c.writes
        let o := ({ view with mem := (storageOfAll c.poison).foldl MemState.poisonWord view.mem }).runOp g d false
        let code := if o.err = 0 then 0 else Code.BSU_UNCORRECTABLE
        ∃ t, exec i s = .next t ∧ SameMemory s t ∧ OnlyCmd s t r
          ∧ t.cmd r = some { c with
              writes := c.writes ++ o.writes ++ [(RunP.dst p + OpD.dstOff d, opStatus d code o ++ o.out)]
              poison := c.poison ++ o.poison, progress := c.progress ++ [k] }
          ∧ t = { s with sched := t.sched, gaz := t.gaz, ctr := t.ctr })

/-- Rows whose work shows before the commit point. -/
def Obligations.OpenRowsFinishWithTheirWork : Prop :=
  ∀ (s : State) (r : CmdRef) (c : Cmd), r.inset < 16 →
    (∀ hw, s.running r 7 2 = some c → s.hwFault r c hw = none → forcedKill c false = none →
      let todo := (upto (RunP.count (leNat c.params))).filter (fun k => !c.progress.contains k)
      let u := todo.foldl (fun s k => s.planOp r k) s
      ∀ y, u.cmd r = some y →
        exec (.bsuRun r hw) s = .next (u.finish r { Work.none with writes := y.writes, poison := y.poison }))
    ∧ (∀ reads u w, s.running r 9 1 = some c → s.gatherWork r c reads = (u, .done w) → forcedKill c true = none →
      exec (.scribeGather r reads) s = .next (u.finish r w))
    ∧ (∀ phys u w, s.running r 9 2 = some c → s.scribeWriteWork r c phys = (u, .done w) → forcedKill c true = none →
      exec (.scribeWrite r phys) s = .next (u.finish r w))
    ∧ (∀ phys, s.running r 9 3 = some c →
      exec (.ckptWindow r phys) s =
        .next (((((s.inset r.inset).ckpt.left).foldl (CkptWin.group r.inset (leNat c.params)) ⟨s, phys.programs, []⟩).s).finish
          r Work.none))
    ∧ (∀ phys, s.running r 9 4 = some c → exec (.bgWindow r phys) s = .next ((s.bgWork c phys).finish r Work.none))
    ∧ (ReadsGood s c → (∀ reads, EndsDone (s.gatherWork r c reads))
      ∧ ∀ phys,
        let v := (s.noteReads [(ScrP.listAddr (leNat c.params), ScrP.listBytes (leNat c.params))]).writeEntries r.inset
          (leNat c.params) c
        v.2.any (fun e => v.1.rangeBad e.src e.len) = false →
        ((nub (v.2.map (·.lpn))).foldl (Writing.page r.inset c v.2)
          ⟨v.1.noteReads (v.2.map (fun e => (e.src, e.len))), phys, [], [], none⟩).fault = none →
        EndsDone (s.scribeWriteWork r c phys))

/-- DM_HOST_READ. -/
def Obligations.HostReadStagesWhatTheHostSent : Prop :=
  ∀ (s : State) (r : CmdRef) (c : Cmd) (reply : HostData), r.inset < 16 → s.running r 8 3 = some c →
    forcedKill c true = none →
    let p := leNat c.params
    let n := MovP.len p / 64
    (reply.length < n ∨ s.host.linkUp = false →
      exec (.dmHostRead r reply) s = .next ((s.emit (.rdCurr (MovP.src p) (MovP.len p))).kill r Code.HOST_LINK_LOST))
    ∧ (n ≤ reply.length → s.host.linkUp = true → (∀ b, some b ∈ reply → b.length = 64) →
      ∃ t w, exec (.dmHostRead r reply) s = .next t ∧ t.cmd r = some (c.withResults w)
        ∧ t.out = s.out ++ [.rdCurr (MovP.src p) (MovP.len p)] ∧ t.mem = s.mem ∧ w.code = 0 ∧ w.onCommit = []
        ∧ w.onDrain = [.addReg 16 G.POISON_PROPAGATED w.poison.length]
        ∧ w.writes = [(MovP.dst p, (reply.take n).flatMap (fun l => l.getD (zeros 64)))]
        ∧ (∀ a, a ∈ w.poison ↔ ∃ k, k < n ∧ reply[k]? = some none ∧ a = MovP.dst p + 64 * k)
        ∧ (∀ q, q ≠ r → t.cmd q = s.cmd q) ∧ (∀ i, i ≠ r.inset → t.inset i = s.inset i))

/-- MODE_CHANGE_SEQUENCE. -/
def Obligations.ModeChangeTakesEffectInItsTurn : Prop :=
  ∀ (s : State) (ch : Nat), ch < 256 →
    ((s.unit ch).change = none ∨ s.clk.cycle / 2400 % 4 ≠ ch % 4 → exec (.modeChangeSequence ch) s = .next s)
    ∧ (∀ m, (s.unit ch).change = some m → s.clk.cycle / 2400 % 4 = ch % 4 → s.host.held = [] →
      (bit m 0 = true → bit (s.unit ch).mode 0 = false →
        ∃ t, exec (.modeChangeSequence ch) s = .next t
          ∧ t.unit ch = { s.unit ch with mode := m, change := none, qcache := [], epoch := ((s.unit ch).epoch + 1) % 2 ^ 32
                                         procAt := s.clk.cycle }
          ∧ (∀ g, g ≠ ch → t.unit g = s.unit g) ∧ t.mem = s.mem ∧ t.sched = s.sched
          ∧ t.node G.BSU_MODE_CHANGES = (s.node G.BSU_MODE_CHANGES + 1) % typeMod G.BSU_MODE_CHANGES)
      ∧ (bit m 0 = false → bit (s.unit ch).mode 0 = true →
        ∃ t, exec (.modeChangeSequence ch) s = .next t ∧ (t.unit ch).mode = m ∧ (t.unit ch).change = none
          ∧ (t.unit ch).qcache = [] ∧ (t.unit ch).queue = []
          ∧ (t.unit ch).epoch = ((s.unit ch).epoch + 1) % 2 ^ 32 ∧ (∀ g, g ≠ ch → t.unit g = s.unit g)))

/-- APERTURE_ENQUEUE, AP_FLUSH, APERTURE_OPERATION and BSU_HOLD_POISON. -/
def Obligations.ApertureQueueTakesAndRefuses : Prop :=
  ∀ (s : State) (ch : Nat), ch < 256 →
    let u := s.unit ch
    (bit u.mode 0 = false → (∀ slot data, slot < 2048 → exec (.apertureEnqueue ch slot data) s = .next s)
      ∧ exec (.apFlush ch) s = .next s ∧ ∀ hw, exec (.apertureOperation ch hw) s = .next s)
    ∧ (bit u.mode 0 = true → ∀ slot data, slot < 2048 →
      let last := leNat (data.take 8)
      let slots := u.slots.set (4 * slot + 3) last
      let d := slots.get 0 (4 * slot) + slots.get 0 (4 * slot + 1) * 2 ^ 64 + slots.get 0 (4 * slot + 2) * 2 ^ 128
        + last * 2 ^ 192
      u.queue.length < 64 → s.apAllowed ch d = true →
      exec (.apertureEnqueue ch slot data) s =
        .next (s.setUnit ch { u with slots := slots, apSeq := u.apSeq + 1, queue := u.queue ++ [(d, u.apSeq + 1)] }.settled))
    ∧ (bit u.mode 0 = true → exec (.apFlush ch) s = .next (s.apRefuseAll ch))
    ∧ (∀ hw, u.queue = [] ∨ s.planQueued ch = true → exec (.apertureOperation ch hw) s = .next s)
    ∧ (∀ hw d seq rest, bit u.mode 0 = true → s.planQueued ch = false → u.queue = (d, seq) :: rest →
      let v := s.setUnit ch { u with queue := rest }.settled
      (v.apRows ch d).all (fun e =>
        Dict.apStorage v.gaz.regs ((Dict.channelOwner v.gaz.regs ch).getD 0) ch e.1 e.2) = true →
      let o := v.runOp ch d false
      o.writes = [] → o.poison = [] →
      let code := if o.err = 0 then 0 else Code.BSU_UNCORRECTABLE
      ∃ t, exec (.apertureOperation ch hw) s = .next t ∧ t.mem = s.mem ∧ t.sched = s.sched
        ∧ (t.unit ch).queue = { u with queue := rest }.settled.queue
        ∧ (t.unit ch).result = (mapIdxFrom (fun k b => (OpD.dstOff d + k, b)) 0 (opStatus d code o ++ o.out)).foldl
            (fun x e => x.set e.1 e.2.toNat) { u with queue := rest }.settled.result)
    ∧ (∀ h, s.host.held.find? (fun h => touches h.addr h.len ch && s.inProc h.addr h.len) = some h →
      exec (.bsuHoldPoison ch) s =
        if s.clk.cycle < h.at_ + nsCycles (s.node G.BSU_HOLD_BOUND) then .next s
        else .next (({ s with host := { s.host with held := s.host.held.erase h } }).holdPoison h))

/-- TICK_SEND. -/
def Obligations.TickSendAnnouncesTheNextBoundary : Prop :=
  ∀ (s : State) (members : List (Nat × List Nat)),
    (s.node G.START_PHASE < 6 ∨ s.serves = false ∨ s.lock ≠ 3 ∨ s.clk.cycle + s.tickLead < s.tick.nextAt
        ∨ s.tick.msg.map (·.tickNo) = some (s.tickNo + 1) → exec (.tickSend members) s = .next s)
    ∧ (6 ≤ s.node G.START_PHASE → s.serves = true → s.lock = 3 → s.tick.nextAt ≤ s.clk.cycle + s.tickLead →
      s.tick.msg.map (·.tickNo) ≠ some (s.tickNo + 1) →
      let d := s.declareAll (s.tickNo + 1) members
      ∃ t, exec (.tickSend members) s = .next t ∧ d.2.length = 16
        ∧ t.tick.msg = some ⟨s.tickNo + 1, d.1.node G.TICK_PERIOD, d.1.nodeId, d.2⟩
        ∧ t.tick.forwarded = some (s.tickNo + 1)
        ∧ ∀ p, p < nPorts → (d.1.port p).train = 6 → ∃ remain,
            Out.tickFlit p (s.tickNo + 1) (d.1.node G.TICK_PERIOD) d.1.nodeId 0 remain d.2 ∈ t.out)

/-- BOUNDARY_MESSAGE on a node in lock, and TICK_BOUNDARY. -/
def Obligations.BoundaryMessageIsForwardedAndTaken : Prop :=
  (∀ (s : State) (m : TickIn), m.port < nPorts →
    (s.node G.START_PHASE < 6 ∨ s.serves = false ∨ (s.port m.port).train ≠ 6 → exec (.boundaryMessage m) s = .next s)
    ∧ (6 ≤ s.node G.START_PHASE → s.serves = true → (s.port m.port).train = 6 →
      (s.tick.ignore ≠ 0 → exec (.boundaryMessage m) s =
        .next { s with tick := { s.tick with ignore := s.tick.ignore - 1 } })
      ∧ (s.tick.ignore = 0 → s.tickSeen m = true → exec (.boundaryMessage m) s = .next s)
      ∧ (s.tick.ignore = 0 → s.tickSeen m = false → (s.lock = 1 ∨ s.lock = 2) → m.periodUs = s.node G.TICK_PERIOD →
        m.offsetNs.natAbs ≤ 200 → m.tickNo = s.tickNo + 1 → s.tick.master = some m.master →
        ∃ t, exec (.boundaryMessage m) s = .next t
          ∧ t.tick.nextAt = s.clk.cycle + psCycles (m.remainPs - (s.port m.port).delayPs)
          ∧ t.tick.msg = some ⟨m.tickNo, m.periodUs, m.master, m.decls⟩ ∧ t.tick.missed = 0 ∧ t.tick.holdoverAt = none
          ∧ t.lock = 1 ∧ t.node G.TICK_ERROR_NS = wrapInt 32 m.offsetNs % typeMod G.TICK_ERROR_NS
          ∧ t.out = s.out ++ ((upto nPorts).filter (fun p => (s.port p).train == 6 && p != m.port)).map (fun p =>
              Out.tickFlit p m.tickNo m.periodUs m.master (m.hops + 1)
                (m.remainPs - (s.port m.port).delayPs - m.residePs) m.decls)
          ∧ t.mem = s.mem ∧ t.sched = s.sched ∧ t.torus = s.torus ∧ t.clk = s.clk)))
  ∧ (∀ (s : State) (b : BoundaryIn),
    exec (.tickBoundary b) s = if s.node G.START_PHASE < 6 ∨ s.serves = false ∨ s.clk.cycle < s.tick.nextAt then .next s
      else .next (s.boundary (s.tickNo + 1) s.tick.nextAt b))

/-- HOLDOVER, TICK_UNLOCK, MASTER_FAILOVER and MASTER_WAIT. -/
def Obligations.LockIsHeldLostAndTakenOver : Prop :=
  ∀ s : State,
    (s.lock = 1 → 3 ≤ s.tick.missed → s.serves = true →
      ∃ t, exec .holdover s = .next t ∧ t.lock = 2
        ∧ t = { s with tick := { s.tick with holdoverAt := some s.clk.cycle }, gaz := (s.setNum 16 G.TICK_LOCK 2).gaz })
    ∧ (s.lock ≠ 1 ∨ s.tick.missed < 3 ∨ s.serves = false → exec .holdover s = .next s)
    ∧ (∀ h, s.tick.holdoverAt = some h → s.lock = 2 → s.serves = true →
      (s.clk.cycle < h + 76800000 → exec .tickUnlock s = .next s)
      ∧ (h + 76800000 ≤ s.clk.cycle → exec .tickUnlock s = .next (s.leaveLock Code.TICK_UNLOCK)))
    ∧ (s.tick.holdoverAt = none ∨ s.lock ≠ 2 ∨ s.serves = false → exec .tickUnlock s = .next s)
    ∧ (s.serves = true → (s.lock = 1 ∨ s.lock = 2) → 3 ≤ s.tick.missed → (s.listPos s.nodeId).isSome = true →
      exec .masterFailover s = .next ((s.becomeMaster.nodeEvent Code.MASTER_FAILOVER s.nodeId 0).reportAgain)
        ∧ s.becomeMaster.lock = 3 ∧ s.becomeMaster.tickNo = s.tickNo)
    ∧ (s.serves = false ∨ (s.lock ≠ 1 ∧ s.lock ≠ 2) ∨ s.tick.missed < 3 ∨ (s.listPos s.nodeId).isNone = true →
      exec .masterFailover s = .next s)
    ∧ (∀ k, s.listPos s.nodeId = some k → s.serves = true → s.profiled = true → s.lock = 0 → s.tick.everLocked = false →
      s.sched.halted = false → s.tick.forwarded = none →
      let due := s.tick.trainedAt.getD s.flash.rebuildAt + usCycles (1000 * s.node G.MASTER_WAIT_MS * (k + 1))
      (s.clk.cycle < due → exec .masterWait s = .next s)
      ∧ (due ≤ s.clk.cycle → exec .masterWait s = .next s.becomeMaster))
    ∧ (s.listPos s.nodeId = none ∨ s.serves = false ∨ s.profiled = false ∨ s.lock ≠ 0 ∨ s.tick.everLocked = true
        ∨ s.sched.halted = true ∨ s.tick.forwarded.isSome = true → exec .masterWait s = .next s)

/-- PORT_TRAINING, TRAINING_TIMEOUT and RETRAIN. -/
def Obligations.TrainingMakesAPortActive : Prop :=
  ∀ (s : State) (port : Nat), port < nPorts →
    let p := s.port port
    (∀ t : TrainIn,
      let lanes := t.lanes.filter (fun l => decide (l < nLanes) && !p.failed.contains l)
      (p.train = 0 ∨ p.train = 6 ∨ s.clk.refBad = true ∨ s.portUsed port = false ∨ lanes.length < 16 →
        exec (.portTraining port t) s = .next s)
      ∧ (p.train ≠ 0 → p.train ≠ 6 → s.clk.refBad = false → s.portUsed port = true → 16 ≤ lanes.length →
        ((∀ l, s.logicalOf port = some l → neighbour (s.node G.TORUS_DIMS) s.nodeId l = some t.node) →
          ∃ u, exec (.portTraining port t) s = .next u ∧ (u.port port).train = 6 ∧ (u.port port).lanes = lanes.take 16
            ∧ (u.port port).polarity = t.polarity ∧ (u.port port).farNode = t.node ∧ (u.port port).farPort = t.farPort
            ∧ (u.port port).restarts = 0 ∧ (u.port port).stateAt = s.clk.cycle
            ∧ (u.port port).presets = (upto nLanes).map (fun l => s.eqPolicy (nLanes * port + l) (nth 0 t.presets l))
            ∧ (u.port port).replay = p.replay ∧ (u.port port).txSeq = p.txSeq ∧ (u.port port).rxNext = p.rxNext
            ∧ (∀ q, q ≠ port → u.port q = s.port q) ∧ u.mem = s.mem ∧ u.out = s.out ∧ u.sched = s.sched)
        ∧ (∀ l, s.logicalOf port = some l → neighbour (s.node G.TORUS_DIMS) s.nodeId l ≠ some t.node →
          ∃ u, exec (.portTraining port t) s = .next u ∧ (u.port port).train = 0 ∧ (∀ q, q ≠ port → u.port q = s.port q))))
    ∧ (p.train = 0 ∨ p.train = 6 ∨ s.clk.cycle < p.stateAt + 2400000 → exec (.trainingTimeout port) s = .next s)
    ∧ (p.train ≠ 0 → p.train ≠ 6 → p.stateAt + 2400000 ≤ s.clk.cycle →
      exec (.trainingTimeout port) s =
        if 3 ≤ p.restarts then .next (s.failPort port)
        else .next (s.setPort port { p with train := 1, restarts := p.restarts + 1, stateAt := s.clk.cycle, fecRun := 0
                                            probe := none }))
    ∧ (p.train = 0 → exec (.retrain port) s = .next s)
    ∧ (p.train ≠ 0 → exec (.retrain port) s =
        .next (s.setPort port { p with train := 1, restarts := 0, stateAt := s.clk.cycle, fecRun := 0, probe := none }))

/-- FLIT_RECEIVE and NAK. -/
def Obligations.FlitsAreTakenInOrderAndResent : Prop :=
  ∀ (s : State) (port : Nat), port < nPorts →
    let p := s.port port
    (p.train ≠ 6 → ∀ f, exec (.flitReceive port f) s = .next s)
    ∧ (p.train = 6 → s.timedEntry 0x010 port = none →
      (∀ f : FlitIn, f.body = none →
        ∃ t, exec (.flitReceive port f) s = .next t
          ∧ t.node G.FEC_UNCORR = (s.node G.FEC_UNCORR + 1) % typeMod G.FEC_UNCORR
          ∧ (p.fecRun < 3 → t.out = s.out ++ [.ctrlFlit port 1 [p.rxNext]] ∧ t.port port = { p with fecRun := p.fecRun + 1 })
          ∧ (3 ≤ p.fecRun → t.out = s.out ∧ (t.port port).train = 1)
          ∧ (∀ q, q ≠ port → t.port q = s.port q) ∧ t.mem = s.mem ∧ t.sched = s.sched)
      ∧ (∀ (f : FlitIn) (h : Nat) (payload : Bytes), f.body = some (h, payload) →
        (FlitW.crcOk h payload = false ∨ 4 < FlitW.ftype h →
          exec (.flitReceive port f) s =
            .next ((s.setPort port { p with fecRun := 0 }).emit (.ctrlFlit port 1 [p.rxNext])))
        ∧ (FlitW.crcOk h payload = true → FlitW.ftype h ≤ 4 → seqDist p.txAcked (FlitW.ack h + 1) = 0 → FlitW.crN h = 0 →
          (FlitW.ftype h ≠ 1 → FlitW.ftype h ≠ 2 →
            exec (.flitReceive port f) s = .next (s.setPort port { p with fecRun := 0 }))
          ∧ (FlitW.ftype h = 1 ∨ FlitW.ftype h = 2 → FlitW.seq h ≠ p.rxNext →
            exec (.flitReceive port f) s =
              .next ((s.setPort port { p with fecRun := 0 }).emit (.ctrlFlit port 1 [p.rxNext])))
          ∧ (FlitW.ftype h = 1 ∨ FlitW.ftype h = 2 → FlitW.seq h = p.rxNext →
            ∃ t, exec (.flitReceive port f) s = .next t
              ∧ t.port port = { p with fecRun := 0, rxNext := (p.rxNext + 1) % 4096
                                       owed := p.owed.upd 0 (· + 1) (8 * FlitW.dom h + FlitW.vc h) }
              ∧ (∀ q, q ≠ port → t.port q = s.port q) ∧ t.mem = s.mem ∧ t.out = s.out ∧ t.sched = s.sched))))
    ∧ (∀ seq, p.train ≠ 6 → exec (.nak port seq) s = .next s)
    ∧ (∀ seq, p.train = 6 → seqDist p.txAcked seq = 0 → 0 < seqDist seq p.txSeq →
      exec (.nak port seq) s = .next (s.resendFrom port (seq % 4096)))

/-- LANE_SER_WINDOW, LANE_SWAP, LINK_DOWN, PORT_SWAP, REHEARSAL_SWAP_RETURN, PROBE, DELAY_PROBE and PRESET_REQ. -/
def Obligations.SparesAndDelayProbesFollowTheirRules : Prop :=
  (∀ (s : State) (port : Nat), port < nPorts →
    let p := s.port port
    (p.train ≠ 6 → (∀ l e n k, l < nLanes → exec (.laneSerWindow port l e n k) s = .next s)
      ∧ (∀ l sp w, l < nLanes → sp < nLanes → exec (.laneSwap port l sp w) s = .next s)
      ∧ (∀ a b c d, exec (.probe port a b c d) s = .next s) ∧ (∀ a, exec (.delayProbe port a) s = .next s)
      ∧ (∀ l k w, l < nLanes → k < 16 → exec (.presetReq port l k w) s = .next s))
    ∧ (p.train = 6 →
      (∀ l e n lost, l < nLanes → p.lanes.contains l = true → s.timedEntry 0x011 (nLanes * port + l) = none →
        let isOver := ((f32 (s.node G.LANE_SER_LIMIT)).mul (Fl.ofNat n)).lt (Fl.ofNat e)
        (isOver = false → lost = false → exec (.laneSerWindow port l e n lost) s = .next s)
        ∧ (isOver = true ∨ lost = true →
          (∀ sp, p.spareLane = some sp →
            exec (.laneSerWindow port l e n lost) s = .next (s.emit (.ctrlFlit port 2 [l, sp])))
          ∧ (p.spareLane = none → exec (.laneSerWindow port l e n lost) s = .next (s.failPort port))))
      ∧ (∀ l sp w, l < nLanes → sp < nLanes → p.lanes.contains l = true → p.lanes.contains sp = false →
        p.failed.contains sp = false → s.timedEntry 0x011 (nLanes * port + l) = none →
        ∃ t, exec (.laneSwap port l sp w) s = .next t
          ∧ t.port port = { p with lanes := p.lanes.map (fun x => if x = l then sp else x), failed := p.failed ++ [l] }
          ∧ (∀ q, q ≠ port → t.port q = s.port q)
          ∧ t.rel.spares = s.rel.spares ++ [(7, port, l, sp)]
          ∧ t.rel.pendingRepairs.length = s.rel.pendingRepairs.length + 1)
      ∧ (∀ a b c d, exec (.probe port a b c d) s =
          if p.probe = some a then
            .next (s.setPort port { p with probe := none, delays := ((d - a - (c - b)) / 2 :: p.delays).take 8 })
          else .next (s.emit (.ctrlFlit port 4 [a, b, c])))
      ∧ (∀ a, exec (.delayProbe port a) s =
          if s.clk.cycle < p.probeAt + usCycles (s.node G.DELAY_INTERVAL) then .next s
          else .next ((s.setPort port { p with probe := some a, probeAt := s.clk.cycle }).emit (.ctrlFlit port 4 [a, 0, 0])))
      ∧ (∀ l k w, l < nLanes → k < 16 →
        ∃ t, exec (.presetReq port l k w) s = .next t
          ∧ t.port port = { p with presets := modNth (fun _ => s.eqPolicy (nLanes * port + l) k) p.presets l }
          ∧ (∀ q, q ≠ port → t.port q = s.port q) ∧ t.mem = s.mem ∧ t.out = s.out))
    ∧ (p.rehearse = none → exec (.rehearsalSwapReturn port) s = .next s)
    ∧ (∀ a b w, p.rehearse = some (a, b, w, false) → exec (.rehearsalSwapReturn port) s =
        if s.clk.cycle < w then .next s
        else .next (s.setPort port { p with rehearse := none, lanes := p.lanes.map (fun l => if l = b then a else l) })))
  ∧ (∀ (s : State) (port : Nat), port < 6 → s.timedEntry 0x012 (s.physical port) = none →
    let phys := s.physical port
    ((s.port phys).train = 0 → exec (.linkDown port) s = .next s)
    ∧ ((s.port phys).train ≠ 0 → exec (.linkDown port) s = .next (s.failPort phys))
    ∧ (∀ sp, sp < nPorts → s.replacement port ≠ some sp ∨ (s.port phys).train = 6 → exec (.portSwap port sp) s = .next s)
    ∧ (∀ sp, sp < nPorts → s.replacement port = some sp → (s.port phys).train ≠ 6 →
      exec (.portSwap port sp) s = .next ((((s.movePort port sp).bumpNode G.PORT_SWAPS 1).nodeEvent Code.PORT_SWAPPED
        port sp).addRepair 8 phys phys sp)))

/-- The message rows with their types (Table 13-7). -/
def messageRows (m : Msg) : List (Nat × Instr) :=
  [(0, .put m), (1, .a2aSlot m), (2, .done m), (3, .token m), (4, .lease m), (5, .barrier m), (6, .mgmtReq m),
   (7, .mgmtRsp m), (8, .event m)]

/-- What stops a message before its row. -/
def Obligations.MessagesAreForwardedOrDiscarded : Prop :=
  ∀ (m : Msg) (k : Nat) (i : Instr), (k, i) ∈ messageRows m → ∀ s : State, m.port < 6 →
    (s.portActive m.port = false → exec i s = .next s)
    ∧ (s.portActive m.port = true →
      (9 ≤ MsgW.mtype m.hdr → exec i s = .next ((s.returnCredit m).bumpNode G.TORUS_BAD_MSG 1))
      ∧ (MsgW.mtype m.hdr < 9 → MsgW.mtype m.hdr ≠ k → exec i s = .next s)
      ∧ (MsgW.mtype m.hdr = k → (MsgW.dest m.hdr ≠ s.nodeId ∨ (k ≠ 6 ∧ k ≠ 7 ∧ s.msgInset m = none)) →
        exec i s = .next ((s.returnCredit m).forward m))
      ∧ (MsgW.mtype m.hdr = k → 2 ≤ k → MsgW.dest m.hdr = s.nodeId → (s.msgInset m).isSome = true →
        MsgW.crcOk m.hdr m.payload = false →
        ∃ t j, s.msgInset m = some j ∧ exec i s = .next t ∧ t = (s.returnCredit m).bump j G.TORUS_CRC_DROP 1))

/-- The message is intact, of type `k`, and for this node: for its Inset `i`, or a management message. -/
structure Arrives (s : State) (m : Msg) (k i : Nat) : Prop where
  port : m.port < 6
  active : s.portActive m.port = true
  kind : MsgW.mtype m.hdr = k
  dest : MsgW.dest m.hdr = s.nodeId
  inset : k = 6 ∨ k = 7 ∨ s.msgInset m = some i
  crc : MsgW.crcOk m.hdr m.payload = true

/-- The nine message rows. -/
def Obligations.EachMessageTypeHasItsEffect : Prop :=
  ∀ (s : State) (m : Msg) (i : Nat),
    let u := s.returnCredit m
    let b := m.payload
    let o := MsgW.xfer m.hdr
    let src := MsgW.src m.hdr
    (∀ k x, (k, x) ∈ [(0, Instr.put m), (1, Instr.a2aSlot m)] → Arrives s m k i →
      (s.torus.seen.contains (msgKey i m.hdr) = true → exec x s = .next (u.bump i G.TORUS_DUP 1))
      ∧ (s.torus.seen.contains (msgKey i m.hdr) = false → s.landUsed i + b.length ≤ s.num i G.TORUS_LAND_BYTES →
        ∃ t, exec x s = .next t ∧ t.torus.landed = s.torus.landed ++ [⟨i, m.hdr, b⟩]
          ∧ t.torus.seen = s.torus.seen ++ [msgKey i m.hdr] ∧ t.mem = s.mem))
    ∧ (Arrives s m 2 i →
      (s.lock ≠ 3 → exec (.done m) s = .next u)
      ∧ (s.lock = 3 → exec (.done m) s = .next { u with tick := { u.tick with
          done := s.tick.done ++ [⟨m.tag, src, sliceNat b 0 8, s.clk.cycle, sliceNat b 8 8⟩] } }))
    ∧ (Arrives s m 3 i →
      (syncOp b = 0 → exec (.token m) s = .next (u.tokenServe o src (syncInset b) (syncIdx b)))
      ∧ (syncOp b ≠ 0 → exec (.token m) s =
          .next (u.modCmd ⟨syncInset b, syncIdx b⟩ (fun c =>
            if c.token = 1 then { c with token := if syncOp b = 1 then 2 else 3 } else c))))
    ∧ (Arrives s m 4 i → (s.syncObj o).home = s.nodeId →
      (syncOp b = 0 → (s.syncObj o).held = false →
        exec (.lease m) s = .next ((u.setSync o { s.syncObj o with held := true, holder := src, hInset := syncInset b
                                                                   renewTick := s.tickNo, renewAt := s.clk.cycle }).syncSend
          4 src o 1 (syncInset b) (syncIdx b) []))
      ∧ (syncOp b = 2 → (s.syncObj o).holder = src → (s.syncObj o).hInset = syncInset b →
        ∃ t, exec (.lease m) s = .next t ∧ (t.syncObj o).held = false ∧ ∀ n, n ≠ o → t.syncObj n = s.syncObj n))
    ∧ (Arrives s m 5 i →
      (syncOp b = 0 → exec (.barrier m) s = .next (u.barrierArrive o src (syncInset b)))
      ∧ (syncOp b ≠ 0 → exec (.barrier m) s = .next (u.barrierDone o (barrierRanks s.nodeId b))))
    ∧ (Arrives s m 6 i →
      let r : GazReq := ⟨.torus src (o % 65536), sliceNat b 0 32, b.drop 32⟩
      (s.mgmtAllowed src = false → exec (.mgmtReq m) s = .next (u.respond r Code.MGMT_DENIED))
      ∧ (s.mgmtAllowed src = true → (s.gaz.queue.filter (fun q => q.path.kind == r.path.kind)).length < 64 →
        exec (.mgmtReq m) s = .next { u with gaz := { s.gaz with queue := s.gaz.queue ++ [r] } }))
    ∧ (Arrives s m 7 i →
      exec (.mgmtRsp m) s = .next (u.emit (.gazResp (.torus src 0) (sliceNat b 0 32) (b.drop 32))))
    ∧ (Arrives s m 8 i →
      let e := sliceNat b 0 32
      exec (.event m) s = .next (u.eventFull i (bf e 15 0) (bf e 191 128) (bf e 255 192) (bit e 16)))

/-- The host's queue, decoder, configuration and mailbox rows. -/
def Obligations.QueuesMailboxAndDecodersAnswer : Prop :=
  ∀ s : State,
    (s.alive = false →
      (∀ fn q v, fn < 16 → q < 4 → exec (.sqTail fn q v) s = .next s)
      ∧ (∀ fn q f v, fn < 16 → q < 4 → f < 6 → exec (.queueConfig fn q f v) s = .next s)
      ∧ (∀ d b z w, d < 4 → exec (.hdmCommit d b z w) s = .next s) ∧ (∀ a, exec (.cxlSnoop a) s = .next s)
      ∧ (∀ a, exec (.cxlConfigRequest a) s = .next s) ∧ (∀ fn, fn < 16 → exec (.getTimestamp fn) s = .next s))
    ∧ (s.alive = true →
      (∀ fn q v, fn < 16 → q < 4 →
        let p := s.queue fn q
        let size := 2 ^ p.sqLog
        (p.sqLog = 0 → exec (.sqTail fn q v) s = .next s)
        ∧ (p.sqLog ≠ 0 → exec (.sqTail fn q v) s =
          .next (((upto ((v % size + size - p.sqTail) % size)).map (fun k => (p.sqTail + k) % size)).foldl
            (fun s k => s.arriveSub fn q k) (s.setQueue fn q { p with sqTail := v % size }))))
      ∧ (∀ fn q v, fn < 16 → q < 4 →
        exec (.queueConfig fn q 4 v) s = .next (s.setQueue fn q { s.queue fn q with cqHead := v % 2 ^ 16 })
        ∧ exec (.queueConfig fn q 5 v) s = .next (s.setBinding fn { s.binding fn with xlogHead := v % 2 ^ 32 }))
      ∧ (∀ fn q f v, fn < 16 → q < 4 → f < 4 →
        let u := s.setQueue fn q { s.queue fn q with pend := (s.queue fn q).pend ++ [(f, v)] }
        let formed := if f = 0 ∨ f = 2 then v % 64 = 0 ∧ v < 2 ^ 64 else v ≤ 15
        (formed → u.ringEntries fn ≤ s.num fn G.XLOG_BYTES / 64 → exec (.queueConfig fn q f v) s = .next u)
        ∧ (¬ formed ∨ s.num fn G.XLOG_BYTES / 64 < u.ringEntries fn →
          exec (.queueConfig fn q f v) s = .next (s.event fn Code.QUEUE_CONFIG 0 0)))
      ∧ (∀ d base size ways, d < 4 →
        ∃ t ok, exec (.hdmCommit d base size ways) s = .next t ∧ t.out = s.out ++ [.hdmResult d ok]
          ∧ t.host.hdm = s.host.hdm.set d ⟨base, size, ok, !ok⟩
          ∧ (ok = true ↔ s.node G.START_PHASE = 6 ∧ ways = 1 ∧ 0 < size ∧ base % 268435456 = 0 ∧ size % 268435456 = 0
            ∧ s.node (G.HDM_OWNER + d) < 16 ∧ rangeT1 (s.node (G.HDM_TARGET + d)) size = true
            ∧ Dict.rangeOwned s.gaz.regs (s.node (G.HDM_OWNER + d)) (s.node (G.HDM_TARGET + d)) size = true))
      ∧ (∀ a, exec (.cxlSnoop a) s = .next (s.emit (.cxlRspIHitI a)))
      ∧ (∀ a, exec (.cxlConfigRequest a) s =
          if s.node G.START_PHASE < 4 then .next s else .next (s.emit (.cxlConfig a (decide (s.node G.START_PHASE < 6)))))
      ∧ (∀ fn, fn < 16 →
        exec (.getSupportedLogs fn) s =
            .next (s.emit (.mailbox fn 0 (toLe 8 1 ++ Config.celUuid ++ toLe 4 Config.commandEffectsLog.length)))
        ∧ (∀ uuid o n, exec (.getLog fn uuid o n) s =
            .next (s.emit (if uuid = Config.celUuid then .mailbox fn 0 (slice Config.commandEffectsLog o n)
              else .mailbox fn mboxUnsupported [])))
        ∧ exec (.getTimestamp fn) s = .next (s.emit (.mailbox fn 0 (toLe 8 s.timestamp)))
        ∧ (∀ ns, ∃ t, exec (.setTimestamp fn ns) s = .next t ∧ t.out = s.out ++ [.mailbox fn 0 []]
            ∧ (ns % 2 ^ 64 ≠ 0 → t.timestamp = ns % 2 ^ 64) ∧ t.mem = s.mem ∧ t.gaz = s.gaz)
        ∧ (∀ op, mailboxListed.contains op = false →
            exec (.mailboxUnsupported fn op) s = .next (s.emit (.mailbox fn mboxUnsupported [])))))

/-- CXL_MEM_READ, CXL_MEM_WRITE and CONTROL_CORE_ACCESS. -/
def Obligations.HostAndCoreAccessesReadAndWriteMemory : Prop :=
  ∀ s : State, s.serves = true →
    (∀ hpa, s.hdmTarget (hpa / 64 * 64) = none →
      exec (.cxlMemRead hpa false) s = .next (s.emit (.cxlUnserved (hpa / 64 * 64)))
      ∧ ∀ b m p, exec (.cxlMemWrite hpa b m p) s = .next (s.emit (.cxlUnserved (hpa / 64 * 64))))
    ∧ (∀ hpa i a u, s.hdmTarget (hpa / 64 * 64) = some (i, a) → (s.host.waiting.any (fun w => w.inset == i)) = false →
      s.release (1024 + i) 1 = some u → s.inProc a 64 = false → Dict.barred s.gaz.regs i a 64 = false →
      s.rangeBad a 64 = false →
      (s.behindDrain a 64 = false →
        ∃ t, exec (.cxlMemRead hpa false) s = .next t ∧ t.out = s.out ++ [.cxlData (hpa / 64 * 64) (s.readBytes a 64) false]
          ∧ t.mem = s.mem)
      ∧ (∀ st data mask, s.mem.wf = true → a % 64 = 0 → storageOf a = some st → data.length = 64 →
        (∀ j, (s.inset j).ckpt.left = []) →
        ∃ t, exec (.cxlMemWrite hpa data mask false) s = .next t ∧ t.out = s.out ++ [.cxlDone (hpa / 64 * 64)]
          ∧ ∀ x, t.mem.readByte x =
            if st ≤ x ∧ x < st + 64 ∧ bit mask (x - st) = true then nth 0 data (x - st) else s.mem.readByte x))
    ∧ (∀ hpa i a, s.hdmTarget (hpa / 64 * 64) = some (i, a) →
      ∃ t v, exec (.cxlMemRead hpa true) s = .next t ∧ t.draws = s.draws + 1
        ∧ t.out.getLast? = some (.cxlData (hpa / 64 * 64) v true))
    ∧ (∀ acc : CoreAccess, acc.core < 16 →
      let n := match acc.data with
        | none => acc.len
        | some b => b.length
      let outside := ¬ (apertureBase ≤ acc.addr ∧ acc.addr + n ≤ apertureBase + 256 * 0x100000)
      (n = 0 → exec (.controlCoreAccess acc) s = .next s)
      ∧ (n ≠ 0 → acc.noc = true →
        exec (.controlCoreAccess acc) s = .next (s.coreError Code.NOC_UNCORRECTABLE (s.coreInset acc.core) acc))
      ∧ (∀ i, s.coreInset acc.core = some i → n ≠ 0 → acc.noc = false → outside →
        let ok := rangeExists acc.addr n && !Dict.barred s.gaz.regs i acc.addr n && Dict.rangeOwned s.gaz.regs i acc.addr n
        (ok = false → exec (.controlCoreAccess acc) s = .next (s.refuseCore (some i) acc))
        ∧ (ok = true → acc.data = none → s.inProc acc.addr n = false → s.behindDrain acc.addr n = false →
          s.rangeBad acc.addr n = false →
          ∃ t, exec (.controlCoreAccess acc) s = .next t
            ∧ t.out = s.out ++ [.coreData acc.core acc.addr (some (s.readBytes acc.addr n))] ∧ t.mem = s.mem)
        ∧ (∀ b, ok = true → acc.data = some b → s.inProc acc.addr n = false →
          exec (.controlCoreAccess acc) s = .next (s.storeBytes acc.addr b))))

/-- SWITCH_INSTANT, HOST_LINK_LOST, ORPHAN_ABORT and INT_HOLDOFF. -/
def Obligations.BindingsEndAtTheirInstants : Prop :=
  ∀ (s : State) (i : Nat), i < 16 →
    let b := s.binding i
    (b.oldBound = false ∨ b.deadline = none ∨ (∃ t, b.deadline = some t ∧ s.clk.cycle < t) →
      exec (.switchInstant i) s = .next s)
    ∧ (∀ t, b.oldBound = true → b.deadline = some t → t ≤ s.clk.cycle →
      exec (.switchInstant i) s = .next ((s.setBinding i { b with oldBound := false }).bindSettle i))
    ∧ (∃ t, exec .hostLinkLost s = .next t ∧ t.host.linkUp = false
      ∧ (t.binding i).curBound = false ∧ (t.binding i).oldBound = false)
    ∧ (b.deadline = none ∨ b.state ≠ 3 ∨ b.request.isSome = true ∨ (∃ t, b.deadline = some t ∧ s.tick.lastAt < t) →
      exec (.orphanAbort i) s = .next s)
    ∧ (∀ t, b.deadline = some t → b.state = 3 → b.request = none → t ≤ s.tick.lastAt →
      ∃ u, exec (.orphanAbort i) s = .next u ∧ (u.binding i).state = 0 ∧ (u.binding i).deadline = none
        ∧ (u.binding i).xlogHead = 0 ∧ (u.binding i).xlogTail = 0 ∧ (∀ q, q < 4 → u.queue i q = QueuePair.reset)
        ∧ (∀ m ∈ u.host.subs, m.inset ≠ i))
    ∧ (∀ v, v < 128 → exec (.intHoldoff i v) s =
        if (Tab.find (s.inset i).gathered v).isNone || (s.inset i).masked || s.inHoldoff i v then .next s
        else .next (s.fireVector i v))

/-- SHAPER_RELEASE, EGRESS_SELECT and GATE_ENTRY. -/
def Obligations.ShapersReleaseAndPortsSelectByClass : Prop :=
  (∀ (s : State) (f : Nat), 4096 ≤ f → f < 1048576 →
    let sel := fun (m : SubMark) => m.flow == f && !m.released
    (s.host.subs.any sel = false ∨ s.release f 1 = none → exec (.shaperRelease f) s = .next s)
    ∧ (∀ u, s.host.subs.any sel = true → s.release f 1 = some u →
      exec (.shaperRelease f) s = .next (u.setSubs (modFirst sel (fun m => { m with released := true }) u.host.subs))))
  ∧ (∀ (s : State) (i : Nat), i < 16 →
    (∀ h u, s.host.waiting.find? (fun h => h.inset == i) = some h → s.release (1024 + i) 1 = some u →
      exec (.shaperRelease (1024 + i)) s =
        .next (({ u with host := { u.host with waiting := u.host.waiting.erase h } }).arrive h))
    ∧ (s.host.waiting.find? (fun h => h.inset == i) = none ∨ s.release (1024 + i) 1 = none →
      exec (.shaperRelease (1024 + i)) s = .next s))
  ∧ (∀ (s : State) (f : Nat), f < 1024 ∨ (1040 ≤ f ∧ f < 4096 ∧ f ≠ 1056) →
    ((s.flow f).queue.find? (fun it => !it.released) = none → exec (.shaperRelease f) s = .next s)
    ∧ (∀ it, (s.flow f).queue.find? (fun it => !it.released) = some it →
      (s.release f it.units = none → exec (.shaperRelease f) s = .next s)
      ∧ (∀ u, s.release f it.units = some u →
        exec (.shaperRelease f) s = .next (u.setFlow f { u.flow f with
          queue := modFirst (fun x => !x.released) (fun x => { x with released := true }) (u.flow f).queue }))))
  ∧ (∀ (s u : State) (it : Item) (src : Nat) (b : Bytes),
    (s.flow 1056).queue.find? (fun it => !it.released) = some it → it.what = .fieldFrame src b →
    s.release 1056 it.units = some u →
    exec (.shaperRelease 1056) s =
      .next ((u.setFlow 1056 { u.flow 1056 with queue := (u.flow 1056).queue.drop 1 }).serveFrame src b))
  ∧ (∀ (s : State) (p : Nat), p < 12 →
    (s.clk.cycle < (s.gate p).busyTo → exec (.egressSelect p) s = .next s)
    ∧ ((s.gate p).busyTo ≤ s.clk.cycle → (∃ c ∈ s.cands p, c.go = true) →
      ∃ t c, exec (.egressSelect p) s = .next t ∧ c ∈ s.cands p ∧ c.go = true
        ∧ (∀ d ∈ s.cands p, d.go = true → c.cls ≤ d.cls)
        ∧ c.item.what ∈ t.out ∧ (t.flow c.flow).queue = (s.flow c.flow).queue.drop 1
        ∧ (t.gate p).busyTo = s.clk.cycle + ceilDiv (sendTime p c.item) 1250 ∧ t.mem = s.mem)
    ∧ ((s.gate p).busyTo ≤ s.clk.cycle → (∀ c ∈ s.cands p, c.go = false) →
      ∃ t, exec (.egressSelect p) s = .next t ∧ t.out = s.out ∧ t.mem = s.mem ∧ ∀ f, t.flow f = s.flow f)
    ∧ (let es := GateL.entries (s.gate p).cur
      let passed := 3000 * ((es.take ((s.gate p).entry + 1)).map (·.1)).sum ≤ s.sinceTick
      (passed → (s.gate p).entry + 1 < es.length →
        exec (.gateEntry p) s = .next (s.setGate p { s.gate p with entry := (s.gate p).entry + 1, startAt := s.clk.cycle }))
      ∧ (¬ passed ∨ es.length ≤ (s.gate p).entry + 1 → exec (.gateEntry p) s = .next s)))

/-- DEPTH_SAMPLE, TM_SAMPLE, FIELD_FRAME and ANNOUNCE. -/
def Obligations.SamplesFramesAndAnnouncements : Prop :=
  (∀ s : State, (s.clk.cycle < s.tm.depthAt + 1024 → exec .depthSample s = .next s)
    ∧ (s.tm.depthAt + 1024 ≤ s.clk.cycle →
      ∃ t, exec .depthSample s = .next t ∧ t.tm.depthAt = s.clk.cycle ∧ t = { s with tm := t.tm }))
  ∧ (∀ (s : State) (i : Nat), i < 16 →
    (s.clk.cycle < s.tm.sampleAt.get 0 i + usCycles (s.num i G.SAMPLE_INTERVAL) → exec (.tmSample i) s = .next s)
    ∧ (s.tm.sampleAt.get 0 i + usCycles (s.num i G.SAMPLE_INTERVAL) ≤ s.clk.cycle → s.num i G.SAMPLE_RING_BYTES < 32 →
      ∃ t, exec (.tmSample i) s = .next t ∧ t = { s with tm := t.tm } ∧ t.tm.sampleAt.get 0 i = s.clk.cycle
        ∧ (∀ q, q < 2 ^ 32 → Tab.find t.tm.acc (accKey i q) = none) ∧ t.tm.flows = s.tm.flows))
  ∧ (∀ (s : State) (frame : Bytes) (fcs : Bool),
    let u := s.countBytes 0xC100 0 16 9 0 (frame.length + 4)
    let dst := beNat (slice frame 0 6)
    let src := beNat (slice frame 6 6)
    let h := sliceNat (frame.drop 14) 0 32
    let addressed := fcs = true ∧ 14 ≤ frame.length ∧ (dst = s.mac ∨ dst = broadcastMac)
      ∧ beNat (slice frame 12 2) = s.node G.FIELD_ETHERTYPE
    let broadcastOk := dst = broadcastMac → GazH.op h = 1 ∧ 0x1000 ≤ GazH.index h ∧ GazH.index h ≤ 0x10FF
    let known := s.node G.RACK_CONTROLLER_MAC = 0 ∨ src = s.node G.RACK_CONTROLLER_MAC % 2 ^ 48
    let waiting := u.setFlow 1056 { s.flow 1056 with
      queue := (s.flow 1056).queue ++ [⟨1, s.clk.cycle, false, false, .fieldFrame src (frame.drop 14)⟩] }
    (s.serves = false → exec (.fieldFrame frame fcs) s = .next s)
    ∧ (s.serves = true →
      (¬ addressed ∨ ¬ broadcastOk → exec (.fieldFrame frame fcs) s = .next (u.bumpNode G.FIELD_DROPPED 1))
      ∧ (addressed → broadcastOk → ¬ known → exec (.fieldFrame frame fcs) s = .next (u.bumpNode G.FIELD_REFUSED 1))
      ∧ (addressed → broadcastOk → known →
        ((s.flow 1056).queue ≠ [] ∨ u.release 1056 1 = none → exec (.fieldFrame frame fcs) s = .next waiting)
        ∧ (∀ v, (s.flow 1056).queue = [] → u.release 1056 1 = some v →
          exec (.fieldFrame frame fcs) s = .next (v.serveFrame src (frame.drop 14))))))
  ∧ (∀ s : State,
    (s.node G.START_PHASE < 6 ∨ (Tab.find s.gaz.regs (rkey 16 G.NODE_ID)).isSome = true ∨ s.clk.cycle < s.gaz.announceAt →
      exec .announce s = .next s)
    ∧ (6 ≤ s.node G.START_PHASE → (Tab.find s.gaz.regs (rkey 16 G.NODE_ID)).isSome = false →
      s.gaz.announceAt ≤ s.clk.cycle →
      ∃ t, exec .announce s = .next t ∧ t.gaz.announceAt = s.clk.cycle + 2400000000 ∧ t.draws = s.draws + 1
        ∧ t.mem = s.mem ∧ ∃ it, (t.flow 1057).queue = (s.flow 1057).queue ++ [it]))

/-- The write-only entries with their rows and actions. -/
def writeOnlyRows (r : GazReq) : List (Nat × Instr × (State → Nat → Bytes → State × Nat)) :=
  [(G.FLASH_FORMAT, .flashFormat r, State.woFormat), (G.CKPT_RESTORE, .ckptRestore r, State.woRestore),
   (G.PREEMPT, .preempt r, State.woPreempt), (G.INSET_RESET, .insetReset r, State.woReset),
   (G.BIND_RELEASE, .bindRelease r, State.woBindRelease), (G.ROLE_CHANGE, .roleChange r, State.woRoleChange),
   (G.SUSPECT_CLEAR, .suspectClear r, State.woSuspectClear), (G.COUNTER_CLEAR, .counterClear r, State.woCounterClear),
   (G.SAMPLE_RESET, .sampleReset r, State.woSampleReset), (G.ATTEST_NONCE, .attestNonce r, State.woAttestNonce),
   (G.FLOOR_CERT, .floorCert r, State.woFloorCert), (G.OWNER_KEY, .ownerKey r, State.woOwnerKey r.path),
   (G.IMAGE_WRITE, .imageWrite r, State.woImageWrite), (G.MEASURE_EXTEND, .measureExtend r, State.woMeasureExtend),
   (G.DEBUG_TOKEN, .debugToken r, State.woDebugToken), (G.INSET_START, .insetStart r, State.woInsetStart)]

/-- The write-only rows. -/
def Obligations.WriteOnlyEntriesActOnAGoodWrite : Prop :=
  ∀ (r : GazReq) (key : Nat) (i : Instr) (act : State → Nat → Bytes → State × Nat), (key, i, act) ∈ writeOnlyRows r →
    ∀ s : State,
      (r.op ≠ 2 ∨ r.key ≠ key ∨ s.serves = false → exec i s = .next s)
      ∧ (r.op = 2 → r.key = key → s.serves = true →
        let q := s.unqueue r
        (∀ c, q.entryFor r true = .error c → exec i s = .next (q.respond r c))
        ∧ (∀ e u, q.entryFor r true = .ok e →
          (∀ c, q.value r e = (u, .error c) → exec i s = .next (u.respond r c))
          ∧ (q.value r e = (u, .ok none) → exec i s = .next (u.respond r 0))
          ∧ (∀ v, q.value r e = (u, .ok (some v)) →
            (e.inRange (leNat v) = false → exec i s = .next (u.respond r Code.VALUE_RANGE))
            ∧ (e.inRange (leNat v) = true → GazH.reservedOk r.hdr = false →
              exec i s = .next (u.respond r Code.RESERVED_SET))
            ∧ (e.inRange (leNat v) = true → GazH.reservedOk r.hdr = true →
              exec i s = .next ((act u r.inst v).1.respond r (act u r.inst v).2)))))

/-- A request of a set that its row takes up. -/
structure SetRequest (s : State) (r : GazReq) (op : Nat) (write : Bool) : Prop where
  serves : s.serves = true
  op_eq : r.op = op
  formed : GazH.formed r.hdr r.data = true
  allowed : (s.unqueue r).mayReach r none write = true
  reserved : GazH.reservedOk r.hdr = true

/-- The seven common rows of the Gazetteer. -/
def Obligations.StagedSetsFollowTheirStates : Prop :=
  ∀ (s : State) (r : GazReq),
    let q := s.unqueue r
    let set := s.stageSet r.inst
    ((r.op ≠ 3 → exec (.readStaged r) s = .next s) ∧ (r.op ≠ 4 → exec (.check r) s = .next s)
      ∧ (r.op ≠ 5 → exec (.apply r) s = .next s) ∧ (r.op ≠ 6 → exec (.discard r) s = .next s)
      ∧ (r.op ≠ 7 → exec (.setState r) s = .next s) ∧ (r.op ≠ 2 → exec (.write r) s = .next s))
    ∧ (s.serves = true →
      (r.op = 1 → (∀ c, q.entryFor r false = .error c → exec (.read r) s = .next (q.respond r c))
        ∧ (∀ e, q.entryFor r false = .ok e → GazH.reservedOk r.hdr = true →
          exec (.read r) s = .next (q.answerRead r e (q.entryValue r.path r.inst r.key))))
      ∧ (r.op = 3 → ∀ e, q.entryFor r false = .ok e → GazH.reservedOk r.hdr = true →
        exec (.readStaged r) s = .next (q.answerRead r e
          (((if e.acc = .rws then Tab.find (s.stageSet r.inst).staged (rkey r.inst r.key) else none)).getD
            (q.entryValue r.path r.inst r.key))))
      ∧ (r.op = 2 → (∀ e, entryOf r.key = some e → e.acc ≠ .wo ∧ e.acc ≠ .rw) →
        (∀ c, q.entryFor r true = .error c → exec (.write r) s = .next (q.respond r c))
        ∧ (∀ e, q.entryFor r true = .ok e → exec (.write r) s = .next (q.stageWrite r e))))
    ∧ (SetRequest s r 4 true →
      (set.state = 0 ∨ set.state = 3 → exec (.check r) s = .next (q.respond r Code.STAGE_STATE))
      ∧ (set.state ≠ 0 → set.state ≠ 3 →
        ((q.candidate r.inst).run = none → ∃ u : State, exec (.check r) s = .next (u.answer r 0 id (zeros 32))
          ∧ u.stageSet r.inst = { set with state := 2, stale := false })
        ∧ (∀ f, (q.candidate r.inst).run = some f →
          ∃ u : State, exec (.check r) s = .next (u.answer r f.code id (toLe 32 f.record))
            ∧ u.stageSet r.inst = { set with state := 1, stale := false })))
    ∧ (SetRequest s r 5 true →
      let b := GazH.arg r.hdr
      (set.state ≠ 2 → exec (.apply r) s = .next (q.respond r Code.STAGE_STATE))
      ∧ (set.state = 2 → set.stale = true → exec (.apply r) s = .next (q.respond r Code.STAGE_STALE))
      ∧ (set.state = 2 → set.stale = false → (q.tooLate b = true ∨ s.tickNo + 2 ^ 32 < b) →
        exec (.apply r) s = .next (q.respond r Code.APPLY_LATE))
      ∧ (set.state = 2 → set.stale = false → q.tooLate b = false → b ≤ s.tickNo + 2 ^ 32 → q.floorHolds r.inst = false →
        q.gatePast r.inst b = false →
        ∃ u : State, exec (.apply r) s = .next (u.respond r 0)
          ∧ u.stageSet r.inst = { set with state := 3, bound := b, stale := false }
          ∧ (∀ j, j ≠ r.inst → u.stageSet j =
              if (s.stageSet j).state = 2 then { s.stageSet j with stale := true } else s.stageSet j)
          ∧ (∀ m ∈ u.gaz.images, m.inst ≠ r.inst) ∧ u.gaz.regs = s.gaz.regs ∧ u.mem = s.mem))
    ∧ (SetRequest s r 6 true →
      (set.state = 0 → exec (.discard r) s = .next (q.respond r 0))
      ∧ (set.state = 3 → q.tooLate set.bound = true → exec (.discard r) s = .next (q.respond r Code.APPLY_LATE))
      ∧ (set.state ≠ 0 → (set.state = 3 → q.tooLate set.bound = false) →
        ∃ u : State, exec (.discard r) s = .next (u.respond r 0) ∧ (u.stageSet r.inst).state = 0
          ∧ (u.stageSet r.inst).staged = [] ∧ (∀ j, j ≠ r.inst → u.stageSet j = s.stageSet j) ∧ u.gaz.regs = s.gaz.regs))
    ∧ (SetRequest s r 7 false →
      exec (.setState r) s = .next (q.answer r 0 (fun h => setBf h 255 192
        (set.state + (if set.state = 3 then set.bound else 0) % 2 ^ 62 * 4)) []))

/-- PWR_GOOD_RISE, PWR_GOOD_FALL, RESET_N, RESET_N_ASSERT, START_PHASE_END and DYNAMIC_ADDRESS_ASSIGNMENT. -/
def Obligations.PowerAndResetHoldTheNode : Prop :=
  ∀ s : State,
    (∀ rails, (s.clk.pwrGood = true → exec (.pwrGoodRise rails) s = .next s)
      ∧ (s.clk.pwrGood = false → railsOk rails = true → exec (.pwrGoodRise rails) s =
          .next { s with clk := { s.clk with pwrGood := true, railFault := false, t0 := s.clk.cycle } })
      ∧ (s.clk.pwrGood = false → railsOk rails = false →
        ∃ t, exec (.pwrGoodRise rails) s = .next t ∧ t.alive = false
          ∧ t = { s with clk := { s.clk with pwrGood := true, railFault := true, lastCode := Code.RAIL_FAULT } }))
    ∧ (s.clk.pwrGood = false → exec .pwrGoodFall s = .next s)
    ∧ (s.clk.pwrGood = true →
      ∃ t, exec .pwrGoodFall s = .next t ∧ t.alive = false ∧ t.clk.resetN = s.clk.resetN ∧ t.gaz = State.reset.gaz
        ∧ t.sched = State.reset.sched ∧ t.mem = State.reset.mem ∧ t.torus = State.reset.torus ∧ t.tm = State.reset.tm
        ∧ t.flash.pages = s.flash.pages ∧ t.flash.boot = s.flash.boot ∧ t.sec.boots = s.sec.boots ∧ t.out = s.out)
    ∧ (s.clk.resetN = false → exec .resetNAssert s = .next s)
    ∧ (s.clk.resetN = true →
      ∃ t, exec .resetNAssert s = .next t ∧ t.alive = false ∧ t.clk.pwrGood = s.clk.pwrGood ∧ t.gaz = State.reset.gaz
        ∧ t.sched = State.reset.sched ∧ t.mem = State.reset.mem ∧ t.flash.pages = s.flash.pages ∧ t.out = s.out)
    ∧ (∀ src, (s.clk.resetN = true → exec (.resetN src) s = .next s)
      ∧ (s.clk.resetN = false → exec (.resetN src) s =
          .next { s with clk := { s.clk with resetN := true, bootSrc := src % 4, t0 := s.clk.cycle } }))
    ∧ (∀ p, (s.serves = false ∨ 6 ≤ s.node G.START_PHASE → exec (.startPhaseEnd p) s = .next s)
      ∧ (s.serves = true → (s.node G.START_PHASE = 0 ∨ s.node G.START_PHASE = 3 ∨ s.node G.START_PHASE = 4) →
        let n := s.node G.START_PHASE
        exec (.startPhaseEnd p) s = .next ((s.noteTime n p.atUs).setNum 16 G.START_PHASE (n + 1))
          ∧ ((s.noteTime n p.atUs).setNum 16 G.START_PHASE (n + 1)).node G.START_PHASE = n + 1)
      ∧ (s.serves = true → s.node G.START_PHASE = 5 →
        ∃ t, exec (.startPhaseEnd p) s = .next t ∧ t.node G.START_PHASE = 6 ∧ t.tickNo = 0
          ∧ t.tick.nextAt = s.clk.cycle + 1200000 ∧ t.tick.lastAt = s.clk.cycle ∧ t.mem = s.mem ∧ t.sched = s.sched))
    ∧ (∀ a, a < 128 → exec (.dynamicAddressAssignment a) s =
        if s.alive && s.node G.I3C_ENABLE == 1 then .next { s with clk := { s.clk with dynAddr := some a } } else .next s)

/-- VCORE_EMERGENCY, VCORE_MARGIN, VR_POLL, VR_ALERT, REFCLK_CHECK and THERMAL_SAMPLE. -/
def Obligations.SensorsActOnVoltageHeatAndClock : Prop :=
  ∀ s : State,
    (∀ m, (s.serves = false ∨ s.node G.VMARGIN_FLOOR_PS ≤ m →
        exec (.vcoreEmergency m) s = .next s ∧ exec (.vcoreMargin m) s = .next s)
      ∧ (s.serves = true → m < s.node G.VMARGIN_FLOOR_PS →
        (∃ t, exec (.vcoreEmergency m) s = .next t ∧ t.clk.emergencyAt = some s.tickNo ∧ t.clk.quietTicks = 0
          ∧ t.clk.setpointMv = (if s.clk.vrFails.contains 0 then s.clk.setpointMv else min 820 (s.clk.setpointMv + 5))
          ∧ t.node G.VCORE_EMERGENCY = (s.node G.VCORE_EMERGENCY + 1) % typeMod G.VCORE_EMERGENCY
          ∧ t.mem = s.mem ∧ t.sched = s.sched)
        ∧ (s.vcoreAtTop = true → exec (.vcoreMargin m) s = .next ((s.nodeEvent Code.VCORE_MARGIN 0 0).nodeFault))
        ∧ (s.vcoreAtTop = false → exec (.vcoreMargin m) s = .next s)))
    ∧ (∀ rails, (s.serves = false → exec (.vrPoll rails) s = .next s ∧ exec (.vrAlert rails) s = .next s)
      ∧ (s.serves = true → exec (.vrPoll rails) s = .next (s.readRails rails true)
        ∧ exec (.vrAlert rails) s = .next (s.readRails rails false)))
    ∧ (∀ (ppb : Int) (spread : Nat) (cxl : Int),
      let u := s.setReg 16 G.REF_STATUS (.blob (toLe 4 (wrapInt 32 ppb) ++ toLe 4 (wrapInt 32 cxl)))
      let bad := 100000 < ppb.natAbs ∨ 20000 < spread
      (s.alive = false → exec (.refclkCheck ppb spread cxl) s = .next s)
      ∧ (s.alive = true →
        (bad → s.clk.refBad = true → exec (.refclkCheck ppb spread cxl) s =
          .next { u with clk := { s.clk with refBad := true, refGoodMs := 0 } })
        ∧ (bad → s.clk.refBad = false → exec (.refclkCheck ppb spread cxl) s =
          .next (({ u with clk := { s.clk with refBad := true, refGoodMs := 0 } }).holdPorts.nodeEvent Code.REFCLK_OUT 0 0))
        ∧ (¬ bad → s.clk.refBad = false → exec (.refclkCheck ppb spread cxl) s = .next u)
        ∧ (¬ bad → s.clk.refBad = true → s.clk.refGoodMs < 99 → exec (.refclkCheck ppb spread cxl) s =
          .next { u with clk := { s.clk with refGoodMs := s.clk.refGoodMs + 1 } })
        ∧ (¬ bad → s.clk.refBad = true → 99 ≤ s.clk.refGoodMs →
          ∃ t, exec (.refclkCheck ppb spread cxl) s = .next t ∧ t.clk.refBad = false ∧ t.clk.refGoodMs = 0)))
    ∧ (∀ temps : TempIn, (s.serves = false → exec (.thermalSample temps) s = .next s)
      ∧ (s.serves = true → temps.length = 9 → s.timedEntry 0x103 0 = none →
        ∃ t, exec (.thermalSample temps) s = .next t
          ∧ ((1760 ≤ nth 0 temps 0 ∨ (temps.drop 1).any (fun x => decide (1600 ≤ x)) = true) → s.clk.thermTripN = false →
            ∃ l, t.out = l ++ [.thermTrip true])
          ∧ (nth 0 temps 0 < 1760 → (temps.drop 1).any (fun x => decide (1600 ≤ x)) = false →
            t.clk.thermTripN = s.clk.thermTripN)))

/-- SCRUB_READ, REMAP_APPLIED, CHANNEL_SPARED, CHANNEL_FILL and REPAIR_RECORD_WRITE. -/
def Obligations.ScrubsAndRepairsFollowTheirRules : Prop :=
  (∀ (s : State) (mc inst : Nat), inst < instCount mc → mc < 3 →
    let sc := s.rel.scrubs.get Scrub.reset (scrubKey mc inst)
    (s.scrubReady mc inst sc = false → ∀ f, exec (.scrubRead mc inst f) s = .next s)
    ∧ (s.scrubReady mc inst sc = true → (mc = 2 ∨ s.timedEntry 0x015 (if mc = 0 then inst else 256 + inst) = none) →
      findOf (s.storedAt mc inst sc.next) .asStored = .clean → sc.slow = false →
      s.clk.cycle ≤ sc.lapAt + s.node G.SCRUB_LAP_LIMIT_S * 2400000000 →
      ∃ t, exec (.scrubRead mc inst .asStored) s = .next t ∧ t = { s with rel := { s.rel with scrubs := t.rel.scrubs } }
        ∧ (∀ k, k ≠ scrubKey mc inst → t.rel.scrubs.get Scrub.reset k = s.rel.scrubs.get Scrub.reset k)
        ∧ t.rel.scrubs.get Scrub.reset (scrubKey mc inst) =
          if sc.next + 1 < instWords mc then { sc with next := sc.next + 1, lastAt := s.clk.cycle }
          else { sc with next := 0, lastAt := s.clk.cycle, lapMs := (s.clk.cycle - sc.lapAt) / 2400000
                         laps := sc.laps + 1, lapAt := s.clk.cycle, ce := [] }))
  ∧ (∀ (s : State) (inst : Nat), inst < instCount 3 → exec (.scrubRead 3 inst .asStored) s = .next s)
  ∧ (∀ (s : State) (mc inst row : Nat), inst < instCount mc → mc < 3 →
    (s.rel.remapping.contains (mc, inst, row) = false ∨ (mc = 0 ∧ bit (s.unit inst).mode 0 = true) →
      exec (.remapApplied mc inst row) s = .next s)
    ∧ (s.rel.remapping.contains (mc, inst, row) = true → (mc = 0 → bit (s.unit inst).mode 0 = false) →
      ∃ t, exec (.remapApplied mc inst row) s = .next t ∧ t.rel.remaps = s.rel.remaps ++ [(mc, inst, row)]
        ∧ t.rel.remapping = s.rel.remapping.erase (mc, inst, row)
        ∧ t.rel.pendingRepairs.length = s.rel.pendingRepairs.length + 1))
  ∧ (∀ (s : State) (ch : Nat), ch < 256 →
    ((s.unit ch).sparing = false ∨ bit (s.unit ch).mode 0 = true → exec (.channelSpared ch) s = .next s)
    ∧ ((s.unit ch).sparing = true → bit (s.unit ch).mode 0 = false →
      ∃ t, exec (.channelSpared ch) s = .next t ∧ t.unit ch = { s.unit ch with sparing := false }
        ∧ (∀ g, g ≠ ch → t.unit g = s.unit g) ∧ (∀ x ∈ t.rel.remaps, ¬ (x.1 = 0 ∧ x.2.1 = ch)))
    ∧ ((s.unit ch).filling = false → exec (.channelFill ch) s = .next s)
    ∧ ((s.unit ch).filling = true →
      ∃ t, exec (.channelFill ch) s = .next t ∧ t.unit ch = { s.unit ch with filling := false }
        ∧ (∀ x, ch * 3221225472 ≤ x → x < (ch + 1) * 3221225472 → t.mem.byte x = 0 ∧ t.mem.wordState (x / 64) = .clean)
        ∧ (∀ x, x < ch * 3221225472 ∨ (ch + 1) * 3221225472 ≤ x →
          t.mem.byte x = s.mem.byte x ∧ t.mem.wordState (x / 64) = s.mem.wordState (x / 64))))
  ∧ (∀ s : State,
    (∀ ok, s.rel.pendingRepairs = [] ∨ s.bootWritable = false ∨ s.serves = false → exec (.repairRecordWrite ok) s = .next s)
    ∧ (s.rel.pendingRepairs ≠ [] → s.bootWritable = true → s.serves = true →
      (exec (.repairRecordWrite false) s = .next (s.nodeEvent Code.REPAIR_WRITE_FAIL 0 0))
      ∧ ∃ t, exec (.repairRecordWrite true) s = .next t ∧ t.rel.pendingRepairs = [] ∧ t.node G.REPAIR_PENDING = 0
        ∧ t.rel.record = repairRecord (RepR.generation s.rel.record + 1) (RepR.factory s.rel.record)
            ((RepR.entries s.rel.record ++ s.rel.pendingRepairs).take 4096)
        ∧ t.boot (if RepR.generation (s.boot 14) ≤ RepR.generation (s.boot 15) then 14 else 15) = t.rel.record))

/-- DUMP_RECORD, ATTEST_REPORT and LEASE_REVOKED. -/
def Obligations.DumpsReportsAndLeasesEndInTheirRegisters : Prop :=
  (∀ s : State, (s.ctr.stages = [] → exec .dumpRecord s = .next s)
    ∧ (∀ st rest, s.ctr.stages = st :: rest →
      let size := s.node G.DUMP_RING_BYTES
      let wr := s.node G.DUMP_WRITE_PTR
      (size < st.bytes.length ∨ 16 ≤ s.node G.DUMP_RING_INSET → exec .dumpRecord s = .next s)
      ∧ (s.node G.DUMP_RING_INSET < 16 → 64 ≤ st.bytes.length → wr + st.bytes.length ≤ size → size < 2 ^ 32 →
        ∃ t, exec .dumpRecord s = .next t ∧ t.ctr.stages = rest ∧ t.ctr.dumpSeq = s.ctr.dumpSeq + 1
          ∧ t.node G.DUMP_WRITE_PTR = (wr + st.bytes.length) % size)))
  ∧ (∀ (s : State) (i : Nat), i < 16 →
    (∀ ok, s.sec.signing = [] → exec (.attestReport i ok) s = .next s)
    ∧ (∀ j req rest, s.sec.signing = (j, req) :: rest →
      (j ≠ i → ∀ ok, exec (.attestReport i ok) s = .next s)
      ∧ (j = i → s.timedEntry 0x101 0 = none →
        exec (.attestReport i true) s = .next (({ s with sec := { s.sec with signing := rest } }).setReg i G.ATTEST_REPORT
          (.blob (({ s with sec := { s.sec with signing := rest } }).report i req))))))
  ∧ (∀ (s : State) (n : Nat), n < 16384 → (∀ i, i < 16 → s.leaseUsers n i = []) →
    let o := s.syncObj n
    let limit := match Dict.syncOwner s.gaz.regs n with
      | some i => s.num i G.LEASE_TIMEOUT
      | none => 10000
    (o.kind ≠ 1 ∨ o.held = false ∨ o.home ≠ s.nodeId ∨ s.clk.cycle < o.renewAt + usCycles limit →
      exec (.leaseRevoked n) s = .next s)
    ∧ (o.kind = 1 → o.held = true → o.home = s.nodeId → o.renewAt + usCycles limit ≤ s.clk.cycle → o.holder ≠ s.nodeId →
      exec (.leaseRevoked n) s = .next ((s.leaseFree n).syncSend 4 o.holder n 3 o.hInset 0 [])
        ∧ ((s.leaseFree n).syncObj n).held = false))

/-- CKPT_MANIFEST, ZQ_CAL, FLASH_CHANNEL_RESET, REBUILD, RESTORE_END and SWITCH_END. -/
def Obligations.FlashAndInsetMaintenanceComplete : Prop :=
  (∀ (s : State) (i : Nat) (ok : Bool), i < 16 →
    (s.num i G.CKPT_STATE ≠ 1 ∨ (s.inset i).ckpt.left ≠ [] ∨ (s.inset i).ckpt.programmed = true →
      exec (.ckptManifest i ok) s = .next s)
    ∧ (s.num i G.CKPT_STATE = 1 → (s.inset i).ckpt.left = [] → (s.inset i).ckpt.programmed = false →
      exec (.ckptManifest i false) s = .next (s.abortCkpt i Code.CKPT_FLASH_FAIL)
      ∧ ∀ u, s.programPages i (mapIdxFrom (fun j b => (Dict.manifestLpn s.gaz.regs i
            (if (s.inset i).ckpt.area = 0 then 1 else 0) j, b)) 0 (s.manifest i)) = some u →
        ∃ t, exec (.ckptManifest i true) s = .next t ∧ (t.inset i).ckpt.programmed = true ∧ t.flash = u.flash ∧ t.mem = u.mem))
  ∧ (∀ (s : State) (ch : Nat), ch < 32 →
    let due := s.flashUp ch = true ∧ s.inBgWindow ch = true
      ∧ s.flash.zqAt.get 0 ch + s.node G.ZQ_INTERVAL * 2400000 ≤ s.clk.cycle
    (¬ due → exec (.zqCal ch) s = .next s)
    ∧ (due → exec (.zqCal ch) s =
        .next { s with flash := { s.flash with zqAt := s.flash.zqAt.set ch s.clk.cycle } })
    ∧ (∀ trained m falls, trainMode trained (min (s.node G.FLASH_MODE_TARGET) (geoOf (Dict.flashSeq s.gaz.regs)).modeMax) 0 = (some m, falls) →
      ∃ t, exec (.flashChannelReset ch trained) s = .next t ∧ t.flash.modes.get 99 ch = m
        ∧ t.flash.zqAt.get 0 ch = s.clk.cycle ∧ t.flash.pages = s.flash.pages ∧ t.mem = s.mem)
    ∧ (∀ trained falls, trainMode trained (min (s.node G.FLASH_MODE_TARGET) (geoOf (Dict.flashSeq s.gaz.regs)).modeMax) 0 = (none, falls) →
      ∃ t, exec (.flashChannelReset ch trained) s = .next t ∧ Tab.find t.flash.modes ch = none))
  ∧ (∀ (s : State) (phys : List FlashRead),
    (s.flash.rebuilt ≠ 2 → exec (.rebuild phys) s = .next s)
    ∧ (s.flash.rebuilt = 2 → ∃ t, exec (.rebuild phys) s = .next t ∧ t.flash.rebuilt = 1 ∧ t.flash.mapBad = []
      ∧ t.flash.pages = s.flash.pages ∧ t.mem = s.mem))
  ∧ (∀ (s : State) (i : Nat), i < 16 →
    (∀ phys, (s.inset i).ckpt.restoring = none → exec (.restoreEnd i phys) s = .next s)
    ∧ (∀ phys area, (s.inset i).ckpt.restoring = some area →
      ∃ t, exec (.restoreEnd i phys) s = .next t ∧ t.num i G.CKPT_STATE = 0
        ∧ (t.inset i).ckpt = { Ckpt.idle with area := area })
    ∧ ((s.inset i).switch = none ∨ (∃ w, (s.inset i).switch = some w ∧ w.reported = true) →
      exec (.switchEnd i) s = .next s)
    ∧ (∀ w, (s.inset i).switch = some w → w.reported = false →
      ∃ t v, exec (.switchEnd i) s = .next t ∧ (t.inset i).switch = some v ∧ v.reported = true))
end

