-- ==== Sys2Proof/Laws/Dispatch.lean ====
section
/-!
SUPPORT. Each arm of exec as an equation, so that no later proof unfolds the whole dispatch, and the two cases of a step.
-/

namespace Sys2Proof.Machine

theorem exec_tickBoundary (b : BoundaryIn) (s : State) : exec (.tickBoundary b) s = execTickBoundary b s := by
  unfold exec; rfl
theorem exec_boundaryMessage (m : TickIn) (s : State) : exec (.boundaryMessage m) s = execBoundaryMessage m s := by
  unfold exec; rfl
theorem exec_holdover (s : State) : exec .holdover s = execHoldover s := by
  unfold exec; rfl
theorem exec_tickUnlock (s : State) : exec .tickUnlock s = execTickUnlock s := by
  unfold exec; rfl
theorem exec_masterFailover (s : State) : exec .masterFailover s = execMasterFailover s := by
  unfold exec; rfl
theorem exec_masterWait (s : State) : exec .masterWait s = execMasterWait s := by
  unfold exec; rfl
theorem exec_tickSend (members : List (Nat × List Nat)) (s : State) : exec (.tickSend members) s = execTickSend members s := by
  unfold exec; rfl
theorem exec_commandIssue (c : CmdRef) (s : State) : exec (.commandIssue c) s = execCommandIssue c s := by
  unfold exec; rfl
theorem exec_commitPoint (c : CmdRef) (s : State) : exec (.commitPoint c) s = execCommitPoint c s := by
  unfold exec; rfl
theorem exec_drainEnd (c : CmdRef) (badStage : List Nat) (s : State) : exec (.drainEnd c badStage) s = execDrainEnd c badStage s := by
  unfold exec; rfl
theorem exec_overrunAbandon (inset : Nat) (s : State) : exec (.overrunAbandon inset) s = execOverrunAbandon inset s := by
  unfold exec; rfl
theorem exec_matmul (c : CmdRef) (hw : Hw) (s : State) : exec (.matmul c hw) s = execMatmul c hw s := by
  unfold exec; rfl
theorem exec_add (c : CmdRef) (hw : Hw) (s : State) : exec (.add c hw) s = execAdd c hw s := by
  unfold exec; rfl
theorem exec_sub (c : CmdRef) (hw : Hw) (s : State) : exec (.sub c hw) s = execSub c hw s := by
  unfold exec; rfl
theorem exec_mul (c : CmdRef) (hw : Hw) (s : State) : exec (.mul c hw) s = execMul c hw s := by
  unfold exec; rfl
theorem exec_fma (c : CmdRef) (hw : Hw) (s : State) : exec (.fma c hw) s = execFma c hw s := by
  unfold exec; rfl
theorem exec_min (c : CmdRef) (hw : Hw) (s : State) : exec (.min c hw) s = execMin c hw s := by
  unfold exec; rfl
theorem exec_max (c : CmdRef) (hw : Hw) (s : State) : exec (.max c hw) s = execMax c hw s := by
  unfold exec; rfl
theorem exec_abs (c : CmdRef) (hw : Hw) (s : State) : exec (.abs c hw) s = execAbs c hw s := by
  unfold exec; rfl
theorem exec_neg (c : CmdRef) (hw : Hw) (s : State) : exec (.neg c hw) s = execNeg c hw s := by
  unfold exec; rfl
theorem exec_relu (c : CmdRef) (hw : Hw) (s : State) : exec (.relu c hw) s = execRelu c hw s := by
  unfold exec; rfl
theorem exec_cmpGt (c : CmdRef) (hw : Hw) (s : State) : exec (.cmpGt c hw) s = execCmpGt c hw s := by
  unfold exec; rfl
theorem exec_vectorSelect (c : CmdRef) (hw : Hw) (s : State) : exec (.vectorSelect c hw) s = execVectorSelect c hw s := by
  unfold exec; rfl
theorem exec_cvt (c : CmdRef) (hw : Hw) (s : State) : exec (.cvt c hw) s = execCvt c hw s := by
  unfold exec; rfl
theorem exec_exp (c : CmdRef) (hw : Hw) (s : State) : exec (.exp c hw) s = execExp c hw s := by
  unfold exec; rfl
theorem exec_log (c : CmdRef) (hw : Hw) (s : State) : exec (.log c hw) s = execLog c hw s := by
  unfold exec; rfl
theorem exec_recip (c : CmdRef) (hw : Hw) (s : State) : exec (.recip c hw) s = execRecip c hw s := by
  unfold exec; rfl
theorem exec_rsqrt (c : CmdRef) (hw : Hw) (s : State) : exec (.rsqrt c hw) s = execRsqrt c hw s := by
  unfold exec; rfl
theorem exec_tanh (c : CmdRef) (hw : Hw) (s : State) : exec (.tanh c hw) s = execTanh c hw s := by
  unfold exec; rfl
theorem exec_sigmoid (c : CmdRef) (hw : Hw) (s : State) : exec (.sigmoid c hw) s = execSigmoid c hw s := by
  unfold exec; rfl
theorem exec_gelu (c : CmdRef) (hw : Hw) (s : State) : exec (.gelu c hw) s = execGelu c hw s := by
  unfold exec; rfl
theorem exec_rowSum (c : CmdRef) (hw : Hw) (s : State) : exec (.rowSum c hw) s = execRowSum c hw s := by
  unfold exec; rfl
theorem exec_rowMax (c : CmdRef) (hw : Hw) (s : State) : exec (.rowMax c hw) s = execRowMax c hw s := by
  unfold exec; rfl
theorem exec_rowSumsq (c : CmdRef) (hw : Hw) (s : State) : exec (.rowSumsq c hw) s = execRowSumsq c hw s := by
  unfold exec; rfl
theorem exec_quant (c : CmdRef) (hw : Hw) (s : State) : exec (.quant c hw) s = execQuant c hw s := by
  unfold exec; rfl
theorem exec_dequant (c : CmdRef) (hw : Hw) (s : State) : exec (.dequant c hw) s = execDequant c hw s := by
  unfold exec; rfl
theorem exec_range (c : CmdRef) (hw : Hw) (s : State) : exec (.range c hw) s = execRange c hw s := by
  unfold exec; rfl
theorem exec_select (c : CmdRef) (hw : Hw) (s : State) : exec (.select c hw) s = execSelect c hw s := by
  unfold exec; rfl
theorem exec_sort (c : CmdRef) (hw : Hw) (s : State) : exec (.sort c hw) s = execSort c hw s := by
  unfold exec; rfl
theorem exec_merge (c : CmdRef) (hw : Hw) (s : State) : exec (.merge c hw) s = execMerge c hw s := by
  unfold exec; rfl
theorem exec_kth (c : CmdRef) (hw : Hw) (s : State) : exec (.kth c hw) s = execKth c hw s := by
  unfold exec; rfl
theorem exec_searchStart (c : CmdRef) (hw : Hw) (s : State) : exec (.searchStart c hw) s = execSearchStart c hw s := by
  unfold exec; rfl
theorem exec_searchExpand (c : CmdRef) (hw : Hw) (s : State) : exec (.searchExpand c hw) s = execSearchExpand c hw s := by
  unfold exec; rfl
theorem exec_searchFetchList (c : CmdRef) (hw : Hw) (s : State) : exec (.searchFetchList c hw) s = execSearchFetchList c hw s := by
  unfold exec; rfl
theorem exec_searchFinish (c : CmdRef) (hw : Hw) (s : State) : exec (.searchFinish c hw) s = execSearchFinish c hw s := by
  unfold exec; rfl
theorem exec_insertLink (c : CmdRef) (hw : Hw) (s : State) : exec (.insertLink c hw) s = execInsertLink c hw s := by
  unfold exec; rfl
theorem exec_delete (c : CmdRef) (hw : Hw) (s : State) : exec (.delete c hw) s = execDelete c hw s := by
  unfold exec; rfl
theorem exec_consolidate (c : CmdRef) (hw : Hw) (s : State) : exec (.consolidate c hw) s = execConsolidate c hw s := by
  unfold exec; rfl
theorem exec_embRoute (c : CmdRef) (hw : Hw) (s : State) : exec (.embRoute c hw) s = execEmbRoute c hw s := by
  unfold exec; rfl
theorem exec_embFetchList (c : CmdRef) (hw : Hw) (s : State) : exec (.embFetchList c hw) s = execEmbFetchList c hw s := by
  unfold exec; rfl
theorem exec_embServe (c : CmdRef) (hw : Hw) (s : State) : exec (.embServe c hw) s = execEmbServe c hw s := by
  unfold exec; rfl
theorem exec_embPool (c : CmdRef) (hw : Hw) (s : State) : exec (.embPool c hw) s = execEmbPool c hw s := by
  unfold exec; rfl
theorem exec_embScatter (c : CmdRef) (hw : Hw) (s : State) : exec (.embScatter c hw) s = execEmbScatter c hw s := by
  unfold exec; rfl
theorem exec_embApply (c : CmdRef) (hw : Hw) (s : State) : exec (.embApply c hw) s = execEmbApply c hw s := by
  unfold exec; rfl
theorem exec_rowReplace (c : CmdRef) (hw : Hw) (s : State) : exec (.rowReplace c hw) s = execRowReplace c hw s := by
  unfold exec; rfl
theorem exec_surveyClose (c : CmdRef) (hw : Hw) (s : State) : exec (.surveyClose c hw) s = execSurveyClose c hw s := by
  unfold exec; rfl
theorem exec_placeDecide (c : CmdRef) (hw : Hw) (s : State) : exec (.placeDecide c hw) s = execPlaceDecide c hw s := by
  unfold exec; rfl
theorem exec_migFetchList (c : CmdRef) (hw : Hw) (s : State) : exec (.migFetchList c hw) s = execMigFetchList c hw s := by
  unfold exec; rfl
theorem exec_migSend (c : CmdRef) (hw : Hw) (s : State) : exec (.migSend c hw) s = execMigSend c hw s := by
  unfold exec; rfl
theorem exec_chartCommit (c : CmdRef) (hw : Hw) (s : State) : exec (.chartCommit c hw) s = execChartCommit c hw s := by
  unfold exec; rfl
theorem exec_atlasSwitch (c : CmdRef) (hw : Hw) (s : State) : exec (.atlasSwitch c hw) s = execAtlasSwitch c hw s := by
  unfold exec; rfl
theorem exec_bsuMode (c : CmdRef) (s : State) : exec (.bsuMode c) s = execBsuMode c s := by
  unfold exec; rfl
theorem exec_modeChangeSequence (channel : Nat) (s : State) : exec (.modeChangeSequence channel) s = execModeChangeSequence channel s := by
  unfold exec; rfl
theorem exec_bsuRun (c : CmdRef) (hw : Hw) (s : State) : exec (.bsuRun c hw) s = execBsuRun c hw s := by
  unfold exec; rfl
theorem exec_bsuQload (c : CmdRef) (hw : Hw) (s : State) : exec (.bsuQload c hw) s = execBsuQload c hw s := by
  unfold exec; rfl
theorem exec_scoreSketch (c : CmdRef) (op : Nat) (hw : Hw) (s : State) : exec (.scoreSketch c op hw) s = execScoreSketch c op hw s := by
  unfold exec; rfl
theorem exec_dotI8 (c : CmdRef) (op : Nat) (hw : Hw) (s : State) : exec (.dotI8 c op hw) s = execDotI8 c op hw s := by
  unfold exec; rfl
theorem exec_l2I8 (c : CmdRef) (op : Nat) (hw : Hw) (s : State) : exec (.l2I8 c op hw) s = execL2I8 c op hw s := by
  unfold exec; rfl
theorem exec_cmpSelect (c : CmdRef) (op : Nat) (hw : Hw) (s : State) : exec (.cmpSelect c op hw) s = execCmpSelect c op hw s := by
  unfold exec; rfl
theorem exec_poolRows (c : CmdRef) (op : Nat) (hw : Hw) (s : State) : exec (.poolRows c op hw) s = execPoolRows c op hw s := by
  unfold exec; rfl
theorem exec_fill (c : CmdRef) (op : Nat) (hw : Hw) (s : State) : exec (.fill c op hw) s = execFill c op hw s := by
  unfold exec; rfl
theorem exec_copy (c : CmdRef) (op : Nat) (hw : Hw) (s : State) : exec (.copy c op hw) s = execCopy c op hw s := by
  unfold exec; rfl
theorem exec_bsuHoldPoison (channel : Nat) (s : State) : exec (.bsuHoldPoison channel) s = execBsuHoldPoison channel s := by
  unfold exec; rfl
theorem exec_apertureEnqueue (channel : Nat) (slot : Nat) (data : Bytes) (s : State) : exec (.apertureEnqueue channel slot data) s = execApertureEnqueue channel slot data s := by
  unfold exec; rfl
theorem exec_apFlush (channel : Nat) (s : State) : exec (.apFlush channel) s = execApFlush channel s := by
  unfold exec; rfl
theorem exec_dmCopy (c : CmdRef) (hw : Hw) (s : State) : exec (.dmCopy c hw) s = execDmCopy c hw s := by
  unfold exec; rfl
theorem exec_dmFill (c : CmdRef) (hw : Hw) (s : State) : exec (.dmFill c hw) s = execDmFill c hw s := by
  unfold exec; rfl
theorem exec_dmHostRead (c : CmdRef) (reply : HostData) (s : State) : exec (.dmHostRead c reply) s = execDmHostRead c reply s := by
  unfold exec; rfl
theorem exec_blockTranspose (c : CmdRef) (hw : Hw) (s : State) : exec (.blockTranspose c hw) s = execBlockTranspose c hw s := by
  unfold exec; rfl
theorem exec_ckptCapture (c : CmdRef) (hw : Hw) (s : State) : exec (.ckptCapture c hw) s = execCkptCapture c hw s := by
  unfold exec; rfl
theorem exec_hostAdmit (c : CmdRef) (hw : Hw) (s : State) : exec (.hostAdmit c hw) s = execHostAdmit c hw s := by
  unfold exec; rfl
theorem exec_hostComplete (c : CmdRef) (hw : Hw) (s : State) : exec (.hostComplete c hw) s = execHostComplete c hw s := by
  unfold exec; rfl
theorem exec_scribeGather (c : CmdRef) (reads : List FlashRead) (s : State) : exec (.scribeGather c reads) s = execScribeGather c reads s := by
  unfold exec; rfl
theorem exec_scribeWrite (c : CmdRef) (phys : FlashPhys) (s : State) : exec (.scribeWrite c phys) s = execScribeWrite c phys s := by
  unfold exec; rfl
theorem exec_ckptWindow (c : CmdRef) (phys : FlashPhys) (s : State) : exec (.ckptWindow c phys) s = execCkptWindow c phys s := by
  unfold exec; rfl
theorem exec_ckptManifest (inset : Nat) (programmed : Bool) (s : State) : exec (.ckptManifest inset programmed) s = execCkptManifest inset programmed s := by
  unfold exec; rfl
theorem exec_bgWindow (c : CmdRef) (phys : FlashPhys) (s : State) : exec (.bgWindow c phys) s = execBgWindow c phys s := by
  unfold exec; rfl
theorem exec_zqCal (channel : Nat) (s : State) : exec (.zqCal channel) s = execZqCal channel s := by
  unfold exec; rfl
theorem exec_flashChannelReset (channel : Nat) (trained : List Nat) (s : State) : exec (.flashChannelReset channel trained) s = execFlashChannelReset channel trained s := by
  unfold exec; rfl
theorem exec_rebuild (phys : List FlashRead) (s : State) : exec (.rebuild phys) s = execRebuild phys s := by
  unfold exec; rfl
theorem exec_flashFormat (r : GazReq) (s : State) : exec (.flashFormat r) s = execFlashFormat r s := by
  unfold exec; rfl
theorem exec_ckptRestore (r : GazReq) (s : State) : exec (.ckptRestore r) s = execCkptRestore r s := by
  unfold exec; rfl
theorem exec_restoreEnd (inset : Nat) (phys : List FlashRead) (s : State) : exec (.restoreEnd inset phys) s = execRestoreEnd inset phys s := by
  unfold exec; rfl
theorem exec_portTraining (port : Nat) (t : TrainIn) (s : State) : exec (.portTraining port t) s = execPortTraining port t s := by
  unfold exec; rfl
theorem exec_trainingTimeout (port : Nat) (s : State) : exec (.trainingTimeout port) s = execTrainingTimeout port s := by
  unfold exec; rfl
theorem exec_flitReceive (port : Nat) (flit : FlitIn) (s : State) : exec (.flitReceive port flit) s = execFlitReceive port flit s := by
  unfold exec; rfl
theorem exec_nak (port : Nat) (seq : Nat) (s : State) : exec (.nak port seq) s = execNak port seq s := by
  unfold exec; rfl
theorem exec_laneSerWindow (port : Nat) (lane : Nat) (errors : Nat) (symbols : Nat) (lockLost : Bool) (s : State) : exec (.laneSerWindow port lane errors symbols lockLost) s = execLaneSerWindow port lane errors symbols lockLost s := by
  unfold exec; rfl
theorem exec_laneSwap (port : Nat) (lane : Nat) (spare : Nat) (codeword : Nat) (s : State) : exec (.laneSwap port lane spare codeword) s = execLaneSwap port lane spare codeword s := by
  unfold exec; rfl
theorem exec_linkDown (port : Nat) (s : State) : exec (.linkDown port) s = execLinkDown port s := by
  unfold exec; rfl
theorem exec_portSwap (port : Nat) (spare : Nat) (s : State) : exec (.portSwap port spare) s = execPortSwap port spare s := by
  unfold exec; rfl
theorem exec_probe (port : Nat) (t1 : Nat) (t2 : Nat) (t3 : Nat) (t4 : Nat) (s : State) : exec (.probe port t1 t2 t3 t4) s = execProbe port t1 t2 t3 t4 s := by
  unfold exec; rfl
theorem exec_delayProbe (port : Nat) (t1 : Nat) (s : State) : exec (.delayProbe port t1) s = execDelayProbe port t1 s := by
  unfold exec; rfl
theorem exec_presetReq (port : Nat) (lane : Nat) (preset : Nat) (codeword : Nat) (s : State) : exec (.presetReq port lane preset codeword) s = execPresetReq port lane preset codeword s := by
  unfold exec; rfl
theorem exec_retrain (port : Nat) (s : State) : exec (.retrain port) s = execRetrain port s := by
  unfold exec; rfl
theorem exec_put (m : Msg) (s : State) : exec (.put m) s = execPut m s := by
  unfold exec; rfl
theorem exec_a2aSlot (m : Msg) (s : State) : exec (.a2aSlot m) s = execA2aSlot m s := by
  unfold exec; rfl
theorem exec_done (m : Msg) (s : State) : exec (.done m) s = execDone m s := by
  unfold exec; rfl
theorem exec_token (m : Msg) (s : State) : exec (.token m) s = execToken m s := by
  unfold exec; rfl
theorem exec_lease (m : Msg) (s : State) : exec (.lease m) s = execLease m s := by
  unfold exec; rfl
theorem exec_barrier (m : Msg) (s : State) : exec (.barrier m) s = execBarrier m s := by
  unfold exec; rfl
theorem exec_mgmtReq (m : Msg) (s : State) : exec (.mgmtReq m) s = execMgmtReq m s := by
  unfold exec; rfl
theorem exec_mgmtRsp (m : Msg) (s : State) : exec (.mgmtRsp m) s = execMgmtRsp m s := by
  unfold exec; rfl
theorem exec_event (m : Msg) (s : State) : exec (.event m) s = execEvent m s := by
  unfold exec; rfl
theorem exec_torusPut (c : CmdRef) (s : State) : exec (.torusPut c) s = execTorusPut c s := by
  unfold exec; rfl
theorem exec_torusWait (c : CmdRef) (s : State) : exec (.torusWait c) s = execTorusWait c s := by
  unfold exec; rfl
theorem exec_torusA2a (c : CmdRef) (s : State) : exec (.torusA2a c) s = execTorusA2a c s := by
  unfold exec; rfl
theorem exec_sqTail (fn : Nat) (queue : Nat) (value : Nat) (s : State) : exec (.sqTail fn queue value) s = execSqTail fn queue value s := by
  unfold exec; rfl
theorem exec_queueConfig (fn : Nat) (queue : Nat) (field : Nat) (value : Nat) (s : State) : exec (.queueConfig fn queue field value) s = execQueueConfig fn queue field value s := by
  unfold exec; rfl
theorem exec_shaperRelease (flow : Nat) (s : State) : exec (.shaperRelease flow) s = execShaperRelease flow s := by
  unfold exec; rfl
theorem exec_egressSelect (port : Nat) (s : State) : exec (.egressSelect port) s = execEgressSelect port s := by
  unfold exec; rfl
theorem exec_gateEntry (port : Nat) (s : State) : exec (.gateEntry port) s = execGateEntry port s := by
  unfold exec; rfl
theorem exec_tmSample (inset : Nat) (s : State) : exec (.tmSample inset) s = execTmSample inset s := by
  unfold exec; rfl
theorem exec_depthSample (s : State) : exec .depthSample s = execDepthSample s := by
  unfold exec; rfl
theorem exec_switchEnd (inset : Nat) (s : State) : exec (.switchEnd inset) s = execSwitchEnd inset s := by
  unfold exec; rfl
theorem exec_preempt (r : GazReq) (s : State) : exec (.preempt r) s = execPreempt r s := by
  unfold exec; rfl
theorem exec_insetReset (r : GazReq) (s : State) : exec (.insetReset r) s = execInsetReset r s := by
  unfold exec; rfl
theorem exec_leaseRevoked (sync : Nat) (s : State) : exec (.leaseRevoked sync) s = execLeaseRevoked sync s := by
  unfold exec; rfl
theorem exec_intHoldoff (inset : Nat) (vector : Nat) (s : State) : exec (.intHoldoff inset vector) s = execIntHoldoff inset vector s := by
  unfold exec; rfl
theorem exec_cxlMemRead (hpa : Nat) (noc : Bool) (s : State) : exec (.cxlMemRead hpa noc) s = execCxlMemRead hpa noc s := by
  unfold exec; rfl
theorem exec_cxlMemWrite (hpa : Nat) (data : Bytes) (mask : Nat) (poison : Bool) (s : State) : exec (.cxlMemWrite hpa data mask poison) s = execCxlMemWrite hpa data mask poison s := by
  unfold exec; rfl
theorem exec_controlCoreAccess (a : CoreAccess) (s : State) : exec (.controlCoreAccess a) s = execControlCoreAccess a s := by
  unfold exec; rfl
theorem exec_hdmCommit (decoder : Nat) (base : Nat) (size : Nat) (ways : Nat) (s : State) : exec (.hdmCommit decoder base size ways) s = execHdmCommit decoder base size ways s := by
  unfold exec; rfl
theorem exec_cxlSnoop (addr : Nat) (s : State) : exec (.cxlSnoop addr) s = execCxlSnoop addr s := by
  unfold exec; rfl
theorem exec_cxlConfigRequest (addr : Nat) (s : State) : exec (.cxlConfigRequest addr) s = execCxlConfigRequest addr s := by
  unfold exec; rfl
theorem exec_getSupportedLogs (fn : Nat) (s : State) : exec (.getSupportedLogs fn) s = execGetSupportedLogs fn s := by
  unfold exec; rfl
theorem exec_getLog (fn : Nat) (uuid : Bytes) (offset : Nat) (length : Nat) (s : State) : exec (.getLog fn uuid offset length) s = execGetLog fn uuid offset length s := by
  unfold exec; rfl
theorem exec_getTimestamp (fn : Nat) (s : State) : exec (.getTimestamp fn) s = execGetTimestamp fn s := by
  unfold exec; rfl
theorem exec_setTimestamp (fn : Nat) (ns : Nat) (s : State) : exec (.setTimestamp fn ns) s = execSetTimestamp fn ns s := by
  unfold exec; rfl
theorem exec_mailboxUnsupported (fn : Nat) (opcode : Nat) (s : State) : exec (.mailboxUnsupported fn opcode) s = execMailboxUnsupported fn opcode s := by
  unfold exec; rfl
theorem exec_switchInstant (inset : Nat) (s : State) : exec (.switchInstant inset) s = execSwitchInstant inset s := by
  unfold exec; rfl
theorem exec_bindRelease (r : GazReq) (s : State) : exec (.bindRelease r) s = execBindRelease r s := by
  unfold exec; rfl
theorem exec_hostLinkLost (s : State) : exec .hostLinkLost s = execHostLinkLost s := by
  unfold exec; rfl
theorem exec_orphanAbort (inset : Nat) (s : State) : exec (.orphanAbort inset) s = execOrphanAbort inset s := by
  unfold exec; rfl
theorem exec_roleChange (r : GazReq) (s : State) : exec (.roleChange r) s = execRoleChange r s := by
  unfold exec; rfl
theorem exec_fieldFrame (frame : Bytes) (fcsOk : Bool) (s : State) : exec (.fieldFrame frame fcsOk) s = execFieldFrame frame fcsOk s := by
  unfold exec; rfl
theorem exec_announce (s : State) : exec .announce s = execAnnounce s := by
  unfold exec; rfl
theorem exec_read (r : GazReq) (s : State) : exec (.read r) s = execRead r s := by
  unfold exec; rfl
theorem exec_write (r : GazReq) (s : State) : exec (.write r) s = execWrite r s := by
  unfold exec; rfl
theorem exec_readStaged (r : GazReq) (s : State) : exec (.readStaged r) s = execReadStaged r s := by
  unfold exec; rfl
theorem exec_check (r : GazReq) (s : State) : exec (.check r) s = execCheck r s := by
  unfold exec; rfl
theorem exec_apply (r : GazReq) (s : State) : exec (.apply r) s = execApply r s := by
  unfold exec; rfl
theorem exec_discard (r : GazReq) (s : State) : exec (.discard r) s = execDiscard r s := by
  unfold exec; rfl
theorem exec_setState (r : GazReq) (s : State) : exec (.setState r) s = execSetState r s := by
  unfold exec; rfl
theorem exec_scrubRead (mc : Nat) (inst : Nat) (found : ScrubFound) (s : State) : exec (.scrubRead mc inst found) s = execScrubRead mc inst found s := by
  unfold exec; rfl
theorem exec_remapApplied (mc : Nat) (inst : Nat) (row : Nat) (s : State) : exec (.remapApplied mc inst row) s = execRemapApplied mc inst row s := by
  unfold exec; rfl
theorem exec_channelSpared (channel : Nat) (s : State) : exec (.channelSpared channel) s = execChannelSpared channel s := by
  unfold exec; rfl
theorem exec_channelFill (channel : Nat) (s : State) : exec (.channelFill channel) s = execChannelFill channel s := by
  unfold exec; rfl
theorem exec_repairRecordWrite (ok : Bool) (s : State) : exec (.repairRecordWrite ok) s = execRepairRecordWrite ok s := by
  unfold exec; rfl
theorem exec_suspectClear (r : GazReq) (s : State) : exec (.suspectClear r) s = execSuspectClear r s := by
  unfold exec; rfl
theorem exec_dumpRecord (s : State) : exec .dumpRecord s = execDumpRecord s := by
  unfold exec; rfl
theorem exec_counterClear (r : GazReq) (s : State) : exec (.counterClear r) s = execCounterClear r s := by
  unfold exec; rfl
theorem exec_sampleReset (r : GazReq) (s : State) : exec (.sampleReset r) s = execSampleReset r s := by
  unfold exec; rfl
theorem exec_attestNonce (r : GazReq) (s : State) : exec (.attestNonce r) s = execAttestNonce r s := by
  unfold exec; rfl
theorem exec_attestReport (inset : Nat) (ok : Bool) (s : State) : exec (.attestReport inset ok) s = execAttestReport inset ok s := by
  unfold exec; rfl
theorem exec_floorCert (r : GazReq) (s : State) : exec (.floorCert r) s = execFloorCert r s := by
  unfold exec; rfl
theorem exec_ownerKey (r : GazReq) (s : State) : exec (.ownerKey r) s = execOwnerKey r s := by
  unfold exec; rfl
theorem exec_imageWrite (r : GazReq) (s : State) : exec (.imageWrite r) s = execImageWrite r s := by
  unfold exec; rfl
theorem exec_measureExtend (r : GazReq) (s : State) : exec (.measureExtend r) s = execMeasureExtend r s := by
  unfold exec; rfl
theorem exec_debugToken (r : GazReq) (s : State) : exec (.debugToken r) s = execDebugToken r s := by
  unfold exec; rfl
theorem exec_pwrGoodRise (rails : RailIn) (s : State) : exec (.pwrGoodRise rails) s = execPwrGoodRise rails s := by
  unfold exec; rfl
theorem exec_pwrGoodFall (s : State) : exec .pwrGoodFall s = execPwrGoodFall s := by
  unfold exec; rfl
theorem exec_resetN (bootSrc : Nat) (s : State) : exec (.resetN bootSrc) s = execResetN bootSrc s := by
  unfold exec; rfl
theorem exec_startPhaseEnd (p : PhaseIn) (s : State) : exec (.startPhaseEnd p) s = execStartPhaseEnd p s := by
  unfold exec; rfl
theorem exec_vrPoll (rails : RailIn) (s : State) : exec (.vrPoll rails) s = execVrPoll rails s := by
  unfold exec; rfl
theorem exec_vrAlert (rails : RailIn) (s : State) : exec (.vrAlert rails) s = execVrAlert rails s := by
  unfold exec; rfl
theorem exec_vcoreEmergency (marginPs : Nat) (s : State) : exec (.vcoreEmergency marginPs) s = execVcoreEmergency marginPs s := by
  unfold exec; rfl
theorem exec_vcoreMargin (marginPs : Nat) (s : State) : exec (.vcoreMargin marginPs) s = execVcoreMargin marginPs s := by
  unfold exec; rfl
theorem exec_thermalSample (temps : TempIn) (s : State) : exec (.thermalSample temps) s = execThermalSample temps s := by
  unfold exec; rfl
theorem exec_refclkCheck (ppb : Int) (spreadPpb : Nat) (cxlPpb : Int) (s : State) : exec (.refclkCheck ppb spreadPpb cxlPpb) s = execRefclkCheck ppb spreadPpb cxlPpb s := by
  unfold exec; rfl
theorem exec_insetStart (r : GazReq) (s : State) : exec (.insetStart r) s = execInsetStart r s := by
  unfold exec; rfl
theorem exec_apertureOperation (channel : Nat) (hw : Hw) (s : State) : exec (.apertureOperation channel hw) s = execApertureOperation channel hw s := by
  unfold exec; rfl
theorem exec_rehearsalSwapReturn (port : Nat) (s : State) : exec (.rehearsalSwapReturn port) s = execRehearsalSwapReturn port s := by
  unfold exec; rfl
theorem exec_resetNAssert (s : State) : exec .resetNAssert s = execResetNAssert s := by
  unfold exec; rfl
theorem exec_dynamicAddressAssignment (addr : Nat) (s : State) : exec (.dynamicAddressAssignment addr) s = execDynamicAddressAssignment addr s := by
  unfold exec; rfl

theorem step_nil {s : State} (h : s.pending = []) : step s = .next s.idleCycle := by
  unfold step
  rw [h]

theorem step_cons {s : State} {c : Instr} {rest : List Instr} (h : s.pending = c :: rest) :
    step s = exec c { s with pending := rest } := by
  unfold step
  rw [h]

end Sys2Proof.Machine
end

