-- ==== Sys2Proof/Laws/Tables.lean ====
section
/-!
SUPPORT. Lookups in tables and lists after an update.
-/

namespace Sys2Proof

@[simp] theorem Tab.find_nil {α : Type} (k : Nat) : Tab.find ([] : Tab α) k = none := rfl

@[simp] theorem Tab.find_set_self {α : Type} (t : Tab α) (k : Nat) (v : α) : Tab.find (Tab.set t k v) k = some v := by
  induction t with
  | nil => simp [Tab.set, Tab.find]
  | cons e t ih =>
    obtain ⟨j, w⟩ := e
    simp only [Tab.set]
    split
    · subst_vars; simp [Tab.find]
    · split
      · simp [Tab.find]
      · simp [Tab.find, *]

theorem Tab.find_set_ne {α : Type} (t : Tab α) {k j : Nat} (v : α) (h : j ≠ k) :
    Tab.find (Tab.set t k v) j = Tab.find t j := by
  induction t with
  | nil => simp [Tab.set, Tab.find, h]
  | cons e t ih =>
    obtain ⟨i, w⟩ := e
    simp only [Tab.set]
    split
    · subst_vars; simp [Tab.find, h]
    · split
      · simp only [Tab.find, h, if_false]
      · simp only [Tab.find, ih]

@[simp] theorem Tab.get_set_self {α : Type} (d : α) (t : Tab α) (k : Nat) (v : α) : Tab.get d (Tab.set t k v) k = v := by
  simp [Tab.get]

theorem Tab.get_set_ne {α : Type} (d : α) (t : Tab α) {k j : Nat} (v : α) (h : j ≠ k) :
    Tab.get d (Tab.set t k v) j = Tab.get d t j := by
  simp [Tab.get, Tab.find_set_ne _ _ h]

theorem Tab.get_set {α : Type} (d : α) (t : Tab α) (k j : Nat) (v : α) :
    Tab.get d (Tab.set t k v) j = if j = k then v else Tab.get d t j := by
  split
  · subst_vars; simp
  · exact Tab.get_set_ne _ _ _ ‹_›

theorem Tab.find_keep {α : Type} (p : Nat → Bool) (t : Tab α) (k : Nat) :
    Tab.find (Tab.keep p t) k = if p k then Tab.find t k else none := by
  induction t with
  | nil => simp [Tab.keep]
  | cons e t ih =>
    obtain ⟨j, w⟩ := e
    simp only [Tab.keep] at ih
    by_cases hk : k = j
    · subst hk
      by_cases hp : p k <;> simp_all [Tab.keep, Tab.find]
    · by_cases hj : p j <;> simp_all [Tab.keep, Tab.find]

@[simp] theorem Tab.find_del_self {α : Type} (t : Tab α) (k : Nat) : Tab.find (Tab.del t k) k = none := by
  have h := Tab.find_keep (· != k) t k
  simpa [Tab.keep, Tab.del] using h

theorem Tab.find_del_ne {α : Type} (t : Tab α) {k j : Nat} (hne : j ≠ k) :
    Tab.find (Tab.del t k) j = Tab.find t j := by
  have h := Tab.find_keep (· != k) t j
  simpa [Tab.keep, Tab.del, hne] using h

namespace Machine

theorem getElem?_modNth {α : Type} (f : α → α) (l : List α) (i j : Nat) :
    (modNth f l i)[j]? = if i = j then (l[j]?).map f else l[j]? := by
  induction l generalizing i j with
  | nil => simp [modNth]
  | cons a l ih =>
    cases i with
    | zero => cases j <;> simp [modNth]
    | succ i => cases j <;> simp [modNth, ih]

@[simp] theorem length_modNth {α : Type} (f : α → α) (l : List α) (i : Nat) : (modNth f l i).length = l.length := by
  induction l generalizing i with
  | nil => rfl
  | cons a l ih => cases i <;> simp [modNth, ih]

theorem modNth_modNth {α : Type} (f g : α → α) (l : List α) (i : Nat) :
    modNth f (modNth g l i) i = modNth (fun x => f (g x)) l i := by
  induction l generalizing i with
  | nil => rfl
  | cons a l ih => cases i <;> simp [modNth, ih]

end Machine
end Sys2Proof
end

