-- ==== Sys2Proof/Laws/State.lean ====
section
/-!
SUPPORT. What each update of the state leaves alone, field by field, and what a read answers after it.
-/

namespace Sys2Proof.Machine

@[simp] theorem State.setReg_clk (s : State) (i k : Nat) (v : GVal) : (s.setReg i k v).clk = s.clk := rfl
@[simp] theorem State.setReg_tick (s : State) (i k : Nat) (v : GVal) : (s.setReg i k v).tick = s.tick := rfl
@[simp] theorem State.setReg_mem (s : State) (i k : Nat) (v : GVal) : (s.setReg i k v).mem = s.mem := rfl
@[simp] theorem State.setReg_sched (s : State) (i k : Nat) (v : GVal) : (s.setReg i k v).sched = s.sched := rfl
@[simp] theorem State.setReg_search (s : State) (i k : Nat) (v : GVal) : (s.setReg i k v).search = s.search := rfl
@[simp] theorem State.setReg_chart (s : State) (i k : Nat) (v : GVal) : (s.setReg i k v).chart = s.chart := rfl
@[simp] theorem State.setReg_chartBad (s : State) (i k : Nat) (v : GVal) : (s.setReg i k v).chartBad = s.chartBad := rfl
@[simp] theorem State.setReg_bsu (s : State) (i k : Nat) (v : GVal) : (s.setReg i k v).bsu = s.bsu := rfl
@[simp] theorem State.setReg_flash (s : State) (i k : Nat) (v : GVal) : (s.setReg i k v).flash = s.flash := rfl
@[simp] theorem State.setReg_torus (s : State) (i k : Nat) (v : GVal) : (s.setReg i k v).torus = s.torus := rfl
@[simp] theorem State.setReg_tm (s : State) (i k : Nat) (v : GVal) : (s.setReg i k v).tm = s.tm := rfl
@[simp] theorem State.setReg_host (s : State) (i k : Nat) (v : GVal) : (s.setReg i k v).host = s.host := rfl
@[simp] theorem State.setReg_rel (s : State) (i k : Nat) (v : GVal) : (s.setReg i k v).rel = s.rel := rfl
@[simp] theorem State.setReg_ctr (s : State) (i k : Nat) (v : GVal) : (s.setReg i k v).ctr = s.ctr := rfl
@[simp] theorem State.setReg_sec (s : State) (i k : Nat) (v : GVal) : (s.setReg i k v).sec = s.sec := rfl
@[simp] theorem State.setReg_out (s : State) (i k : Nat) (v : GVal) : (s.setReg i k v).out = s.out := rfl
@[simp] theorem State.setReg_draws (s : State) (i k : Nat) (v : GVal) : (s.setReg i k v).draws = s.draws := rfl
@[simp] theorem State.setReg_pending (s : State) (i k : Nat) (v : GVal) : (s.setReg i k v).pending = s.pending := rfl
@[simp] theorem State.setNum_clk (s : State) (i k n : Nat) : (s.setNum i k n).clk = s.clk := rfl
@[simp] theorem State.setNum_tick (s : State) (i k n : Nat) : (s.setNum i k n).tick = s.tick := rfl
@[simp] theorem State.setNum_mem (s : State) (i k n : Nat) : (s.setNum i k n).mem = s.mem := rfl
@[simp] theorem State.setNum_sched (s : State) (i k n : Nat) : (s.setNum i k n).sched = s.sched := rfl
@[simp] theorem State.setNum_search (s : State) (i k n : Nat) : (s.setNum i k n).search = s.search := rfl
@[simp] theorem State.setNum_chart (s : State) (i k n : Nat) : (s.setNum i k n).chart = s.chart := rfl
@[simp] theorem State.setNum_chartBad (s : State) (i k n : Nat) : (s.setNum i k n).chartBad = s.chartBad := rfl
@[simp] theorem State.setNum_bsu (s : State) (i k n : Nat) : (s.setNum i k n).bsu = s.bsu := rfl
@[simp] theorem State.setNum_flash (s : State) (i k n : Nat) : (s.setNum i k n).flash = s.flash := rfl
@[simp] theorem State.setNum_torus (s : State) (i k n : Nat) : (s.setNum i k n).torus = s.torus := rfl
@[simp] theorem State.setNum_tm (s : State) (i k n : Nat) : (s.setNum i k n).tm = s.tm := rfl
@[simp] theorem State.setNum_host (s : State) (i k n : Nat) : (s.setNum i k n).host = s.host := rfl
@[simp] theorem State.setNum_rel (s : State) (i k n : Nat) : (s.setNum i k n).rel = s.rel := rfl
@[simp] theorem State.setNum_ctr (s : State) (i k n : Nat) : (s.setNum i k n).ctr = s.ctr := rfl
@[simp] theorem State.setNum_sec (s : State) (i k n : Nat) : (s.setNum i k n).sec = s.sec := rfl
@[simp] theorem State.setNum_out (s : State) (i k n : Nat) : (s.setNum i k n).out = s.out := rfl
@[simp] theorem State.setNum_draws (s : State) (i k n : Nat) : (s.setNum i k n).draws = s.draws := rfl
@[simp] theorem State.setNum_pending (s : State) (i k n : Nat) : (s.setNum i k n).pending = s.pending := rfl
@[simp] theorem State.setInset_clk (s : State) (i : Nat) (t : InsetSt) : (s.setInset i t).clk = s.clk := rfl
@[simp] theorem State.setInset_tick (s : State) (i : Nat) (t : InsetSt) : (s.setInset i t).tick = s.tick := rfl
@[simp] theorem State.setInset_gaz (s : State) (i : Nat) (t : InsetSt) : (s.setInset i t).gaz = s.gaz := rfl
@[simp] theorem State.setInset_mem (s : State) (i : Nat) (t : InsetSt) : (s.setInset i t).mem = s.mem := rfl
@[simp] theorem State.setInset_search (s : State) (i : Nat) (t : InsetSt) : (s.setInset i t).search = s.search := rfl
@[simp] theorem State.setInset_chart (s : State) (i : Nat) (t : InsetSt) : (s.setInset i t).chart = s.chart := rfl
@[simp] theorem State.setInset_chartBad (s : State) (i : Nat) (t : InsetSt) : (s.setInset i t).chartBad = s.chartBad := rfl
@[simp] theorem State.setInset_bsu (s : State) (i : Nat) (t : InsetSt) : (s.setInset i t).bsu = s.bsu := rfl
@[simp] theorem State.setInset_flash (s : State) (i : Nat) (t : InsetSt) : (s.setInset i t).flash = s.flash := rfl
@[simp] theorem State.setInset_torus (s : State) (i : Nat) (t : InsetSt) : (s.setInset i t).torus = s.torus := rfl
@[simp] theorem State.setInset_tm (s : State) (i : Nat) (t : InsetSt) : (s.setInset i t).tm = s.tm := rfl
@[simp] theorem State.setInset_host (s : State) (i : Nat) (t : InsetSt) : (s.setInset i t).host = s.host := rfl
@[simp] theorem State.setInset_rel (s : State) (i : Nat) (t : InsetSt) : (s.setInset i t).rel = s.rel := rfl
@[simp] theorem State.setInset_ctr (s : State) (i : Nat) (t : InsetSt) : (s.setInset i t).ctr = s.ctr := rfl
@[simp] theorem State.setInset_sec (s : State) (i : Nat) (t : InsetSt) : (s.setInset i t).sec = s.sec := rfl
@[simp] theorem State.setInset_out (s : State) (i : Nat) (t : InsetSt) : (s.setInset i t).out = s.out := rfl
@[simp] theorem State.setInset_draws (s : State) (i : Nat) (t : InsetSt) : (s.setInset i t).draws = s.draws := rfl
@[simp] theorem State.setInset_pending (s : State) (i : Nat) (t : InsetSt) : (s.setInset i t).pending = s.pending := rfl
@[simp] theorem State.modInset_clk (s : State) (i : Nat) (f : InsetSt → InsetSt) : (s.modInset i f).clk = s.clk := rfl
@[simp] theorem State.modInset_tick (s : State) (i : Nat) (f : InsetSt → InsetSt) : (s.modInset i f).tick = s.tick := rfl
@[simp] theorem State.modInset_gaz (s : State) (i : Nat) (f : InsetSt → InsetSt) : (s.modInset i f).gaz = s.gaz := rfl
@[simp] theorem State.modInset_mem (s : State) (i : Nat) (f : InsetSt → InsetSt) : (s.modInset i f).mem = s.mem := rfl
@[simp] theorem State.modInset_search (s : State) (i : Nat) (f : InsetSt → InsetSt) : (s.modInset i f).search = s.search := rfl
@[simp] theorem State.modInset_chart (s : State) (i : Nat) (f : InsetSt → InsetSt) : (s.modInset i f).chart = s.chart := rfl
@[simp] theorem State.modInset_chartBad (s : State) (i : Nat) (f : InsetSt → InsetSt) : (s.modInset i f).chartBad = s.chartBad := rfl
@[simp] theorem State.modInset_bsu (s : State) (i : Nat) (f : InsetSt → InsetSt) : (s.modInset i f).bsu = s.bsu := rfl
@[simp] theorem State.modInset_flash (s : State) (i : Nat) (f : InsetSt → InsetSt) : (s.modInset i f).flash = s.flash := rfl
@[simp] theorem State.modInset_torus (s : State) (i : Nat) (f : InsetSt → InsetSt) : (s.modInset i f).torus = s.torus := rfl
@[simp] theorem State.modInset_tm (s : State) (i : Nat) (f : InsetSt → InsetSt) : (s.modInset i f).tm = s.tm := rfl
@[simp] theorem State.modInset_host (s : State) (i : Nat) (f : InsetSt → InsetSt) : (s.modInset i f).host = s.host := rfl
@[simp] theorem State.modInset_rel (s : State) (i : Nat) (f : InsetSt → InsetSt) : (s.modInset i f).rel = s.rel := rfl
@[simp] theorem State.modInset_ctr (s : State) (i : Nat) (f : InsetSt → InsetSt) : (s.modInset i f).ctr = s.ctr := rfl
@[simp] theorem State.modInset_sec (s : State) (i : Nat) (f : InsetSt → InsetSt) : (s.modInset i f).sec = s.sec := rfl
@[simp] theorem State.modInset_out (s : State) (i : Nat) (f : InsetSt → InsetSt) : (s.modInset i f).out = s.out := rfl
@[simp] theorem State.modInset_draws (s : State) (i : Nat) (f : InsetSt → InsetSt) : (s.modInset i f).draws = s.draws := rfl
@[simp] theorem State.modInset_pending (s : State) (i : Nat) (f : InsetSt → InsetSt) : (s.modInset i f).pending = s.pending := rfl
@[simp] theorem State.modCmd_clk (s : State) (r : CmdRef) (f : Cmd → Cmd) : (s.modCmd r f).clk = s.clk := rfl
@[simp] theorem State.modCmd_tick (s : State) (r : CmdRef) (f : Cmd → Cmd) : (s.modCmd r f).tick = s.tick := rfl
@[simp] theorem State.modCmd_gaz (s : State) (r : CmdRef) (f : Cmd → Cmd) : (s.modCmd r f).gaz = s.gaz := rfl
@[simp] theorem State.modCmd_mem (s : State) (r : CmdRef) (f : Cmd → Cmd) : (s.modCmd r f).mem = s.mem := rfl
@[simp] theorem State.modCmd_search (s : State) (r : CmdRef) (f : Cmd → Cmd) : (s.modCmd r f).search = s.search := rfl
@[simp] theorem State.modCmd_chart (s : State) (r : CmdRef) (f : Cmd → Cmd) : (s.modCmd r f).chart = s.chart := rfl
@[simp] theorem State.modCmd_chartBad (s : State) (r : CmdRef) (f : Cmd → Cmd) : (s.modCmd r f).chartBad = s.chartBad := rfl
@[simp] theorem State.modCmd_bsu (s : State) (r : CmdRef) (f : Cmd → Cmd) : (s.modCmd r f).bsu = s.bsu := rfl
@[simp] theorem State.modCmd_flash (s : State) (r : CmdRef) (f : Cmd → Cmd) : (s.modCmd r f).flash = s.flash := rfl
@[simp] theorem State.modCmd_torus (s : State) (r : CmdRef) (f : Cmd → Cmd) : (s.modCmd r f).torus = s.torus := rfl
@[simp] theorem State.modCmd_tm (s : State) (r : CmdRef) (f : Cmd → Cmd) : (s.modCmd r f).tm = s.tm := rfl
@[simp] theorem State.modCmd_host (s : State) (r : CmdRef) (f : Cmd → Cmd) : (s.modCmd r f).host = s.host := rfl
@[simp] theorem State.modCmd_rel (s : State) (r : CmdRef) (f : Cmd → Cmd) : (s.modCmd r f).rel = s.rel := rfl
@[simp] theorem State.modCmd_ctr (s : State) (r : CmdRef) (f : Cmd → Cmd) : (s.modCmd r f).ctr = s.ctr := rfl
@[simp] theorem State.modCmd_sec (s : State) (r : CmdRef) (f : Cmd → Cmd) : (s.modCmd r f).sec = s.sec := rfl
@[simp] theorem State.modCmd_out (s : State) (r : CmdRef) (f : Cmd → Cmd) : (s.modCmd r f).out = s.out := rfl
@[simp] theorem State.modCmd_draws (s : State) (r : CmdRef) (f : Cmd → Cmd) : (s.modCmd r f).draws = s.draws := rfl
@[simp] theorem State.modCmd_pending (s : State) (r : CmdRef) (f : Cmd → Cmd) : (s.modCmd r f).pending = s.pending := rfl
@[simp] theorem State.setSync_clk (s : State) (n : Nat) (o : SyncObj) : (s.setSync n o).clk = s.clk := rfl
@[simp] theorem State.setSync_tick (s : State) (n : Nat) (o : SyncObj) : (s.setSync n o).tick = s.tick := rfl
@[simp] theorem State.setSync_gaz (s : State) (n : Nat) (o : SyncObj) : (s.setSync n o).gaz = s.gaz := rfl
@[simp] theorem State.setSync_mem (s : State) (n : Nat) (o : SyncObj) : (s.setSync n o).mem = s.mem := rfl
@[simp] theorem State.setSync_search (s : State) (n : Nat) (o : SyncObj) : (s.setSync n o).search = s.search := rfl
@[simp] theorem State.setSync_chart (s : State) (n : Nat) (o : SyncObj) : (s.setSync n o).chart = s.chart := rfl
@[simp] theorem State.setSync_chartBad (s : State) (n : Nat) (o : SyncObj) : (s.setSync n o).chartBad = s.chartBad := rfl
@[simp] theorem State.setSync_bsu (s : State) (n : Nat) (o : SyncObj) : (s.setSync n o).bsu = s.bsu := rfl
@[simp] theorem State.setSync_flash (s : State) (n : Nat) (o : SyncObj) : (s.setSync n o).flash = s.flash := rfl
@[simp] theorem State.setSync_torus (s : State) (n : Nat) (o : SyncObj) : (s.setSync n o).torus = s.torus := rfl
@[simp] theorem State.setSync_tm (s : State) (n : Nat) (o : SyncObj) : (s.setSync n o).tm = s.tm := rfl
@[simp] theorem State.setSync_host (s : State) (n : Nat) (o : SyncObj) : (s.setSync n o).host = s.host := rfl
@[simp] theorem State.setSync_rel (s : State) (n : Nat) (o : SyncObj) : (s.setSync n o).rel = s.rel := rfl
@[simp] theorem State.setSync_ctr (s : State) (n : Nat) (o : SyncObj) : (s.setSync n o).ctr = s.ctr := rfl
@[simp] theorem State.setSync_sec (s : State) (n : Nat) (o : SyncObj) : (s.setSync n o).sec = s.sec := rfl
@[simp] theorem State.setSync_out (s : State) (n : Nat) (o : SyncObj) : (s.setSync n o).out = s.out := rfl
@[simp] theorem State.setSync_draws (s : State) (n : Nat) (o : SyncObj) : (s.setSync n o).draws = s.draws := rfl
@[simp] theorem State.setSync_pending (s : State) (n : Nat) (o : SyncObj) : (s.setSync n o).pending = s.pending := rfl
@[simp] theorem State.emit_clk (s : State) (o : Out) : (s.emit o).clk = s.clk := rfl
@[simp] theorem State.emit_tick (s : State) (o : Out) : (s.emit o).tick = s.tick := rfl
@[simp] theorem State.emit_gaz (s : State) (o : Out) : (s.emit o).gaz = s.gaz := rfl
@[simp] theorem State.emit_mem (s : State) (o : Out) : (s.emit o).mem = s.mem := rfl
@[simp] theorem State.emit_sched (s : State) (o : Out) : (s.emit o).sched = s.sched := rfl
@[simp] theorem State.emit_search (s : State) (o : Out) : (s.emit o).search = s.search := rfl
@[simp] theorem State.emit_chart (s : State) (o : Out) : (s.emit o).chart = s.chart := rfl
@[simp] theorem State.emit_chartBad (s : State) (o : Out) : (s.emit o).chartBad = s.chartBad := rfl
@[simp] theorem State.emit_bsu (s : State) (o : Out) : (s.emit o).bsu = s.bsu := rfl
@[simp] theorem State.emit_flash (s : State) (o : Out) : (s.emit o).flash = s.flash := rfl
@[simp] theorem State.emit_torus (s : State) (o : Out) : (s.emit o).torus = s.torus := rfl
@[simp] theorem State.emit_tm (s : State) (o : Out) : (s.emit o).tm = s.tm := rfl
@[simp] theorem State.emit_host (s : State) (o : Out) : (s.emit o).host = s.host := rfl
@[simp] theorem State.emit_rel (s : State) (o : Out) : (s.emit o).rel = s.rel := rfl
@[simp] theorem State.emit_ctr (s : State) (o : Out) : (s.emit o).ctr = s.ctr := rfl
@[simp] theorem State.emit_sec (s : State) (o : Out) : (s.emit o).sec = s.sec := rfl
@[simp] theorem State.emit_draws (s : State) (o : Out) : (s.emit o).draws = s.draws := rfl
@[simp] theorem State.emit_pending (s : State) (o : Out) : (s.emit o).pending = s.pending := rfl
@[simp] theorem State.setUnit_clk (s : State) (ch : Nat) (u : StackUnit) : (s.setUnit ch u).clk = s.clk := rfl
@[simp] theorem State.setUnit_tick (s : State) (ch : Nat) (u : StackUnit) : (s.setUnit ch u).tick = s.tick := rfl
@[simp] theorem State.setUnit_gaz (s : State) (ch : Nat) (u : StackUnit) : (s.setUnit ch u).gaz = s.gaz := rfl
@[simp] theorem State.setUnit_mem (s : State) (ch : Nat) (u : StackUnit) : (s.setUnit ch u).mem = s.mem := rfl
@[simp] theorem State.setUnit_sched (s : State) (ch : Nat) (u : StackUnit) : (s.setUnit ch u).sched = s.sched := rfl
@[simp] theorem State.setUnit_search (s : State) (ch : Nat) (u : StackUnit) : (s.setUnit ch u).search = s.search := rfl
@[simp] theorem State.setUnit_chart (s : State) (ch : Nat) (u : StackUnit) : (s.setUnit ch u).chart = s.chart := rfl
@[simp] theorem State.setUnit_chartBad (s : State) (ch : Nat) (u : StackUnit) : (s.setUnit ch u).chartBad = s.chartBad := rfl
@[simp] theorem State.setUnit_flash (s : State) (ch : Nat) (u : StackUnit) : (s.setUnit ch u).flash = s.flash := rfl
@[simp] theorem State.setUnit_torus (s : State) (ch : Nat) (u : StackUnit) : (s.setUnit ch u).torus = s.torus := rfl
@[simp] theorem State.setUnit_tm (s : State) (ch : Nat) (u : StackUnit) : (s.setUnit ch u).tm = s.tm := rfl
@[simp] theorem State.setUnit_host (s : State) (ch : Nat) (u : StackUnit) : (s.setUnit ch u).host = s.host := rfl
@[simp] theorem State.setUnit_rel (s : State) (ch : Nat) (u : StackUnit) : (s.setUnit ch u).rel = s.rel := rfl
@[simp] theorem State.setUnit_ctr (s : State) (ch : Nat) (u : StackUnit) : (s.setUnit ch u).ctr = s.ctr := rfl
@[simp] theorem State.setUnit_sec (s : State) (ch : Nat) (u : StackUnit) : (s.setUnit ch u).sec = s.sec := rfl
@[simp] theorem State.setUnit_out (s : State) (ch : Nat) (u : StackUnit) : (s.setUnit ch u).out = s.out := rfl
@[simp] theorem State.setUnit_draws (s : State) (ch : Nat) (u : StackUnit) : (s.setUnit ch u).draws = s.draws := rfl
@[simp] theorem State.setUnit_pending (s : State) (ch : Nat) (u : StackUnit) : (s.setUnit ch u).pending = s.pending := rfl
@[simp] theorem State.setPort_clk (s : State) (p : Nat) (q : Port) : (s.setPort p q).clk = s.clk := rfl
@[simp] theorem State.setPort_tick (s : State) (p : Nat) (q : Port) : (s.setPort p q).tick = s.tick := rfl
@[simp] theorem State.setPort_gaz (s : State) (p : Nat) (q : Port) : (s.setPort p q).gaz = s.gaz := rfl
@[simp] theorem State.setPort_mem (s : State) (p : Nat) (q : Port) : (s.setPort p q).mem = s.mem := rfl
@[simp] theorem State.setPort_sched (s : State) (p : Nat) (q : Port) : (s.setPort p q).sched = s.sched := rfl
@[simp] theorem State.setPort_search (s : State) (p : Nat) (q : Port) : (s.setPort p q).search = s.search := rfl
@[simp] theorem State.setPort_chart (s : State) (p : Nat) (q : Port) : (s.setPort p q).chart = s.chart := rfl
@[simp] theorem State.setPort_chartBad (s : State) (p : Nat) (q : Port) : (s.setPort p q).chartBad = s.chartBad := rfl
@[simp] theorem State.setPort_bsu (s : State) (p : Nat) (q : Port) : (s.setPort p q).bsu = s.bsu := rfl
@[simp] theorem State.setPort_flash (s : State) (p : Nat) (q : Port) : (s.setPort p q).flash = s.flash := rfl
@[simp] theorem State.setPort_tm (s : State) (p : Nat) (q : Port) : (s.setPort p q).tm = s.tm := rfl
@[simp] theorem State.setPort_host (s : State) (p : Nat) (q : Port) : (s.setPort p q).host = s.host := rfl
@[simp] theorem State.setPort_rel (s : State) (p : Nat) (q : Port) : (s.setPort p q).rel = s.rel := rfl
@[simp] theorem State.setPort_ctr (s : State) (p : Nat) (q : Port) : (s.setPort p q).ctr = s.ctr := rfl
@[simp] theorem State.setPort_sec (s : State) (p : Nat) (q : Port) : (s.setPort p q).sec = s.sec := rfl
@[simp] theorem State.setPort_out (s : State) (p : Nat) (q : Port) : (s.setPort p q).out = s.out := rfl
@[simp] theorem State.setPort_draws (s : State) (p : Nat) (q : Port) : (s.setPort p q).draws = s.draws := rfl
@[simp] theorem State.setPort_pending (s : State) (p : Nat) (q : Port) : (s.setPort p q).pending = s.pending := rfl
@[simp] theorem State.modPort_clk (s : State) (p : Nat) (f : Port → Port) : (s.modPort p f).clk = s.clk := rfl
@[simp] theorem State.modPort_tick (s : State) (p : Nat) (f : Port → Port) : (s.modPort p f).tick = s.tick := rfl
@[simp] theorem State.modPort_gaz (s : State) (p : Nat) (f : Port → Port) : (s.modPort p f).gaz = s.gaz := rfl
@[simp] theorem State.modPort_mem (s : State) (p : Nat) (f : Port → Port) : (s.modPort p f).mem = s.mem := rfl
@[simp] theorem State.modPort_sched (s : State) (p : Nat) (f : Port → Port) : (s.modPort p f).sched = s.sched := rfl
@[simp] theorem State.modPort_search (s : State) (p : Nat) (f : Port → Port) : (s.modPort p f).search = s.search := rfl
@[simp] theorem State.modPort_chart (s : State) (p : Nat) (f : Port → Port) : (s.modPort p f).chart = s.chart := rfl
@[simp] theorem State.modPort_chartBad (s : State) (p : Nat) (f : Port → Port) : (s.modPort p f).chartBad = s.chartBad := rfl
@[simp] theorem State.modPort_bsu (s : State) (p : Nat) (f : Port → Port) : (s.modPort p f).bsu = s.bsu := rfl
@[simp] theorem State.modPort_flash (s : State) (p : Nat) (f : Port → Port) : (s.modPort p f).flash = s.flash := rfl
@[simp] theorem State.modPort_tm (s : State) (p : Nat) (f : Port → Port) : (s.modPort p f).tm = s.tm := rfl
@[simp] theorem State.modPort_host (s : State) (p : Nat) (f : Port → Port) : (s.modPort p f).host = s.host := rfl
@[simp] theorem State.modPort_rel (s : State) (p : Nat) (f : Port → Port) : (s.modPort p f).rel = s.rel := rfl
@[simp] theorem State.modPort_ctr (s : State) (p : Nat) (f : Port → Port) : (s.modPort p f).ctr = s.ctr := rfl
@[simp] theorem State.modPort_sec (s : State) (p : Nat) (f : Port → Port) : (s.modPort p f).sec = s.sec := rfl
@[simp] theorem State.modPort_out (s : State) (p : Nat) (f : Port → Port) : (s.modPort p f).out = s.out := rfl
@[simp] theorem State.modPort_draws (s : State) (p : Nat) (f : Port → Port) : (s.modPort p f).draws = s.draws := rfl
@[simp] theorem State.modPort_pending (s : State) (p : Nat) (f : Port → Port) : (s.modPort p f).pending = s.pending := rfl
@[simp] theorem State.setFlow_clk (s : State) (f : Nat) (x : Flow) : (s.setFlow f x).clk = s.clk := rfl
@[simp] theorem State.setFlow_tick (s : State) (f : Nat) (x : Flow) : (s.setFlow f x).tick = s.tick := rfl
@[simp] theorem State.setFlow_gaz (s : State) (f : Nat) (x : Flow) : (s.setFlow f x).gaz = s.gaz := rfl
@[simp] theorem State.setFlow_mem (s : State) (f : Nat) (x : Flow) : (s.setFlow f x).mem = s.mem := rfl
@[simp] theorem State.setFlow_sched (s : State) (f : Nat) (x : Flow) : (s.setFlow f x).sched = s.sched := rfl
@[simp] theorem State.setFlow_search (s : State) (f : Nat) (x : Flow) : (s.setFlow f x).search = s.search := rfl
@[simp] theorem State.setFlow_chart (s : State) (f : Nat) (x : Flow) : (s.setFlow f x).chart = s.chart := rfl
@[simp] theorem State.setFlow_chartBad (s : State) (f : Nat) (x : Flow) : (s.setFlow f x).chartBad = s.chartBad := rfl
@[simp] theorem State.setFlow_bsu (s : State) (f : Nat) (x : Flow) : (s.setFlow f x).bsu = s.bsu := rfl
@[simp] theorem State.setFlow_flash (s : State) (f : Nat) (x : Flow) : (s.setFlow f x).flash = s.flash := rfl
@[simp] theorem State.setFlow_torus (s : State) (f : Nat) (x : Flow) : (s.setFlow f x).torus = s.torus := rfl
@[simp] theorem State.setFlow_host (s : State) (f : Nat) (x : Flow) : (s.setFlow f x).host = s.host := rfl
@[simp] theorem State.setFlow_rel (s : State) (f : Nat) (x : Flow) : (s.setFlow f x).rel = s.rel := rfl
@[simp] theorem State.setFlow_ctr (s : State) (f : Nat) (x : Flow) : (s.setFlow f x).ctr = s.ctr := rfl
@[simp] theorem State.setFlow_sec (s : State) (f : Nat) (x : Flow) : (s.setFlow f x).sec = s.sec := rfl
@[simp] theorem State.setFlow_out (s : State) (f : Nat) (x : Flow) : (s.setFlow f x).out = s.out := rfl
@[simp] theorem State.setFlow_draws (s : State) (f : Nat) (x : Flow) : (s.setFlow f x).draws = s.draws := rfl
@[simp] theorem State.setFlow_pending (s : State) (f : Nat) (x : Flow) : (s.setFlow f x).pending = s.pending := rfl
@[simp] theorem State.setService_clk (s : State) (n : Nat) (x : Service) : (s.setService n x).clk = s.clk := rfl
@[simp] theorem State.setService_tick (s : State) (n : Nat) (x : Service) : (s.setService n x).tick = s.tick := rfl
@[simp] theorem State.setService_gaz (s : State) (n : Nat) (x : Service) : (s.setService n x).gaz = s.gaz := rfl
@[simp] theorem State.setService_mem (s : State) (n : Nat) (x : Service) : (s.setService n x).mem = s.mem := rfl
@[simp] theorem State.setService_sched (s : State) (n : Nat) (x : Service) : (s.setService n x).sched = s.sched := rfl
@[simp] theorem State.setService_search (s : State) (n : Nat) (x : Service) : (s.setService n x).search = s.search := rfl
@[simp] theorem State.setService_chart (s : State) (n : Nat) (x : Service) : (s.setService n x).chart = s.chart := rfl
@[simp] theorem State.setService_chartBad (s : State) (n : Nat) (x : Service) : (s.setService n x).chartBad = s.chartBad := rfl
@[simp] theorem State.setService_bsu (s : State) (n : Nat) (x : Service) : (s.setService n x).bsu = s.bsu := rfl
@[simp] theorem State.setService_flash (s : State) (n : Nat) (x : Service) : (s.setService n x).flash = s.flash := rfl
@[simp] theorem State.setService_torus (s : State) (n : Nat) (x : Service) : (s.setService n x).torus = s.torus := rfl
@[simp] theorem State.setService_host (s : State) (n : Nat) (x : Service) : (s.setService n x).host = s.host := rfl
@[simp] theorem State.setService_rel (s : State) (n : Nat) (x : Service) : (s.setService n x).rel = s.rel := rfl
@[simp] theorem State.setService_ctr (s : State) (n : Nat) (x : Service) : (s.setService n x).ctr = s.ctr := rfl
@[simp] theorem State.setService_sec (s : State) (n : Nat) (x : Service) : (s.setService n x).sec = s.sec := rfl
@[simp] theorem State.setService_out (s : State) (n : Nat) (x : Service) : (s.setService n x).out = s.out := rfl
@[simp] theorem State.setService_draws (s : State) (n : Nat) (x : Service) : (s.setService n x).draws = s.draws := rfl
@[simp] theorem State.setService_pending (s : State) (n : Nat) (x : Service) : (s.setService n x).pending = s.pending := rfl
@[simp] theorem State.setGate_clk (s : State) (p : Nat) (g : Gate) : (s.setGate p g).clk = s.clk := rfl
@[simp] theorem State.setGate_tick (s : State) (p : Nat) (g : Gate) : (s.setGate p g).tick = s.tick := rfl
@[simp] theorem State.setGate_gaz (s : State) (p : Nat) (g : Gate) : (s.setGate p g).gaz = s.gaz := rfl
@[simp] theorem State.setGate_mem (s : State) (p : Nat) (g : Gate) : (s.setGate p g).mem = s.mem := rfl
@[simp] theorem State.setGate_sched (s : State) (p : Nat) (g : Gate) : (s.setGate p g).sched = s.sched := rfl
@[simp] theorem State.setGate_search (s : State) (p : Nat) (g : Gate) : (s.setGate p g).search = s.search := rfl
@[simp] theorem State.setGate_chart (s : State) (p : Nat) (g : Gate) : (s.setGate p g).chart = s.chart := rfl
@[simp] theorem State.setGate_chartBad (s : State) (p : Nat) (g : Gate) : (s.setGate p g).chartBad = s.chartBad := rfl
@[simp] theorem State.setGate_bsu (s : State) (p : Nat) (g : Gate) : (s.setGate p g).bsu = s.bsu := rfl
@[simp] theorem State.setGate_flash (s : State) (p : Nat) (g : Gate) : (s.setGate p g).flash = s.flash := rfl
@[simp] theorem State.setGate_torus (s : State) (p : Nat) (g : Gate) : (s.setGate p g).torus = s.torus := rfl
@[simp] theorem State.setGate_host (s : State) (p : Nat) (g : Gate) : (s.setGate p g).host = s.host := rfl
@[simp] theorem State.setGate_rel (s : State) (p : Nat) (g : Gate) : (s.setGate p g).rel = s.rel := rfl
@[simp] theorem State.setGate_ctr (s : State) (p : Nat) (g : Gate) : (s.setGate p g).ctr = s.ctr := rfl
@[simp] theorem State.setGate_sec (s : State) (p : Nat) (g : Gate) : (s.setGate p g).sec = s.sec := rfl
@[simp] theorem State.setGate_out (s : State) (p : Nat) (g : Gate) : (s.setGate p g).out = s.out := rfl
@[simp] theorem State.setGate_draws (s : State) (p : Nat) (g : Gate) : (s.setGate p g).draws = s.draws := rfl
@[simp] theorem State.setGate_pending (s : State) (p : Nat) (g : Gate) : (s.setGate p g).pending = s.pending := rfl
@[simp] theorem State.setQueue_clk (s : State) (f q : Nat) (p : QueuePair) : (s.setQueue f q p).clk = s.clk := rfl
@[simp] theorem State.setQueue_tick (s : State) (f q : Nat) (p : QueuePair) : (s.setQueue f q p).tick = s.tick := rfl
@[simp] theorem State.setQueue_gaz (s : State) (f q : Nat) (p : QueuePair) : (s.setQueue f q p).gaz = s.gaz := rfl
@[simp] theorem State.setQueue_mem (s : State) (f q : Nat) (p : QueuePair) : (s.setQueue f q p).mem = s.mem := rfl
@[simp] theorem State.setQueue_sched (s : State) (f q : Nat) (p : QueuePair) : (s.setQueue f q p).sched = s.sched := rfl
@[simp] theorem State.setQueue_search (s : State) (f q : Nat) (p : QueuePair) : (s.setQueue f q p).search = s.search := rfl
@[simp] theorem State.setQueue_chart (s : State) (f q : Nat) (p : QueuePair) : (s.setQueue f q p).chart = s.chart := rfl
@[simp] theorem State.setQueue_chartBad (s : State) (f q : Nat) (p : QueuePair) : (s.setQueue f q p).chartBad = s.chartBad := rfl
@[simp] theorem State.setQueue_bsu (s : State) (f q : Nat) (p : QueuePair) : (s.setQueue f q p).bsu = s.bsu := rfl
@[simp] theorem State.setQueue_flash (s : State) (f q : Nat) (p : QueuePair) : (s.setQueue f q p).flash = s.flash := rfl
@[simp] theorem State.setQueue_torus (s : State) (f q : Nat) (p : QueuePair) : (s.setQueue f q p).torus = s.torus := rfl
@[simp] theorem State.setQueue_tm (s : State) (f q : Nat) (p : QueuePair) : (s.setQueue f q p).tm = s.tm := rfl
@[simp] theorem State.setQueue_rel (s : State) (f q : Nat) (p : QueuePair) : (s.setQueue f q p).rel = s.rel := rfl
@[simp] theorem State.setQueue_ctr (s : State) (f q : Nat) (p : QueuePair) : (s.setQueue f q p).ctr = s.ctr := rfl
@[simp] theorem State.setQueue_sec (s : State) (f q : Nat) (p : QueuePair) : (s.setQueue f q p).sec = s.sec := rfl
@[simp] theorem State.setQueue_out (s : State) (f q : Nat) (p : QueuePair) : (s.setQueue f q p).out = s.out := rfl
@[simp] theorem State.setQueue_draws (s : State) (f q : Nat) (p : QueuePair) : (s.setQueue f q p).draws = s.draws := rfl
@[simp] theorem State.setQueue_pending (s : State) (f q : Nat) (p : QueuePair) : (s.setQueue f q p).pending = s.pending := rfl
@[simp] theorem State.setBinding_clk (s : State) (i : Nat) (b : Binding) : (s.setBinding i b).clk = s.clk := rfl
@[simp] theorem State.setBinding_tick (s : State) (i : Nat) (b : Binding) : (s.setBinding i b).tick = s.tick := rfl
@[simp] theorem State.setBinding_gaz (s : State) (i : Nat) (b : Binding) : (s.setBinding i b).gaz = s.gaz := rfl
@[simp] theorem State.setBinding_mem (s : State) (i : Nat) (b : Binding) : (s.setBinding i b).mem = s.mem := rfl
@[simp] theorem State.setBinding_sched (s : State) (i : Nat) (b : Binding) : (s.setBinding i b).sched = s.sched := rfl
@[simp] theorem State.setBinding_search (s : State) (i : Nat) (b : Binding) : (s.setBinding i b).search = s.search := rfl
@[simp] theorem State.setBinding_chart (s : State) (i : Nat) (b : Binding) : (s.setBinding i b).chart = s.chart := rfl
@[simp] theorem State.setBinding_chartBad (s : State) (i : Nat) (b : Binding) : (s.setBinding i b).chartBad = s.chartBad := rfl
@[simp] theorem State.setBinding_bsu (s : State) (i : Nat) (b : Binding) : (s.setBinding i b).bsu = s.bsu := rfl
@[simp] theorem State.setBinding_flash (s : State) (i : Nat) (b : Binding) : (s.setBinding i b).flash = s.flash := rfl
@[simp] theorem State.setBinding_torus (s : State) (i : Nat) (b : Binding) : (s.setBinding i b).torus = s.torus := rfl
@[simp] theorem State.setBinding_tm (s : State) (i : Nat) (b : Binding) : (s.setBinding i b).tm = s.tm := rfl
@[simp] theorem State.setBinding_rel (s : State) (i : Nat) (b : Binding) : (s.setBinding i b).rel = s.rel := rfl
@[simp] theorem State.setBinding_ctr (s : State) (i : Nat) (b : Binding) : (s.setBinding i b).ctr = s.ctr := rfl
@[simp] theorem State.setBinding_sec (s : State) (i : Nat) (b : Binding) : (s.setBinding i b).sec = s.sec := rfl
@[simp] theorem State.setBinding_out (s : State) (i : Nat) (b : Binding) : (s.setBinding i b).out = s.out := rfl
@[simp] theorem State.setBinding_draws (s : State) (i : Nat) (b : Binding) : (s.setBinding i b).draws = s.draws := rfl
@[simp] theorem State.setBinding_pending (s : State) (i : Nat) (b : Binding) : (s.setBinding i b).pending = s.pending := rfl
@[simp] theorem State.finish_clk (s : State) (r : CmdRef) (w : Work) : (s.finish r w).clk = s.clk := rfl
@[simp] theorem State.finish_tick (s : State) (r : CmdRef) (w : Work) : (s.finish r w).tick = s.tick := rfl
@[simp] theorem State.finish_gaz (s : State) (r : CmdRef) (w : Work) : (s.finish r w).gaz = s.gaz := rfl
@[simp] theorem State.finish_mem (s : State) (r : CmdRef) (w : Work) : (s.finish r w).mem = s.mem := rfl
@[simp] theorem State.finish_search (s : State) (r : CmdRef) (w : Work) : (s.finish r w).search = s.search := rfl
@[simp] theorem State.finish_chart (s : State) (r : CmdRef) (w : Work) : (s.finish r w).chart = s.chart := rfl
@[simp] theorem State.finish_chartBad (s : State) (r : CmdRef) (w : Work) : (s.finish r w).chartBad = s.chartBad := rfl
@[simp] theorem State.finish_bsu (s : State) (r : CmdRef) (w : Work) : (s.finish r w).bsu = s.bsu := rfl
@[simp] theorem State.finish_flash (s : State) (r : CmdRef) (w : Work) : (s.finish r w).flash = s.flash := rfl
@[simp] theorem State.finish_torus (s : State) (r : CmdRef) (w : Work) : (s.finish r w).torus = s.torus := rfl
@[simp] theorem State.finish_tm (s : State) (r : CmdRef) (w : Work) : (s.finish r w).tm = s.tm := rfl
@[simp] theorem State.finish_host (s : State) (r : CmdRef) (w : Work) : (s.finish r w).host = s.host := rfl
@[simp] theorem State.finish_rel (s : State) (r : CmdRef) (w : Work) : (s.finish r w).rel = s.rel := rfl
@[simp] theorem State.finish_ctr (s : State) (r : CmdRef) (w : Work) : (s.finish r w).ctr = s.ctr := rfl
@[simp] theorem State.finish_sec (s : State) (r : CmdRef) (w : Work) : (s.finish r w).sec = s.sec := rfl
@[simp] theorem State.finish_out (s : State) (r : CmdRef) (w : Work) : (s.finish r w).out = s.out := rfl
@[simp] theorem State.finish_draws (s : State) (r : CmdRef) (w : Work) : (s.finish r w).draws = s.draws := rfl
@[simp] theorem State.finish_pending (s : State) (r : CmdRef) (w : Work) : (s.finish r w).pending = s.pending := rfl
@[simp] theorem State.workDone_clk (s : State) (t : State) : (s.workDone t).clk = s.clk := rfl
@[simp] theorem State.workDone_tick (s : State) (t : State) : (s.workDone t).tick = s.tick := rfl
@[simp] theorem State.workDone_mem (s : State) (t : State) : (s.workDone t).mem = s.mem := rfl
@[simp] theorem State.workDone_sched (s : State) (t : State) : (s.workDone t).sched = s.sched := rfl
@[simp] theorem State.workDone_search (s : State) (t : State) : (s.workDone t).search = s.search := rfl
@[simp] theorem State.workDone_chart (s : State) (t : State) : (s.workDone t).chart = s.chart := rfl
@[simp] theorem State.workDone_chartBad (s : State) (t : State) : (s.workDone t).chartBad = s.chartBad := rfl
@[simp] theorem State.workDone_flash (s : State) (t : State) : (s.workDone t).flash = s.flash := rfl
@[simp] theorem State.workDone_torus (s : State) (t : State) : (s.workDone t).torus = s.torus := rfl
@[simp] theorem State.workDone_tm (s : State) (t : State) : (s.workDone t).tm = s.tm := rfl
@[simp] theorem State.workDone_host (s : State) (t : State) : (s.workDone t).host = s.host := rfl
@[simp] theorem State.workDone_sec (s : State) (t : State) : (s.workDone t).sec = s.sec := rfl
@[simp] theorem State.workDone_out (s : State) (t : State) : (s.workDone t).out = s.out := rfl
@[simp] theorem State.workDone_pending (s : State) (t : State) : (s.workDone t).pending = s.pending := rfl

/-! ### Reads after updates -/

@[simp] theorem State.setReg_regs (s : State) (i k : Nat) (v : GVal) :
    (s.setReg i k v).gaz.regs = s.gaz.regs.set (rkey i k) v := rfl
@[simp] theorem State.setNum_regs (s : State) (i k n : Nat) :
    (s.setNum i k n).gaz.regs = s.gaz.regs.set (rkey i k) (.num (n % typeMod k)) := rfl

theorem Dict.val_set_self (d : Dict) (i k : Nat) (v : GVal) : Dict.val (Tab.set d (rkey i k) v) i k = v := by
  simp [Dict.val]
theorem Dict.val_set_ne (d : Dict) {i k j l : Nat} (v : GVal) (h : rkey i k ≠ rkey j l) :
    Dict.val (Tab.set d (rkey j l) v) i k = Dict.val d i k := by
  simp [Dict.val, Tab.find_set_ne _ _ h]

@[simp] theorem State.num_setNum_self (s : State) (i k n : Nat) : (s.setNum i k n).num i k = n % typeMod k := by
  simp [State.num, Dict.num, Dict.val_set_self, GVal.toNat]
theorem State.num_setNum_ne (s : State) {i k j l : Nat} (n : Nat) (h : rkey i k ≠ rkey j l) :
    (s.setNum j l n).num i k = s.num i k := by
  simp [State.num, Dict.num, Dict.val_set_ne _ _ h]
theorem State.num_setReg_ne (s : State) {i k j l : Nat} (v : GVal) (h : rkey i k ≠ rkey j l) :
    (s.setReg j l v).num i k = s.num i k := by
  simp [State.num, Dict.num, Dict.val_set_ne _ _ h]
theorem State.blob_setReg_self (s : State) (i k : Nat) (b : Bytes) : (s.setReg i k (.blob b)).blob i k = b := by
  simp [State.blob, Dict.blob, Dict.val_set_self, GVal.toBytes]

@[simp] theorem State.inset_setInset_self (s : State) (i : Nat) (t : InsetSt) : (s.setInset i t).inset i = t := by
  simp [State.inset, State.setInset]
theorem State.inset_setInset_ne (s : State) {i j : Nat} (t : InsetSt) (h : j ≠ i) : (s.setInset i t).inset j = s.inset j := by
  simp [State.inset, State.setInset, Tab.get_set_ne _ _ _ h]
@[simp] theorem State.inset_modInset_self (s : State) (i : Nat) (f : InsetSt → InsetSt) :
    (s.modInset i f).inset i = f (s.inset i) := State.inset_setInset_self _ _ _
theorem State.inset_modInset_ne (s : State) {i j : Nat} (f : InsetSt → InsetSt) (h : j ≠ i) :
    (s.modInset i f).inset j = s.inset j := State.inset_setInset_ne _ _ h

theorem State.inset_modCmd_self (s : State) (r : CmdRef) (f : Cmd → Cmd) :
    (s.modCmd r f).inset r.inset = { s.inset r.inset with
      sheet := (s.inset r.inset).sheet.map (fun sh => { sh with cmds := modNth f sh.cmds r.idx }) } :=
  State.inset_modInset_self _ _ _
theorem State.inset_modCmd_ne (s : State) (r : CmdRef) (f : Cmd → Cmd) {j : Nat} (h : j ≠ r.inset) :
    (s.modCmd r f).inset j = s.inset j := State.inset_modInset_ne _ _ h

/-- The commands after one is changed: that one, and no other. -/
theorem State.cmd_modCmd (s : State) (r q : CmdRef) (f : Cmd → Cmd) :
    (s.modCmd r f).cmd q = if q = r then (s.cmd q).map f else s.cmd q := by
  obtain ⟨i, k⟩ := r
  obtain ⟨j, l⟩ := q
  by_cases h : j = i
  · subst h
    have e := State.inset_modCmd_self s ⟨j, k⟩ f
    simp only [State.cmd] at *
    rw [e]
    cases (s.inset j).sheet with
    | none => simp
    | some sh =>
      simp only [Option.map_some, getElem?_modNth, CmdRef.mk.injEq, true_and]
      by_cases hk : k = l
      · simp [hk]
      · simp [hk, Ne.symm hk]
  · simp [State.cmd, State.inset_modCmd_ne _ ⟨i, k⟩ f h, h]

@[simp] theorem State.syncObj_setSync_self (s : State) (n : Nat) (o : SyncObj) : (s.setSync n o).syncObj n = o := by
  simp [State.syncObj, State.setSync]
theorem State.syncObj_setSync_ne (s : State) {n m : Nat} (o : SyncObj) (h : m ≠ n) :
    (s.setSync n o).syncObj m = s.syncObj m := by
  simp [State.syncObj, State.setSync, Tab.get_set_ne _ _ _ h]
@[simp] theorem State.unit_setUnit_self (s : State) (n : Nat) (u : StackUnit) : (s.setUnit n u).unit n = u := by
  simp [State.unit, State.setUnit]
theorem State.unit_setUnit_ne (s : State) {n m : Nat} (u : StackUnit) (h : m ≠ n) : (s.setUnit n u).unit m = s.unit m := by
  simp [State.unit, State.setUnit, Tab.get_set_ne _ _ _ h]
@[simp] theorem State.port_setPort_self (s : State) (n : Nat) (p : Port) : (s.setPort n p).port n = p := by
  simp [State.port, State.setPort]
theorem State.port_setPort_ne (s : State) {n m : Nat} (p : Port) (h : m ≠ n) : (s.setPort n p).port m = s.port m := by
  simp [State.port, State.setPort, Tab.get_set_ne _ _ _ h]
@[simp] theorem State.port_modPort_self (s : State) (n : Nat) (f : Port → Port) : (s.modPort n f).port n = f (s.port n) :=
  State.port_setPort_self _ _ _
@[simp] theorem State.flow_setFlow_self (s : State) (n : Nat) (f : Flow) : (s.setFlow n f).flow n = f := by
  simp [State.flow, State.setFlow]
theorem State.flow_setFlow_ne (s : State) {n m : Nat} (f : Flow) (h : m ≠ n) : (s.setFlow n f).flow m = s.flow m := by
  simp [State.flow, State.setFlow, Tab.get_set_ne _ _ _ h]
@[simp] theorem State.gate_setGate_self (s : State) (n : Nat) (g : Gate) : (s.setGate n g).gate n = g := by
  simp [State.gate, State.setGate]
theorem State.gate_setGate_ne (s : State) {n m : Nat} (g : Gate) (h : m ≠ n) : (s.setGate n g).gate m = s.gate m := by
  simp [State.gate, State.setGate, Tab.get_set_ne _ _ _ h]
@[simp] theorem State.binding_setBinding_self (s : State) (n : Nat) (b : Binding) : (s.setBinding n b).binding n = b := by
  simp [State.binding, State.setBinding]
@[simp] theorem State.queue_setQueue_self (s : State) (f q : Nat) (p : QueuePair) : (s.setQueue f q p).queue f q = p := by
  simp [State.queue, State.setQueue]

end Sys2Proof.Machine
end

