-- ==== Sys2Proof/Laws/Engines.lean ====
section
/-!
SUPPORT. Everything an engine row can do (State.engineStep), and what one whose work is done leaves.
-/

namespace Sys2Proof.Machine

theorem State.running_cmd {s : State} {r : CmdRef} {e o : Nat} {c : Cmd} (h : s.running r e o = some c) :
    s.cmd r = some c ∧ c.phase = .running ∧ c.engine = e ∧ c.opcode = o := by
  unfold State.running at h
  split at h
  · rename_i x hx
    split at h
    · cases h; exact ⟨hx, by assumption⟩
    · cases h
  · cases h

theorem State.sheet_of_cmd {s : State} {r : CmdRef} {c : Cmd} (h : s.cmd r = some c) :
    ∃ sh, (s.inset r.inset).sheet = some sh ∧ sh.cmds[r.idx]? = some c := by
  unfold State.cmd at h
  split at h
  · exact ⟨_, by assumption, h⟩
  · cases h

/-- An engine row in which nothing stops the engine runs it. -/
theorem State.engineStep_run {s : State} {r : CmdRef} {hw : Hw} {e o : Nat} {data : Cmd → Bool} {run : Cmd → State} {c : Cmd}
    (hr : r.inset < 16) (hc : s.running r e o = some c) (hh : s.hwFault r c hw = none)
    (hf : forcedKill c (data c) = none) : s.engineStep r hw e o data run = .next (run c) := by
  simp [State.engineStep, refOk, hr, hc, hh, hf]

theorem State.engineRow_done {s u : State} {r : CmdRef} {hw : Hw} {e o : Nat} {data : Cmd → Bool}
    {work : State → Cmd → State × Res} {c : Cmd} {w : Work} (hr : r.inset < 16) (hc : s.running r e o = some c)
    (hh : s.hwFault r c hw = none) (hf : forcedKill c (data c) = none) (hw' : work s c = (u, .done w)) :
    s.engineRow r hw e o data work = .next ((s.workDone u).finish r w) := by
  unfold State.engineRow
  rw [State.engineStep_run hr hc hh hf, hw']
  rfl

theorem State.engineRowOpen_done {s u : State} {r : CmdRef} {hw : Hw} {e o : Nat} {data : Cmd → Bool}
    {work : State → Cmd → State × Res} {c : Cmd} {w : Work} (hr : r.inset < 16) (hc : s.running r e o = some c)
    (hh : s.hwFault r c hw = none) (hf : forcedKill c (data c) = none) (hw' : work s c = (u, .done w)) :
    s.engineRowOpen r hw e o data work = .next (u.finish r w) := by
  unfold State.engineRowOpen
  rw [State.engineStep_run hr hc hh hf, hw']
  rfl

@[simp] theorem State.cmd_workDone (s u : State) (r : CmdRef) : (s.workDone u).cmd r = s.cmd r := rfl
@[simp] theorem State.inset_workDone (s u : State) (i : Nat) : (s.workDone u).inset i = s.inset i := rfl

/-- Changing a command touches nothing else of any Inset. -/
theorem State.modCmd_only (s : State) (r : CmdRef) (f : Cmd → Cmd) : OnlyCmd s (s.modCmd r f) r where
  others q h := by rw [State.cmd_modCmd, if_neg h]
  insets i h := State.inset_modCmd_ne _ _ _ h
  own := by rw [State.inset_modCmd_self]
  header := by
    rw [State.inset_modCmd_self]
    cases (s.inset r.inset).sheet <;> rfl
  sched := rfl

theorem State.finish_cmd {s : State} {r : CmdRef} {c : Cmd} (w : Work) (h : s.cmd r = some c) :
    (s.finish r w).cmd r = some (c.withResults w) := by
  rw [State.finish, State.cmd_modCmd, if_pos rfl, h]; rfl

/-- An engine whose work is done leaves its results beside the command and nothing else (R35). -/
theorem State.finish_workDone {s u : State} {r : CmdRef} {c : Cmd} (w : Work) (h : s.cmd r = some c) :
    FinishedAs s u ((s.workDone u).finish r w) r c w where
  cmd := State.finish_cmd w h
  only :=
    let h := State.modCmd_only (s.workDone u) r (fun c => c.withResults w)
    ⟨h.others, h.insets, h.own, h.header, h.sched⟩
  mem := rfl
  regs := rfl
  counts := ⟨rfl, rfl, rfl, rfl⟩
  rest := ⟨rfl, rfl, rfl, rfl, rfl, rfl, rfl, rfl, rfl, rfl, rfl, rfl⟩

/-- Every row that is an engine row of these finishes. -/
theorem rowFinishes_of {i : Instr} {r : CmdRef} {hw : Hw} {e o : Nat} {data : Cmd → Bool}
    {work : State → Cmd → State × Res} (h : ∀ s, exec i s = s.engineRow r hw e o data work) :
    RowFinishes i r hw e o data work := by
  intro s c u w hr hc hh hf hw'
  exact ⟨_, (h s).trans (State.engineRow_done hr hc hh hf hw'), State.finish_workDone w (State.running_cmd hc).1⟩

end Sys2Proof.Machine
end

