-- ==== Sys2Proof/Laws/Events.lean ====
section
/-!
SUPPORT. What counting, charging, storing and raising an event leave alone: a count touches only the counter block and its
own register, and an event only memory, registers, checkpoints, interrupts and the last code.
-/

namespace Sys2Proof.Machine

/-! ### Counting and charging -/

@[simp] theorem State.countWith_clk (s : State) (sel : Nat → Bool) (i u n : Nat) : (s.countWith sel i u n).clk = s.clk := by
  unfold State.countWith; split <;> rfl
@[simp] theorem State.countWith_tick (s : State) (sel : Nat → Bool) (i u n : Nat) : (s.countWith sel i u n).tick = s.tick := by
  unfold State.countWith; split <;> rfl
@[simp] theorem State.countWith_gaz (s : State) (sel : Nat → Bool) (i u n : Nat) : (s.countWith sel i u n).gaz = s.gaz := by
  unfold State.countWith; split <;> rfl
@[simp] theorem State.countWith_mem (s : State) (sel : Nat → Bool) (i u n : Nat) : (s.countWith sel i u n).mem = s.mem := by
  unfold State.countWith; split <;> rfl
@[simp] theorem State.countWith_sched (s : State) (sel : Nat → Bool) (i u n : Nat) : (s.countWith sel i u n).sched = s.sched := by
  unfold State.countWith; split <;> rfl
@[simp] theorem State.countWith_search (s : State) (sel : Nat → Bool) (i u n : Nat) : (s.countWith sel i u n).search = s.search := by
  unfold State.countWith; split <;> rfl
@[simp] theorem State.countWith_chart (s : State) (sel : Nat → Bool) (i u n : Nat) : (s.countWith sel i u n).chart = s.chart := by
  unfold State.countWith; split <;> rfl
@[simp] theorem State.countWith_chartBad (s : State) (sel : Nat → Bool) (i u n : Nat) : (s.countWith sel i u n).chartBad = s.chartBad := by
  unfold State.countWith; split <;> rfl
@[simp] theorem State.countWith_bsu (s : State) (sel : Nat → Bool) (i u n : Nat) : (s.countWith sel i u n).bsu = s.bsu := by
  unfold State.countWith; split <;> rfl
@[simp] theorem State.countWith_flash (s : State) (sel : Nat → Bool) (i u n : Nat) : (s.countWith sel i u n).flash = s.flash := by
  unfold State.countWith; split <;> rfl
@[simp] theorem State.countWith_torus (s : State) (sel : Nat → Bool) (i u n : Nat) : (s.countWith sel i u n).torus = s.torus := by
  unfold State.countWith; split <;> rfl
@[simp] theorem State.countWith_tm (s : State) (sel : Nat → Bool) (i u n : Nat) : (s.countWith sel i u n).tm = s.tm := by
  unfold State.countWith; split <;> rfl
@[simp] theorem State.countWith_host (s : State) (sel : Nat → Bool) (i u n : Nat) : (s.countWith sel i u n).host = s.host := by
  unfold State.countWith; split <;> rfl
@[simp] theorem State.countWith_rel (s : State) (sel : Nat → Bool) (i u n : Nat) : (s.countWith sel i u n).rel = s.rel := by
  unfold State.countWith; split <;> rfl
@[simp] theorem State.countWith_sec (s : State) (sel : Nat → Bool) (i u n : Nat) : (s.countWith sel i u n).sec = s.sec := by
  unfold State.countWith; split <;> rfl
@[simp] theorem State.countWith_out (s : State) (sel : Nat → Bool) (i u n : Nat) : (s.countWith sel i u n).out = s.out := by
  unfold State.countWith; split <;> rfl
@[simp] theorem State.countWith_draws (s : State) (sel : Nat → Bool) (i u n : Nat) : (s.countWith sel i u n).draws = s.draws := by
  unfold State.countWith; split <;> rfl
@[simp] theorem State.countWith_pending (s : State) (sel : Nat → Bool) (i u n : Nat) : (s.countWith sel i u n).pending = s.pending := by
  unfold State.countWith; split <;> rfl
@[simp] theorem State.countBytes_clk (s : State) (e u i p d n : Nat) : (s.countBytes e u i p d n).clk = s.clk := by
  simp [State.countBytes]
@[simp] theorem State.countBytes_tick (s : State) (e u i p d n : Nat) : (s.countBytes e u i p d n).tick = s.tick := by
  simp [State.countBytes]
@[simp] theorem State.countBytes_gaz (s : State) (e u i p d n : Nat) : (s.countBytes e u i p d n).gaz = s.gaz := by
  simp [State.countBytes]
@[simp] theorem State.countBytes_mem (s : State) (e u i p d n : Nat) : (s.countBytes e u i p d n).mem = s.mem := by
  simp [State.countBytes]
@[simp] theorem State.countBytes_sched (s : State) (e u i p d n : Nat) : (s.countBytes e u i p d n).sched = s.sched := by
  simp [State.countBytes]
@[simp] theorem State.countBytes_search (s : State) (e u i p d n : Nat) : (s.countBytes e u i p d n).search = s.search := by
  simp [State.countBytes]
@[simp] theorem State.countBytes_chart (s : State) (e u i p d n : Nat) : (s.countBytes e u i p d n).chart = s.chart := by
  simp [State.countBytes]
@[simp] theorem State.countBytes_chartBad (s : State) (e u i p d n : Nat) : (s.countBytes e u i p d n).chartBad = s.chartBad := by
  simp [State.countBytes]
@[simp] theorem State.countBytes_bsu (s : State) (e u i p d n : Nat) : (s.countBytes e u i p d n).bsu = s.bsu := by
  simp [State.countBytes]
@[simp] theorem State.countBytes_flash (s : State) (e u i p d n : Nat) : (s.countBytes e u i p d n).flash = s.flash := by
  simp [State.countBytes]
@[simp] theorem State.countBytes_torus (s : State) (e u i p d n : Nat) : (s.countBytes e u i p d n).torus = s.torus := by
  simp [State.countBytes]
@[simp] theorem State.countBytes_tm (s : State) (e u i p d n : Nat) : (s.countBytes e u i p d n).tm = s.tm := by
  simp [State.countBytes]
@[simp] theorem State.countBytes_host (s : State) (e u i p d n : Nat) : (s.countBytes e u i p d n).host = s.host := by
  simp [State.countBytes]
@[simp] theorem State.countBytes_rel (s : State) (e u i p d n : Nat) : (s.countBytes e u i p d n).rel = s.rel := by
  simp [State.countBytes]
@[simp] theorem State.countBytes_sec (s : State) (e u i p d n : Nat) : (s.countBytes e u i p d n).sec = s.sec := by
  simp [State.countBytes]
@[simp] theorem State.countBytes_out (s : State) (e u i p d n : Nat) : (s.countBytes e u i p d n).out = s.out := by
  simp [State.countBytes]
@[simp] theorem State.countBytes_draws (s : State) (e u i p d n : Nat) : (s.countBytes e u i p d n).draws = s.draws := by
  simp [State.countBytes]
@[simp] theorem State.countBytes_pending (s : State) (e u i p d n : Nat) : (s.countBytes e u i p d n).pending = s.pending := by
  simp [State.countBytes]
@[simp] theorem State.bump_clk (s : State) (i k n : Nat) : (s.bump i k n).clk = s.clk := by
  unfold State.bump; split <;> simp
@[simp] theorem State.bump_tick (s : State) (i k n : Nat) : (s.bump i k n).tick = s.tick := by
  unfold State.bump; split <;> simp
@[simp] theorem State.bump_mem (s : State) (i k n : Nat) : (s.bump i k n).mem = s.mem := by
  unfold State.bump; split <;> simp
@[simp] theorem State.bump_sched (s : State) (i k n : Nat) : (s.bump i k n).sched = s.sched := by
  unfold State.bump; split <;> simp
@[simp] theorem State.bump_search (s : State) (i k n : Nat) : (s.bump i k n).search = s.search := by
  unfold State.bump; split <;> simp
@[simp] theorem State.bump_chart (s : State) (i k n : Nat) : (s.bump i k n).chart = s.chart := by
  unfold State.bump; split <;> simp
@[simp] theorem State.bump_chartBad (s : State) (i k n : Nat) : (s.bump i k n).chartBad = s.chartBad := by
  unfold State.bump; split <;> simp
@[simp] theorem State.bump_bsu (s : State) (i k n : Nat) : (s.bump i k n).bsu = s.bsu := by
  unfold State.bump; split <;> simp
@[simp] theorem State.bump_flash (s : State) (i k n : Nat) : (s.bump i k n).flash = s.flash := by
  unfold State.bump; split <;> simp
@[simp] theorem State.bump_torus (s : State) (i k n : Nat) : (s.bump i k n).torus = s.torus := by
  unfold State.bump; split <;> simp
@[simp] theorem State.bump_tm (s : State) (i k n : Nat) : (s.bump i k n).tm = s.tm := by
  unfold State.bump; split <;> simp
@[simp] theorem State.bump_host (s : State) (i k n : Nat) : (s.bump i k n).host = s.host := by
  unfold State.bump; split <;> simp
@[simp] theorem State.bump_rel (s : State) (i k n : Nat) : (s.bump i k n).rel = s.rel := by
  unfold State.bump; split <;> simp
@[simp] theorem State.bump_sec (s : State) (i k n : Nat) : (s.bump i k n).sec = s.sec := by
  unfold State.bump; split <;> simp
@[simp] theorem State.bump_out (s : State) (i k n : Nat) : (s.bump i k n).out = s.out := by
  unfold State.bump; split <;> simp
@[simp] theorem State.bump_draws (s : State) (i k n : Nat) : (s.bump i k n).draws = s.draws := by
  unfold State.bump; split <;> simp
@[simp] theorem State.bump_pending (s : State) (i k n : Nat) : (s.bump i k n).pending = s.pending := by
  unfold State.bump; split <;> simp
@[simp] theorem State.bumpNode_clk (s : State) (k n : Nat) : (s.bumpNode k n).clk = s.clk := by
  simp [State.bumpNode]
@[simp] theorem State.bumpNode_tick (s : State) (k n : Nat) : (s.bumpNode k n).tick = s.tick := by
  simp [State.bumpNode]
@[simp] theorem State.bumpNode_mem (s : State) (k n : Nat) : (s.bumpNode k n).mem = s.mem := by
  simp [State.bumpNode]
@[simp] theorem State.bumpNode_sched (s : State) (k n : Nat) : (s.bumpNode k n).sched = s.sched := by
  simp [State.bumpNode]
@[simp] theorem State.bumpNode_search (s : State) (k n : Nat) : (s.bumpNode k n).search = s.search := by
  simp [State.bumpNode]
@[simp] theorem State.bumpNode_chart (s : State) (k n : Nat) : (s.bumpNode k n).chart = s.chart := by
  simp [State.bumpNode]
@[simp] theorem State.bumpNode_chartBad (s : State) (k n : Nat) : (s.bumpNode k n).chartBad = s.chartBad := by
  simp [State.bumpNode]
@[simp] theorem State.bumpNode_bsu (s : State) (k n : Nat) : (s.bumpNode k n).bsu = s.bsu := by
  simp [State.bumpNode]
@[simp] theorem State.bumpNode_flash (s : State) (k n : Nat) : (s.bumpNode k n).flash = s.flash := by
  simp [State.bumpNode]
@[simp] theorem State.bumpNode_torus (s : State) (k n : Nat) : (s.bumpNode k n).torus = s.torus := by
  simp [State.bumpNode]
@[simp] theorem State.bumpNode_tm (s : State) (k n : Nat) : (s.bumpNode k n).tm = s.tm := by
  simp [State.bumpNode]
@[simp] theorem State.bumpNode_host (s : State) (k n : Nat) : (s.bumpNode k n).host = s.host := by
  simp [State.bumpNode]
@[simp] theorem State.bumpNode_rel (s : State) (k n : Nat) : (s.bumpNode k n).rel = s.rel := by
  simp [State.bumpNode]
@[simp] theorem State.bumpNode_sec (s : State) (k n : Nat) : (s.bumpNode k n).sec = s.sec := by
  simp [State.bumpNode]
@[simp] theorem State.bumpNode_out (s : State) (k n : Nat) : (s.bumpNode k n).out = s.out := by
  simp [State.bumpNode]
@[simp] theorem State.bumpNode_draws (s : State) (k n : Nat) : (s.bumpNode k n).draws = s.draws := by
  simp [State.bumpNode]
@[simp] theorem State.bumpNode_pending (s : State) (k n : Nat) : (s.bumpNode k n).pending = s.pending := by
  simp [State.bumpNode]
@[simp] theorem State.charge_clk (s : State) (i k n : Nat) : (s.charge i k n).clk = s.clk := by
  unfold State.charge; split <;> simp
@[simp] theorem State.charge_tick (s : State) (i k n : Nat) : (s.charge i k n).tick = s.tick := by
  unfold State.charge; split <;> simp
@[simp] theorem State.charge_gaz (s : State) (i k n : Nat) : (s.charge i k n).gaz = s.gaz := by
  unfold State.charge; split <;> simp
@[simp] theorem State.charge_mem (s : State) (i k n : Nat) : (s.charge i k n).mem = s.mem := by
  unfold State.charge; split <;> simp
@[simp] theorem State.charge_search (s : State) (i k n : Nat) : (s.charge i k n).search = s.search := by
  unfold State.charge; split <;> simp
@[simp] theorem State.charge_chart (s : State) (i k n : Nat) : (s.charge i k n).chart = s.chart := by
  unfold State.charge; split <;> simp
@[simp] theorem State.charge_chartBad (s : State) (i k n : Nat) : (s.charge i k n).chartBad = s.chartBad := by
  unfold State.charge; split <;> simp
@[simp] theorem State.charge_bsu (s : State) (i k n : Nat) : (s.charge i k n).bsu = s.bsu := by
  unfold State.charge; split <;> simp
@[simp] theorem State.charge_flash (s : State) (i k n : Nat) : (s.charge i k n).flash = s.flash := by
  unfold State.charge; split <;> simp
@[simp] theorem State.charge_torus (s : State) (i k n : Nat) : (s.charge i k n).torus = s.torus := by
  unfold State.charge; split <;> simp
@[simp] theorem State.charge_tm (s : State) (i k n : Nat) : (s.charge i k n).tm = s.tm := by
  unfold State.charge; split <;> simp
@[simp] theorem State.charge_host (s : State) (i k n : Nat) : (s.charge i k n).host = s.host := by
  unfold State.charge; split <;> simp
@[simp] theorem State.charge_rel (s : State) (i k n : Nat) : (s.charge i k n).rel = s.rel := by
  unfold State.charge; split <;> simp
@[simp] theorem State.charge_ctr (s : State) (i k n : Nat) : (s.charge i k n).ctr = s.ctr := by
  unfold State.charge; split <;> simp
@[simp] theorem State.charge_sec (s : State) (i k n : Nat) : (s.charge i k n).sec = s.sec := by
  unfold State.charge; split <;> simp
@[simp] theorem State.charge_out (s : State) (i k n : Nat) : (s.charge i k n).out = s.out := by
  unfold State.charge; split <;> simp
@[simp] theorem State.charge_draws (s : State) (i k n : Nat) : (s.charge i k n).draws = s.draws := by
  unfold State.charge; split <;> simp
@[simp] theorem State.charge_pending (s : State) (i k n : Nat) : (s.charge i k n).pending = s.pending := by
  unfold State.charge; split <;> simp

theorem State.bump_gaz (s : State) (i k n : Nat) :
    (s.bump i k n).gaz = if n = 0 then s.gaz else (s.setNum i k (s.num i k + n)).gaz := by
  unfold State.bump; split <;> simp

theorem State.bump_num_self (s : State) (i k n : Nat) (h : n ≠ 0) :
    (s.bump i k n).num i k = (s.num i k + n) % typeMod k := by
  have h1 : (s.bump i k n).gaz = (s.setNum i k (s.num i k + n)).gaz := by rw [State.bump_gaz, if_neg h]
  have h2 := State.num_setNum_self s i k (s.num i k + n)
  show Dict.num (s.bump i k n).gaz.regs i k = _
  rw [h1]
  exact h2

theorem State.bump_num_ne (s : State) {i k j l : Nat} (n : Nat) (h : rkey i k ≠ rkey j l) :
    (s.bump i k n).num j l = s.num j l := by
  by_cases hn : n = 0
  · simp [State.bump, hn]
  · have h1 : (s.bump i k n).gaz = (s.setNum i k (s.num i k + n)).gaz := by rw [State.bump_gaz, if_neg hn]
    have h2 := State.num_setNum_ne (i := j) (k := l) (j := i) (l := k) s (s.num i k + n) (Ne.symm h)
    have h3 : (s.bump i k n).num j l = (s.setNum i k (s.num i k + n)).num j l :=
      congrArg (fun (g : GazState) => Dict.num g.regs j l) h1
    rw [h3, h2]

@[simp] theorem State.inset_bump (s : State) (i k n j : Nat) : (s.bump i k n).inset j = s.inset j := by
  simp [State.inset]

/-! ### Events -/

/-- What an event may touch: memory, one checkpoint, registers, the counter block, an interrupt, and the last code. -/
structure EventFrame (s t : State) : Prop where
  clk : t.clk = { s.clk with lastCode := t.clk.lastCode }
  tick : t.tick = s.tick
  gaz : t.gaz = { s.gaz with regs := t.gaz.regs }
  sched : t.sched = { s.sched with insets := t.sched.insets }
  sheet : ∀ j, (t.inset j).sheet = (s.inset j).sheet
  search : t.search = s.search
  chart : t.chart = s.chart
  chartBad : t.chartBad = s.chartBad
  bsu : t.bsu = s.bsu
  flash : t.flash = s.flash
  torus : t.torus = s.torus
  tm : t.tm = s.tm
  host : t.host = s.host
  rel : t.rel = s.rel
  sec : t.sec = s.sec
  draws : t.draws = s.draws
  pending : t.pending = s.pending

theorem EventFrame.refl (s : State) : EventFrame s s :=
  ⟨rfl, rfl, rfl, rfl, fun _ => rfl, rfl, rfl, rfl, rfl, rfl, rfl, rfl, rfl, rfl, rfl, rfl, rfl⟩

theorem EventFrame.trans {a b c : State} (h : EventFrame a b) (k : EventFrame b c) : EventFrame a c where
  clk := by rw [k.clk, h.clk]
  tick := k.tick.trans h.tick
  gaz := by rw [k.gaz, h.gaz]
  sched := by rw [k.sched, h.sched]
  sheet j := (k.sheet j).trans (h.sheet j)
  search := k.search.trans h.search
  chart := k.chart.trans h.chart
  chartBad := k.chartBad.trans h.chartBad
  bsu := k.bsu.trans h.bsu
  flash := k.flash.trans h.flash
  torus := k.torus.trans h.torus
  tm := k.tm.trans h.tm
  host := k.host.trans h.host
  rel := k.rel.trans h.rel
  sec := k.sec.trans h.sec
  draws := k.draws.trans h.draws
  pending := k.pending.trans h.pending

theorem EventFrame.foldl {α : Type} (f : State → α → State) (h : ∀ s a, EventFrame s (f s a)) (l : List α) (s : State) :
    EventFrame s (l.foldl f s) := by
  induction l generalizing s with
  | nil => exact EventFrame.refl s
  | cons a l ih => exact (h s a).trans (ih _)

theorem EventFrame.bump (s : State) (i k n : Nat) : EventFrame s (s.bump i k n) where
  clk := by simp
  tick := by simp
  gaz := by rw [State.bump_gaz]; split <;> rfl
  sched := by simp
  sheet _ := by simp
  search := by simp
  chart := by simp
  chartBad := by simp
  bsu := by simp
  flash := by simp
  torus := by simp
  tm := by simp
  host := by simp
  rel := by simp
  sec := by simp
  draws := by simp
  pending := by simp

theorem EventFrame.setNum (s : State) (i k n : Nat) : EventFrame s (s.setNum i k n) :=
  ⟨rfl, rfl, rfl, rfl, fun _ => rfl, rfl, rfl, rfl, rfl, rfl, rfl, rfl, rfl, rfl, rfl, rfl, rfl⟩

theorem EventFrame.emit (s : State) (o : Out) : EventFrame s (s.emit o) :=
  ⟨rfl, rfl, rfl, rfl, fun _ => rfl, rfl, rfl, rfl, rfl, rfl, rfl, rfl, rfl, rfl, rfl, rfl, rfl⟩

theorem EventFrame.mem (s : State) (m : MemState) : EventFrame s { s with mem := m } :=
  ⟨rfl, rfl, rfl, rfl, fun _ => rfl, rfl, rfl, rfl, rfl, rfl, rfl, rfl, rfl, rfl, rfl, rfl, rfl⟩

theorem EventFrame.setInset (s : State) (i : Nat) (t : InsetSt) (h : t.sheet = (s.inset i).sheet) :
    EventFrame s (s.setInset i t) where
  clk := rfl
  tick := rfl
  gaz := rfl
  sched := rfl
  sheet j := by
    by_cases hj : j = i
    · subst hj; rw [State.inset_setInset_self, h]
    · rw [State.inset_setInset_ne s t hj]
  search := rfl
  chart := rfl
  chartBad := rfl
  bsu := rfl
  flash := rfl
  torus := rfl
  tm := rfl
  host := rfl
  rel := rfl
  sec := rfl
  draws := rfl
  pending := rfl

theorem EventFrame.modInset (s : State) (i : Nat) (f : InsetSt → InsetSt) (h : ∀ t, (f t).sheet = t.sheet) :
    EventFrame s (s.modInset i f) := EventFrame.setInset s i _ (h _)

theorem EventFrame.markDirty (s : State) (st : Nat) : EventFrame s (s.markDirty st) := by
  unfold State.markDirty
  split
  · exact EventFrame.mem _ _
  · exact EventFrame.refl _

theorem EventFrame.dropCkpt (s : State) (i : Nat) : EventFrame s (s.dropCkpt i) := by
  unfold State.dropCkpt
  dsimp only
  refine EventFrame.trans ?_ (EventFrame.setNum _ _ _ _)
  refine EventFrame.trans ?_ (EventFrame.setNum _ _ _ _)
  exact EventFrame.trans (EventFrame.mem s _) (EventFrame.modInset _ _ _ (fun _ => rfl))

theorem EventFrame.saveGroup (s : State) (st : Nat) : EventFrame s (s.saveGroup st).1 := by
  unfold State.saveGroup
  split
  · exact EventFrame.refl _
  split
  · exact EventFrame.refl _
  rename_i i _
  dsimp only
  split
  · exact EventFrame.refl _
  split
  · exact EventFrame.refl _
  split
  · refine EventFrame.trans ?_ (EventFrame.setNum _ _ _ _)
    refine EventFrame.trans ?_ (EventFrame.bump _ _ _ _)
    exact EventFrame.setInset _ _ _ rfl
  · exact EventFrame.dropCkpt _ _

theorem EventFrame.storeWord (s : State) (w : Nat) (cells : Tab Byte) : EventFrame s (s.storeWord w cells).1 := by
  unfold State.storeWord
  dsimp only
  split
  · exact (((EventFrame.saveGroup s _).trans (EventFrame.mem _ _)).trans (EventFrame.markDirty _ _)).trans
      (EventFrame.bump _ _ _ _)
  · exact ((EventFrame.saveGroup s _).trans (EventFrame.mem _ _)).trans (EventFrame.markDirty _ _)

theorem EventFrame.storeWords (s : State) (ws : List (Nat × Tab Byte)) : EventFrame s (s.storeWords ws).1 := by
  have key : ∀ (l : List (Nat × Tab Byte)) (acc : State × Bool × List Nat),
      EventFrame acc.1 (l.foldl (fun acc c =>
        let (s, bad, ab) := acc.1.storeWord c.1 c.2
        (s, acc.2.1 || bad, acc.2.2 ++ ab.toList)) acc).1 := by
    intro l
    induction l with
    | nil => intro acc; exact EventFrame.refl _
    | cons c l ih =>
      intro acc
      rw [List.foldl_cons]
      exact (EventFrame.storeWord acc.1 c.1 c.2).trans (ih ((acc.1.storeWord c.1 c.2).1, _, _))
  exact key ws (s, false, [])

theorem EventFrame.storeRaw (s : State) (a : Nat) (b : Bytes) : EventFrame s (s.storeRaw a b).1 := EventFrame.storeWords _ _

theorem EventFrame.fireVector (s : State) (i v : Nat) : EventFrame s (s.fireVector i v) := by
  unfold State.fireVector
  refine EventFrame.trans ?_ (EventFrame.emit _ _)
  exact EventFrame.modInset _ _ _ (fun _ => rfl)

theorem EventFrame.interrupt (s : State) (i src : Nat) : EventFrame s (s.interrupt i src) := by
  unfold State.interrupt
  dsimp only
  split
  · exact EventFrame.refl _
  split
  · exact EventFrame.modInset _ _ _ (fun _ => rfl)
  · exact EventFrame.fireVector _ _ _

theorem EventFrame.eventFull (s : State) (i code detail addr : Nat) (r : Bool) :
    EventFrame s (s.eventFull i code detail addr r) := by
  have hl : ∀ (u : State) (c : Nat), EventFrame u { u with clk := { u.clk with lastCode := c } } := fun _ _ =>
    ⟨rfl, rfl, rfl, rfl, fun _ => rfl, rfl, rfl, rfl, rfl, rfl, rfl, rfl, rfl, rfl, rfl, rfl, rfl⟩
  have h1 : ∀ u : State, EventFrame s u → EventFrame s (match classSource code with
      | some src => (if code / 0x1000 = 4 ∨ code / 0x1000 = 7 then { u with clk := { u.clk with lastCode := code } }
          else u).interrupt i src
      | none => if code / 0x1000 = 4 ∨ code / 0x1000 = 7 then { u with clk := { u.clk with lastCode := code } } else u) := by
    intro u hu
    have h2 : EventFrame s (if code / 0x1000 = 4 ∨ code / 0x1000 = 7 then { u with clk := { u.clk with lastCode := code } }
        else u) := by
      split
      · exact hu.trans (hl _ _)
      · exact hu
    split
    · exact h2.trans (EventFrame.interrupt _ _ _)
    · exact h2
  unfold State.eventFull
  dsimp only
  refine h1 _ ?_
  split
  · exact EventFrame.refl _
  · refine EventFrame.trans ?_ (EventFrame.modInset _ _ _ (fun _ => rfl))
    refine EventFrame.trans ?_ (EventFrame.foldl _ (fun _ _ => EventFrame.bump _ _ _ _) _ _)
    refine EventFrame.trans ?_ (EventFrame.storeRaw _ _ _)
    split
    · exact EventFrame.bump _ _ _ _
    · exact EventFrame.refl _

theorem EventFrame.event (s : State) (i code detail addr : Nat) : EventFrame s (s.event i code detail addr) :=
  EventFrame.eventFull _ _ _ _ _ _

theorem EventFrame.nodeEvent (s : State) (code detail addr : Nat) : EventFrame s (s.nodeEvent code detail addr) :=
  EventFrame.foldl _ (fun _ _ => EventFrame.event _ _ _ _ _) _ _

theorem EventFrame.cmd {s t : State} (h : EventFrame s t) (r : CmdRef) : t.cmd r = s.cmd r := by
  unfold State.cmd
  rw [h.sheet]

theorem EventFrame.storeAll (s : State) (ws : List (Nat × Tab Byte)) : EventFrame s (s.storeAll ws).1 :=
  (EventFrame.storeWords s ws).trans
    (EventFrame.foldl _ (fun _ _ => (EventFrame.bump _ _ _ _).trans (EventFrame.event _ _ _ _ _)) _ _)

theorem EventFrame.storeBytes (s : State) (a : Nat) (b : Bytes) : EventFrame s (s.storeBytes a b) := EventFrame.storeAll _ _

end Sys2Proof.Machine
end

