-- ==== Sys2Proof/Laws/Keep.lean ====
section
/-!
SUPPORT. What every command keeps (`Evolves`): how the relation composes, and the memory operations keep the canonical form.
-/

namespace Sys2Proof.Machine

set_option linter.all false

theorem Evolves.refl (s : State) : Evolves s s := ⟨rfl, rfl, ⟨[], by simp⟩, Nat.le_refl _, id⟩
theorem Evolves.trans {a b c : State} (h : Evolves a b) (k : Evolves b c) : Evolves a c := by
  obtain ⟨l, hl⟩ := h.out
  obtain ⟨m, hm⟩ := k.out
  exact ⟨k.pending.trans h.pending, k.cycle.trans h.cycle, ⟨l ++ m, by rw [hm, hl, List.append_assoc]⟩,
    Nat.le_trans h.draws k.draws, k.mem ∘ h.mem⟩
theorem Evolves.ofEq {a b c : State} (h : Evolves a b) (hp : c.pending = b.pending) (hc : c.clk.cycle = b.clk.cycle) (ho : c.out = b.out)
   (hd : c.draws = b.draws) (hm : c.mem = b.mem) : Evolves a c :=
  h.trans ⟨hp, hc, ⟨[], by simp [ho]⟩, by simp [hd], by rw [hm]; exact id⟩
theorem Evolves.mk' {a b : State} {x1 x2 x3 x4 x5 x6 x7 x8 x9 x10 x11 x12 x13 x14 x15} (h : Evolves a b) (hc : x1.cycle = b.clk.cycle) :
   Evolves a ⟨x1, x2, x3, b.mem, x4, x5, x6, x7, x8, x9, x10, x11, x12, x13, x14, x15, b.out, b.draws, b.pending⟩ :=
  h.ofEq rfl hc rfl rfl rfl
theorem Evolves.mkMem {a b : State} {x1 x2 x3 m x4 x5 x6 x7 x8 x9 x10 x11 x12 x13 x14 x15} (h : Evolves a b) (hm : b.mem.wf = true → m.wf = true) (hc : x1.cycle = b.clk.cycle) :
   Evolves a ⟨x1, x2, x3, m, x4, x5, x6, x7, x8, x9, x10, x11, x12, x13, x14, x15, b.out, b.draws, b.pending⟩ :=
  h.trans ⟨rfl, hc, ⟨[], by simp⟩, Nat.le_refl _, hm⟩
theorem Evolves.mkDraw {a b : State} {n : ℕ} {x1 x2 x3 x4 x5 x6 x7 x8 x9 x10 x11 x12 x13 x14 x15} (h : Evolves a b) (hc : x1.cycle = b.clk.cycle) :
   Evolves a ⟨x1, x2, x3, b.mem, x4, x5, x6, x7, x8, x9, x10, x11, x12, x13, x14, x15, b.out, b.draws + n, b.pending⟩ :=
  h.trans ⟨rfl, hc, ⟨[], by simp⟩, Nat.le_add_right _ _, id⟩
theorem Evolves.iteL {a x y : State} {c : Prop} [Decidable c] (h : Evolves a y) (k : Evolves a y → Evolves a x) : Evolves a (if c then x else y) := by
  split
  · exact k h
  · exact h
theorem Evolves.ite {a x y : State} {c : Prop} [Decidable c] (h : Evolves a x) (k : Evolves a y) : Evolves a (if c then x else y) := by
  split <;> assumption
theorem Evolves.ite1 {α} {a : State} {x y : State × α} {c : Prop} [Decidable c] (h : Evolves a x.1) (k : Evolves a y.1) : Evolves a (if c then x else y).1 := by
  split <;> assumption
theorem Evolves.pair1 {α} {a x : State} {y : α} (h : Evolves a x) : Evolves a (x, y).1 := h
theorem Evolves.fstEq {α} {a s : State} {p : State × α} {x : α} (e : p = (s, x)) (h : Evolves a p.1) : Evolves a s := by subst e; exact h
theorem Evolves.foldl {α} {a s : State} {l : List α} {f : State → α → State} (hf : ∀ t x, Evolves a t → Evolves a (f t x)) (h : Evolves a s) :
    Evolves a (l.foldl f s) := by
  induction l generalizing s with
  | nil => exact h
  | cons x xs ih => exact ih (hf _ _ h)
theorem Evolves.foldl1 {α β} {a : State} {s : State × β} {l : List α} {f : State × β → α → State × β}
    (hf : ∀ t x, Evolves a t.1 → Evolves a (f t x).1) (h : Evolves a s.1) : Evolves a (l.foldl f s).1 := by
  induction l generalizing s with
  | nil => exact h
  | cons x xs ih => exact ih (hf _ _ h)

theorem Evolves.ite2 {α} {a : State} {x y : α × State} {c : Prop} [Decidable c] (h : Evolves a x.2) (k : Evolves a y.2) : Evolves a (if c then x else y).2 := by
  split <;> assumption
theorem Evolves.iteF {a : State} {x y : Bg} {c : Prop} [Decidable c] (h : Evolves a x.s) (k : Evolves a y.s) : Evolves a (if c then x else y).s := by
  split <;> assumption
theorem Evolves.iteW {a : State} {x y : Writing} {c : Prop} [Decidable c] (h : Evolves a x.s) (k : Evolves a y.s) : Evolves a (if c then x else y).s := by
  split <;> assumption
theorem Evolves.iteC {a : State} {x y : CkptWin} {c : Prop} [Decidable c] (h : Evolves a x.s) (k : Evolves a y.s) : Evolves a (if c then x else y).s := by
  split <;> assumption
theorem Evolves.iteG {a : State} {x y : Gather} {c : Prop} [Decidable c] (h : Evolves a x.s) (k : Evolves a y.s) : Evolves a (if c then x else y).s := by
  split <;> assumption
theorem Evolves.pair2 {α} {a x : State} {y : α} (h : Evolves a x) : Evolves a (y, x).2 := h
theorem Evolves.sndEq {α} {a s : State} {p : α × State} {x : α} (e : p = (x, s)) (h : Evolves a p.2) : Evolves a s := by subst e; exact h
theorem Bg_mk_ev {a s : State} {x y} (h : Evolves a s) : Evolves a (Bg.mk s x y).s := h
theorem CkptWin_mk_ev {a s : State} {x y} (h : Evolves a s) : Evolves a (CkptWin.mk s x y).s := h
theorem Writing_mk_ev {a s : State} {x y z w} (h : Evolves a s) : Evolves a (Writing.mk s x y z w).s := h
theorem Gather_mk_ev {a s : State} {x y z w u v} (h : Evolves a s) : Evolves a (Gather.mk s x y z w u v).s := h
theorem Evolves.foldlB {α} {a : State} {s : Bg} {l : List α} {f : Bg → α → Bg} (hf : ∀ t x, Evolves a t.s → Evolves a (f t x).s) (h : Evolves a s.s) :
    Evolves a (l.foldl f s).s := by
  induction l generalizing s with
  | nil => exact h
  | cons x xs ih => exact ih (hf _ _ h)
theorem Evolves.foldlW {α} {a : State} {s : Writing} {l : List α} {f : Writing → α → Writing} (hf : ∀ t x, Evolves a t.s → Evolves a (f t x).s) (h : Evolves a s.s) :
    Evolves a (l.foldl f s).s := by
  induction l generalizing s with
  | nil => exact h
  | cons x xs ih => exact ih (hf _ _ h)
theorem Evolves.foldlC {α} {a : State} {s : CkptWin} {l : List α} {f : CkptWin → α → CkptWin} (hf : ∀ t x, Evolves a t.s → Evolves a (f t x).s) (h : Evolves a s.s) :
    Evolves a (l.foldl f s).s := by
  induction l generalizing s with
  | nil => exact h
  | cons x xs ih => exact ih (hf _ _ h)
theorem Evolves.foldlG {α} {a : State} {s : Gather} {l : List α} {f : Gather → α → Gather} (hf : ∀ t x, Evolves a t.s → Evolves a (f t x).s) (h : Evolves a s.s) :
    Evolves a (l.foldl f s).s := by
  induction l generalizing s with
  | nil => exact h
  | cons x xs ih => exact ih (hf _ _ h)

theorem Evolves.pairF {α} {a : State} {x : Writing} {y : α} (h : Evolves a x.s) : Evolves a (x, y).1.s := h
theorem Evolves.iteFP {α} {a : State} {x y : Writing × α} {c : Prop} [Decidable c] (h : Evolves a x.1.s) (k : Evolves a y.1.s) : Evolves a (if c then x else y).1.s := by
  split <;> assumption
theorem Evolves.fpEq {α} {a : State} {w : Writing} {p : Writing × α} {x : α} (e : p = (w, x)) (h : Evolves a p.1.s) : Evolves a w.s := by subst e; exact h
def EvolvesO (a : State) (o : Host.Outcome State Fault Refusal) : Prop := ∀ t, o = .next t → Evolves a t
theorem EvolvesO.next {a t : State} (h : Evolves a t) : EvolvesO a (.next t) := by intro u hu; cases hu; exact h
theorem EvolvesO.fault {a : State} {f} : EvolvesO a (.fault f) := by intro u hu; cases hu
theorem EvolvesO.refused {a : State} {f} : EvolvesO a (.refused f) := by intro u hu; cases hu
theorem EvolvesO.ite {a : State} {x y} {c : Prop} [Decidable c] (h : EvolvesO a x) (k : EvolvesO a y) : EvolvesO a (if c then x else y) := by
  split <;> assumption
def EvolvesQ (a : State) (o : Option State) : Prop := ∀ t, o = some t → Evolves a t
theorem EvolvesQ.some {a t : State} (h : Evolves a t) : EvolvesQ a (some t) := by intro u hu; cases hu; exact h
theorem EvolvesQ.none {a : State} : EvolvesQ a none := by intro u hu; cases hu
theorem EvolvesQ.ite {a : State} {x y} {c : Prop} [Decidable c] (h : EvolvesQ a x) (k : EvolvesQ a y) : EvolvesQ a (if c then x else y) := by
  split <;> assumption
theorem EvolvesQ.eq {a s : State} {o : Option State} (e : o = .some s) (h : EvolvesQ a o) : Evolves a s := h _ e
def EvolvesP {α} (a : State) (o : Option (State × α)) : Prop := ∀ t, o = some t → Evolves a t.1
theorem EvolvesP.some {α} {a : State} {t : State × α} (h : Evolves a t.1) : EvolvesP a (some t) := by intro u hu; cases hu; exact h
theorem EvolvesP.none {α} {a : State} : EvolvesP (α := α) a none := by intro u hu; cases hu
theorem EvolvesP.ite {α} {a : State} {x y : Option (State × α)} {c : Prop} [Decidable c] (h : EvolvesP a x) (k : EvolvesP a y) : EvolvesP a (if c then x else y) := by
  split <;> assumption
theorem EvolvesP.eq {α} {a s : State} {x : α} {o : Option (State × α)} (e : o = .some (s, x)) (h : EvolvesP a o) : Evolves a s := h _ e


/-! memory -/
theorem Tab.wf_cons {α : Type} (j : ℕ) (v : α) (t : Tab α) :
    Tab.wf ((j, v) :: t) = true ↔ (∀ e ∈ t, j < e.1) ∧ Tab.wf t = true := by
  have key : ∀ (t : Tab α) (b : ℕ), Tab.sortedFrom (some b) t = true ↔ (∀ e ∈ t, b < e.1) ∧ Tab.sortedFrom none t = true := by
    intro t
    induction t with
    | nil => intro b; simp [Tab.sortedFrom]
    | cons x xs ih =>
      intro b
      obtain ⟨k, w⟩ := x
      simp only [Tab.sortedFrom, Bool.and_eq_true, decide_eq_true_eq, List.mem_cons, forall_eq_or_imp, ih k]
      constructor
      · rintro ⟨h1, h2, h3⟩
        exact ⟨⟨h1, fun e he => Nat.lt_trans h1 (h2 e he)⟩, h2, h3⟩
      · rintro ⟨⟨h1, _⟩, h2, h3⟩
        exact ⟨h1, h2, h3⟩
  simpa [Tab.wf, Tab.sortedFrom] using key t j

theorem Tab.mem_set {α : Type} {t : Tab α} {k : ℕ} {v : α} {e : ℕ × α} (h : e ∈ Tab.set t k v) : e = (k, v) ∨ e ∈ t := by
  induction t with
  | nil => simpa [Tab.set] using h
  | cons x xs ih =>
    obtain ⟨j, w⟩ := x
    simp only [Tab.set] at h
    split at h
    · rename_i hk; subst hk
      simp only [List.mem_cons] at h ⊢
      tauto
    · split at h
      · simpa using h
      · simp only [List.mem_cons] at h ⊢
        rcases h with h | h
        · exact .inr (.inl h)
        · exact (ih h).imp_right .inr

theorem Tab.mem_del {α : Type} {t : Tab α} {k : ℕ} {e : ℕ × α} (h : e ∈ Tab.del t k) : e ∈ t :=
  (List.mem_filter.1 h).1

theorem Tab.wf_set {α : Type} {t : Tab α} (k : ℕ) (v : α) (h : Tab.wf t = true) : Tab.wf (Tab.set t k v) = true := by
  induction t with
  | nil => rfl
  | cons x xs ih =>
    obtain ⟨j, w⟩ := x
    have h' := (Tab.wf_cons j w xs).1 h
    simp only [Tab.set]
    split
    · exact (Tab.wf_cons _ _ _).2 h'
    · split
      · rename_i hlt
        refine (Tab.wf_cons _ _ _).2 ⟨?_, h⟩
        intro e he
        rcases List.mem_cons.1 he with rfl | he
        · exact hlt
        · exact Nat.lt_trans hlt (h'.1 e he)
      · rename_i h1 h2
        refine (Tab.wf_cons _ _ _).2 ⟨?_, ih h'.2⟩
        intro e he
        rcases Tab.mem_set he with rfl | he
        · show j < k; omega
        · exact h'.1 e he

theorem Tab.wf_filter {α : Type} {t : Tab α} (p : ℕ × α → Bool) (h : Tab.wf t = true) : Tab.wf (t.filter p) = true := by
  induction t with
  | nil => rfl
  | cons x xs ih =>
    obtain ⟨j, w⟩ := x
    have h' := (Tab.wf_cons j w xs).1 h
    simp only [List.filter_cons]
    split
    · exact (Tab.wf_cons _ _ _).2 ⟨fun e he => h'.1 e (List.mem_filter.1 he).1, ih h'.2⟩
    · exact ih h'.2

theorem Tab.wf_del {α : Type} {t : Tab α} (k : ℕ) (h : Tab.wf t = true) : Tab.wf (Tab.del t k) = true :=
  Tab.wf_filter _ h

theorem mw_iff (m : MemState) : m.wf = true ↔ Tab.wf m.bytes = true ∧ ∀ e ∈ m.bytes, e.2 ≠ 0 := by
  simp [MemState.wf, List.all_eq_true, bne_iff_ne]

theorem mw_setByte {m : MemState} (a b) (h : m.wf = true) : (m.setByte a b).wf = true := by
  rw [mw_iff] at h ⊢
  unfold MemState.setByte
  dsimp only
  split
  · exact ⟨Tab.wf_del _ h.1, fun e he => h.2 e (Tab.mem_del he)⟩
  · rename_i hb
    refine ⟨Tab.wf_set _ _ h.1, fun e he => ?_⟩
    rcases Tab.mem_set he with rfl | he
    · exact hb
    · exact h.2 e he
theorem mw_chk {m : MemState} {c} (h : m.wf = true) : ({ m with chk := c } : MemState).wf = true := h
theorem mw_foldl {α} {f : MemState → α → MemState} (hf : ∀ m x, m.wf = true → (f m x).wf = true) {l : List α} {m : MemState} (h : m.wf = true) :
    (l.foldl f m).wf = true := by
  induction l generalizing m with
  | nil => exact h
  | cons x xs ih => exact ih (hf _ _ h)
theorem mw_setBytes {m : MemState} {l} (h : m.wf = true) : (m.setBytes l).wf = true :=
  mw_foldl (fun _ _ h => mw_setByte _ _ h) h
theorem mw_writeWord {m : MemState} {w cells} (h : m.wf = true) : (m.writeWord w cells).1.wf = true := by
  unfold MemState.writeWord
  dsimp only
  split
  · exact mw_setBytes h
  · exact mw_setBytes (mw_setBytes h)
  · have h' : (m.setBytes (cells.map (fun c => (w * 64 + c.1, c.2)))).wf = true := mw_setBytes h
    split
    · exact h'
    · split
      · exact h'
      · exact h'
theorem mw_writeWordEq {m m' : MemState} {w cells b} (e : m.writeWord w cells = (m', b)) (h : m.wf = true) : m'.wf = true := by
  have := mw_writeWord (w := w) (cells := cells) h
  rw [e] at this; exact this
theorem mw_poisonWord {m : MemState} {w} (h : m.wf = true) : (m.poisonWord w).wf = true := by
  unfold MemState.poisonWord
  split
  · exact h
  · exact h
theorem mw_clear {m : MemState} {lo n} (h : m.wf = true) : (m.clear lo n).wf = true := by
  rw [mw_iff] at h ⊢
  exact ⟨Tab.wf_filter _ h.1, fun e he => h.2 e (List.mem_filter.1 he).1⟩
theorem mw_putWords {m : MemState} {l} (h : m.wf = true) : (m.putWords l).wf = true :=
  mw_foldl (fun _ _ h => mw_writeWord h) h


theorem mw_clearRegion {m : MemState} {lo n} (h : m.wf = true) : (m.clearRegion lo n).wf = true := by
  rw [mw_iff] at h ⊢
  exact ⟨Tab.wf_filter _ h.1, fun e he => h.2 e (List.mem_filter.1 he).1⟩
theorem mw_copyRegion {m : MemState} {lo n k} (h : m.wf = true) : (m.copyRegion lo n k).wf = true :=
  mw_foldl (fun _ _ h => mw_poisonWord h) (mw_setBytes (mw_setBytes (mw_clearRegion h)))
theorem mw_putGroup {m : MemState} {lo n} (h : m.wf = true) : (m.putGroup lo n).wf = true := mw_setBytes h
theorem EvolvesQ.foldlBind {α} {a : State} {l : List α} {o : Option State} {f : State → α → Option State} (hf : ∀ s x, Evolves a s → EvolvesQ a (f s x))
    (h : EvolvesQ a o) : EvolvesQ a (l.foldl (fun acc c => acc.bind (fun s => f s c)) o) := by
  induction l generalizing o with
  | nil => exact h
  | cons x xs ih =>
    refine ih ?_
    intro t ht
    cases o with
    | none => simp at ht
    | some u => exact hf u x (h u rfl) t ht

end Sys2Proof.Machine
end

