-- ==== Sys2Proof/Laws/KeepOps.lean ====
section
/-!
SUPPORT. Every function of Machine/Ops.lean that answers a state keeps what `Evolves` names.
-/

namespace Sys2Proof.Machine

set_option linter.all false

theorem State.setInset_ev {a : State} {x0 : Sys2Proof.Machine.State} {x1 : ℕ} {x2 : Sys2Proof.Machine.InsetSt} (hx0 : Evolves a x0) : Evolves a (State.setInset x0 x1 x2) := by
  unfold State.setInset
  refine Evolves.mk' ?_ rfl
  exact hx0

theorem State.modInset_ev {a : State} {x0 : Sys2Proof.Machine.State} {x1 : ℕ} {x2 : InsetSt → Sys2Proof.Machine.InsetSt} (hx0 : Evolves a x0) : Evolves a (State.modInset x0 x1 x2) := by
  unfold State.modInset
  refine State.setInset_ev ?_
  exact hx0

theorem State.charge_ev {a : State} {x0 : Sys2Proof.Machine.State} {x1 : ℕ} {x2 : ℕ} {x3 : ℕ} (hx0 : Evolves a x0) : Evolves a (State.charge x0 x1 x2 x3) := by
  unfold State.charge
  refine Evolves.ite ?_ ?_
  · exact hx0
  · refine State.modInset_ev ?_
    exact hx0

theorem State.countWith_ev {a : State} {x0 : Sys2Proof.Machine.State} {x1 : ℕ → Bool} {x2 : ℕ} {x3 : ℕ} {x4 : ℕ} (hx0 : Evolves a x0) : Evolves a (State.countWith x0 x1 x2 x3 x4) := by
  unfold State.countWith
  split
  · exact hx0
  · extract_lets -merge -useContext +onlyGivenNames v1
    extract_lets -merge -useContext +onlyGivenNames v2
    refine Evolves.mk' ?_ rfl
    exact hx0

theorem State.countBytes_ev {a : State} {x0 : Sys2Proof.Machine.State} {x1 : ℕ} {x2 : ℕ} {x3 : ℕ} {x4 : ℕ} {x5 : ℕ} {x6 : ℕ} (hx0 : Evolves a x0) : Evolves a (State.countBytes x0 x1 x2 x3 x4 x5 x6) := by
  unfold State.countBytes
  extract_lets -merge -useContext +onlyGivenNames v1
  have h_v1 : Evolves a v1 := by
    unfold v1
    refine State.countWith_ev ?_
    exact hx0
  try clear_value v1
  refine Evolves.mk' ?_ rfl
  exact h_v1

theorem State.setReg_ev {a : State} {x0 : Sys2Proof.Machine.State} {x1 : ℕ} {x2 : ℕ} {x3 : Sys2Proof.Machine.GVal} (hx0 : Evolves a x0) : Evolves a (State.setReg x0 x1 x2 x3) := by
  unfold State.setReg
  refine Evolves.mk' ?_ rfl
  exact hx0

theorem State.setNum_ev {a : State} {x0 : Sys2Proof.Machine.State} {x1 : ℕ} {x2 : ℕ} {x3 : ℕ} (hx0 : Evolves a x0) : Evolves a (State.setNum x0 x1 x2 x3) := by
  unfold State.setNum
  refine State.setReg_ev ?_
  exact hx0

theorem State.bump_ev {a : State} {x0 : Sys2Proof.Machine.State} {x1 : ℕ} {x2 : ℕ} {x3 : ℕ} (hx0 : Evolves a x0) : Evolves a (State.bump x0 x1 x2 x3) := by
  unfold State.bump
  refine Evolves.ite ?_ ?_
  · exact hx0
  · refine State.countWith_ev ?_
    refine State.setNum_ev ?_
    exact hx0

theorem State.bumpNode_ev {a : State} {x0 : Sys2Proof.Machine.State} {x1 : ℕ} {x2 : ℕ} (hx0 : Evolves a x0) : Evolves a (State.bumpNode x0 x1 x2) := by
  unfold State.bumpNode
  refine State.bump_ev ?_
  exact hx0

theorem State.dropCkpt_ev {a : State} {x0 : Sys2Proof.Machine.State} {x1 : ℕ} (hx0 : Evolves a x0) : Evolves a (State.dropCkpt x0 x1) := by
  unfold State.dropCkpt
  extract_lets -merge -useContext +onlyGivenNames v1
  extract_lets -merge -useContext +onlyGivenNames v2
  extract_lets -merge -useContext +onlyGivenNames v3
  extract_lets -merge -useContext +onlyGivenNames v4
  extract_lets -merge -useContext +onlyGivenNames v5
  have h_v5 : Evolves a v5 := by
    unfold v5
    refine State.modInset_ev ?_
    refine Evolves.mkMem ?_ (fun hm => ?_) rfl
    · exact hx0
    · first | exact hm | exact mw_writeWordEq (by assumption) hm | exact mw_writeWord hm | exact mw_poisonWord hm | exact mw_clear hm | exact mw_clearRegion hm | exact mw_copyRegion hm | exact mw_putGroup hm | exact mw_putWords hm | exact mw_foldl (fun _ _ h => mw_poisonWord h) hm
  try clear_value v5
  extract_lets -merge -useContext +onlyGivenNames v6
  have h_v6 : Evolves a v6 := by
    unfold v6
    refine State.setNum_ev ?_
    exact h_v5
  try clear_value v6
  refine State.setNum_ev ?_
  exact h_v6

theorem State.saveGroup_ev {a : State} {x0 : Sys2Proof.Machine.State} {x1 : ℕ} (hx0 : Evolves a x0) : Evolves a (State.saveGroup x0 x1).1 := by
  unfold State.saveGroup
  refine Evolves.ite1 ?_ ?_
  · refine Evolves.pair1 ?_
    exact hx0
  · split
    · refine Evolves.pair1 ?_
      exact hx0
    · extract_lets -merge -useContext +onlyGivenNames v1
      split
      · refine Evolves.pair1 ?_
        exact hx0
      · refine Evolves.ite1 ?_ ?_
        · refine Evolves.pair1 ?_
          exact hx0
        · extract_lets -merge -useContext +onlyGivenNames v2
          extract_lets -merge -useContext +onlyGivenNames v3
          extract_lets -merge -useContext +onlyGivenNames v4
          refine Evolves.ite1 ?_ ?_
          · extract_lets -merge -useContext +onlyGivenNames v5
            extract_lets -merge -useContext +onlyGivenNames v6
            extract_lets -merge -useContext +onlyGivenNames v7
            extract_lets -merge -useContext +onlyGivenNames v8
            extract_lets -merge -useContext +onlyGivenNames v9
            extract_lets -merge -useContext +onlyGivenNames v10
            have h_v10 : Evolves a v10 := by
              unfold v10
              refine State.setInset_ev ?_
              exact hx0
            try clear_value v10
            extract_lets -merge -useContext +onlyGivenNames v11
            have h_v11 : Evolves a v11 := by
              unfold v11
              refine State.bump_ev ?_
              exact h_v10
            try clear_value v11
            refine Evolves.pair1 ?_
            refine State.setNum_ev ?_
            exact h_v11
          · refine Evolves.pair1 ?_
            refine State.dropCkpt_ev ?_
            exact hx0

theorem State.markDirty_ev {a : State} {x0 : Sys2Proof.Machine.State} {x1 : ℕ} (hx0 : Evolves a x0) : Evolves a (State.markDirty x0 x1) := by
  unfold State.markDirty
  refine Evolves.ite ?_ ?_
  · refine Evolves.mkMem ?_ (fun hm => ?_) rfl
    · exact hx0
    · first | exact hm | exact mw_writeWordEq (by assumption) hm | exact mw_writeWord hm | exact mw_poisonWord hm | exact mw_clear hm | exact mw_clearRegion hm | exact mw_copyRegion hm | exact mw_putGroup hm | exact mw_putWords hm | exact mw_foldl (fun _ _ h => mw_poisonWord h) hm
  · exact hx0

theorem State.storeWord_ev {a : State} {x0 : Sys2Proof.Machine.State} {x1 : ℕ} {x2 : Sys2Proof.Tab Sys2Proof.Byte} (hx0 : Evolves a x0) : Evolves a (State.storeWord x0 x1 x2).1 := by
  unfold State.storeWord
  split
  · rename_i s1 y2 heq
    have h_s1 : Evolves a s1 := by
      refine Evolves.fstEq (by assumption) ?_
      refine State.saveGroup_ev ?_
      exact hx0
    split
    · extract_lets -merge -useContext +onlyGivenNames v3
      have h_v3 : Evolves a v3 := by
        unfold v3
        refine State.markDirty_ev ?_
        refine Evolves.mkMem ?_ (fun hm => ?_) rfl
        · exact h_s1
        · first | exact hm | exact mw_writeWordEq (by assumption) hm | exact mw_writeWord hm | exact mw_poisonWord hm | exact mw_clear hm | exact mw_clearRegion hm | exact mw_copyRegion hm | exact mw_putGroup hm | exact mw_putWords hm | exact mw_foldl (fun _ _ h => mw_poisonWord h) hm
      try clear_value v3
      extract_lets -merge -useContext +onlyGivenNames v4
      have h_v4 : Evolves a v4 := by
        unfold v4
        refine Evolves.ite ?_ ?_
        · refine State.bumpNode_ev ?_
          exact h_v3
        · exact h_v3
      try clear_value v4
      refine Evolves.pair1 ?_
      exact h_v4

theorem State.storeWords_ev {a : State} {x0 : Sys2Proof.Machine.State} {x1 : List (ℕ × Sys2Proof.Tab Sys2Proof.Byte)} (hx0 : Evolves a x0) : Evolves a (State.storeWords x0 x1).1 := by
  unfold State.storeWords
  refine Evolves.foldl1 (fun t1 x2 h_t1 => ?_) ?_
  · split
    · rename_i s3 y4 y5 heq
      have h_s3 : Evolves a s3 := by
        refine Evolves.fstEq (by assumption) ?_
        refine State.storeWord_ev ?_
        exact h_t1
      refine Evolves.pair1 ?_
      exact h_s3
  · refine Evolves.pair1 ?_
    exact hx0

theorem State.storeRaw_ev {a : State} {x0 : Sys2Proof.Machine.State} {x1 : ℕ} {x2 : Sys2Proof.Bytes} (hx0 : Evolves a x0) : Evolves a (State.storeRaw x0 x1 x2).1 := by
  unfold State.storeRaw
  refine State.storeWords_ev ?_
  exact hx0

theorem State.emit_ev {a : State} {x0 : Sys2Proof.Machine.State} {x1 : Sys2Proof.Machine.Out} (hx0 : Evolves a x0) : Evolves a (State.emit x0 x1) := by
  unfold State.emit
  exact hx0.trans ⟨rfl, rfl, ⟨[_], rfl⟩, Nat.le_refl _, id⟩

theorem State.fireVector_ev {a : State} {x0 : Sys2Proof.Machine.State} {x1 : ℕ} {x2 : ℕ} (hx0 : Evolves a x0) : Evolves a (State.fireVector x0 x1 x2) := by
  unfold State.fireVector
  refine State.emit_ev ?_
  refine State.modInset_ev ?_
  exact hx0

theorem State.interrupt_ev {a : State} {x0 : Sys2Proof.Machine.State} {x1 : ℕ} {x2 : ℕ} (hx0 : Evolves a x0) : Evolves a (State.interrupt x0 x1 x2) := by
  unfold State.interrupt
  extract_lets -merge -useContext +onlyGivenNames v1
  refine Evolves.ite ?_ ?_
  · exact hx0
  · refine Evolves.ite ?_ ?_
    · refine State.modInset_ev ?_
      exact hx0
    · refine State.fireVector_ev ?_
      exact hx0

theorem State.eventFull_ev {a : State} {x0 : Sys2Proof.Machine.State} {x1 : ℕ} {x2 : ℕ} {x3 : ℕ} {x4 : ℕ} {x5 : Bool} (hx0 : Evolves a x0) : Evolves a (State.eventFull x0 x1 x2 x3 x4 x5) := by
  unfold State.eventFull
  extract_lets -merge -useContext +onlyGivenNames v1
  extract_lets -merge -useContext +onlyGivenNames v2
  extract_lets -merge -useContext +onlyGivenNames v3
  have h_v3 : Evolves a v3 := by
    unfold v3
    refine Evolves.ite ?_ ?_
    · refine State.bump_ev ?_
      exact hx0
    · exact hx0
  try clear_value v3
  extract_lets -merge -useContext +onlyGivenNames v4
  have h_v4 : Evolves a v4 := by
    unfold v4
    refine Evolves.ite ?_ ?_
    · exact hx0
    · split
      · rename_i s5 y6 y7 heq
        have h_s5 : Evolves a s5 := by
          refine Evolves.fstEq (by assumption) ?_
          refine State.storeRaw_ev ?_
          exact h_v3
        extract_lets -merge -useContext +onlyGivenNames v8
        have h_v8 : Evolves a v8 := by
          unfold v8
          refine Evolves.foldl (fun t9 x10 h_t9 => ?_) ?_
          · refine State.bump_ev ?_
            exact h_t9
          · exact h_s5
        try clear_value v8
        refine State.modInset_ev ?_
        exact h_v8
  try clear_value v4
  extract_lets -merge -useContext +onlyGivenNames v11
  extract_lets -merge -useContext +onlyGivenNames v12
  have h_v12 : Evolves a v12 := by
    unfold v12
    refine Evolves.ite ?_ ?_
    · refine Evolves.mk' ?_ rfl
      exact h_v4
    · exact h_v4
  try clear_value v12
  split
  · refine State.interrupt_ev ?_
    exact h_v12
  · exact h_v12

theorem State.event_ev {a : State} {x0 : Sys2Proof.Machine.State} {x1 : ℕ} {x2 : ℕ} {x3 : ℕ} {x4 : ℕ} (hx0 : Evolves a x0) : Evolves a (State.event x0 x1 x2 x3 x4) := by
  unfold State.event
  refine State.eventFull_ev ?_
  exact hx0

theorem State.abortCkpt_ev {a : State} {x0 : Sys2Proof.Machine.State} {x1 : ℕ} {x2 : ℕ} (hx0 : Evolves a x0) : Evolves a (State.abortCkpt x0 x1 x2) := by
  unfold State.abortCkpt
  refine State.event_ev ?_
  refine State.bump_ev ?_
  refine State.dropCkpt_ev ?_
  exact hx0

theorem State.setSync_ev {a : State} {x0 : Sys2Proof.Machine.State} {x1 : ℕ} {x2 : Sys2Proof.Machine.SyncObj} (hx0 : Evolves a x0) : Evolves a (State.setSync x0 x1 x2) := by
  unfold State.setSync
  refine Evolves.mk' ?_ rfl
  exact hx0

theorem State.nodeEvent_ev {a : State} {x0 : Sys2Proof.Machine.State} {x1 : ℕ} {x2 : ℕ} {x3 : ℕ} (hx0 : Evolves a x0) : Evolves a (State.nodeEvent x0 x1 x2 x3) := by
  unfold State.nodeEvent
  refine Evolves.foldl (fun t1 x2 h_t1 => ?_) ?_
  · refine State.event_ev ?_
    exact h_t1
  · exact hx0

theorem State.storeAll_ev {a : State} {x0 : Sys2Proof.Machine.State} {x1 : List (ℕ × Sys2Proof.Tab Sys2Proof.Byte)} (hx0 : Evolves a x0) : Evolves a (State.storeAll x0 x1).1 := by
  unfold State.storeAll
  split
  · rename_i s1 y2 y3 heq
    have h_s1 : Evolves a s1 := by
      refine Evolves.fstEq (by assumption) ?_
      refine State.storeWords_ev ?_
      exact hx0
    refine Evolves.pair1 ?_
    refine Evolves.foldl (fun t4 x5 h_t4 => ?_) ?_
    · refine State.event_ev ?_
      refine State.bump_ev ?_
      exact h_t4
    · exact h_s1

theorem State.store_ev {a : State} {x0 : Sys2Proof.Machine.State} {x1 : ℕ} {x2 : Sys2Proof.Bytes} (hx0 : Evolves a x0) : Evolves a (State.store x0 x1 x2).1 := by
  unfold State.store
  refine State.storeAll_ev ?_
  exact hx0

theorem State.storeBytes_ev {a : State} {x0 : Sys2Proof.Machine.State} {x1 : ℕ} {x2 : Sys2Proof.Bytes} (hx0 : Evolves a x0) : Evolves a (State.storeBytes x0 x1 x2) := by
  unfold State.storeBytes
  refine State.store_ev ?_
  exact hx0

theorem State.noteRead_ev {a : State} {x0 : Sys2Proof.Machine.State} {x1 : ℕ} {x2 : ℕ} (hx0 : Evolves a x0) : Evolves a (State.noteRead x0 x1 x2) := by
  unfold State.noteRead
  extract_lets -merge -useContext +onlyGivenNames v1
  refine Evolves.ite ?_ ?_
  · exact hx0
  · refine Evolves.mk' ?_ rfl
    exact hx0

theorem State.draw_ev {a : State} {x0 : Sys2Proof.Machine.State} {x1 : ℕ} (hx0 : Evolves a x0) : Evolves a (State.draw x0 x1).2 := by
  unfold State.draw
  exact hx0.trans ⟨rfl, rfl, ⟨[], by simp⟩, Nat.le_succ _, id⟩

theorem State.setUnit_ev {a : State} {x0 : Sys2Proof.Machine.State} {x1 : ℕ} {x2 : Sys2Proof.Machine.StackUnit} (hx0 : Evolves a x0) : Evolves a (State.setUnit x0 x1 x2) := by
  unfold State.setUnit
  refine Evolves.mk' ?_ rfl
  exact hx0

theorem State.poisonRange_ev {a : State} {x0 : Sys2Proof.Machine.State} {x1 : ℕ} {x2 : ℕ} (hx0 : Evolves a x0) : Evolves a (State.poisonRange x0 x1 x2) := by
  unfold State.poisonRange
  refine Evolves.foldl (fun t1 x2 h_t1 => ?_) ?_
  · split
    · rename_i s3 y4 heq
      have h_s3 : Evolves a s3 := by
        refine Evolves.fstEq (by assumption) ?_
        refine State.saveGroup_ev ?_
        exact h_t1
      refine State.markDirty_ev ?_
      refine Evolves.mkMem ?_ (fun hm => ?_) rfl
      · exact h_s3
      · first | exact hm | exact mw_writeWordEq (by assumption) hm | exact mw_writeWord hm | exact mw_poisonWord hm | exact mw_clear hm | exact mw_clearRegion hm | exact mw_copyRegion hm | exact mw_putGroup hm | exact mw_putWords hm | exact mw_foldl (fun _ _ h => mw_poisonWord h) hm
  · exact hx0

end Sys2Proof.Machine
end

