-- ==== Sys2Proof/Laws/KeepAccess.lean ====
section
/-!
SUPPORT. Every function of Machine/Access.lean that answers a state keeps what `Evolves` names.
-/

namespace Sys2Proof.Machine

set_option linter.all false

theorem State.cxlBytes_ev {a : State} {x0 : Sys2Proof.Machine.State} {x1 : Sys2Proof.Machine.Held} (hx0 : Evolves a x0) : Evolves a (State.cxlBytes x0 x1) := by
  unfold State.cxlBytes
  refine State.charge_ev ?_
  refine Evolves.ite ?_ ?_
  · refine State.countBytes_ev ?_
    exact hx0
  · refine State.countBytes_ev ?_
    exact hx0

theorem State.storeMasked_ev {a : State} {x0 : Sys2Proof.Machine.State} {x1 : ℕ} {x2 : Sys2Proof.Bytes} {x3 : ℕ} (hx0 : Evolves a x0) : Evolves a (State.storeMasked x0 x1 x2 x3) := by
  unfold State.storeMasked
  extract_lets -merge -useContext +onlyGivenNames v1
  refine State.storeAll_ev ?_
  exact hx0

theorem State.performCxl_ev {a : State} {x0 : Sys2Proof.Machine.State} {x1 : Sys2Proof.Machine.Held} (hx0 : Evolves a x0) : Evolves a (State.performCxl x0 x1) := by
  unfold State.performCxl
  extract_lets -merge -useContext +onlyGivenNames v1
  have h_v1 : Evolves a v1 := by
    unfold v1
    refine State.cxlBytes_ev ?_
    exact hx0
  try clear_value v1
  refine Evolves.ite ?_ ?_
  · refine State.emit_ev ?_
    refine State.event_ev ?_
    exact h_v1
  · split
    · extract_lets -merge -useContext +onlyGivenNames v2
      extract_lets -merge -useContext +onlyGivenNames v3
      have h_v3 : Evolves a v3 := by
        unfold v3
        refine State.noteRead_ev ?_
        exact h_v1
      try clear_value v3
      extract_lets -merge -useContext +onlyGivenNames v4
      have h_v4 : Evolves a v4 := by
        unfold v4
        refine Evolves.ite ?_ ?_
        · refine State.event_ev ?_
          exact h_v3
        · exact h_v3
      try clear_value v4
      refine State.emit_ev ?_
      exact h_v4
    · extract_lets -merge -useContext +onlyGivenNames v5
      have h_v5 : Evolves a v5 := by
        unfold v5
        refine State.storeMasked_ev ?_
        exact h_v1
      try clear_value v5
      extract_lets -merge -useContext +onlyGivenNames v6
      have h_v6 : Evolves a v6 := by
        unfold v6
        refine Evolves.ite ?_ ?_
        · refine State.event_ev ?_
          refine State.poisonRange_ev ?_
          exact h_v5
        · exact h_v5
      try clear_value v6
      refine State.emit_ev ?_
      exact h_v6

theorem State.performCore_ev {a : State} {x0 : Sys2Proof.Machine.State} {x1 : ℕ} {x2 : Sys2Proof.Machine.Held} (hx0 : Evolves a x0) : Evolves a (State.performCore x0 x1 x2) := by
  unfold State.performCore
  split
  · refine Evolves.ite ?_ ?_
    · refine State.emit_ev ?_
      refine State.event_ev ?_
      exact hx0
    · extract_lets -merge -useContext +onlyGivenNames v1
      have h_v1 : Evolves a v1 := by
        unfold v1
        refine State.noteRead_ev ?_
        exact hx0
      try clear_value v1
      refine State.emit_ev ?_
      exact h_v1
  · refine State.storeBytes_ev ?_
    exact hx0

theorem State.performHeld_ev {a : State} {x0 : Sys2Proof.Machine.State} {x1 : Sys2Proof.Machine.Held} (hx0 : Evolves a x0) : Evolves a (State.performHeld x0 x1) := by
  unfold State.performHeld
  split
  · refine State.performCxl_ev ?_
    exact hx0
  · refine State.performCore_ev ?_
    exact hx0

theorem State.arrive_ev {a : State} {x0 : Sys2Proof.Machine.State} {x1 : Sys2Proof.Machine.Held} (hx0 : Evolves a x0) : Evolves a (State.arrive x0 x1) := by
  unfold State.arrive
  refine Evolves.ite ?_ ?_
  · extract_lets -merge -useContext +onlyGivenNames v1
    extract_lets -merge -useContext +onlyGivenNames v2
    have h_v2 : Evolves a v2 := by
      unfold v2
      refine Evolves.mk' ?_ rfl
      exact hx0
    try clear_value v2
    refine Evolves.ite ?_ ?_
    · refine State.bumpNode_ev ?_
      exact h_v2
    · exact h_v2
  · refine State.performHeld_ev ?_
    exact hx0

theorem State.serveHeld_ev {a : State} {x0 : Sys2Proof.Machine.State} (hx0 : Evolves a x0) : Evolves a (State.serveHeld x0) := by
  unfold State.serveHeld
  extract_lets -merge -useContext +onlyGivenNames v1
  extract_lets -merge -useContext +onlyGivenNames v2
  refine Evolves.foldl (fun t3 x4 h_t3 => ?_) ?_
  · refine State.performHeld_ev ?_
    exact h_t3
  · refine Evolves.mk' ?_ rfl
    exact hx0

theorem State.holdPoison_ev {a : State} {x0 : Sys2Proof.Machine.State} {x1 : Sys2Proof.Machine.Held} (hx0 : Evolves a x0) : Evolves a (State.holdPoison x0 x1) := by
  unfold State.holdPoison
  extract_lets -merge -useContext +onlyGivenNames v1
  have h_v1 : Evolves a v1 := by
    unfold v1
    refine State.event_ev ?_
    refine State.bumpNode_ev ?_
    exact hx0
  try clear_value v1
  split
  · refine State.emit_ev ?_
    exact h_v1
  · refine State.emit_ev ?_
    exact h_v1
  · refine State.emit_ev ?_
    exact h_v1
  · exact h_v1

end Sys2Proof.Machine
end

