-- ==== Sys2Proof/Laws/KeepTmOps.lean ====
section
/-!
SUPPORT. Every function of Machine/TmOps.lean that answers a state keeps what `Evolves` names.
-/

namespace Sys2Proof.Machine

set_option linter.all false

theorem State.bumpFlow_ev {a : State} {x0 : Sys2Proof.Machine.State} {x1 : ℕ} {x2 : ℕ} {x3 : ℕ} (hx0 : Evolves a x0) : Evolves a (State.bumpFlow x0 x1 x2 x3) := by
  unfold State.bumpFlow
  split
  · refine State.bump_ev ?_
    exact hx0
  · exact hx0

theorem State.setFlow_ev {a : State} {x0 : Sys2Proof.Machine.State} {x1 : ℕ} {x2 : Sys2Proof.Machine.Flow} (hx0 : Evolves a x0) : Evolves a (State.setFlow x0 x1 x2) := by
  unfold State.setFlow
  refine Evolves.mk' ?_ rfl
  exact hx0

theorem State.setService_ev {a : State} {x0 : Sys2Proof.Machine.State} {x1 : ℕ} {x2 : Sys2Proof.Machine.Service} (hx0 : Evolves a x0) : Evolves a (State.setService x0 x1 x2) := by
  unfold State.setService
  refine Evolves.mk' ?_ rfl
  exact hx0

theorem State.release_ev {a : State} {x0 : Sys2Proof.Machine.State} {x1 : ℕ} {x2 : ℕ} (hx0 : Evolves a x0) : EvolvesQ a (State.release x0 x1 x2) := by
  unfold State.release
  extract_lets -merge -useContext +onlyGivenNames v1
  extract_lets -merge -useContext +onlyGivenNames v2
  extract_lets -merge -useContext +onlyGivenNames v3
  extract_lets -merge -useContext +onlyGivenNames v4
  extract_lets -merge -useContext +onlyGivenNames v5
  extract_lets -merge -useContext +onlyGivenNames v6
  extract_lets -merge -useContext +onlyGivenNames v7
  extract_lets -merge -useContext +onlyGivenNames v8
  refine EvolvesQ.ite ?_ ?_
  · extract_lets -merge -useContext +onlyGivenNames v9
    extract_lets -merge -useContext +onlyGivenNames v10
    have h_v10 : Evolves a v10 := by
      unfold v10
      refine Evolves.ite ?_ ?_
      · refine State.setFlow_ev ?_
        exact hx0
      · exact hx0
    try clear_value v10
    refine EvolvesQ.some ?_
    refine Evolves.ite ?_ ?_
    · refine State.setService_ev ?_
      exact h_v10
    · exact h_v10
  · exact EvolvesQ.none

theorem State.enqueue_ev {a : State} {x0 : Sys2Proof.Machine.State} {x1 : ℕ} {x2 : ℕ} {x3 : Sys2Proof.Machine.Out} (hx0 : Evolves a x0) : Evolves a (State.enqueue x0 x1 x2 x3) := by
  unfold State.enqueue
  extract_lets -merge -useContext +onlyGivenNames v1
  extract_lets -merge -useContext +onlyGivenNames v2
  have h_v2 : Evolves a v2 := by
    unfold v2
    refine Evolves.ite ?_ ?_
    · refine State.bumpFlow_ev ?_
      exact hx0
    · exact hx0
  try clear_value v2
  extract_lets -merge -useContext +onlyGivenNames v3
  split
  · rename_i s4 heq
    have h_s4 : Evolves a s4 := by
      refine EvolvesQ.eq (by assumption) ?_
      refine EvolvesQ.ite ?_ ?_
      · exact EvolvesQ.none
      · refine State.release_ev ?_
        exact h_v2
    extract_lets -merge -useContext +onlyGivenNames v5
    refine State.setFlow_ev ?_
    exact h_s4
  · extract_lets -merge -useContext +onlyGivenNames v6
    refine State.bumpFlow_ev ?_
    refine State.setFlow_ev ?_
    exact h_v2

end Sys2Proof.Machine
end

