-- ==== Sys2Proof/Laws/KeepFlags.lean ====
section
/-!
SUPPORT. Every function of Machine/Flags.lean that answers a state keeps what `Evolves` names.
-/

namespace Sys2Proof.Machine

set_option linter.all false

theorem State.pushSample_ev {a : State} {x0 : Sys2Proof.Machine.State} {x1 : ℕ} (hx0 : Evolves a x0) : Evolves a (State.pushSample x0 x1) := by
  unfold State.pushSample
  extract_lets -merge -useContext +onlyGivenNames v1
  extract_lets -merge -useContext +onlyGivenNames v2
  refine Evolves.ite ?_ ?_
  · refine State.bumpNode_ev ?_
    exact hx0
  · extract_lets -merge -useContext +onlyGivenNames v3
    extract_lets -merge -useContext +onlyGivenNames v4
    have h_v4 : Evolves a v4 := by
      unfold v4
      refine Evolves.ite ?_ ?_
      · refine State.bumpNode_ev ?_
        exact hx0
      · exact hx0
    try clear_value v4
    extract_lets -merge -useContext +onlyGivenNames v5
    extract_lets -merge -useContext +onlyGivenNames v6
    have h_v6 : Evolves a v6 := by
      unfold v6
      refine Evolves.mk' ?_ rfl
      exact h_v4
    try clear_value v6
    refine State.setNum_ev ?_
    exact h_v6

theorem State.sampleCmd_ev {a : State} {x0 : Sys2Proof.Machine.State} {x1 : Sys2Proof.CmdRef} {x2 : Sys2Proof.Machine.Sheet} {x3 : Sys2Proof.Machine.Cmd} {x4 : ℕ} (hx0 : Evolves a x0) : Evolves a (State.sampleCmd x0 x1 x2 x3 x4) := by
  unfold State.sampleCmd
  extract_lets -merge -useContext +onlyGivenNames v1
  extract_lets -merge -useContext +onlyGivenNames v2
  extract_lets -merge -useContext +onlyGivenNames v3
  extract_lets -merge -useContext +onlyGivenNames v4
  extract_lets -merge -useContext +onlyGivenNames v5
  extract_lets -merge -useContext +onlyGivenNames v6
  extract_lets -merge -useContext +onlyGivenNames v7
  extract_lets -merge -useContext +onlyGivenNames v8
  extract_lets -merge -useContext +onlyGivenNames v9
  extract_lets -merge -useContext +onlyGivenNames v10
  extract_lets -merge -useContext +onlyGivenNames v11
  have h_v11 : Evolves a v11 := by
    unfold v11
    refine Evolves.mk' ?_ rfl
    exact hx0
  try clear_value v11
  refine Evolves.ite ?_ ?_
  · refine State.pushSample_ev ?_
    exact h_v11
  · refine Evolves.ite ?_ ?_
    · refine State.pushSample_ev ?_
      exact h_v11
    · refine Evolves.ite ?_ ?_
      · refine State.pushSample_ev ?_
        exact h_v11
      · refine Evolves.ite ?_ ?_
        · refine State.pushSample_ev ?_
          refine Evolves.mk' ?_ rfl
          exact h_v11
        · exact h_v11

theorem State.setBinding_ev {a : State} {x0 : Sys2Proof.Machine.State} {x1 : ℕ} {x2 : Sys2Proof.Machine.Binding} (hx0 : Evolves a x0) : Evolves a (State.setBinding x0 x1 x2) := by
  unfold State.setBinding
  refine Evolves.mk' ?_ rfl
  exact hx0

theorem State.logCompletion_ev {a : State} {x0 : Sys2Proof.Machine.State} {x1 : ℕ} {x2 : ℕ} {x3 : Sys2Proof.Machine.Completion} (hx0 : Evolves a x0) : Evolves a (State.logCompletion x0 x1 x2 x3) := by
  unfold State.logCompletion
  extract_lets -merge -useContext +onlyGivenNames v1
  refine Evolves.ite ?_ ?_
  · exact hx0
  · extract_lets -merge -useContext +onlyGivenNames v2
    extract_lets -merge -useContext +onlyGivenNames v3
    extract_lets -merge -useContext +onlyGivenNames v4
    have h_v4 : Evolves a v4 := by
      unfold v4
      refine State.storeBytes_ev ?_
      exact hx0
    try clear_value v4
    extract_lets -merge -useContext +onlyGivenNames v5
    have h_v5 : Evolves a v5 := by
      unfold v5
      refine State.setBinding_ev ?_
      exact h_v4
    try clear_value v5
    extract_lets -merge -useContext +onlyGivenNames v6
    have h_v6 : Evolves a v6 := by
      unfold v6
      refine State.bump_ev ?_
      exact h_v5
    try clear_value v6
    refine State.interrupt_ev ?_
    exact h_v6

theorem State.ringCompletion_ev {a : State} {x0 : Sys2Proof.Machine.State} {x1 : ℕ} {x2 : ℕ} {x3 : Sys2Proof.Machine.QueuePair} {x4 : Sys2Proof.Machine.Completion} (hx0 : Evolves a x0) : Evolves a (State.ringCompletion x0 x1 x2 x3 x4).1 := by
  unfold State.ringCompletion
  extract_lets -merge -useContext +onlyGivenNames v1
  refine Evolves.ite1 ?_ ?_
  · refine Evolves.pair1 ?_
    refine State.bump_ev ?_
    refine State.logCompletion_ev ?_
    exact hx0
  · extract_lets -merge -useContext +onlyGivenNames v2
    extract_lets -merge -useContext +onlyGivenNames v3
    have h_v3 : Evolves a v3 := by
      unfold v3
      refine State.enqueue_ev ?_
      exact hx0
    try clear_value v3
    extract_lets -merge -useContext +onlyGivenNames v4
    refine Evolves.pair1 ?_
    refine State.interrupt_ev ?_
    exact h_v3

theorem State.setQueue_ev {a : State} {x0 : Sys2Proof.Machine.State} {x1 : ℕ} {x2 : ℕ} {x3 : Sys2Proof.Machine.QueuePair} (hx0 : Evolves a x0) : Evolves a (State.setQueue x0 x1 x2 x3) := by
  unfold State.setQueue
  refine Evolves.mk' ?_ rfl
  exact hx0

theorem State.complete_ev {a : State} {x0 : Sys2Proof.Machine.State} {x1 : ℕ} {x2 : ℕ} {x3 : Sys2Proof.Machine.Completion} (hx0 : Evolves a x0) : Evolves a (State.complete x0 x1 x2 x3) := by
  unfold State.complete
  extract_lets -merge -useContext +onlyGivenNames v1
  extract_lets -merge -useContext +onlyGivenNames v2
  refine Evolves.ite ?_ ?_
  · split
    · rename_i s3 y4 heq
      have h_s3 : Evolves a s3 := by
        refine Evolves.fstEq (by assumption) ?_
        refine State.ringCompletion_ev ?_
        exact hx0
      refine State.setBinding_ev ?_
      exact h_s3
  · refine Evolves.ite ?_ ?_
    · split
      · rename_i s5 y6 heq
        have h_s5 : Evolves a s5 := by
          refine Evolves.fstEq (by assumption) ?_
          refine State.ringCompletion_ev ?_
          exact hx0
        refine State.setQueue_ev ?_
        exact h_s5
    · refine State.logCompletion_ev ?_
      exact hx0

theorem State.closeReq_ev {a : State} {x0 : Sys2Proof.Machine.State} {x1 : ℕ} {x2 : ℕ} {x3 : Bool} {x4 : Sys2Proof.Machine.OpenReq} (hx0 : Evolves a x0) : Evolves a (State.closeReq x0 x1 x2 x3 x4) := by
  unfold State.closeReq
  extract_lets -merge -useContext +onlyGivenNames v1
  extract_lets -merge -useContext +onlyGivenNames v2
  refine State.complete_ev ?_
  exact hx0

theorem State.fireTimed_ev {a : State} {x0 : Sys2Proof.Machine.State} {x1 : ℕ} {x2 : ℕ} {x3 : ℕ} {x4 : ℕ} (hx0 : Evolves a x0) : Evolves a (State.fireTimed x0 x1 x2 x3 x4) := by
  unfold State.fireTimed
  extract_lets -merge -useContext +onlyGivenNames v1
  extract_lets -merge -useContext +onlyGivenNames v2
  have h_v2 : Evolves a v2 := by
    unfold v2
    refine Evolves.mk' ?_ rfl
    exact hx0
  try clear_value v2
  refine Evolves.foldl (fun t3 x4 h_t3 => ?_) ?_
  · refine State.bump_ev ?_
    refine State.eventFull_ev ?_
    exact h_t3
  · exact h_v2

end Sys2Proof.Machine
end

