-- ==== Sys2Proof/Laws/KeepFlashCore.lean ====
section
/-!
SUPPORT. Every function of Machine/FlashCore.lean that answers a state keeps what `Evolves` names.
-/

namespace Sys2Proof.Machine

set_option linter.all false

theorem State.flashBytes_ev {a : State} {x0 : Sys2Proof.Machine.State} {x1 : ℕ} {x2 : ℕ} (hx0 : Evolves a x0) : Evolves a (State.flashBytes x0 x1 x2) := by
  unfold State.flashBytes
  extract_lets -merge -useContext +onlyGivenNames v1
  refine State.charge_ev ?_
  refine State.countBytes_ev ?_
  exact hx0

theorem State.setBlock_ev {a : State} {x0 : Sys2Proof.Machine.State} {x1 : ℕ} {x2 : Sys2Proof.Machine.FlashBlock} (hx0 : Evolves a x0) : Evolves a (State.setBlock x0 x1 x2) := by
  unfold State.setBlock
  refine Evolves.mk' ?_ rfl
  exact hx0

theorem State.arrayRead_ev {a : State} {x0 : Sys2Proof.Machine.State} {x1 : ℕ} {x2 : List Sys2Proof.FlashRead} (hx0 : Evolves a x0) : Evolves a (State.arrayRead x0 x1 x2).1 := by
  unfold State.arrayRead
  extract_lets -merge -useContext +onlyGivenNames v1
  extract_lets -merge -useContext +onlyGivenNames v2
  have h_v2 : Evolves a v2 := by
    unfold v2
    refine State.flashBytes_ev ?_
    exact hx0
  try clear_value v2
  extract_lets -merge -useContext +onlyGivenNames v3
  split
  · split
    · refine Evolves.pair1 ?_
      exact h_v2
    · extract_lets -merge -useContext +onlyGivenNames v4
      have h_v4 : Evolves a v4 := by
        unfold v4
        refine Evolves.ite ?_ ?_
        · refine State.bumpNode_ev ?_
          exact h_v2
        · exact h_v2
      try clear_value v4
      split
      · extract_lets -merge -useContext +onlyGivenNames v5
        extract_lets -merge -useContext +onlyGivenNames v6
        have h_v6 : Evolves a v6 := by
          unfold v6
          refine State.setBlock_ev ?_
          exact h_v4
        try clear_value v6
        refine Evolves.pair1 ?_
        exact h_v6
      · refine Evolves.pair1 ?_
        exact h_v4

theorem State.retireBlock_ev {a : State} {x0 : Sys2Proof.Machine.State} {x1 : ℕ} {x2 : Sys2Proof.Machine.FlashBlock} (hx0 : Evolves a x0) : Evolves a (State.retireBlock x0 x1 x2) := by
  unfold State.retireBlock
  refine State.bumpNode_ev ?_
  refine State.setBlock_ev ?_
  exact hx0

theorem State.putPage_ev {a : State} {x0 : Sys2Proof.Machine.State} {x1 : ℕ} {x2 : ℕ} {x3 : ℕ} {x4 : Sys2Proof.Bytes} (hx0 : Evolves a x0) : Evolves a (State.putPage x0 x1 x2 x3 x4) := by
  unfold State.putPage
  extract_lets -merge -useContext +onlyGivenNames v1
  have h_v1 : Evolves a v1 := by
    unfold v1
    refine State.flashBytes_ev ?_
    exact hx0
  try clear_value v1
  refine Evolves.mk' ?_ rfl
  exact h_v1

theorem State.closeFull_ev {a : State} {x0 : Sys2Proof.Machine.State} {x1 : ℕ} (hx0 : Evolves a x0) : Evolves a (State.closeFull x0 x1) := by
  unfold State.closeFull
  extract_lets -merge -useContext +onlyGivenNames v1
  extract_lets -merge -useContext +onlyGivenNames v2
  refine Evolves.ite ?_ ?_
  · exact hx0
  · extract_lets -merge -useContext +onlyGivenNames v3
    extract_lets -merge -useContext +onlyGivenNames v4
    extract_lets -merge -useContext +onlyGivenNames v5
    have h_v5 : Evolves a v5 := by
      unfold v5
      refine Evolves.foldl (fun t6 x7 h_t6 => ?_) ?_
      · refine State.putPage_ev ?_
        exact h_t6
      · exact hx0
    try clear_value v5
    extract_lets -merge -useContext +onlyGivenNames v8
    have h_v8 : Evolves a v8 := by
      unfold v8
      refine State.putPage_ev ?_
      exact h_v5
    try clear_value v8
    refine State.setBlock_ev ?_
    exact h_v8

theorem State.setMap_ev {a : State} {x0 : Sys2Proof.Machine.State} {x1 : ℕ} {x2 : ℕ} (hx0 : Evolves a x0) : Evolves a (State.setMap x0 x1 x2) := by
  unfold State.setMap
  refine Evolves.mk' ?_ rfl
  exact hx0

theorem State.program_ev {a : State} {x0 : ℕ} {x1 : Sys2Proof.Machine.State} {x2 : ℕ} {x3 : ℕ} {x4 : ℕ} {x5 : ℕ} {x6 : Sys2Proof.Bytes} {x7 : List Bool} (hx1 : Evolves a x1) : Evolves a (State.program x0 x1 x2 x3 x4 x5 x6 x7).1 := by
  induction x0 generalizing x1 x2 x3 x4 x5 x6 x7 with
  | zero => unfold State.program; exact hx1
  | succ n ih =>
    unfold State.program
    split
    · exact hx1
    · split
      · exact ih (State.retireBlock_ev hx1)
      · exact State.closeFull_ev (State.setBlock_ev (State.putPage_ev hx1))


theorem State.voidRecord_ev {a : State} {x0 : Sys2Proof.Machine.State} {x1 : ℕ} {x2 : List ℕ} (hx0 : Evolves a x0) : Evolves a (State.voidRecord x0 x1 x2) := by
  unfold State.voidRecord
  extract_lets -merge -useContext +onlyGivenNames v1
  extract_lets -merge -useContext +onlyGivenNames v2
  extract_lets -merge -useContext +onlyGivenNames v3
  extract_lets -merge -useContext +onlyGivenNames v4
  extract_lets -merge -useContext +onlyGivenNames v5
  have h_v5 : Evolves a v5 := by
    unfold v5
    refine State.putPage_ev ?_
    exact hx0
  try clear_value v5
  extract_lets -merge -useContext +onlyGivenNames v6
  extract_lets -merge -useContext +onlyGivenNames v7
  have h_v7 : Evolves a v7 := by
    unfold v7
    refine Evolves.mk' ?_ rfl
    exact h_v5
  try clear_value v7
  refine State.bumpNode_ev ?_
  exact h_v7

theorem State.voidPages_ev {a : State} {x0 : Sys2Proof.Machine.State} {x1 : List ℕ} (hx0 : Evolves a x0) : Evolves a (State.voidPages x0 x1) := by
  unfold State.voidPages
  refine Evolves.foldl (fun t1 x2 h_t1 => ?_) ?_
  · refine State.voidRecord_ev ?_
    exact h_t1
  · exact hx0

end Sys2Proof.Machine
end

