-- ==== Sys2Proof/Laws/KeepOperands.lean ====
section
/-!
SUPPORT. Every function of Machine/Operands.lean that answers a state keeps what `Evolves` names.
-/

namespace Sys2Proof.Machine

set_option linter.all false

theorem State.modCmd_ev {a : State} {x0 : Sys2Proof.Machine.State} {x1 : Sys2Proof.CmdRef} {x2 : Cmd → Sys2Proof.Machine.Cmd} (hx0 : Evolves a x0) : Evolves a (State.modCmd x0 x1 x2) := by
  unfold State.modCmd
  refine State.modInset_ev ?_
  exact hx0

end Sys2Proof.Machine
end

