-- ==== Sys2Proof/Laws/KeepSheets.lean ====
section
/-!
SUPPORT. Every function of Machine/Sheets.lean that answers a state keeps what `Evolves` names.
-/

namespace Sys2Proof.Machine

set_option linter.all false

theorem State.leaseFree_ev {a : State} {x0 : Sys2Proof.Machine.State} {x1 : ℕ} (hx0 : Evolves a x0) : Evolves a (State.leaseFree x0 x1) := by
  unfold State.leaseFree
  refine State.setSync_ev ?_
  exact hx0

theorem State.routeMsg_ev {a : State} {x0 : Sys2Proof.Machine.State} {x1 : ℕ} {x2 : ℕ} {x3 : Sys2Proof.Bytes} (hx0 : Evolves a x0) : Evolves a (State.routeMsg x0 x1 x2 x3) := by
  unfold State.routeMsg
  extract_lets -merge -useContext +onlyGivenNames v1
  split
  · exact hx0
  · extract_lets -merge -useContext +onlyGivenNames v2
    refine Evolves.ite ?_ ?_
    · extract_lets -merge -useContext +onlyGivenNames v3
      refine State.enqueue_ev ?_
      exact hx0
    · refine State.nodeEvent_ev ?_
      exact hx0

theorem State.sendCtl_ev {a : State} {x0 : Sys2Proof.Machine.State} {x1 : ℕ} {x2 : ℕ} {x3 : ℕ} {x4 : ℕ} {x5 : Sys2Proof.Bytes} (hx0 : Evolves a x0) : Evolves a (State.sendCtl x0 x1 x2 x3 x4 x5) := by
  unfold State.sendCtl
  refine State.routeMsg_ev ?_
  exact hx0

theorem State.syncSend_ev {a : State} {x0 : Sys2Proof.Machine.State} {x1 : ℕ} {x2 : ℕ} {x3 : ℕ} {x4 : ℕ} {x5 : ℕ} {x6 : ℕ} {x7 : Sys2Proof.Bytes} (hx0 : Evolves a x0) : Evolves a (State.syncSend x0 x1 x2 x3 x4 x5 x6 x7) := by
  unfold State.syncSend
  split
  · refine State.sendCtl_ev ?_
    exact hx0
  · exact hx0

theorem State.leaseRelease_ev {a : State} {x0 : Sys2Proof.Machine.State} {x1 : ℕ} {x2 : ℕ} (hx0 : Evolves a x0) : Evolves a (State.leaseRelease x0 x1 x2) := by
  unfold State.leaseRelease
  extract_lets -merge -useContext +onlyGivenNames v1
  extract_lets -merge -useContext +onlyGivenNames v2
  have h_v2 : Evolves a v2 := by
    unfold v2
    refine State.leaseFree_ev ?_
    exact hx0
  try clear_value v2
  refine Evolves.ite ?_ ?_
  · exact h_v2
  · refine State.syncSend_ev ?_
    exact h_v2

theorem State.returnLease_ev {a : State} {x0 : Sys2Proof.Machine.State} {x1 : ℕ} {x2 : Sys2Proof.Machine.Cmd} (hx0 : Evolves a x0) : Evolves a (State.returnLease x0 x1 x2) := by
  unfold State.returnLease
  refine Evolves.ite ?_ ?_
  · refine State.leaseRelease_ev ?_
    exact hx0
  · exact hx0

theorem State.chargeCmd_ev {a : State} {x0 : Sys2Proof.Machine.State} {x1 : ℕ} {x2 : Sys2Proof.Machine.Cmd} {x3 : ℕ} (hx0 : Evolves a x0) : Evolves a (State.chargeCmd x0 x1 x2 x3) := by
  unfold State.chargeCmd
  extract_lets -merge -useContext +onlyGivenNames v1
  refine Evolves.ite ?_ ?_
  · refine State.charge_ev ?_
    exact hx0
  · refine Evolves.ite ?_ ?_
    · refine State.charge_ev ?_
      exact hx0
    · refine Evolves.ite ?_ ?_
      · refine State.charge_ev ?_
        exact hx0
      · refine Evolves.ite ?_ ?_
        · refine State.charge_ev ?_
          exact hx0
        · refine Evolves.ite ?_ ?_
          · refine State.charge_ev ?_
            exact hx0
          · exact hx0

theorem State.killAlone_ev {a : State} {x0 : Sys2Proof.Machine.State} {x1 : Sys2Proof.CmdRef} {x2 : ℕ} {x3 : ℕ} (hx0 : Evolves a x0) : Evolves a (State.killAlone x0 x1 x2 x3) := by
  unfold State.killAlone
  split
  · refine Evolves.ite ?_ ?_
    · extract_lets -merge -useContext +onlyGivenNames v1
      extract_lets -merge -useContext +onlyGivenNames v2
      have h_v2 : Evolves a v2 := by
        unfold v2
        refine State.modCmd_ev ?_
        exact hx0
      try clear_value v2
      extract_lets -merge -useContext +onlyGivenNames v3
      have h_v3 : Evolves a v3 := by
        unfold v3
        refine State.returnLease_ev ?_
        exact h_v2
      try clear_value v3
      extract_lets -merge -useContext +onlyGivenNames v4
      have h_v4 : Evolves a v4 := by
        unfold v4
        refine Evolves.ite ?_ ?_
        · refine State.modInset_ev ?_
          exact h_v3
        · exact h_v3
      try clear_value v4
      extract_lets -merge -useContext +onlyGivenNames v5
      have h_v5 : Evolves a v5 := by
        unfold v5
        refine Evolves.ite ?_ ?_
        · refine State.voidPages_ev ?_
          exact h_v4
        · exact h_v4
      try clear_value v5
      extract_lets -merge -useContext +onlyGivenNames v6
      have h_v6 : Evolves a v6 := by
        unfold v6
        refine State.eventFull_ev ?_
        exact h_v5
      try clear_value v6
      refine Evolves.ite ?_ ?_
      · refine State.chargeCmd_ev ?_
        refine State.sampleCmd_ev ?_
        exact h_v6
      · exact h_v6
    · exact hx0
  · exact hx0

theorem State.killConsumers_ev {a : State} {x0 : Sys2Proof.Machine.State} {x1 : ℕ} {x2 : ℕ} (hx0 : Evolves a x0) : Evolves a (State.killConsumers x0 x1 x2) := by
  unfold State.killConsumers
  split
  · exact hx0
  · refine Evolves.foldl1 (fun t1 x2 h_t1 => ?_) ?_
    · refine Evolves.ite1 ?_ ?_
      · refine Evolves.pair1 ?_
        refine State.bump_ev ?_
        refine State.killAlone_ev ?_
        exact h_t1
      · exact h_t1
    · refine Evolves.pair1 ?_
      exact hx0

theorem State.reportDone_ev {a : State} {x0 : Sys2Proof.Machine.State} {x1 : ℕ} {x2 : ℕ} {x3 : ℕ} (hx0 : Evolves a x0) : Evolves a (State.reportDone x0 x1 x2 x3) := by
  unfold State.reportDone
  split
  · exact hx0
  · refine Evolves.ite ?_ ?_
    · refine Evolves.mk' ?_ rfl
      exact hx0
    · refine State.sendCtl_ev ?_
      exact hx0

theorem State.freeLanding_ev {a : State} {x0 : Sys2Proof.Machine.State} {x1 : ℕ} (hx0 : Evolves a x0) : Evolves a (State.freeLanding x0 x1) := by
  unfold State.freeLanding
  refine Evolves.mk' ?_ rfl
  exact hx0

theorem State.freeSlots_ev {a : State} {x0 : Sys2Proof.Machine.State} {x1 : ℕ} {x2 : Option ℕ} (hx0 : Evolves a x0) : Evolves a (State.freeSlots x0 x1 x2) := by
  unfold State.freeSlots
  extract_lets -merge -useContext +onlyGivenNames v1
  extract_lets -merge -useContext +onlyGivenNames v2
  extract_lets -merge -useContext +onlyGivenNames v3
  have h_v3 : Evolves a v3 := by
    unfold v3
    refine Evolves.mk' ?_ rfl
    exact hx0
  try clear_value v3
  refine State.setNum_ev ?_
  exact h_v3

theorem State.closeRequests_ev {a : State} {x0 : Sys2Proof.Machine.State} {x1 : ℕ} {x2 : ℕ} {x3 : Bool} {x4 : Option ℕ} (hx0 : Evolves a x0) : Evolves a (State.closeRequests x0 x1 x2 x3 x4).1 := by
  unfold State.closeRequests
  extract_lets -merge -useContext +onlyGivenNames v1
  extract_lets -merge -useContext +onlyGivenNames v2
  extract_lets -merge -useContext +onlyGivenNames v3
  have h_v3 : Evolves a v3 := by
    unfold v3
    refine Evolves.foldl (fun t4 x5 h_t4 => ?_) ?_
    · refine State.closeReq_ev ?_
      exact h_t4
    · exact hx0
  try clear_value v3
  extract_lets -merge -useContext +onlyGivenNames v6
  have h_v6 : Evolves a v6 := by
    unfold v6
    refine State.modInset_ev ?_
    exact h_v3
  try clear_value v6
  refine Evolves.pair1 ?_
  refine State.freeLanding_ev ?_
  refine State.freeSlots_ev ?_
  exact h_v6

theorem State.leaveDomain_ev {a : State} {x0 : Sys2Proof.Machine.State} {x1 : ℕ} (hx0 : Evolves a x0) : Evolves a (State.leaveDomain x0 x1) := by
  unfold State.leaveDomain
  extract_lets -merge -useContext +onlyGivenNames v1
  have h_v1 : Evolves a v1 := by
    unfold v1
    refine State.closeRequests_ev ?_
    exact hx0
  try clear_value v1
  refine State.setNum_ev ?_
  refine State.modInset_ev ?_
  exact h_v1

theorem State.checkDone_ev {a : State} {x0 : Sys2Proof.Machine.State} {x1 : ℕ} (hx0 : Evolves a x0) : Evolves a (State.checkDone x0 x1) := by
  unfold State.checkDone
  split
  · refine Evolves.ite ?_ ?_
    · extract_lets -merge -useContext +onlyGivenNames v1
      have h_v1 : Evolves a v1 := by
        unfold v1
        refine State.modInset_ev ?_
        exact hx0
      try clear_value v1
      refine Evolves.ite ?_ ?_
      · refine State.reportDone_ev ?_
        exact h_v1
      · refine Evolves.ite ?_ ?_
        · exact h_v1
        · refine State.leaveDomain_ev ?_
          exact h_v1
    · exact hx0
  · exact hx0

theorem State.kill_ev {a : State} {x0 : Sys2Proof.Machine.State} {x1 : Sys2Proof.CmdRef} {x2 : ℕ} (hx0 : Evolves a x0) : Evolves a (State.kill x0 x1 x2) := by
  unfold State.kill
  split
  · exact hx0
  · extract_lets -merge -useContext +onlyGivenNames v1
    have h_v1 : Evolves a v1 := by
      unfold v1
      refine State.killAlone_ev ?_
      exact hx0
    try clear_value v1
    extract_lets -merge -useContext +onlyGivenNames v2
    have h_v2 : Evolves a v2 := by
      unfold v2
      refine Evolves.ite ?_ ?_
      · refine State.killConsumers_ev ?_
        exact h_v1
      · exact h_v1
    try clear_value v2
    refine State.checkDone_ev ?_
    exact h_v2

theorem State.killForced_ev {a : State} {x0 : Sys2Proof.Machine.State} {x1 : Sys2Proof.CmdRef} {x2 : ℕ} {x3 : ℕ} (hx0 : Evolves a x0) : Evolves a (State.killForced x0 x1 x2 x3) := by
  unfold State.killForced
  split
  · exact hx0
  · extract_lets -merge -useContext +onlyGivenNames v1
    have h_v1 : Evolves a v1 := by
      unfold v1
      refine State.killAlone_ev ?_
      exact hx0
    try clear_value v1
    extract_lets -merge -useContext +onlyGivenNames v2
    have h_v2 : Evolves a v2 := by
      unfold v2
      refine Evolves.ite ?_ ?_
      · refine State.killConsumers_ev ?_
        exact h_v1
      · exact h_v1
    try clear_value v2
    refine State.checkDone_ev ?_
    exact h_v2

theorem State.killRehearsed_ev {a : State} {x0 : Sys2Proof.Machine.State} {x1 : Sys2Proof.CmdRef} {x2 : ℕ} {x3 : ℕ} (hx0 : Evolves a x0) : Evolves a (State.killRehearsed x0 x1 x2 x3) := by
  unfold State.killRehearsed
  refine State.bump_ev ?_
  refine State.killForced_ev ?_
  exact hx0

theorem State.setPort_ev {a : State} {x0 : Sys2Proof.Machine.State} {x1 : ℕ} {x2 : Sys2Proof.Machine.Port} (hx0 : Evolves a x0) : Evolves a (State.setPort x0 x1 x2) := by
  unfold State.setPort
  refine Evolves.mk' ?_ rfl
  exact hx0

theorem State.killAll_ev {a : State} {x0 : Sys2Proof.Machine.State} {x1 : ℕ} {x2 : ℕ} (hx0 : Evolves a x0) : Evolves a (State.killAll x0 x1 x2).1 := by
  unfold State.killAll
  split
  · refine Evolves.pair1 ?_
    exact hx0
  · extract_lets -merge -useContext +onlyGivenNames v1
    extract_lets -merge -useContext +onlyGivenNames v2
    have h_v2 : Evolves a v2 := by
      unfold v2
      refine Evolves.foldl (fun t3 x4 h_t3 => ?_) ?_
      · refine State.killAlone_ev ?_
        exact h_t3
      · exact hx0
    try clear_value v2
    refine Evolves.pair1 ?_
    refine State.checkDone_ev ?_
    exact h_v2

end Sys2Proof.Machine
end

