-- ==== Sys2Proof/Laws/KeepGazCore.lean ====
section
/-!
SUPPORT. Every function of Machine/GazCore.lean that answers a state keeps what `Evolves` names.
-/

namespace Sys2Proof.Machine

set_option linter.all false

theorem State.unqueue_ev {a : State} {x0 : Sys2Proof.Machine.State} {x1 : Sys2Proof.GazReq} (hx0 : Evolves a x0) : Evolves a (State.unqueue x0 x1) := by
  unfold State.unqueue
  refine Evolves.mk' ?_ rfl
  exact hx0

theorem State.answer_ev {a : State} {x0 : Sys2Proof.Machine.State} {x1 : Sys2Proof.GazReq} {x2 : ℕ} {x3 : ℕ → ℕ} {x4 : Sys2Proof.Bytes} (hx0 : Evolves a x0) : Evolves a (State.answer x0 x1 x2 x3 x4) := by
  unfold State.answer
  extract_lets -merge -useContext +onlyGivenNames v1
  split
  · refine State.emit_ev ?_
    exact hx0
  · refine State.enqueue_ev ?_
    exact hx0
  · refine State.sendCtl_ev ?_
    exact hx0

theorem State.respond_ev {a : State} {x0 : Sys2Proof.Machine.State} {x1 : Sys2Proof.GazReq} {x2 : ℕ} (hx0 : Evolves a x0) : Evolves a (State.respond x0 x1 x2) := by
  unfold State.respond
  refine State.answer_ev ?_
  exact hx0

theorem State.value_ev {a : State} {x0 : Sys2Proof.Machine.State} {x1 : Sys2Proof.GazReq} {x2 : Sys2Proof.Machine.EntryRow} (hx0 : Evolves a x0) : Evolves a (State.value x0 x1 x2).1 := by
  unfold State.value
  refine Evolves.ite1 ?_ ?_
  · refine Evolves.pair1 ?_
    exact hx0
  · extract_lets -merge -useContext +onlyGivenNames v1
    extract_lets -merge -useContext +onlyGivenNames v2
    refine Evolves.ite1 ?_ ?_
    · refine Evolves.pair1 ?_
      exact hx0
    · extract_lets -merge -useContext +onlyGivenNames v3
      extract_lets -merge -useContext +onlyGivenNames v4
      extract_lets -merge -useContext +onlyGivenNames v5
      extract_lets -merge -useContext +onlyGivenNames v6
      extract_lets -merge -useContext +onlyGivenNames v7
      refine Evolves.ite1 ?_ ?_
      · refine Evolves.pair1 ?_
        refine Evolves.mk' ?_ rfl
        exact hx0
      · extract_lets -merge -useContext +onlyGivenNames v8
        extract_lets -merge -useContext +onlyGivenNames v9
        refine Evolves.ite1 ?_ ?_
        · refine Evolves.pair1 ?_
          exact hx0
        · refine Evolves.pair1 ?_
          refine Evolves.mk' ?_ rfl
          exact hx0

theorem State.actWrite_ev {a : State} {x0 : Sys2Proof.Machine.State} {x1 : Sys2Proof.GazReq} {x2 : State → ℕ → Sys2Proof.Bytes → Sys2Proof.Machine.State × ℕ} (hx0 : Evolves a x0) (hx2 : ∀ y0 y1 y2, Evolves a y0 → Evolves a (x2 y0 y1 y2).1) : Evolves a (State.actWrite x0 x1 x2) := by
  unfold State.actWrite
  extract_lets -merge -useContext +onlyGivenNames v1
  have h_v1 : Evolves a v1 := by
    unfold v1
    refine State.unqueue_ev ?_
    exact hx0
  try clear_value v1
  split
  · refine State.respond_ev ?_
    exact h_v1
  · split
    · rename_i s2 y3 heq
      have h_s2 : Evolves a s2 := by
        refine Evolves.fstEq (by assumption) ?_
        refine State.value_ev ?_
        exact h_v1
      refine State.respond_ev ?_
      exact h_s2
    · rename_i s4 heq
      have h_s4 : Evolves a s4 := by
        refine Evolves.fstEq (by assumption) ?_
        refine State.value_ev ?_
        exact h_v1
      refine State.respond_ev ?_
      exact h_s4
    · rename_i s5 y6 heq
      have h_s5 : Evolves a s5 := by
        refine Evolves.fstEq (by assumption) ?_
        refine State.value_ev ?_
        exact h_v1
      refine Evolves.ite ?_ ?_
      · refine State.respond_ev ?_
        exact h_s5
      · refine Evolves.ite ?_ ?_
        · refine State.respond_ev ?_
          exact h_s5
        · split
          · rename_i s7 y8 heq
            have h_s7 : Evolves a s7 := by
              refine Evolves.fstEq (by assumption) ?_
              refine hx2 _ _ _ ?_
              exact h_s5
            refine State.respond_ev ?_
            exact h_s7

theorem State.queueReq_ev {a : State} {x0 : Sys2Proof.Machine.State} {x1 : Sys2Proof.GazReq} (hx0 : Evolves a x0) : Evolves a (State.queueReq x0 x1) := by
  unfold State.queueReq
  refine Evolves.ite ?_ ?_
  · refine State.respond_ev ?_
    exact hx0
  · refine Evolves.mk' ?_ rfl
    exact hx0

theorem State.woRow_ev {a : State} {x0 : Sys2Proof.Machine.State} {x1 : Sys2Proof.GazReq} {x2 : ℕ} {x3 : State → ℕ → Sys2Proof.Bytes → Sys2Proof.Machine.State × ℕ} (hx0 : Evolves a x0) (hx3 : ∀ y0 y1 y2, Evolves a y0 → Evolves a (x3 y0 y1 y2).1) : EvolvesO a (State.woRow x0 x1 x2 x3) := by
  unfold State.woRow
  refine EvolvesO.ite ?_ ?_
  · refine EvolvesO.next ?_
    refine State.actWrite_ev ?_ ?_
    · exact hx0
    · intro z1 z2 z3 h_z1
      refine hx3 _ _ _ ?_
      exact h_z1
  · refine EvolvesO.next ?_
    exact hx0

end Sys2Proof.Machine
end

