-- ==== Sys2Proof/Laws/KeepCounters.lean ====
section
/-!
SUPPORT. Every function of Machine/Counters.lean that answers a state keeps what `Evolves` names.
-/

namespace Sys2Proof.Machine

set_option linter.all false

theorem State.emptySamples_ev {a : State} {x0 : Sys2Proof.Machine.State} (hx0 : Evolves a x0) : Evolves a (State.emptySamples x0) := by
  unfold State.emptySamples
  refine State.setNum_ev ?_
  refine State.setNum_ev ?_
  refine Evolves.mk' ?_ rfl
  exact hx0

theorem State.dumpCapture_ev {a : State} {x0 : Sys2Proof.Machine.State} {x1 : ℕ} {x2 : ℕ} (hx0 : Evolves a x0) : Evolves a (State.dumpCapture x0 x1 x2) := by
  unfold State.dumpCapture
  extract_lets -merge -useContext +onlyGivenNames v1
  refine Evolves.ite ?_ ?_
  · exact hx0
  · refine Evolves.ite ?_ ?_
    · refine State.bumpNode_ev ?_
      exact hx0
    · refine Evolves.mk' ?_ rfl
      exact hx0

theorem State.bwBoundary_ev {a : State} {x0 : Sys2Proof.Machine.State} {x1 : ℕ} {x2 : ℕ} (hx0 : Evolves a x0) : Evolves a (State.bwBoundary x0 x1 x2) := by
  unfold State.bwBoundary
  extract_lets -merge -useContext +onlyGivenNames v1
  extract_lets -merge -useContext +onlyGivenNames v2
  refine Evolves.ite ?_ ?_
  · refine Evolves.mk' ?_ rfl
    exact hx0
  · extract_lets -merge -useContext +onlyGivenNames v3
    have h_v3 : Evolves a v3 := by
      unfold v3
      refine State.setReg_ev ?_
      exact hx0
    try clear_value v3
    refine Evolves.mk' ?_ rfl
    exact h_v3

theorem State.woCounterClear_ev {a : State} {x0 : Sys2Proof.Machine.State} {x1 : ℕ} {x2 : Sys2Proof.Bytes} (hx0 : Evolves a x0) : Evolves a (State.woCounterClear x0 x1 x2).1 := by
  unfold State.woCounterClear
  refine Evolves.ite1 ?_ ?_
  · refine Evolves.pair1 ?_
    exact hx0
  · refine Evolves.pair1 ?_
    refine Evolves.mk' ?_ rfl
    exact hx0

theorem State.woSampleReset_ev {a : State} {x0 : Sys2Proof.Machine.State} {x1 : ℕ} {x2 : Sys2Proof.Bytes} (hx0 : Evolves a x0) : Evolves a (State.woSampleReset x0 x1 x2).1 := by
  unfold State.woSampleReset
  refine Evolves.pair1 ?_
  refine State.emptySamples_ev ?_
  exact hx0

theorem execCounterClear_ev {a : State} {x0 : Sys2Proof.GazReq} {x1 : Sys2Proof.Machine.State} (hx1 : Evolves a x1) : EvolvesO a (execCounterClear x0 x1) := by
  unfold execCounterClear
  refine State.woRow_ev ?_ ?_
  · exact hx1
  · intro z1 z2 z3 h_z1
    refine State.woCounterClear_ev ?_
    exact h_z1

theorem execDumpRecord_ev {a : State} {x0 : Sys2Proof.Machine.State} (hx0 : Evolves a x0) : EvolvesO a (execDumpRecord x0) := by
  unfold execDumpRecord
  split
  · refine EvolvesO.next ?_
    exact hx0
  · extract_lets -merge -useContext +onlyGivenNames v1
    extract_lets -merge -useContext +onlyGivenNames v2
    extract_lets -merge -useContext +onlyGivenNames v3
    refine EvolvesO.ite ?_ ?_
    · refine EvolvesO.next ?_
      exact hx0
    · extract_lets -merge -useContext +onlyGivenNames v4
      extract_lets -merge -useContext +onlyGivenNames v5
      extract_lets -merge -useContext +onlyGivenNames v6
      extract_lets -merge -useContext +onlyGivenNames v7
      extract_lets -merge -useContext +onlyGivenNames v8
      extract_lets -merge -useContext +onlyGivenNames v9
      extract_lets -merge -useContext +onlyGivenNames v10
      extract_lets -merge -useContext +onlyGivenNames v11
      have h_v11 : Evolves a v11 := by
        unfold v11
        refine Evolves.ite ?_ ?_
        · refine State.storeBytes_ev ?_
          exact hx0
        · exact hx0
      try clear_value v11
      extract_lets -merge -useContext +onlyGivenNames v12
      have h_v12 : Evolves a v12 := by
        unfold v12
        refine State.storeBytes_ev ?_
        exact h_v11
      try clear_value v12
      extract_lets -merge -useContext +onlyGivenNames v13
      have h_v13 : Evolves a v13 := by
        unfold v13
        refine Evolves.ite ?_ ?_
        · refine State.bumpNode_ev ?_
          exact h_v12
        · exact h_v12
      try clear_value v13
      extract_lets -merge -useContext +onlyGivenNames v14
      extract_lets -merge -useContext +onlyGivenNames v15
      have h_v15 : Evolves a v15 := by
        unfold v15
        refine Evolves.mk' ?_ rfl
        exact h_v13
      try clear_value v15
      refine EvolvesO.next ?_
      refine State.interrupt_ev ?_
      refine State.setNum_ev ?_
      exact h_v15

theorem execSampleReset_ev {a : State} {x0 : Sys2Proof.GazReq} {x1 : Sys2Proof.Machine.State} (hx1 : Evolves a x1) : EvolvesO a (execSampleReset x0 x1) := by
  unfold execSampleReset
  refine State.woRow_ev ?_ ?_
  · exact hx1
  · intro z1 z2 z3 h_z1
    refine State.woSampleReset_ev ?_
    exact h_z1

end Sys2Proof.Machine
end

