-- ==== Sys2Proof/Laws/KeepEngines.lean ====
section
/-!
SUPPORT. Every function of Machine/Engines.lean that answers a state keeps what `Evolves` names.
-/

namespace Sys2Proof.Machine

set_option linter.all false

theorem State.finish_ev {a : State} {x0 : Sys2Proof.Machine.State} {x1 : Sys2Proof.CmdRef} {x2 : Sys2Proof.Machine.Work} (hx0 : Evolves a x0) : Evolves a (State.finish x0 x1 x2) := by
  unfold State.finish
  refine State.modCmd_ev ?_
  exact hx0

theorem State.tileWord_ev {a : State} {x0 : Sys2Proof.Machine.State} {x1 : Sys2Proof.CmdRef} {x2 : Sys2Proof.Machine.Cmd} {x3 : ℕ} (hx0 : Evolves a x0) : Evolves a (State.tileWord x0 x1 x2 x3) := by
  unfold State.tileWord
  extract_lets -merge -useContext +onlyGivenNames v1
  refine Evolves.ite ?_ ?_
  · refine State.kill_ev ?_
    exact hx0
  · refine Evolves.foldl (fun t2 x3 h_t2 => ?_) ?_
    · refine State.kill_ev ?_
      exact h_t2
    · exact hx0

theorem State.forced_ev {a : State} {x0 : Sys2Proof.Machine.State} {x1 : Sys2Proof.CmdRef} {x2 : Sys2Proof.Machine.Cmd} {x3 : ℕ} (hx0 : Evolves a x0) : Evolves a (State.forced x0 x1 x2 x3) := by
  unfold State.forced
  refine Evolves.ite ?_ ?_
  · refine Evolves.foldl (fun t1 x2 h_t1 => ?_) ?_
    · refine State.killForced_ev ?_
      exact h_t1
    · refine State.bump_ev ?_
      exact hx0
  · refine State.killRehearsed_ev ?_
    exact hx0

theorem State.settle_ev {a : State} {x0 : Sys2Proof.Machine.State} {x1 : Sys2Proof.CmdRef} {x2 : Sys2Proof.Machine.Cmd} {x3 : Sys2Proof.Machine.Res} (hx0 : Evolves a x0) : Evolves a (State.settle x0 x1 x2 x3) := by
  unfold State.settle
  split
  · refine State.finish_ev ?_
    exact hx0
  · refine State.kill_ev ?_
    exact hx0
  · refine State.tileWord_ev ?_
    exact hx0
  · refine State.forced_ev ?_
    exact hx0

theorem State.noteReads_ev {a : State} {x0 : Sys2Proof.Machine.State} {x1 : List (ℕ × ℕ)} (hx0 : Evolves a x0) : Evolves a (State.noteReads x0 x1) := by
  unfold State.noteReads
  refine Evolves.foldl (fun t1 x2 h_t1 => ?_) ?_
  · refine State.noteRead_ev ?_
    exact h_t1
  · exact hx0

theorem State.unitFault_ev {a : State} {x0 : Sys2Proof.Machine.State} {x1 : ℕ} {x2 : ℕ} (hx0 : Evolves a x0) : Evolves a (State.unitFault x0 x1 x2) := by
  unfold State.unitFault
  extract_lets -merge -useContext +onlyGivenNames v1
  extract_lets -merge -useContext +onlyGivenNames v2
  extract_lets -merge -useContext +onlyGivenNames v3
  have h_v3 : Evolves a v3 := by
    unfold v3
    refine Evolves.mk' ?_ rfl
    exact hx0
  try clear_value v3
  refine Evolves.ite ?_ ?_
  · refine Evolves.mk' ?_ rfl
    exact h_v3
  · exact h_v3

theorem State.hwFault_ev {a : State} {x0 : Sys2Proof.Machine.State} {x1 : Sys2Proof.CmdRef} {x2 : Sys2Proof.Machine.Cmd} {x3 : Sys2Proof.Hw} (hx0 : Evolves a x0) : EvolvesQ a (State.hwFault x0 x1 x2 x3) := by
  unfold State.hwFault
  split
  · exact EvolvesQ.none
  · refine EvolvesQ.some ?_
    refine State.kill_ev ?_
    exact hx0
  · refine EvolvesQ.ite ?_ ?_
    · refine EvolvesQ.some ?_
      refine State.tileWord_ev ?_
      exact hx0
    · exact EvolvesQ.none
  · refine EvolvesQ.ite ?_ ?_
    · refine EvolvesQ.some ?_
      refine Evolves.foldl (fun t1 x2 h_t1 => ?_) ?_
      · refine State.kill_ev ?_
        exact h_t1
      · exact hx0
    · exact EvolvesQ.none
  · refine EvolvesQ.ite ?_ ?_
    · refine EvolvesQ.some ?_
      refine State.unitFault_ev ?_
      refine State.kill_ev ?_
      exact hx0
    · exact EvolvesQ.none
  · refine EvolvesQ.ite ?_ ?_
    · refine EvolvesQ.some ?_
      refine State.unitFault_ev ?_
      refine State.kill_ev ?_
      exact hx0
    · exact EvolvesQ.none
  · refine EvolvesQ.ite ?_ ?_
    · extract_lets -merge -useContext +onlyGivenNames v3
      have h_v3 : Evolves a v3 := by
        unfold v3
        refine State.kill_ev ?_
        exact hx0
      try clear_value v3
      refine EvolvesQ.some ?_
      refine Evolves.ite ?_ ?_
      · refine State.unitFault_ev ?_
        exact h_v3
      · exact h_v3
    · exact EvolvesQ.none

theorem State.engineStep_ev {a : State} {x0 : Sys2Proof.Machine.State} {x1 : Sys2Proof.CmdRef} {x2 : Sys2Proof.Hw} {x3 : ℕ} {x4 : ℕ} {x5 : Cmd → Bool} {x6 : Cmd → Sys2Proof.Machine.State} (hx0 : Evolves a x0) (hx6 : ∀ y0, Evolves a (x6 y0)) : EvolvesO a (State.engineStep x0 x1 x2 x3 x4 x5 x6) := by
  unfold State.engineStep
  refine EvolvesO.ite ?_ ?_
  · exact EvolvesO.fault
  · split
    · refine EvolvesO.next ?_
      exact hx0
    · split
      · rename_i s1 heq
        have h_s1 : Evolves a s1 := by
          refine EvolvesQ.eq (by assumption) ?_
          refine State.hwFault_ev ?_
          exact hx0
        refine EvolvesO.next ?_
        exact h_s1
      · split
        · refine EvolvesO.next ?_
          refine State.forced_ev ?_
          exact hx0
        · refine EvolvesO.next ?_
          refine hx6 _

theorem State.workDone_ev {a x0 x1 : State} (hx0 : Evolves a x0) (hx1 : Evolves a x1) : Evolves a (x0.workDone x1) :=
  ⟨hx0.pending, hx0.cycle, hx0.out, hx1.draws, hx0.mem⟩

theorem State.engineRow_ev {a : State} {x0 : Sys2Proof.Machine.State} {x1 : Sys2Proof.CmdRef} {x2 : Sys2Proof.Hw} {x3 : ℕ} {x4 : ℕ} {x5 : Cmd → Bool} {x6 : State → Cmd → Sys2Proof.Machine.State × Sys2Proof.Machine.Res} (hx0 : Evolves a x0) (hx6 : ∀ y0 y1, Evolves a y0 → Evolves a (x6 y0 y1).1) : EvolvesO a (State.engineRow x0 x1 x2 x3 x4 x5 x6) := by
  unfold State.engineRow
  refine State.engineStep_ev ?_ ?_
  · exact hx0
  · intro z1
    split
    · rename_i s2 y3 heq
      have h_s2 : Evolves a s2 := by
        refine Evolves.fstEq (by assumption) ?_
        refine hx6 _ _ ?_
        exact hx0
      refine State.settle_ev ?_
      refine State.workDone_ev ?_ ?_
      · exact hx0
      · exact h_s2

theorem State.engineRowOpen_ev {a : State} {x0 : Sys2Proof.Machine.State} {x1 : Sys2Proof.CmdRef} {x2 : Sys2Proof.Hw} {x3 : ℕ} {x4 : ℕ} {x5 : Cmd → Bool} {x6 : State → Cmd → Sys2Proof.Machine.State × Sys2Proof.Machine.Res} (hx0 : Evolves a x0) (hx6 : ∀ y0 y1, Evolves a y0 → Evolves a (x6 y0 y1).1) : EvolvesO a (State.engineRowOpen x0 x1 x2 x3 x4 x5 x6) := by
  unfold State.engineRowOpen
  refine State.engineStep_ev ?_ ?_
  · exact hx0
  · intro z1
    split
    · rename_i s2 y3 heq
      have h_s2 : Evolves a s2 := by
        refine Evolves.fstEq (by assumption) ?_
        refine hx6 _ _ ?_
        exact hx0
      refine State.settle_ev ?_
      exact h_s2

theorem State.staged_ev {a : State} {x0 : Sys2Proof.Machine.State} {x1 : List (ℕ × Sys2Proof.Bytes)} (hx0 : Evolves a x0) : Evolves a (State.staged x0 x1) := by
  unfold State.staged
  refine Evolves.mkMem ?_ (fun hm => ?_) rfl
  · exact hx0
  · first | exact hm | exact mw_writeWordEq (by assumption) hm | exact mw_writeWord hm | exact mw_poisonWord hm | exact mw_clear hm | exact mw_clearRegion hm | exact mw_copyRegion hm | exact mw_putGroup hm | exact mw_putWords hm | exact mw_foldl (fun _ _ h => mw_poisonWord h) hm

end Sys2Proof.Machine
end

