-- ==== Sys2Proof/Laws/KeepBankSide.lean ====
section
/-!
SUPPORT. Every function of Machine/BankSide.lean that answers a state keeps what `Evolves` names.
-/

namespace Sys2Proof.Machine

set_option linter.all false

theorem State.chargeProc_ev {a : State} {x0 : Sys2Proof.Machine.State} {x1 : ℕ} {x2 : ℕ} (hx0 : Evolves a x0) : Evolves a (State.chargeProc x0 x1 x2) := by
  unfold State.chargeProc
  split
  · refine State.charge_ev ?_
    exact hx0
  · exact hx0

theorem State.apRefuse_ev {a : State} {x0 : Sys2Proof.Machine.State} {x1 : ℕ} {x2 : ℕ} (hx0 : Evolves a x0) : Evolves a (State.apRefuse x0 x1 x2) := by
  unfold State.apRefuse
  extract_lets -merge -useContext +onlyGivenNames v1
  refine State.bumpNode_ev ?_
  refine State.setUnit_ev ?_
  exact hx0

theorem State.apRefuseAll_ev {a : State} {x0 : Sys2Proof.Machine.State} {x1 : ℕ} (hx0 : Evolves a x0) : Evolves a (State.apRefuseAll x0 x1) := by
  unfold State.apRefuseAll
  extract_lets -merge -useContext +onlyGivenNames v1
  extract_lets -merge -useContext +onlyGivenNames v2
  have h_v2 : Evolves a v2 := by
    unfold v2
    refine Evolves.foldl (fun t3 x4 h_t3 => ?_) ?_
    · refine State.apRefuse_ev ?_
      exact h_t3
    · exact hx0
  try clear_value v2
  refine State.setUnit_ev ?_
  exact h_v2

theorem State.apEnqueue_ev {a : State} {x0 : Sys2Proof.Machine.State} {x1 : ℕ} {x2 : ℕ} {x3 : ℕ} (hx0 : Evolves a x0) : Evolves a (State.apEnqueue x0 x1 x2 x3) := by
  unfold State.apEnqueue
  extract_lets -merge -useContext +onlyGivenNames v1
  refine Evolves.ite ?_ ?_
  · exact hx0
  · extract_lets -merge -useContext +onlyGivenNames v2
    extract_lets -merge -useContext +onlyGivenNames v3
    extract_lets -merge -useContext +onlyGivenNames v4
    extract_lets -merge -useContext +onlyGivenNames v5
    extract_lets -merge -useContext +onlyGivenNames v6
    refine Evolves.ite ?_ ?_
    · extract_lets -merge -useContext +onlyGivenNames v7
      have h_v7 : Evolves a v7 := by
        unfold v7
        refine State.apRefuse_ev ?_
        refine State.setUnit_ev ?_
        exact hx0
      try clear_value v7
      refine State.setUnit_ev ?_
      exact h_v7
    · refine State.setUnit_ev ?_
      exact hx0

theorem State.askMode_ev {a : State} {x0 : Sys2Proof.Machine.State} {x1 : ℕ} {x2 : ℕ} (hx0 : Evolves a x0) : Evolves a (State.askMode x0 x1 x2) := by
  unfold State.askMode
  extract_lets -merge -useContext +onlyGivenNames v1
  refine Evolves.ite ?_ ?_
  · refine State.setUnit_ev ?_
    exact hx0
  · refine Evolves.ite ?_ ?_
    · exact hx0
    · refine State.setUnit_ev ?_
      exact hx0

theorem State.countOp_ev {a : State} {x0 : Sys2Proof.Machine.State} {x1 : ℕ} {x2 : ℕ} {x3 : Sys2Proof.Machine.OpRes} (hx0 : Evolves a x0) : Evolves a (State.countOp x0 x1 x2 x3) := by
  unfold State.countOp
  refine State.bumpNode_ev ?_
  refine State.bumpNode_ev ?_
  refine State.bumpNode_ev ?_
  exact hx0

theorem State.planOp_ev {a : State} {x0 : Sys2Proof.Machine.State} {x1 : Sys2Proof.CmdRef} {x2 : ℕ} (hx0 : Evolves a x0) : Evolves a (State.planOp x0 x1 x2) := by
  unfold State.planOp
  split
  · exact hx0
  · exact Evolves.ite (State.bump_ev (State.countOp_ev (State.modCmd_ev hx0))) (State.countOp_ev (State.modCmd_ev hx0))

theorem State.opRow_ev {a : State} {x0 : Sys2Proof.Machine.State} {x1 : Sys2Proof.CmdRef} {x2 : ℕ} {x3 : Sys2Proof.Hw} {x4 : ℕ} (hx0 : Evolves a x0) : EvolvesO a (State.opRow x0 x1 x2 x3 x4) := by
  unfold State.opRow
  refine EvolvesO.ite ?_ ?_
  · exact EvolvesO.fault
  · split
    · refine EvolvesO.next ?_
      exact hx0
    · refine EvolvesO.ite ?_ ?_
      · refine EvolvesO.next ?_
        exact hx0
      · split
        · rename_i s1 heq
          have h_s1 : Evolves a s1 := by
            refine EvolvesQ.eq (by assumption) ?_
            refine State.hwFault_ev ?_
            exact hx0
          refine EvolvesO.next ?_
          exact h_s1
        · refine EvolvesO.next ?_
          refine State.planOp_ev ?_
          exact hx0

theorem execApFlush_ev {a : State} {x0 : ℕ} {x1 : Sys2Proof.Machine.State} (hx1 : Evolves a x1) : EvolvesO a (execApFlush x0 x1) := by
  unfold execApFlush
  refine EvolvesO.ite ?_ ?_
  · exact EvolvesO.fault
  · refine EvolvesO.ite ?_ ?_
    · refine EvolvesO.next ?_
      refine State.apRefuseAll_ev ?_
      exact hx1
    · refine EvolvesO.next ?_
      exact hx1

theorem execApertureEnqueue_ev {a : State} {x0 : ℕ} {x1 : ℕ} {x2 : Sys2Proof.Bytes} {x3 : Sys2Proof.Machine.State} (hx3 : Evolves a x3) : EvolvesO a (execApertureEnqueue x0 x1 x2 x3) := by
  unfold execApertureEnqueue
  refine EvolvesO.ite ?_ ?_
  · exact EvolvesO.fault
  · refine EvolvesO.next ?_
    refine State.apEnqueue_ev ?_
    exact hx3

theorem execApertureOperation_ev {a : State} {x0 : ℕ} {x1 : Sys2Proof.Hw} {x2 : Sys2Proof.Machine.State} (hx2 : Evolves a x2) : EvolvesO a (execApertureOperation x0 x1 x2) := by
  unfold execApertureOperation
  refine EvolvesO.ite ?_ ?_
  · exact EvolvesO.fault
  · extract_lets -merge -useContext +onlyGivenNames v1
    split
    · refine EvolvesO.next ?_
      exact hx2
    · refine EvolvesO.ite ?_ ?_
      · refine EvolvesO.next ?_
        exact hx2
      · extract_lets -merge -useContext +onlyGivenNames v2
        have h_v2 : Evolves a v2 := by
          unfold v2
          refine State.setUnit_ev ?_
          exact hx2
        try clear_value v2
        extract_lets -merge -useContext +onlyGivenNames v3
        refine EvolvesO.ite ?_ ?_
        · refine EvolvesO.next ?_
          refine State.apRefuse_ev ?_
          exact h_v2
        · extract_lets -merge -useContext +onlyGivenNames v4
          extract_lets -merge -useContext +onlyGivenNames v5
          extract_lets -merge -useContext +onlyGivenNames v6
          have h_v6 : Evolves a v6 := by
            unfold v6
            refine Evolves.foldl (fun t7 x8 h_t7 => ?_) ?_
            · refine State.storeBytes_ev ?_
              exact h_t7
            · exact h_v2
          try clear_value v6
          extract_lets -merge -useContext +onlyGivenNames v9
          have h_v9 : Evolves a v9 := by
            unfold v9
            refine Evolves.foldl (fun t10 x11 h_t10 => ?_) ?_
            · refine State.poisonRange_ev ?_
              exact h_t10
            · exact h_v6
          try clear_value v9
          extract_lets -merge -useContext +onlyGivenNames v12
          have h_v12 : Evolves a v12 := by
            unfold v12
            refine State.countOp_ev ?_
            exact h_v9
          try clear_value v12
          extract_lets -merge -useContext +onlyGivenNames v13
          extract_lets -merge -useContext +onlyGivenNames v14
          refine EvolvesO.next ?_
          refine State.setUnit_ev ?_
          exact h_v12

theorem execBsuHoldPoison_ev {a : State} {x0 : ℕ} {x1 : Sys2Proof.Machine.State} (hx1 : Evolves a x1) : EvolvesO a (execBsuHoldPoison x0 x1) := by
  unfold execBsuHoldPoison
  refine EvolvesO.ite ?_ ?_
  · exact EvolvesO.fault
  · split
    · refine EvolvesO.next ?_
      exact hx1
    · refine EvolvesO.ite ?_ ?_
      · refine EvolvesO.next ?_
        exact hx1
      · refine EvolvesO.next ?_
        refine State.holdPoison_ev ?_
        refine Evolves.mk' ?_ rfl
        exact hx1

theorem execBsuMode_ev {a : State} {x0 : Sys2Proof.CmdRef} {x1 : Sys2Proof.Machine.State} (hx1 : Evolves a x1) : EvolvesO a (execBsuMode x0 x1) := by
  unfold execBsuMode
  refine State.engineRow_ev ?_ ?_
  · exact hx1
  · intro z1 z2 h_z1
    extract_lets -merge -useContext +onlyGivenNames v3
    refine Evolves.pair1 ?_
    exact h_z1

theorem execBsuQload_ev {a : State} {x0 : Sys2Proof.CmdRef} {x1 : Sys2Proof.Hw} {x2 : Sys2Proof.Machine.State} (hx2 : Evolves a x2) : EvolvesO a (execBsuQload x0 x1 x2) := by
  unfold execBsuQload
  refine State.engineRow_ev ?_ ?_
  · exact hx2
  · intro z1 z2 h_z1
    extract_lets -merge -useContext +onlyGivenNames v3
    extract_lets -merge -useContext +onlyGivenNames v4
    split
    · refine Evolves.pair1 ?_
      exact h_z1
    · extract_lets -merge -useContext +onlyGivenNames v5
      have h_v5 : Evolves a v5 := by
        unfold v5
        refine State.noteReads_ev ?_
        exact h_z1
      try clear_value v5
      refine Evolves.pair1 ?_
      exact h_v5

theorem execBsuRun_ev {a : State} {x0 : Sys2Proof.CmdRef} {x1 : Sys2Proof.Hw} {x2 : Sys2Proof.Machine.State} (hx2 : Evolves a x2) : EvolvesO a (execBsuRun x0 x1 x2) := by
  unfold execBsuRun
  refine State.engineRowOpen_ev ?_ ?_
  · exact hx2
  · intro z1 z2 h_z1
    extract_lets -merge -useContext +onlyGivenNames v3
    extract_lets -merge -useContext +onlyGivenNames v4
    have h_v4 : Evolves a v4 := by
      unfold v4
      refine Evolves.foldl (fun t5 x6 h_t5 => ?_) ?_
      · refine State.planOp_ev ?_
        exact h_t5
      · exact h_z1
    try clear_value v4
    split
    · refine Evolves.pair1 ?_
      exact h_v4
    · refine Evolves.pair1 ?_
      exact h_v4

theorem execCmpSelect_ev {a : State} {x0 : Sys2Proof.CmdRef} {x1 : ℕ} {x2 : Sys2Proof.Hw} {x3 : Sys2Proof.Machine.State} (hx3 : Evolves a x3) : EvolvesO a (execCmpSelect x0 x1 x2 x3) := by
  unfold execCmpSelect
  refine State.opRow_ev ?_
  exact hx3

theorem execCopy_ev {a : State} {x0 : Sys2Proof.CmdRef} {x1 : ℕ} {x2 : Sys2Proof.Hw} {x3 : Sys2Proof.Machine.State} (hx3 : Evolves a x3) : EvolvesO a (execCopy x0 x1 x2 x3) := by
  unfold execCopy
  refine State.opRow_ev ?_
  exact hx3

theorem execDotI8_ev {a : State} {x0 : Sys2Proof.CmdRef} {x1 : ℕ} {x2 : Sys2Proof.Hw} {x3 : Sys2Proof.Machine.State} (hx3 : Evolves a x3) : EvolvesO a (execDotI8 x0 x1 x2 x3) := by
  unfold execDotI8
  refine State.opRow_ev ?_
  exact hx3

theorem execFill_ev {a : State} {x0 : Sys2Proof.CmdRef} {x1 : ℕ} {x2 : Sys2Proof.Hw} {x3 : Sys2Proof.Machine.State} (hx3 : Evolves a x3) : EvolvesO a (execFill x0 x1 x2 x3) := by
  unfold execFill
  refine State.opRow_ev ?_
  exact hx3

theorem execL2I8_ev {a : State} {x0 : Sys2Proof.CmdRef} {x1 : ℕ} {x2 : Sys2Proof.Hw} {x3 : Sys2Proof.Machine.State} (hx3 : Evolves a x3) : EvolvesO a (execL2I8 x0 x1 x2 x3) := by
  unfold execL2I8
  refine State.opRow_ev ?_
  exact hx3

theorem execModeChangeSequence_ev {a : State} {x0 : ℕ} {x1 : Sys2Proof.Machine.State} (hx1 : Evolves a x1) : EvolvesO a (execModeChangeSequence x0 x1) := by
  unfold execModeChangeSequence
  refine EvolvesO.ite ?_ ?_
  · exact EvolvesO.fault
  · split
    · refine EvolvesO.next ?_
      exact hx1
    · refine EvolvesO.ite ?_ ?_
      · refine EvolvesO.next ?_
        exact hx1
      · extract_lets -merge -useContext +onlyGivenNames v1
        have h_v1 : Evolves a v1 := by
          unfold v1
          refine Evolves.ite ?_ ?_
          · exact hx1
          · refine State.apRefuseAll_ev ?_
            exact hx1
        try clear_value v1
        extract_lets -merge -useContext +onlyGivenNames v2
        extract_lets -merge -useContext +onlyGivenNames v3
        have h_v3 : Evolves a v3 := by
          unfold v3
          refine Evolves.ite ?_ ?_
          · refine State.chargeProc_ev ?_
            exact h_v1
          · exact h_v1
        try clear_value v3
        extract_lets -merge -useContext +onlyGivenNames v4
        have h_v4 : Evolves a v4 := by
          unfold v4
          refine State.setUnit_ev ?_
          exact h_v3
        try clear_value v4
        refine EvolvesO.next ?_
        refine State.serveHeld_ev ?_
        refine State.bumpNode_ev ?_
        exact h_v4

theorem execPoolRows_ev {a : State} {x0 : Sys2Proof.CmdRef} {x1 : ℕ} {x2 : Sys2Proof.Hw} {x3 : Sys2Proof.Machine.State} (hx3 : Evolves a x3) : EvolvesO a (execPoolRows x0 x1 x2 x3) := by
  unfold execPoolRows
  refine State.opRow_ev ?_
  exact hx3

theorem execScoreSketch_ev {a : State} {x0 : Sys2Proof.CmdRef} {x1 : ℕ} {x2 : Sys2Proof.Hw} {x3 : Sys2Proof.Machine.State} (hx3 : Evolves a x3) : EvolvesO a (execScoreSketch x0 x1 x2 x3) := by
  unfold execScoreSketch
  refine State.opRow_ev ?_
  exact hx3

end Sys2Proof.Machine
end

