-- ==== Sys2Proof/Laws/KeepHostPort.lean ====
section
/-!
SUPPORT. Every function of Machine/HostPort.lean that answers a state keeps what `Evolves` names.
-/

namespace Sys2Proof.Machine

set_option linter.all false

theorem State.admitWork_ev {a : State} {x0 : Sys2Proof.Machine.State} {x1 : Sys2Proof.CmdRef} {x2 : Sys2Proof.Machine.Cmd} (hx0 : Evolves a x0) : Evolves a (State.admitWork x0 x1 x2).1 := by
  unfold State.admitWork
  extract_lets -merge -useContext +onlyGivenNames v1
  extract_lets -merge -useContext +onlyGivenNames v2
  extract_lets -merge -useContext +onlyGivenNames v3
  extract_lets -merge -useContext +onlyGivenNames v4
  extract_lets -merge -useContext +onlyGivenNames v5
  extract_lets -merge -useContext +onlyGivenNames v6
  extract_lets -merge -useContext +onlyGivenNames v7
  extract_lets -merge -useContext +onlyGivenNames v8
  try clear_value v8
  split
  · refine Evolves.pair1 ?_
    exact hx0
  · extract_lets -merge -useContext +onlyGivenNames v9
    extract_lets -merge -useContext +onlyGivenNames v10
    extract_lets -merge -useContext +onlyGivenNames v11
    extract_lets -merge -useContext +onlyGivenNames v12
    extract_lets -merge -useContext +onlyGivenNames v13
    extract_lets -merge -useContext +onlyGivenNames v14
    extract_lets -merge -useContext +onlyGivenNames v15
    split
    · refine Evolves.pair1 ?_
      exact hx0
    · extract_lets -merge -useContext +onlyGivenNames v16
      extract_lets -merge -useContext +onlyGivenNames v17
      extract_lets -merge -useContext +onlyGivenNames v18
      extract_lets -merge -useContext +onlyGivenNames v19
      extract_lets -merge -useContext +onlyGivenNames v20
      extract_lets -merge -useContext +onlyGivenNames v21
      extract_lets -merge -useContext +onlyGivenNames v22
      extract_lets -merge -useContext +onlyGivenNames v23
      have h_v23 : Evolves a v23 := by
        unfold v23
        refine State.noteReads_ev ?_
        exact hx0
      try clear_value v23
      refine Evolves.pair1 ?_
      exact h_v23

theorem State.apWriteByte_ev {a : State} {x0 : Sys2Proof.Machine.State} {x1 : ℕ} {x2 : ℕ} {x3 : ℕ} {x4 : Sys2Proof.Byte} (hx0 : Evolves a x0) : EvolvesQ a (State.apWriteByte x0 x1 x2 x3 x4) := by
  unfold State.apWriteByte
  extract_lets -merge -useContext +onlyGivenNames v1
  refine EvolvesQ.ite ?_ ?_
  · extract_lets -merge -useContext +onlyGivenNames v2
    extract_lets -merge -useContext +onlyGivenNames v3
    refine EvolvesQ.some ?_
    refine State.setUnit_ev ?_
    exact hx0
  · refine EvolvesQ.ite ?_ ?_
    · extract_lets -merge -useContext +onlyGivenNames v4
      extract_lets -merge -useContext +onlyGivenNames v5
      refine EvolvesQ.ite ?_ ?_
      · refine EvolvesQ.some ?_
        refine State.setUnit_ev ?_
        exact hx0
      · exact EvolvesQ.none
    · refine EvolvesQ.ite ?_ ?_
      · refine EvolvesQ.some ?_
        refine Evolves.ite ?_ ?_
        · refine State.apRefuseAll_ev ?_
          exact hx0
        · exact hx0
      · exact EvolvesQ.none

theorem State.apAccess_ev {a : State} {x0 : Sys2Proof.Machine.State} {x1 : ℕ} {x2 : Option ℕ} {x3 : Sys2Proof.CoreAccess} (hx0 : Evolves a x0) : Evolves a (State.apAccess x0 x1 x2 x3) := by
  unfold State.apAccess
  extract_lets -merge -useContext +onlyGivenNames ch o zero
  have hz : ∀ s, Evolves a s → Evolves a (zero s) := by
    intro s hs
    unfold zero
    split
    · exact State.emit_ev hs
    · exact hs
  clear_value zero
  split
  · exact hz _ (State.bumpNode_ev hx0)
  · refine Evolves.ite (hz _ (State.bumpNode_ev hx0)) (Evolves.ite (hz _ hx0) ?_)
    split
    · exact Evolves.ite (State.emit_ev hx0) (hz _ (State.bumpNode_ev hx0))
    · split
      · exact State.bumpNode_ev hx0
      · rename_i s' heq
        refine Evolves.foldl (fun t x h => State.apEnqueue_ev h) ?_
        refine EvolvesQ.eq heq ?_
        refine EvolvesQ.foldlBind (fun s x h => State.apWriteByte_ev h) (EvolvesQ.some hx0)

theorem State.setSubs_ev {a : State} {x0 : Sys2Proof.Machine.State} {x1 : List Sys2Proof.Machine.SubMark} (hx0 : Evolves a x0) : Evolves a (State.setSubs x0 x1) := by
  unfold State.setSubs
  refine Evolves.mk' ?_ rfl
  exact hx0

theorem State.markDone_ev {a : State} {x0 : Sys2Proof.Machine.State} {x1 : ℕ} {x2 : ℕ} {x3 : ℕ} (hx0 : Evolves a x0) : Evolves a (State.markDone x0 x1 x2 x3) := by
  unfold State.markDone
  refine State.setSubs_ev ?_
  exact hx0

theorem State.rejectSub_ev {a : State} {x0 : Sys2Proof.Machine.State} {x1 : ℕ} {x2 : ℕ} {x3 : ℕ} {x4 : ℕ} {x5 : ℕ} (hx0 : Evolves a x0) : Evolves a (State.rejectSub x0 x1 x2 x3 x4 x5) := by
  unfold State.rejectSub
  extract_lets -merge -useContext +onlyGivenNames v1
  have h_v1 : Evolves a v1 := by
    unfold v1
    refine State.complete_ev ?_
    refine State.markDone_ev ?_
    exact hx0
  try clear_value v1
  refine Evolves.ite ?_ ?_
  · refine State.bump_ev ?_
    exact h_v1
  · exact h_v1

theorem State.sqAdvance_ev {a : State} {x0 : ℕ} {x1 : Sys2Proof.Machine.State} {x2 : ℕ} {x3 : ℕ} (hx1 : Evolves a x1) : Evolves a (State.sqAdvance x0 x1 x2 x3) := by
  induction x0 generalizing x1 x2 x3 with
  | zero => unfold State.sqAdvance; exact hx1
  | succ n ih =>
    unfold State.sqAdvance
    dsimp only
    split
    · exact ih (State.setQueue_ev (State.setSubs_ev hx1))
    · exact hx1

theorem State.rejectSubs_ev {a : State} {x0 : Sys2Proof.Machine.State} {x1 : ℕ} {x2 : ℕ} {x3 : SubMark → Bool} (hx0 : Evolves a x0) : Evolves a (State.rejectSubs x0 x1 x2 x3) := by
  unfold State.rejectSubs
  extract_lets -merge -useContext +onlyGivenNames v1
  have h_v1 : Evolves a v1 := by
    unfold v1
    refine Evolves.foldl (fun t2 x3 h_t2 => ?_) ?_
    · refine State.rejectSub_ev ?_
      exact h_t2
    · exact hx0
  try clear_value v1
  refine Evolves.foldl (fun t4 x5 h_t4 => ?_) ?_
  · refine State.sqAdvance_ev ?_
    exact h_t4
  · exact h_v1

theorem State.modBinding_ev {a : State} {x0 : Sys2Proof.Machine.State} {x1 : ℕ} {x2 : Binding → Sys2Proof.Machine.Binding} (hx0 : Evolves a x0) : Evolves a (State.modBinding x0 x1 x2) := by
  unfold State.modBinding
  refine State.setBinding_ev ?_
  exact hx0

theorem State.bindApply_ev {a : State} {x0 : Sys2Proof.Machine.State} {x1 : ℕ} (hx0 : Evolves a x0) : Evolves a (State.bindApply x0 x1) := by
  unfold State.bindApply
  extract_lets -merge -useContext +onlyGivenNames v1
  refine Evolves.ite ?_ ?_
  · refine State.rejectSubs_ev ?_
    refine State.modBinding_ev ?_
    exact hx0
  · refine State.modBinding_ev ?_
    exact hx0

theorem State.arriveSub_ev {a : State} {x0 : Sys2Proof.Machine.State} {x1 : ℕ} {x2 : ℕ} {x3 : ℕ} (hx0 : Evolves a x0) : Evolves a (State.arriveSub x0 x1 x2 x3) := by
  unfold State.arriveSub
  extract_lets -merge -useContext +onlyGivenNames v1
  extract_lets -merge -useContext +onlyGivenNames v2
  extract_lets -merge -useContext +onlyGivenNames v3
  extract_lets -merge -useContext +onlyGivenNames v4
  have h_v4 : ∀ z5 z6 z7, Evolves a z5 → Evolves a (v4 z5 z6 z7) := by
    intro z5 z6 z7 h_z5
    unfold v4
    refine State.setSubs_ev ?_
    exact h_z5
  try clear_value v4
  refine Evolves.ite ?_ ?_
  · refine h_v4 _ _ _ ?_
    exact hx0
  · split
    · extract_lets -merge -useContext +onlyGivenNames v8
      have h_v8 : Evolves a v8 := by
        unfold v8
        refine State.setFlow_ev ?_
        exact hx0
      try clear_value v8
      extract_lets -merge -useContext +onlyGivenNames v9
      have h_v9 : Evolves a v9 := by
        unfold v9
        refine State.bump_ev ?_
        exact h_v8
      try clear_value v9
      extract_lets -merge -useContext +onlyGivenNames v10
      extract_lets -merge -useContext +onlyGivenNames v11
      extract_lets -merge -useContext +onlyGivenNames v12
      have h_v12 : Evolves a v12 := by
        unfold v12
        refine Evolves.ite ?_ ?_
        · refine Evolves.mk' ?_ rfl
          exact h_v9
        · refine Evolves.ite ?_ ?_
          · refine Evolves.mk' ?_ rfl
            exact h_v9
          · exact h_v9
      try clear_value v12
      refine Evolves.ite ?_ ?_
      · refine h_v4 _ _ _ ?_
        exact h_v12
      · refine Evolves.ite ?_ ?_
        · refine h_v4 _ _ _ ?_
          refine State.bump_ev ?_
          exact h_v12
        · split
          · rename_i s13 heq
            have h_s13 : Evolves a s13 := by
              refine EvolvesQ.eq (by assumption) ?_
              refine State.release_ev ?_
              exact h_v12
            refine h_v4 _ _ _ ?_
            exact h_s13
          · refine h_v4 _ _ _ ?_
            refine State.bump_ev ?_
            exact h_v12

theorem State.bindFast_ev {a : State} {x0 : Sys2Proof.Machine.State} {x1 : ℕ} {x2 : ℕ} (hx0 : Evolves a x0) : Evolves a (State.bindFast x0 x1 x2) := by
  unfold State.bindFast
  extract_lets -merge -useContext +onlyGivenNames v1
  extract_lets -merge -useContext +onlyGivenNames v2
  extract_lets -merge -useContext +onlyGivenNames v3
  have h_v3 : Evolves a v3 := by
    unfold v3
    refine Evolves.foldl (fun t4 x5 h_t4 => ?_) ?_
    · refine State.setQueue_ev ?_
      exact h_t4
    · exact hx0
  try clear_value v3
  extract_lets -merge -useContext +onlyGivenNames v6
  extract_lets -merge -useContext +onlyGivenNames v7
  extract_lets -merge -useContext +onlyGivenNames v8
  have h_v8 : Evolves a v8 := by
    unfold v8
    refine State.setBinding_ev ?_
    refine Evolves.mk' ?_ rfl
    exact h_v3
  try clear_value v8
  refine Evolves.ite ?_ ?_
  · refine State.event_ev ?_
    exact h_v8
  · exact h_v8

theorem State.bindSlow_ev {a : State} {x0 : Sys2Proof.Machine.State} {x1 : ℕ} {x2 : ℕ} (hx0 : Evolves a x0) : Evolves a (State.bindSlow x0 x1 x2) := by
  unfold State.bindSlow
  extract_lets -merge -useContext +onlyGivenNames v1
  extract_lets -merge -useContext +onlyGivenNames v2
  have h_v2 : Evolves a v2 := by
    unfold v2
    refine Evolves.foldl (fun t3 x4 h_t3 => ?_) ?_
    · refine State.setQueue_ev ?_
      exact h_t3
    · exact hx0
  try clear_value v2
  extract_lets -merge -useContext +onlyGivenNames v5
  have h_v5 : Evolves a v5 := by
    unfold v5
    refine State.setSubs_ev ?_
    exact h_v2
  try clear_value v5
  extract_lets -merge -useContext +onlyGivenNames w1
  extract_lets -merge -useContext +onlyGivenNames v6
  have h_v6 : Evolves a v6 := by
    unfold v6
    refine State.setBinding_ev ?_
    refine Evolves.mk' ?_ rfl
    exact h_v5
  try clear_value v6
  refine Evolves.ite ?_ ?_
  · refine State.event_ev ?_
    exact h_v6
  · exact h_v6

theorem State.bindBoundary_ev {a : State} {x0 : Sys2Proof.Machine.State} (hx0 : Evolves a x0) : Evolves a (State.bindBoundary x0) := by
  unfold State.bindBoundary
  refine Evolves.foldl (fun t1 x2 h_t1 => ?_) ?_
  · extract_lets -merge -useContext +onlyGivenNames v3
    split
    · exact h_t1
    · refine Evolves.ite ?_ ?_
      · exact h_t1
      · refine Evolves.ite ?_ ?_
        · refine State.bindFast_ev ?_
          exact h_t1
        · refine Evolves.ite ?_ ?_
          · refine State.bindSlow_ev ?_
            exact h_t1
          · exact h_t1
  · exact hx0

theorem State.bindSettle_ev {a : State} {x0 : Sys2Proof.Machine.State} {x1 : ℕ} (hx0 : Evolves a x0) : Evolves a (State.bindSettle x0 x1) := by
  unfold State.bindSettle
  extract_lets -merge -useContext +onlyGivenNames v1
  refine Evolves.ite ?_ ?_
  · refine Evolves.ite ?_ ?_
    · exact hx0
    · refine State.setBinding_ev ?_
      exact hx0
  · refine Evolves.ite ?_ ?_
    · exact hx0
    · refine Evolves.ite ?_ ?_
      · refine State.setBinding_ev ?_
        exact hx0
      · refine State.event_ev ?_
        refine State.setBinding_ev ?_
        exact hx0

theorem State.takeQueues_ev {a : State} {x0 : Sys2Proof.Machine.State} (hx0 : Evolves a x0) : Evolves a (State.takeQueues x0) := by
  unfold State.takeQueues
  refine Evolves.mk' ?_ rfl
  exact hx0

theorem State.completeWork_ev {a : State} {x0 : Sys2Proof.Machine.State} {x1 : Sys2Proof.CmdRef} {x2 : Sys2Proof.Machine.Cmd} (hx0 : Evolves a x0) : Evolves a (State.completeWork x0 x1 x2).1 := by
  unfold State.completeWork
  extract_lets -merge -useContext +onlyGivenNames v1
  extract_lets -merge -useContext +onlyGivenNames v2
  split
  · refine Evolves.pair1 ?_
    exact hx0
  · extract_lets -merge -useContext +onlyGivenNames v3
    extract_lets -merge -useContext +onlyGivenNames v4
    extract_lets -merge -useContext +onlyGivenNames v5
    have h_v5 : Evolves a v5 := by
      unfold v5
      refine State.noteReads_ev ?_
      exact hx0
    try clear_value v5
    refine Evolves.pair1 ?_
    exact h_v5

theorem State.cxlRequest_ev {a : State} {x0 : Sys2Proof.Machine.State} {x1 : ℕ} {x2 : ℕ} {x3 : Option (Sys2Proof.Bytes × ℕ × Bool)} (hx0 : Evolves a x0) : Evolves a (State.cxlRequest x0 x1 x2 x3) := by
  unfold State.cxlRequest
  refine Evolves.ite ?_ ?_
  · exact hx0
  · split
    · refine State.emit_ev ?_
      exact hx0
    · extract_lets -merge -useContext +onlyGivenNames v1
      extract_lets -merge -useContext +onlyGivenNames v2
      have h_v2 : ∀ z3, Evolves a z3 → Evolves a (v2 z3) := by
        intro z3 h_z3
        unfold v2
        refine State.bump_ev ?_
        refine Evolves.mk' ?_ rfl
        exact h_z3
      try clear_value v2
      refine Evolves.ite ?_ ?_
      · refine h_v2 _ ?_
        exact hx0
      · split
        · rename_i s4 heq
          have h_s4 : Evolves a s4 := by
            refine EvolvesQ.eq (by assumption) ?_
            refine State.release_ev ?_
            exact hx0
          refine State.arrive_ev ?_
          exact h_s4
        · refine h_v2 _ ?_
          exact hx0

theorem State.mailbox_ev {a : State} {x0 : Sys2Proof.Machine.State} {x1 : ℕ} {x2 : ℕ} {x3 : Sys2Proof.Bytes} (hx0 : Evolves a x0) : EvolvesO a (State.mailbox x0 x1 x2 x3) := by
  unfold State.mailbox
  refine EvolvesO.ite ?_ ?_
  · exact EvolvesO.fault
  · refine EvolvesO.next ?_
    refine Evolves.ite ?_ ?_
    · refine State.emit_ev ?_
      exact hx0
    · exact hx0

theorem State.coreError_ev {a : State} {x0 : Sys2Proof.Machine.State} {y : ℕ} {x1 : Option ℕ} {x2 : Sys2Proof.CoreAccess} (hx0 : Evolves a x0) : Evolves a (State.coreError x0 y x1 x2) := by
  unfold State.coreError
  extract_lets -merge -useContext +onlyGivenNames v1
  have h_v1 : Evolves a v1 := by
    unfold v1
    split
    · refine State.event_ev ?_
      exact hx0
    · refine State.nodeEvent_ev ?_
      exact hx0
  try clear_value v1
  split
  · refine State.emit_ev ?_
    exact h_v1
  · exact h_v1

theorem State.refuseCore_ev {a : State} {x0 : Sys2Proof.Machine.State} {x1 : Option ℕ} {x2 : Sys2Proof.CoreAccess} (hx0 : Evolves a x0) : Evolves a (State.refuseCore x0 x1 x2) :=
  State.coreError_ev hx0

theorem State.cxlReadLost_ev {a : State} {x0 : Sys2Proof.Machine.State} {x1 : ℕ} (hx0 : Evolves a x0) : Evolves a (State.cxlReadLost x0 x1) := by
  unfold State.cxlReadLost
  refine Evolves.ite ?_ ?_
  · exact hx0
  · split
    · refine State.emit_ev ?_
      exact hx0
    · split
      rename_i v s1 heq
      have h_s1 : Evolves a s1 := by
        refine Evolves.sndEq (by assumption) ?_
        refine State.draw_ev ?_
        exact hx0
      refine State.emit_ev ?_
      refine State.event_ev ?_
      exact h_s1

theorem State.woBindRelease_ev {a : State} {x0 : Sys2Proof.Machine.State} {x1 : ℕ} {x2 : Sys2Proof.Bytes} (hx0 : Evolves a x0) : Evolves a (State.woBindRelease x0 x1 x2).1 := by
  unfold State.woBindRelease
  extract_lets -merge -useContext +onlyGivenNames v1
  extract_lets -merge -useContext +onlyGivenNames v2
  refine Evolves.ite1 ?_ ?_
  · refine Evolves.pair1 ?_
    refine State.bindSettle_ev ?_
    refine State.setBinding_ev ?_
    exact hx0
  · refine Evolves.ite1 ?_ ?_
    · refine Evolves.pair1 ?_
      refine State.bindSettle_ev ?_
      refine State.setBinding_ev ?_
      exact hx0
    · refine Evolves.pair1 ?_
      exact hx0

theorem State.woRoleChange_ev {a : State} {x0 : Sys2Proof.Machine.State} {x1 : ℕ} {x2 : Sys2Proof.Bytes} (hx0 : Evolves a x0) : Evolves a (State.woRoleChange x0 x1 x2).1 := by
  unfold State.woRoleChange
  extract_lets -merge -useContext +onlyGivenNames v1
  refine Evolves.ite1 ?_ ?_
  · refine Evolves.pair1 ?_
    exact hx0
  · refine Evolves.ite1 ?_ ?_
    · refine Evolves.pair1 ?_
      exact hx0
    · refine Evolves.ite1 ?_ ?_
      · refine Evolves.pair1 ?_
        exact hx0
      · refine Evolves.ite1 ?_ ?_
        · refine Evolves.pair1 ?_
          exact hx0
        · refine Evolves.pair1 ?_
          refine State.modInset_ev ?_
          exact hx0

theorem execBindRelease_ev {a : State} {x0 : Sys2Proof.GazReq} {x1 : Sys2Proof.Machine.State} (hx1 : Evolves a x1) : EvolvesO a (execBindRelease x0 x1) := by
  unfold execBindRelease
  refine State.woRow_ev ?_ ?_
  · exact hx1
  · intro z1 z2 z3 h_z1
    refine State.woBindRelease_ev ?_
    exact h_z1

theorem execControlCoreAccess_ev {a : State} {x0 : Sys2Proof.CoreAccess} {x1 : Sys2Proof.Machine.State} (hx1 : Evolves a x1) : EvolvesO a (execControlCoreAccess x0 x1) := by
  unfold execControlCoreAccess
  refine EvolvesO.ite ?_ ?_
  · exact EvolvesO.fault
  · extract_lets -merge -useContext +onlyGivenNames v1
    extract_lets -merge -useContext +onlyGivenNames v2
    refine EvolvesO.ite ?_ ?_
    · refine EvolvesO.next ?_
      exact hx1
    · refine EvolvesO.ite ?_ ?_
      · refine EvolvesO.next ?_
        refine State.coreError_ev ?_
        exact hx1
      · refine EvolvesO.ite ?_ ?_
        · refine EvolvesO.next ?_
          refine State.apAccess_ev ?_
          exact hx1
        · extract_lets -merge -useContext +onlyGivenNames v3
          refine EvolvesO.ite ?_ ?_
          · refine EvolvesO.next ?_
            refine State.arrive_ev ?_
            exact hx1
          · refine EvolvesO.next ?_
            refine State.refuseCore_ev ?_
            exact hx1

theorem execCxlConfigRequest_ev {a : State} {x0 : ℕ} {x1 : Sys2Proof.Machine.State} (hx1 : Evolves a x1) : EvolvesO a (execCxlConfigRequest x0 x1) := by
  unfold execCxlConfigRequest
  refine EvolvesO.ite ?_ ?_
  · refine EvolvesO.next ?_
    exact hx1
  · refine EvolvesO.next ?_
    refine State.emit_ev ?_
    exact hx1

theorem execCxlMemRead_ev {a : State} {x0 : ℕ} {y : Bool} {x1 : Sys2Proof.Machine.State} (hx1 : Evolves a x1) : EvolvesO a (execCxlMemRead x0 y x1) := by
  unfold execCxlMemRead
  exact EvolvesO.next (Evolves.ite (State.cxlReadLost_ev hx1) (State.cxlRequest_ev hx1))

theorem execCxlMemWrite_ev {a : State} {x0 : ℕ} {x1 : Sys2Proof.Bytes} {x2 : ℕ} {x3 : Bool} {x4 : Sys2Proof.Machine.State} (hx4 : Evolves a x4) : EvolvesO a (execCxlMemWrite x0 x1 x2 x3 x4) := by
  unfold execCxlMemWrite
  refine EvolvesO.next ?_
  refine State.cxlRequest_ev ?_
  exact hx4

theorem execCxlSnoop_ev {a : State} {x0 : ℕ} {x1 : Sys2Proof.Machine.State} (hx1 : Evolves a x1) : EvolvesO a (execCxlSnoop x0 x1) := by
  unfold execCxlSnoop
  refine EvolvesO.next ?_
  refine Evolves.ite ?_ ?_
  · refine State.emit_ev ?_
    exact hx1
  · exact hx1

theorem execGetLog_ev {a : State} {x0 : ℕ} {x1 : Sys2Proof.Bytes} {x2 : ℕ} {x3 : ℕ} {x4 : Sys2Proof.Machine.State} (hx4 : Evolves a x4) : EvolvesO a (execGetLog x0 x1 x2 x3 x4) := by
  unfold execGetLog
  refine EvolvesO.ite ?_ ?_
  · refine State.mailbox_ev ?_
    exact hx4
  · refine State.mailbox_ev ?_
    exact hx4

theorem execGetSupportedLogs_ev {a : State} {x0 : ℕ} {x1 : Sys2Proof.Machine.State} (hx1 : Evolves a x1) : EvolvesO a (execGetSupportedLogs x0 x1) := by
  unfold execGetSupportedLogs
  refine State.mailbox_ev ?_
  exact hx1

theorem execGetTimestamp_ev {a : State} {x0 : ℕ} {x1 : Sys2Proof.Machine.State} (hx1 : Evolves a x1) : EvolvesO a (execGetTimestamp x0 x1) := by
  unfold execGetTimestamp
  refine State.mailbox_ev ?_
  exact hx1

theorem execHdmCommit_ev {a : State} {x0 : ℕ} {x1 : ℕ} {x2 : ℕ} {x3 : ℕ} {x4 : Sys2Proof.Machine.State} (hx4 : Evolves a x4) : EvolvesO a (execHdmCommit x0 x1 x2 x3 x4) := by
  unfold execHdmCommit
  refine EvolvesO.ite ?_ ?_
  · exact EvolvesO.fault
  · refine EvolvesO.ite ?_ ?_
    · refine EvolvesO.next ?_
      exact hx4
    · extract_lets -merge -useContext +onlyGivenNames v1
      extract_lets -merge -useContext +onlyGivenNames v2
      extract_lets -merge -useContext +onlyGivenNames v3
      extract_lets -merge -useContext +onlyGivenNames v4
      extract_lets -merge -useContext +onlyGivenNames v5
      have h_v5 : Evolves a v5 := by
        unfold v5
        refine Evolves.mk' ?_ rfl
        exact hx4
      try clear_value v5
      refine EvolvesO.next ?_
      refine State.emit_ev ?_
      exact h_v5

theorem execHostAdmit_ev {a : State} {x0 : Sys2Proof.CmdRef} {x1 : Sys2Proof.Hw} {x2 : Sys2Proof.Machine.State} (hx2 : Evolves a x2) : EvolvesO a (execHostAdmit x0 x1 x2) := by
  unfold execHostAdmit
  refine State.engineRow_ev ?_ ?_
  · exact hx2
  · intro z1 z2 h_z1
    refine State.admitWork_ev ?_
    exact h_z1

theorem execHostComplete_ev {a : State} {x0 : Sys2Proof.CmdRef} {x1 : Sys2Proof.Hw} {x2 : Sys2Proof.Machine.State} (hx2 : Evolves a x2) : EvolvesO a (execHostComplete x0 x1 x2) := by
  unfold execHostComplete
  refine State.engineRow_ev ?_ ?_
  · exact hx2
  · intro z1 z2 h_z1
    refine State.completeWork_ev ?_
    exact h_z1

theorem execHostLinkLost_ev {a : State} {x0 : Sys2Proof.Machine.State} (hx0 : Evolves a x0) : EvolvesO a (execHostLinkLost x0) := by
  unfold execHostLinkLost
  extract_lets -merge -useContext +onlyGivenNames v1
  extract_lets -merge -useContext +onlyGivenNames v2
  have h_v2 : Evolves a v2 := by
    unfold v2
    refine Evolves.mk' ?_ rfl
    exact hx0
  try clear_value v2
  refine EvolvesO.next ?_
  refine Evolves.foldl (fun t3 x4 h_t3 => ?_) ?_
  · extract_lets -merge -useContext +onlyGivenNames v5
    refine Evolves.ite ?_ ?_
    · refine State.bindSettle_ev ?_
      refine State.event_ev ?_
      refine State.setBinding_ev ?_
      exact h_t3
    · exact h_t3
  · exact h_v2

theorem execMailboxUnsupported_ev {a : State} {x0 : ℕ} {x1 : ℕ} {x2 : Sys2Proof.Machine.State} (hx2 : Evolves a x2) : EvolvesO a (execMailboxUnsupported x0 x1 x2) := by
  unfold execMailboxUnsupported
  refine EvolvesO.ite ?_ ?_
  · refine EvolvesO.next ?_
    exact hx2
  · refine State.mailbox_ev ?_
    exact hx2

theorem execOrphanAbort_ev {a : State} {x0 : ℕ} {x1 : Sys2Proof.Machine.State} (hx1 : Evolves a x1) : EvolvesO a (execOrphanAbort x0 x1) := by
  unfold execOrphanAbort
  refine EvolvesO.ite ?_ ?_
  · exact EvolvesO.fault
  · extract_lets -merge -useContext +onlyGivenNames v1
    extract_lets -merge -useContext +onlyGivenNames v2
    split
    · refine EvolvesO.next ?_
      exact hx1
    · refine EvolvesO.ite ?_ ?_
      · refine EvolvesO.next ?_
        exact hx1
      · split
        · rename_i s3 y4 heq
          have h_s3 : Evolves a s3 := by
            refine Evolves.fstEq (by assumption) ?_
            refine State.closeRequests_ev ?_
            exact hx1
          extract_lets -merge -useContext +onlyGivenNames v5
          have h_v5 : Evolves a v5 := by
            unfold v5
            refine State.bump_ev ?_
            exact h_s3
          try clear_value v5
          extract_lets -merge -useContext +onlyGivenNames v6
          have h_v6 : Evolves a v6 := by
            unfold v6
            refine Evolves.foldl (fun t7 x8 h_t7 => ?_) ?_
            · refine State.setQueue_ev ?_
              exact h_t7
            · exact h_v5
          try clear_value v6
          extract_lets -merge -useContext +onlyGivenNames v9
          have h_v9 : Evolves a v9 := by
            unfold v9
            refine State.setSubs_ev ?_
            exact h_v6
          try clear_value v9
          refine EvolvesO.next ?_
          refine State.setBinding_ev ?_
          exact h_v9

theorem execQueueConfig_ev {a : State} {x0 : ℕ} {x1 : ℕ} {x2 : ℕ} {x3 : ℕ} {x4 : Sys2Proof.Machine.State} (hx4 : Evolves a x4) : EvolvesO a (execQueueConfig x0 x1 x2 x3 x4) := by
  unfold execQueueConfig
  refine EvolvesO.ite ?_ ?_
  · exact EvolvesO.fault
  · refine EvolvesO.ite ?_ ?_
    · refine EvolvesO.next ?_
      exact hx4
    · extract_lets -merge -useContext +onlyGivenNames v1
      refine EvolvesO.ite ?_ ?_
      · refine EvolvesO.next ?_
        refine State.setQueue_ev ?_
        exact hx4
      · refine EvolvesO.ite ?_ ?_
        · refine EvolvesO.next ?_
          refine State.setBinding_ev ?_
          exact hx4
        · extract_lets -merge -useContext +onlyGivenNames v2
          extract_lets -merge -useContext +onlyGivenNames v3
          have h_v3 : Evolves a v3 := by
            unfold v3
            refine State.setQueue_ev ?_
            exact hx4
          try clear_value v3
          refine EvolvesO.ite ?_ ?_
          · refine EvolvesO.next ?_
            refine State.event_ev ?_
            exact hx4
          · refine EvolvesO.next ?_
            exact h_v3

theorem execRoleChange_ev {a : State} {x0 : Sys2Proof.GazReq} {x1 : Sys2Proof.Machine.State} (hx1 : Evolves a x1) : EvolvesO a (execRoleChange x0 x1) := by
  unfold execRoleChange
  refine State.woRow_ev ?_ ?_
  · exact hx1
  · intro z1 z2 z3 h_z1
    refine State.woRoleChange_ev ?_
    exact h_z1

theorem execSetTimestamp_ev {a : State} {x0 : ℕ} {x1 : ℕ} {x2 : Sys2Proof.Machine.State} (hx2 : Evolves a x2) : EvolvesO a (execSetTimestamp x0 x1 x2) := by
  unfold execSetTimestamp
  refine State.mailbox_ev ?_
  refine Evolves.ite ?_ ?_
  · refine Evolves.mk' ?_ rfl
    exact hx2
  · exact hx2

theorem execSqTail_ev {a : State} {x0 : ℕ} {x1 : ℕ} {x2 : ℕ} {x3 : Sys2Proof.Machine.State} (hx3 : Evolves a x3) : EvolvesO a (execSqTail x0 x1 x2 x3) := by
  unfold execSqTail
  refine EvolvesO.ite ?_ ?_
  · exact EvolvesO.fault
  · extract_lets -merge -useContext +onlyGivenNames v1
    refine EvolvesO.ite ?_ ?_
    · refine EvolvesO.next ?_
      exact hx3
    · extract_lets -merge -useContext +onlyGivenNames v2
      extract_lets -merge -useContext +onlyGivenNames v3
      extract_lets -merge -useContext +onlyGivenNames v4
      extract_lets -merge -useContext +onlyGivenNames v5
      have h_v5 : Evolves a v5 := by
        unfold v5
        refine State.setQueue_ev ?_
        exact hx3
      try clear_value v5
      refine EvolvesO.next ?_
      refine Evolves.foldl (fun t6 x7 h_t6 => ?_) ?_
      · refine State.arriveSub_ev ?_
        exact h_t6
      · exact h_v5

theorem execSwitchInstant_ev {a : State} {x0 : ℕ} {x1 : Sys2Proof.Machine.State} (hx1 : Evolves a x1) : EvolvesO a (execSwitchInstant x0 x1) := by
  unfold execSwitchInstant
  refine EvolvesO.ite ?_ ?_
  · exact EvolvesO.fault
  · extract_lets -merge -useContext +onlyGivenNames v1
    split
    · refine EvolvesO.ite ?_ ?_
      · refine EvolvesO.next ?_
        exact hx1
      · refine EvolvesO.next ?_
        refine State.bindSettle_ev ?_
        refine State.setBinding_ev ?_
        exact hx1
    · refine EvolvesO.next ?_
      exact hx1

end Sys2Proof.Machine
end

