-- ==== Sys2Proof/Laws/KeepSync.lean ====
section
/-!
SUPPORT. Every function of Machine/Sync.lean that answers a state keeps what `Evolves` names.
-/

namespace Sys2Proof.Machine

set_option linter.all false

theorem State.bumpSync_ev {a : State} {x0 : Sys2Proof.Machine.State} {x1 : ℕ} {x2 : ℕ} (hx0 : Evolves a x0) : Evolves a (State.bumpSync x0 x1 x2) := by
  unfold State.bumpSync
  split
  · refine State.bump_ev ?_
    exact hx0
  · exact hx0

theorem State.tokenAnswer_ev {a : State} {x0 : Sys2Proof.Machine.State} {x1 : ℕ} {x2 : ℕ} {x3 : Bool} (hx0 : Evolves a x0) : Evolves a (State.tokenAnswer x0 x1 x2 x3) := by
  unfold State.tokenAnswer
  refine State.modCmd_ev ?_
  exact hx0

theorem State.tokenServe_ev {a : State} {x0 : Sys2Proof.Machine.State} {x1 : ℕ} {x2 : ℕ} {x3 : ℕ} {x4 : ℕ} (hx0 : Evolves a x0) : Evolves a (State.tokenServe x0 x1 x2 x3 x4) := by
  unfold State.tokenServe
  extract_lets -merge -useContext +onlyGivenNames v1
  extract_lets -merge -useContext +onlyGivenNames v2
  extract_lets -merge -useContext +onlyGivenNames v3
  have h_v3 : Evolves a v3 := by
    unfold v3
    refine Evolves.ite ?_ ?_
    · refine State.setSync_ev ?_
      exact hx0
    · exact hx0
  try clear_value v3
  extract_lets -merge -useContext +onlyGivenNames v4
  have h_v4 : Evolves a v4 := by
    unfold v4
    refine State.bumpSync_ev ?_
    exact h_v3
  try clear_value v4
  refine Evolves.ite ?_ ?_
  · refine State.tokenAnswer_ev ?_
    exact h_v4
  · refine State.syncSend_ev ?_
    exact h_v4

theorem State.suspectStep_ev {a : State} {x0 : Sys2Proof.Machine.State} {x1 : ℕ} {x2 : Bool} (hx0 : Evolves a x0) : Evolves a (State.suspectStep x0 x1 x2) := by
  unfold State.suspectStep
  extract_lets -merge -useContext +onlyGivenNames v1
  extract_lets -merge -useContext +onlyGivenNames v2
  extract_lets -merge -useContext +onlyGivenNames v3
  extract_lets -merge -useContext +onlyGivenNames v4
  have h_v4 : Evolves a v4 := by
    unfold v4
    refine State.modInset_ev ?_
    exact hx0
  try clear_value v4
  extract_lets -merge -useContext +onlyGivenNames v5
  extract_lets -merge -useContext +onlyGivenNames v6
  refine Evolves.ite ?_ ?_
  · refine State.interrupt_ev ?_
    refine State.event_ev ?_
    refine State.setNum_ev ?_
    exact h_v4
  · exact h_v4

theorem State.barrierDone_ev {a : State} {x0 : Sys2Proof.Machine.State} {x1 : ℕ} {x2 : List (ℕ × ℕ)} (hx0 : Evolves a x0) : Evolves a (State.barrierDone x0 x1 x2) := by
  unfold State.barrierDone
  extract_lets -merge -useContext +onlyGivenNames v1
  extract_lets -merge -useContext +onlyGivenNames v2
  extract_lets -merge -useContext +onlyGivenNames v3
  have h_v3 : Evolves a v3 := by
    unfold v3
    refine State.setSync_ev ?_
    exact hx0
  try clear_value v3
  refine Evolves.foldl (fun t4 x5 h_t4 => ?_) ?_
  · extract_lets -merge -useContext +onlyGivenNames v6
    extract_lets -merge -useContext +onlyGivenNames v7
    have h_v7 : Evolves a v7 := by
      unfold v7
      refine Evolves.ite ?_ ?_
      · refine State.bump_ev ?_
        exact h_t4
      · exact h_t4
    try clear_value v7
    extract_lets -merge -useContext +onlyGivenNames v8
    have h_v8 : Evolves a v8 := by
      unfold v8
      refine Evolves.ite ?_ ?_
      · refine State.suspectStep_ev ?_
        exact h_v7
      · exact h_v7
    try clear_value v8
    refine State.interrupt_ev ?_
    exact h_v8
  · exact h_v3

theorem State.barrierArrive_ev {a : State} {x0 : Sys2Proof.Machine.State} {x1 : ℕ} {x2 : ℕ} {x3 : ℕ} (hx0 : Evolves a x0) : Evolves a (State.barrierArrive x0 x1 x2 x3) := by
  unfold State.barrierArrive
  extract_lets -merge -useContext +onlyGivenNames v1
  extract_lets -merge -useContext +onlyGivenNames v2
  refine Evolves.ite ?_ ?_
  · refine Evolves.mk' ?_ rfl
    exact hx0
  · extract_lets -merge -useContext +onlyGivenNames v3
    extract_lets -merge -useContext +onlyGivenNames v4
    have h_v4 : Evolves a v4 := by
      unfold v4
      refine Evolves.mk' ?_ rfl
      exact hx0
    try clear_value v4
    extract_lets -merge -useContext +onlyGivenNames v5
    extract_lets -merge -useContext +onlyGivenNames v6
    refine Evolves.foldl (fun t7 x8 h_t7 => ?_) ?_
    · refine Evolves.ite ?_ ?_
      · refine State.barrierDone_ev ?_
        exact h_t7
      · refine State.syncSend_ev ?_
        exact h_t7
    · exact h_v4

theorem State.leaseTake_ev {a : State} {x0 : Sys2Proof.Machine.State} {x1 : ℕ} {x2 : ℕ} {x3 : ℕ} (hx0 : Evolves a x0) : Evolves a (State.leaseTake x0 x1 x2 x3).1 := by
  unfold State.leaseTake
  extract_lets -merge -useContext +onlyGivenNames v1
  refine Evolves.ite1 ?_ ?_
  · refine Evolves.pair1 ?_
    refine State.setSync_ev ?_
    exact hx0
  · refine Evolves.ite1 ?_ ?_
    · refine Evolves.pair1 ?_
      refine State.setSync_ev ?_
      exact hx0
    · refine Evolves.pair1 ?_
      exact hx0

theorem State.leaseLost_ev {a : State} {x0 : Sys2Proof.Machine.State} {x1 : ℕ} {x2 : ℕ} (hx0 : Evolves a x0) : Evolves a (State.leaseLost x0 x1 x2) := by
  unfold State.leaseLost
  extract_lets -merge -useContext +onlyGivenNames v1
  extract_lets -merge -useContext +onlyGivenNames v2
  have h_v2 : Evolves a v2 := by
    unfold v2
    refine Evolves.foldl (fun t3 x4 h_t3 => ?_) ?_
    · refine State.kill_ev ?_
      exact h_t3
    · exact hx0
  try clear_value v2
  refine State.interrupt_ev ?_
  refine State.bump_ev ?_
  refine State.leaseFree_ev ?_
  exact h_v2

theorem State.woSuspectClear_ev {a : State} {x0 : Sys2Proof.Machine.State} {x1 : ℕ} {x2 : Sys2Proof.Bytes} (hx0 : Evolves a x0) : Evolves a (State.woSuspectClear x0 x1 x2).1 := by
  unfold State.woSuspectClear
  refine Evolves.pair1 ?_
  refine State.modInset_ev ?_
  refine State.setNum_ev ?_
  exact hx0

theorem execLeaseRevoked_ev {a : State} {x0 : ℕ} {x1 : Sys2Proof.Machine.State} (hx1 : Evolves a x1) : EvolvesO a (execLeaseRevoked x0 x1) := by
  unfold execLeaseRevoked
  refine EvolvesO.ite ?_ ?_
  · exact EvolvesO.fault
  · extract_lets -merge -useContext +onlyGivenNames v1
    extract_lets -merge -useContext +onlyGivenNames v2
    try clear_value v2
    split
    · refine EvolvesO.next ?_
      refine State.killRehearsed_ev ?_
      exact hx1
    · refine EvolvesO.ite ?_ ?_
      · refine EvolvesO.next ?_
        exact hx1
      · extract_lets -merge -useContext +onlyGivenNames v3
        refine EvolvesO.ite ?_ ?_
        · refine EvolvesO.next ?_
          exact hx1
        · refine EvolvesO.ite ?_ ?_
          · refine EvolvesO.next ?_
            refine State.leaseLost_ev ?_
            exact hx1
          · refine EvolvesO.next ?_
            refine State.syncSend_ev ?_
            refine State.leaseFree_ev ?_
            exact hx1

end Sys2Proof.Machine
end

