-- ==== Sys2Proof/Laws/KeepTraverse.lean ====
section
/-!
SUPPORT. Every function of Machine/Traverse.lean that answers a state keeps what `Evolves` names.
-/

namespace Sys2Proof.Machine

set_option linter.all false

theorem State.slotViews_ev {a : State} {x0 : Sys2Proof.Machine.State} {x1 : ℕ} (hx0 : Evolves a x0) : Evolves a (State.slotViews x0 x1) := by
  unfold State.slotViews
  extract_lets -merge -useContext +onlyGivenNames v1
  extract_lets -merge -useContext +onlyGivenNames v2
  have h_v2 : Evolves a v2 := by
    unfold v2
    refine State.setNum_ev ?_
    exact hx0
  try clear_value v2
  refine Evolves.foldl (fun t3 x4 h_t3 => ?_) ?_
  · refine State.setNum_ev ?_
    exact h_t3
  · exact h_v2

theorem State.bindSlot_ev {a : State} {x0 : Sys2Proof.Machine.State} {x1 : ℕ} {x2 : ℕ} {x3 : ℕ} {x4 : List ℕ} {x5 : Bool} (hx0 : Evolves a x0) : Evolves a (State.bindSlot x0 x1 x2 x3 x4 x5).1 := by
  unfold State.bindSlot
  extract_lets -merge -useContext +onlyGivenNames v1
  extract_lets -merge -useContext +onlyGivenNames v2
  extract_lets -merge -useContext +onlyGivenNames v3
  extract_lets -merge -useContext +onlyGivenNames v4
  split
  · rename_i y5 s6 heq
    have h_s6 : Evolves a s6 := by
      refine Evolves.sndEq (by assumption) ?_
      refine State.draw_ev ?_
      exact hx0
    split
    · rename_i y7 s8 heq
      have h_s8 : Evolves a s8 := by
        refine Evolves.sndEq (by assumption) ?_
        refine State.draw_ev ?_
        exact h_s6
      extract_lets -merge -useContext +onlyGivenNames v9
      extract_lets -merge -useContext +onlyGivenNames v10
      have h_v10 : Evolves a v10 := by
        unfold v10
        refine Evolves.ite ?_ ?_
        · exact h_s8
        · exact hx0
      try clear_value v10
      extract_lets -merge -useContext +onlyGivenNames v11
      refine Evolves.ite1 ?_ ?_
      · refine Evolves.pair1 ?_
        exact h_v10
      · refine Evolves.ite1 ?_ ?_
        · refine Evolves.pair1 ?_
          exact h_v10
        · split
          · refine Evolves.pair1 ?_
            exact h_v10
          · split
            · refine Evolves.pair1 ?_
              exact h_v10
            · refine Evolves.pair1 ?_
              exact h_v10

theorem State.expandWork_ev {a : State} {x0 : Sys2Proof.Machine.State} {x1 : Sys2Proof.CmdRef} {x2 : Sys2Proof.Machine.Cmd} (hx0 : Evolves a x0) : Evolves a (State.expandWork x0 x1 x2).1 := by
  unfold State.expandWork
  extract_lets -merge -useContext +onlyGivenNames v1
  extract_lets -merge -useContext +onlyGivenNames v2
  extract_lets -merge -useContext +onlyGivenNames v3
  split
  · refine Evolves.pair1 ?_
    exact hx0

theorem State.fetchWork_ev {a : State} {x0 : Sys2Proof.Machine.State} {x1 : Sys2Proof.Machine.Cmd} (hx0 : Evolves a x0) : Evolves a (State.fetchWork x0 x1).1 := by
  unfold State.fetchWork
  extract_lets -merge -useContext +onlyGivenNames v1
  extract_lets -merge -useContext +onlyGivenNames v2
  extract_lets -merge -useContext +onlyGivenNames v3
  extract_lets -merge -useContext +onlyGivenNames v4
  extract_lets -merge -useContext +onlyGivenNames v5
  refine Evolves.pair1 ?_
  exact hx0

theorem State.invalidElems_ev {a : State} {x0 : Sys2Proof.Machine.State} {x1 : ℕ} (hx0 : Evolves a x0) : Evolves a (State.invalidElems x0 x1).1 := by
  unfold State.invalidElems
  refine Evolves.pair1 ?_
  refine Evolves.mkDraw ?_ rfl
  exact hx0

theorem State.finishWork_ev {a : State} {x0 : Sys2Proof.Machine.State} {x1 : Sys2Proof.CmdRef} {x2 : Sys2Proof.Machine.Cmd} (hx0 : Evolves a x0) : Evolves a (State.finishWork x0 x1 x2).1 := by
  unfold State.finishWork
  extract_lets -merge -useContext +onlyGivenNames v1
  extract_lets -merge -useContext +onlyGivenNames v2
  extract_lets -merge -useContext +onlyGivenNames v3
  extract_lets -merge -useContext +onlyGivenNames v4
  extract_lets -merge -useContext +onlyGivenNames v5
  extract_lets -merge -useContext +onlyGivenNames v6
  extract_lets -merge -useContext +onlyGivenNames v7
  extract_lets -merge -useContext +onlyGivenNames v8
  extract_lets -merge -useContext +onlyGivenNames v9
  extract_lets -merge -useContext +onlyGivenNames v10
  extract_lets -merge -useContext +onlyGivenNames v11
  split
  · refine Evolves.pair1 ?_
    exact hx0
  · extract_lets -merge -useContext +onlyGivenNames v12
    split
    · rename_i s13 y14 y15 y16 heq
      have h_s13 : Evolves a s13 := by
        refine Evolves.fstEq (by assumption) ?_
        refine Evolves.foldl1 (fun t17 x18 h_t17 => ?_) ?_
        · split
          · rename_i s19 y20 y21 y22
            have h_s19 : Evolves a s19 := by
              exact h_t17
            extract_lets -merge -useContext +onlyGivenNames v23
            extract_lets -merge -useContext +onlyGivenNames v24
            split
            · split
              · rename_i s25 y26 heq
                have h_s25 : Evolves a s25 := by
                  refine Evolves.fstEq (by assumption) ?_
                  refine State.invalidElems_ev ?_
                  exact h_s19
                refine Evolves.pair1 ?_
                exact h_s25
            · extract_lets -merge -useContext +onlyGivenNames v27
              extract_lets -merge -useContext +onlyGivenNames v28
              extract_lets -merge -useContext +onlyGivenNames v29
              extract_lets -merge -useContext +onlyGivenNames v30
              split
              · split
                · rename_i s31 y32 heq
                  have h_s31 : Evolves a s31 := by
                    refine Evolves.fstEq (by assumption) ?_
                    refine State.invalidElems_ev ?_
                    exact h_s19
                  extract_lets -merge -useContext +onlyGivenNames v33
                  extract_lets -merge -useContext +onlyGivenNames v34
                  extract_lets -merge -useContext +onlyGivenNames v35
                  refine Evolves.pair1 ?_
                  exact h_s31
        · refine Evolves.pair1 ?_
          exact hx0
      refine Evolves.pair1 ?_
      exact h_s13

theorem State.loadLine_ev {a : State} {x0 : Sys2Proof.Machine.State} {x1 : List ℕ} {x2 : ℕ} {x3 : Sys2Proof.Bytes} (hx0 : Evolves a x0) : Evolves a (State.loadLine x0 x1 x2 x3) := by
  unfold State.loadLine
  refine Evolves.foldl (fun t1 x2 h_t1 => ?_) ?_
  · extract_lets -merge -useContext +onlyGivenNames v3
    refine State.setUnit_ev ?_
    exact h_t1
  · exact hx0

theorem State.startWork_ev {a : State} {x0 : Sys2Proof.Machine.State} {x1 : Sys2Proof.CmdRef} {x2 : Sys2Proof.Machine.Cmd} (hx0 : Evolves a x0) : Evolves a (State.startWork x0 x1 x2).1 := by
  unfold State.startWork
  extract_lets -merge -useContext +onlyGivenNames v1
  extract_lets -merge -useContext +onlyGivenNames v2
  extract_lets -merge -useContext +onlyGivenNames v3
  refine Evolves.ite1 ?_ ?_
  · refine Evolves.pair1 ?_
    exact hx0
  · refine Evolves.ite1 ?_ ?_
    · refine Evolves.pair1 ?_
      exact hx0
    · extract_lets -merge -useContext +onlyGivenNames v4
      extract_lets -merge -useContext +onlyGivenNames v5
      have h_v5 : Evolves a v5 := by
        unfold v5
        refine Evolves.foldl (fun t6 x7 h_t6 => ?_) ?_
        · refine State.loadLine_ev ?_
          exact h_t6
        · exact hx0
      try clear_value v5
      split
      · rename_i s8 y9 y10 y11 heq
        have h_s8 : Evolves a s8 := by
          refine Evolves.fstEq (by assumption) ?_
          refine Evolves.foldl1 (fun t12 x13 h_t12 => ?_) ?_
          · split
            · rename_i s14 y15 y16 y17
              have h_s14 : Evolves a s14 := by
                exact h_t12
              split
              · rename_i s18 y19 y20 y21 heq
                have h_s18 : Evolves a s18 := by
                  refine Evolves.fstEq (by assumption) ?_
                  refine State.bindSlot_ev ?_
                  exact h_s14
                refine Evolves.pair1 ?_
                exact h_s18
          · refine Evolves.pair1 ?_
            exact h_v5
        refine Evolves.pair1 ?_
        exact h_s8

theorem execSearchExpand_ev {a : State} {x0 : Sys2Proof.CmdRef} {x1 : Sys2Proof.Hw} {x2 : Sys2Proof.Machine.State} (hx2 : Evolves a x2) : EvolvesO a (execSearchExpand x0 x1 x2) := by
  unfold execSearchExpand
  refine State.engineRow_ev ?_ ?_
  · exact hx2
  · intro z1 z2 h_z1
    refine State.expandWork_ev ?_
    exact h_z1

theorem execSearchFetchList_ev {a : State} {x0 : Sys2Proof.CmdRef} {x1 : Sys2Proof.Hw} {x2 : Sys2Proof.Machine.State} (hx2 : Evolves a x2) : EvolvesO a (execSearchFetchList x0 x1 x2) := by
  unfold execSearchFetchList
  refine State.engineRow_ev ?_ ?_
  · exact hx2
  · intro z1 z2 h_z1
    refine State.fetchWork_ev ?_
    exact h_z1

theorem execSearchFinish_ev {a : State} {x0 : Sys2Proof.CmdRef} {x1 : Sys2Proof.Hw} {x2 : Sys2Proof.Machine.State} (hx2 : Evolves a x2) : EvolvesO a (execSearchFinish x0 x1 x2) := by
  unfold execSearchFinish
  refine State.engineRow_ev ?_ ?_
  · exact hx2
  · intro z1 z2 h_z1
    refine State.finishWork_ev ?_
    exact h_z1

theorem execSearchStart_ev {a : State} {x0 : Sys2Proof.CmdRef} {x1 : Sys2Proof.Hw} {x2 : Sys2Proof.Machine.State} (hx2 : Evolves a x2) : EvolvesO a (execSearchStart x0 x1 x2) := by
  unfold execSearchStart
  refine State.engineRow_ev ?_ ?_
  · exact hx2
  · intro z1 z2 h_z1
    refine State.startWork_ev ?_
    exact h_z1

end Sys2Proof.Machine
end

