-- ==== Sys2Proof/Laws/KeepCommit.lean ====
section
/-!
SUPPORT. Every function of Machine/Commit.lean that answers a state keeps what `Evolves` names.
-/

namespace Sys2Proof.Machine

set_option linter.all false

theorem State.finishReq_ev {a : State} {x0 : Sys2Proof.Machine.State} {x1 : ℕ} {x2 : ℕ} {x3 : ℕ} {x4 : List ℕ} {x5 : Bool} {x6 : Bool} (hx0 : Evolves a x0) : Evolves a (State.finishReq x0 x1 x2 x3 x4 x5 x6) := by
  unfold State.finishReq
  split
  · exact hx0
  · extract_lets -merge -useContext +onlyGivenNames v1
    have h_v1 : Evolves a v1 := by
      unfold v1
      refine State.modInset_ev ?_
      exact hx0
    try clear_value v1
    refine State.complete_ev ?_
    exact h_v1

theorem State.surveyUpd_ev {a : State} {x0 : Sys2Proof.Machine.State} {x1 : ℕ} {x2 : ℕ} {x3 : ℕ} {x4 : ℕ → ℕ} (hx0 : Evolves a x0) : Evolves a (State.surveyUpd x0 x1 x2 x3 x4) := by
  unfold State.surveyUpd
  split
  · exact hx0
  · extract_lets -merge -useContext +onlyGivenNames v1
    refine State.storeBytes_ev ?_
    exact hx0

theorem State.applyEff_ev {a : State} {x0 : Sys2Proof.Machine.State} {x1 : Sys2Proof.CmdRef} {x2 : Sys2Proof.Machine.Eff} (hx0 : Evolves a x0) : Evolves a (State.applyEff x0 x1 x2) := by
  unfold State.applyEff
  split
  · refine State.setNum_ev ?_
    exact hx0
  · refine State.bump_ev ?_
    exact hx0
  · refine State.setReg_ev ?_
    exact hx0
  · extract_lets -merge -useContext +onlyGivenNames v1
    refine State.slotViews_ev ?_
    refine Evolves.mk' ?_ rfl
    exact hx0
  · refine Evolves.mk' ?_ rfl
    exact hx0
  · refine State.eventFull_ev ?_
    exact hx0
  · refine State.routeMsg_ev ?_
    exact hx0
  · extract_lets -merge -useContext +onlyGivenNames v2
    refine State.setSync_ev ?_
    exact hx0
  · refine State.enqueue_ev ?_
    exact hx0
  · refine Evolves.mk' ?_ rfl
    exact hx0
  · refine State.askMode_ev ?_
    exact hx0
  · extract_lets -merge -useContext +onlyGivenNames v3
    refine State.setUnit_ev ?_
    exact hx0
  · extract_lets -merge -useContext +onlyGivenNames v4
    refine State.setUnit_ev ?_
    exact hx0
  · extract_lets -merge -useContext +onlyGivenNames v5
    have h_v5 : Evolves a v5 := by
      unfold v5
      refine State.setMap_ev ?_
      exact hx0
    try clear_value v5
    refine Evolves.mk' ?_ rfl
    exact h_v5
  · refine State.markDone_ev ?_
    refine State.modInset_ev ?_
    exact hx0
  · refine State.finishReq_ev ?_
    exact hx0
  · refine State.rejectSub_ev ?_
    exact hx0
  · refine State.sqAdvance_ev ?_
    exact hx0
  · refine State.surveyUpd_ev ?_
    exact hx0
  · refine State.surveyUpd_ev ?_
    exact hx0
  · refine State.modInset_ev ?_
    exact hx0
  · refine State.modInset_ev ?_
    exact hx0
  · refine State.modInset_ev ?_
    exact hx0
  · refine State.modInset_ev ?_
    exact hx0
  · refine State.modInset_ev ?_
    exact hx0

theorem State.applyEffs_ev {a : State} {x0 : Sys2Proof.Machine.State} {x1 : Sys2Proof.CmdRef} {x2 : List Sys2Proof.Machine.Eff} (hx0 : Evolves a x0) : Evolves a (State.applyEffs x0 x1 x2) := by
  unfold State.applyEffs
  refine Evolves.foldl (fun t1 x2 h_t1 => ?_) ?_
  · refine State.applyEff_ev ?_
    exact h_t1
  · exact hx0

theorem State.askToken_ev {a : State} {x0 : Sys2Proof.Machine.State} {x1 : Sys2Proof.CmdRef} {x2 : Sys2Proof.Machine.Cmd} (hx0 : Evolves a x0) : Evolves a (State.askToken x0 x1 x2) := by
  unfold State.askToken
  extract_lets -merge -useContext +onlyGivenNames v1
  extract_lets -merge -useContext +onlyGivenNames v2
  extract_lets -merge -useContext +onlyGivenNames v3
  have h_v3 : Evolves a v3 := by
    unfold v3
    refine State.modCmd_ev ?_
    exact hx0
  try clear_value v3
  refine Evolves.ite ?_ ?_
  · refine State.tokenServe_ev ?_
    exact h_v3
  · refine State.syncSend_ev ?_
    exact h_v3

theorem State.drain_ev {a : State} {x0 : Sys2Proof.Machine.State} {x1 : Sys2Proof.Machine.Cmd} {x2 : List ℕ} (hx0 : Evolves a x0) : Evolves a (State.drain x0 x1 x2).1 := by
  unfold State.drain
  extract_lets -merge -useContext +onlyGivenNames v1
  extract_lets -merge -useContext +onlyGivenNames v2
  extract_lets -merge -useContext +onlyGivenNames v3
  split
  · rename_i s4 y5 heq
    have h_s4 : Evolves a s4 := by
      refine Evolves.fstEq (by assumption) ?_
      refine State.storeAll_ev ?_
      exact hx0
    extract_lets -merge -useContext +onlyGivenNames v6
    have h_v6 : Evolves a v6 := by
      unfold v6
      refine Evolves.foldl (fun t7 x8 h_t7 => ?_) ?_
      · refine State.poisonRange_ev ?_
        exact h_t7
      · exact h_s4
    try clear_value v6
    refine Evolves.pair1 ?_
    refine Evolves.foldl (fun t9 x10 h_t9 => ?_) ?_
    · refine State.poisonRange_ev ?_
      exact h_t9
    · exact h_v6

theorem State.endDrain_ev {a : State} {x0 : Sys2Proof.Machine.State} {x1 : Sys2Proof.CmdRef} {x2 : Sys2Proof.Machine.Sheet} {x3 : Sys2Proof.Machine.Cmd} {x4 : List ℕ} (hx0 : Evolves a x0) : Evolves a (State.endDrain x0 x1 x2 x3 x4) := by
  unfold State.endDrain
  extract_lets -merge -useContext +onlyGivenNames v1
  split
  · rename_i s2 y3 heq
    have h_s2 : Evolves a s2 := by
      refine Evolves.fstEq (by assumption) ?_
      refine State.drain_ev ?_
      exact hx0
    extract_lets -merge -useContext +onlyGivenNames v4
    extract_lets -merge -useContext +onlyGivenNames v5
    have h_v5 : Evolves a v5 := by
      unfold v5
      refine State.applyEffs_ev ?_
      exact h_s2
    try clear_value v5
    extract_lets -merge -useContext +onlyGivenNames v6
    extract_lets -merge -useContext +onlyGivenNames v7
    have h_v7 : Evolves a v7 := by
      unfold v7
      refine Evolves.ite ?_ ?_
      · refine State.event_ev ?_
        exact h_v5
      · exact h_v5
    try clear_value v7
    extract_lets -merge -useContext +onlyGivenNames v8
    have h_v8 : Evolves a v8 := by
      unfold v8
      refine Evolves.ite ?_ ?_
      · refine State.bump_ev ?_
        refine State.eventFull_ev ?_
        exact h_v7
      · exact h_v7
    try clear_value v8
    extract_lets -merge -useContext +onlyGivenNames v9
    extract_lets -merge -useContext +onlyGivenNames v10
    have h_v10 : Evolves a v10 := by
      unfold v10
      refine State.modCmd_ev ?_
      exact h_v8
    try clear_value v10
    extract_lets -merge -useContext +onlyGivenNames v11
    have h_v11 : Evolves a v11 := by
      unfold v11
      refine Evolves.ite ?_ ?_
      · refine State.bump_ev ?_
        exact h_v10
      · exact h_v10
    try clear_value v11
    extract_lets -merge -useContext +onlyGivenNames v12
    have h_v12 : Evolves a v12 := by
      unfold v12
      refine State.sampleCmd_ev ?_
      exact h_v11
    try clear_value v12
    extract_lets -merge -useContext +onlyGivenNames v13
    have h_v13 : Evolves a v13 := by
      unfold v13
      refine State.charge_ev ?_
      refine State.chargeCmd_ev ?_
      exact h_v12
    try clear_value v13
    refine State.checkDone_ev ?_
    refine State.serveHeld_ev ?_
    exact h_v13

theorem State.signal_ev {a : State} {x0 : Sys2Proof.Machine.State} {x1 : Sys2Proof.CmdRef} {x2 : Sys2Proof.Machine.Cmd} (hx0 : Evolves a x0) : Evolves a (State.signal x0 x1 x2) := by
  unfold State.signal
  extract_lets -merge -useContext +onlyGivenNames v1
  extract_lets -merge -useContext +onlyGivenNames v2
  extract_lets -merge -useContext +onlyGivenNames v3
  refine Evolves.ite ?_ ?_
  · refine Evolves.ite ?_ ?_
    · refine Evolves.ite ?_ ?_
      · refine State.barrierArrive_ev ?_
        exact hx0
      · refine State.syncSend_ev ?_
        exact hx0
    · refine State.setSync_ev ?_
      exact hx0
  · refine Evolves.ite ?_ ?_
    · extract_lets -merge -useContext +onlyGivenNames v4
      have h_v4 : Evolves a v4 := by
        unfold v4
        refine State.setSync_ev ?_
        exact hx0
      try clear_value v4
      refine Evolves.ite ?_ ?_
      · exact h_v4
      · refine Evolves.ite ?_ ?_
        · refine State.leaseRelease_ev ?_
          exact h_v4
        · refine Evolves.ite ?_ ?_
          · refine State.leaseFree_ev ?_
            exact h_v4
          · exact h_v4
    · exact hx0

theorem State.commit_ev {a : State} {x0 : Sys2Proof.Machine.State} {x1 : Sys2Proof.CmdRef} {x2 : Sys2Proof.Machine.Sheet} {x3 : Sys2Proof.Machine.Cmd} (hx0 : Evolves a x0) : Evolves a (State.commit x0 x1 x2 x3) := by
  unfold State.commit
  extract_lets -merge -useContext +onlyGivenNames v1
  extract_lets -merge -useContext +onlyGivenNames v2
  have h_v2 : Evolves a v2 := by
    unfold v2
    refine Evolves.mk' ?_ rfl
    exact hx0
  try clear_value v2
  extract_lets -merge -useContext +onlyGivenNames v3
  have h_v3 : Evolves a v3 := by
    unfold v3
    refine State.modCmd_ev ?_
    exact h_v2
  try clear_value v3
  extract_lets -merge -useContext +onlyGivenNames v4
  have h_v4 : Evolves a v4 := by
    unfold v4
    split
    · refine State.modInset_ev ?_
      exact h_v3
    · exact h_v3
  try clear_value v4
  refine State.applyEffs_ev ?_
  refine State.signal_ev ?_
  exact h_v4

theorem State.leaseIssue_ev {a : State} {x0 : Sys2Proof.Machine.State} {x1 : Sys2Proof.CmdRef} {x2 : Sys2Proof.Machine.Cmd} (hx0 : Evolves a x0) : Evolves a (State.leaseIssue x0 x1 x2) := by
  unfold State.leaseIssue
  extract_lets -merge -useContext +onlyGivenNames v1
  refine Evolves.ite ?_ ?_
  · exact hx0
  · split
    · rename_i s2 y3 y4 heq
      have h_s2 : Evolves a s2 := by
        refine Evolves.fstEq (by assumption) ?_
        refine State.leaseTake_ev ?_
        exact hx0
      refine State.modCmd_ev ?_
      exact h_s2

theorem State.issue_ev {a : State} {x0 : Sys2Proof.Machine.State} {x1 : Sys2Proof.CmdRef} {x2 : Sys2Proof.Machine.Sheet} {x3 : Sys2Proof.Machine.Cmd} (hx0 : Evolves a x0) : Evolves a (State.issue x0 x1 x2 x3) := by
  unfold State.issue
  extract_lets -merge -useContext +onlyGivenNames v1
  have h_v1 : Evolves a v1 := by
    unfold v1
    refine State.leaseIssue_ev ?_
    exact hx0
  try clear_value v1
  extract_lets -merge -useContext +onlyGivenNames v2
  extract_lets -merge -useContext +onlyGivenNames v3
  have h_v3 : Evolves a v3 := by
    unfold v3
    refine State.modCmd_ev ?_
    exact h_v1
  try clear_value v3
  extract_lets -merge -useContext +onlyGivenNames v4
  have h_v4 : Evolves a v4 := by
    unfold v4
    refine Evolves.ite ?_ ?_
    · refine State.bump_ev ?_
      exact h_v3
    · exact h_v3
  try clear_value v4
  refine Evolves.ite ?_ ?_
  · refine State.killRehearsed_ev ?_
    exact h_v4
  · refine Evolves.ite ?_ ?_
    · refine State.finish_ev ?_
      exact h_v4
    · exact h_v4

theorem State.syncFault_ev {a : State} {x0 : Sys2Proof.Machine.State} {x1 : ℕ} (hx0 : Evolves a x0) : Evolves a (State.syncFault x0 x1) := by
  unfold State.syncFault
  extract_lets -merge -useContext +onlyGivenNames v1
  have h_v1 : Evolves a v1 := by
    unfold v1
    refine Evolves.foldl (fun t2 x3 h_t2 => ?_) ?_
    · refine State.kill_ev ?_
      exact h_t2
    · exact hx0
  try clear_value v1
  refine State.setSync_ev ?_
  exact h_v1

theorem State.tierLate_ev {a : State} {x0 : Sys2Proof.Machine.State} {x1 : Sys2Proof.CmdRef} {x2 : Sys2Proof.Machine.Sheet} {x3 : Sys2Proof.Machine.Cmd} (hx0 : Evolves a x0) : Evolves a (State.tierLate x0 x1 x2 x3) := by
  unfold State.tierLate
  refine Evolves.ite ?_ ?_
  · exact hx0
  · split
    · exact hx0
    · extract_lets -merge -useContext +onlyGivenNames v1
      extract_lets -merge -useContext +onlyGivenNames v2
      extract_lets -merge -useContext +onlyGivenNames v3
      extract_lets -merge -useContext +onlyGivenNames v4
      extract_lets -merge -useContext +onlyGivenNames v5
      extract_lets -merge -useContext +onlyGivenNames v6
      have h_v6 : Evolves a v6 := by
        unfold v6
        refine State.setReg_ev ?_
        exact hx0
      try clear_value v6
      refine State.event_ev ?_
      refine State.modCmd_ev ?_
      exact h_v6

theorem execCommandIssue_ev {a : State} {x0 : Sys2Proof.CmdRef} {x1 : Sys2Proof.Machine.State} (hx1 : Evolves a x1) : EvolvesO a (execCommandIssue x0 x1) := by
  unfold execCommandIssue
  refine EvolvesO.ite ?_ ?_
  · exact EvolvesO.fault
  · split
    · refine EvolvesO.ite ?_ ?_
      · refine EvolvesO.next ?_
        exact hx1
      · extract_lets -merge -useContext +onlyGivenNames v1
        have h_v1 : Evolves a v1 := by
          unfold v1
          refine State.tierLate_ev ?_
          exact hx1
        try clear_value v1
        split
        · refine EvolvesO.next ?_
          refine State.syncFault_ev ?_
          exact h_v1
        · refine EvolvesO.ite ?_ ?_
          · refine EvolvesO.next ?_
            exact h_v1
          · refine EvolvesO.ite ?_ ?_
            · refine EvolvesO.next ?_
              refine State.modCmd_ev ?_
              exact h_v1
            · split
              · refine EvolvesO.next ?_
                exact h_v1
              · extract_lets -merge -useContext +onlyGivenNames v2
                extract_lets -merge -useContext +onlyGivenNames v3
                extract_lets -merge -useContext +onlyGivenNames v4
                have h_v4 : Evolves a v4 := by
                  unfold v4
                  refine Evolves.mk' ?_ rfl
                  exact h_v1
                try clear_value v4
                refine EvolvesO.next ?_
                refine State.syncSend_ev ?_
                exact h_v4
              · refine EvolvesO.ite ?_ ?_
                · refine EvolvesO.next ?_
                  refine State.kill_ev ?_
                  exact h_v1
                · refine EvolvesO.ite ?_ ?_
                  · refine EvolvesO.next ?_
                    exact h_v1
                  · split
                    · refine EvolvesO.next ?_
                      refine State.kill_ev ?_
                      exact h_v1
                    · refine EvolvesO.next ?_
                      refine State.issue_ev ?_
                      exact h_v1
    · refine EvolvesO.next ?_
      exact hx1

theorem execCommitPoint_ev {a : State} {x0 : Sys2Proof.CmdRef} {x1 : Sys2Proof.Machine.State} (hx1 : Evolves a x1) : EvolvesO a (execCommitPoint x0 x1) := by
  unfold execCommitPoint
  refine EvolvesO.ite ?_ ?_
  · exact EvolvesO.fault
  · split
    · refine EvolvesO.ite ?_ ?_
      · refine EvolvesO.next ?_
        exact hx1
      · split
        · refine EvolvesO.next ?_
          refine State.syncFault_ev ?_
          exact hx1
        · refine EvolvesO.ite ?_ ?_
          · refine EvolvesO.next ?_
            refine State.commit_ev ?_
            exact hx1
          · extract_lets -merge -useContext +onlyGivenNames v1
            have h_v1 : Evolves a v1 := by
              unfold v1
              refine Evolves.ite ?_ ?_
              · refine State.askToken_ev ?_
                exact hx1
              · exact hx1
            try clear_value v1
            split
            · refine EvolvesO.next ?_
              refine State.commit_ev ?_
              exact h_v1
            · refine EvolvesO.next ?_
              refine State.kill_ev ?_
              exact h_v1
            · refine EvolvesO.next ?_
              exact h_v1
    · refine EvolvesO.next ?_
      exact hx1

theorem execDrainEnd_ev {a : State} {x0 : Sys2Proof.CmdRef} {x1 : List ℕ} {x2 : Sys2Proof.Machine.State} (hx2 : Evolves a x2) : EvolvesO a (execDrainEnd x0 x1 x2) := by
  unfold execDrainEnd
  refine EvolvesO.ite ?_ ?_
  · exact EvolvesO.fault
  · split
    · refine EvolvesO.ite ?_ ?_
      · refine EvolvesO.next ?_
        exact hx2
      · refine EvolvesO.next ?_
        refine State.endDrain_ev ?_
        exact hx2
    · refine EvolvesO.next ?_
      exact hx2

theorem execOverrunAbandon_ev {a : State} {x0 : ℕ} {x1 : Sys2Proof.Machine.State} (hx1 : Evolves a x1) : EvolvesO a (execOverrunAbandon x0 x1) := by
  unfold execOverrunAbandon
  refine EvolvesO.ite ?_ ?_
  · exact EvolvesO.fault
  · split
    · refine EvolvesO.next ?_
      exact hx1
    · refine EvolvesO.ite ?_ ?_
      · refine EvolvesO.next ?_
        exact hx1
      · extract_lets -merge -useContext +onlyGivenNames v1
        have h_v1 : Evolves a v1 := by
          unfold v1
          refine State.killAll_ev ?_
          exact hx1
        try clear_value v1
        refine EvolvesO.next ?_
        refine State.closeRequests_ev ?_
        exact h_v1

end Sys2Proof.Machine
end

