-- ==== Sys2Proof/Laws/KeepTiers.lean ====
section
/-!
SUPPORT. Every function of Machine/Tiers.lean that answers a state keeps what `Evolves` names.
-/

namespace Sys2Proof.Machine

set_option linter.all false

theorem State.captureWork_ev {a : State} {x0 : Sys2Proof.Machine.State} {x1 : Sys2Proof.CmdRef} {x2 : Sys2Proof.Machine.Cmd} (hx0 : Evolves a x0) : Evolves a (State.captureWork x0 x1 x2).1 := by
  unfold State.captureWork
  extract_lets -merge -useContext +onlyGivenNames v1
  extract_lets -merge -useContext +onlyGivenNames v2
  extract_lets -merge -useContext +onlyGivenNames v3
  extract_lets -merge -useContext +onlyGivenNames v4
  split
  · refine Evolves.pair1 ?_
    exact hx0
  · refine Evolves.ite1 ?_ ?_
    · refine Evolves.pair1 ?_
      exact hx0
    · refine Evolves.ite1 ?_ ?_
      · refine Evolves.pair1 ?_
        exact hx0
      · extract_lets -merge -useContext +onlyGivenNames v5
        have h_v5 : Evolves a v5 := by
          unfold v5
          refine State.noteReads_ev ?_
          exact hx0
        try clear_value v5
        extract_lets -merge -useContext +onlyGivenNames v6
        extract_lets -merge -useContext +onlyGivenNames v7
        extract_lets -merge -useContext +onlyGivenNames v8
        refine Evolves.pair1 ?_
        exact h_v5

theorem State.freeLeases_ev {a : State} {x0 : Sys2Proof.Machine.State} {x1 : ℕ} (hx0 : Evolves a x0) : Evolves a (State.freeLeases x0 x1) := by
  unfold State.freeLeases
  refine Evolves.foldl (fun t1 x2 h_t1 => ?_) ?_
  · extract_lets -merge -useContext +onlyGivenNames v3
    refine Evolves.ite ?_ ?_
    · refine State.setSync_ev ?_
      exact h_t1
    · exact h_t1
  · exact hx0

theorem State.formatFlash_ev {a : State} {x0 : Sys2Proof.Machine.State} {x1 : Sys2Proof.Bytes} (hx0 : Evolves a x0) : Evolves a (State.formatFlash x0 x1) := by
  unfold State.formatFlash
  extract_lets -merge -useContext +onlyGivenNames v1
  extract_lets -merge -useContext +onlyGivenNames v2
  extract_lets -merge -useContext +onlyGivenNames v3
  extract_lets -merge -useContext +onlyGivenNames v4
  extract_lets -merge -useContext +onlyGivenNames v5
  extract_lets -merge -useContext +onlyGivenNames v6
  refine Evolves.mk' ?_ rfl
  exact hx0

theorem State.loadCapture_ev {a : State} {x0 : Sys2Proof.Machine.State} {x1 : ℕ} {x2 : ℕ} (hx0 : Evolves a x0) : Evolves a (State.loadCapture x0 x1 x2) := by
  unfold State.loadCapture
  dsimp only
  refine Evolves.ite hx0 ?_
  split
  · exact Evolves.foldl (fun t x h => Evolves.mk' h rfl) (Evolves.foldl (fun t x h => State.setSync_ev h) hx0)
  · exact Evolves.foldl1 (fun t x h => Evolves.mkMem h (fun hm => mw_putWords hm) rfl)
      (Evolves.foldl (fun t x h => Evolves.mk' h rfl) (Evolves.foldl (fun t x h => State.setSync_ev h) hx0))

theorem State.restoreGroup_ev {a : State} {x0 : ℕ} {x1 : Sys2Proof.Machine.State × List Sys2Proof.FlashRead} {x2 : ℕ × ℕ} (hx1 : Evolves a x1.1) : Evolves a (State.restoreGroup x0 x1 x2).1 := by
  obtain ⟨s, reads⟩ := x1
  unfold State.restoreGroup
  dsimp only
  have lost : ∀ t : State, Evolves a t → Evolves a (({ t with mem := (rangeFrom (Dict.groupBase s.gaz.regs x0 x2.1 / 64) 256).foldl (fun (m : MemState) w => m.poisonWord w) t.mem } : State).bump x0 G.RESTORE_GROUPS_LOST 1 |>.event x0 Code.RESTORE_GROUP_LOST x2.1 (Dict.groupBase s.gaz.regs x0 x2.1)) := by
    intro t ht
    exact State.event_ev (State.bump_ev (Evolves.mkMem ht (fun hm => mw_foldl (fun _ _ h => mw_poisonWord h) hm) rfl))
  split
  · exact hx1
  · refine Evolves.ite1 (Evolves.pair1 (lost _ hx1)) ?_
    split
    · rename_i s' r' b heq
      exact Evolves.pair1 (Evolves.mkMem (Evolves.fstEq heq (State.arrayRead_ev hx1)) (fun hm => mw_putGroup hm) rfl)
    · rename_i s' r' b heq
      exact Evolves.pair1 (lost _ (Evolves.fstEq heq (State.arrayRead_ev hx1)))

theorem State.woFormat_ev {a : State} {x0 : Sys2Proof.Machine.State} {x1 : ℕ} {x2 : Sys2Proof.Bytes} (hx0 : Evolves a x0) : Evolves a (State.woFormat x0 x1 x2).1 := by
  unfold State.woFormat
  refine Evolves.ite1 ?_ ?_
  · refine Evolves.pair1 ?_
    exact hx0
  · refine Evolves.ite1 ?_ ?_
    · refine Evolves.pair1 ?_
      exact hx0
    · refine Evolves.pair1 ?_
      refine State.formatFlash_ev ?_
      exact hx0

theorem State.woRestore_ev {a : State} {x0 : Sys2Proof.Machine.State} {x1 : ℕ} {x2 : Sys2Proof.Bytes} (hx0 : Evolves a x0) : Evolves a (State.woRestore x0 x1 x2).1 := by
  unfold State.woRestore
  refine Evolves.ite1 ?_ ?_
  · refine Evolves.pair1 ?_
    exact hx0
  · refine Evolves.ite1 ?_ ?_
    · refine Evolves.pair1 ?_
      exact hx0
    · split
      · refine Evolves.pair1 ?_
        exact hx0
      · extract_lets -merge -useContext +onlyGivenNames v1
        refine Evolves.ite1 ?_ ?_
        · refine Evolves.pair1 ?_
          exact hx0
        · extract_lets -merge -useContext +onlyGivenNames v2
          have h_v2 : Evolves a v2 := by
            unfold v2
            refine State.modInset_ev ?_
            refine State.dropCkpt_ev ?_
            exact hx0
          try clear_value v2
          refine Evolves.pair1 ?_
          refine State.setNum_ev ?_
          exact h_v2

theorem execCkptCapture_ev {a : State} {x0 : Sys2Proof.CmdRef} {x1 : Sys2Proof.Hw} {x2 : Sys2Proof.Machine.State} (hx2 : Evolves a x2) : EvolvesO a (execCkptCapture x0 x1 x2) := by
  unfold execCkptCapture
  refine State.engineRow_ev ?_ ?_
  · exact hx2
  · intro z1 z2 h_z1
    refine State.captureWork_ev ?_
    exact h_z1

theorem execCkptRestore_ev {a : State} {x0 : Sys2Proof.GazReq} {x1 : Sys2Proof.Machine.State} (hx1 : Evolves a x1) : EvolvesO a (execCkptRestore x0 x1) := by
  unfold execCkptRestore
  refine State.woRow_ev ?_ ?_
  · exact hx1
  · intro z1 z2 z3 h_z1
    refine State.woRestore_ev ?_
    exact h_z1

theorem execFlashFormat_ev {a : State} {x0 : Sys2Proof.GazReq} {x1 : Sys2Proof.Machine.State} (hx1 : Evolves a x1) : EvolvesO a (execFlashFormat x0 x1) := by
  unfold execFlashFormat
  refine State.woRow_ev ?_ ?_
  · exact hx1
  · intro z1 z2 z3 h_z1
    refine State.woFormat_ev ?_
    exact h_z1

theorem execRestoreEnd_ev {a : State} {x0 : ℕ} {x1 : List Sys2Proof.FlashRead} {x2 : Sys2Proof.Machine.State} (hx2 : Evolves a x2) : EvolvesO a (execRestoreEnd x0 x1 x2) := by
  unfold execRestoreEnd
  refine EvolvesO.ite ?_ ?_
  · exact EvolvesO.fault
  · split
    · refine EvolvesO.next ?_
      exact hx2
    · extract_lets -merge -useContext +onlyGivenNames v1
      extract_lets -merge -useContext +onlyGivenNames v2
      extract_lets -merge -useContext +onlyGivenNames v3
      extract_lets -merge -useContext +onlyGivenNames v4
      extract_lets -merge -useContext +onlyGivenNames v5
      extract_lets -merge -useContext +onlyGivenNames v6
      have h_v6 : Evolves a v6 := by
        unfold v6
        refine State.setNum_ev ?_
        exact hx2
      try clear_value v6
      extract_lets -merge -useContext +onlyGivenNames v7
      have h_v7 : Evolves a v7 := by
        unfold v7
        refine Evolves.foldl (fun t8 x9 h_t8 => ?_) ?_
        · refine Evolves.mkMem ?_ (fun hm => ?_) rfl
          · exact h_t8
          · first | exact hm | exact mw_writeWordEq (by assumption) hm | exact mw_writeWord hm | exact mw_poisonWord hm | exact mw_clear hm | exact mw_clearRegion hm | exact mw_copyRegion hm | exact mw_putGroup hm | exact mw_putWords hm | exact mw_foldl (fun _ _ h => mw_poisonWord h) hm
        · exact h_v6
      try clear_value v7
      extract_lets -merge -useContext +onlyGivenNames v10
      have h_v10 : Evolves a v10 := by
        unfold v10
        refine Evolves.foldl1 (fun t11 x12 h_t11 => ?_) ?_
        · refine State.restoreGroup_ev ?_
          exact h_t11
        · refine Evolves.pair1 ?_
          exact h_v7
      try clear_value v10
      extract_lets -merge -useContext +onlyGivenNames v13
      extract_lets -merge -useContext +onlyGivenNames v14
      have h_v14 : Evolves a v14 := by
        unfold v14
        refine Evolves.mkMem ?_ (fun hm => ?_) rfl
        · exact h_v10
        · first | exact hm | exact mw_writeWordEq (by assumption) hm | exact mw_writeWord hm | exact mw_poisonWord hm | exact mw_clear hm | exact mw_clearRegion hm | exact mw_copyRegion hm | exact mw_putGroup hm | exact mw_putWords hm | exact mw_foldl (fun _ _ h => mw_poisonWord h) hm
      try clear_value v14
      extract_lets -merge -useContext +onlyGivenNames v15
      have h_v15 : Evolves a v15 := by
        unfold v15
        refine State.loadCapture_ev ?_
        exact h_v14
      try clear_value v15
      extract_lets -merge -useContext +onlyGivenNames v16
      extract_lets -merge -useContext +onlyGivenNames v17
      extract_lets -merge -useContext +onlyGivenNames v18
      have h_v18 : Evolves a v18 := by
        unfold v18
        refine Evolves.mkMem ?_ (fun hm => ?_) rfl
        · exact h_v15
        · first | exact hm | exact mw_writeWordEq (by assumption) hm | exact mw_writeWord hm | exact mw_poisonWord hm | exact mw_clear hm | exact mw_clearRegion hm | exact mw_copyRegion hm | exact mw_putGroup hm | exact mw_putWords hm | exact mw_foldl (fun _ _ h => mw_poisonWord h) hm
      try clear_value v18
      extract_lets -merge -useContext +onlyGivenNames v19
      extract_lets -merge -useContext +onlyGivenNames v20
      have h_v20 : Evolves a v20 := by
        unfold v20
        refine State.modInset_ev ?_
        exact h_v18
      try clear_value v20
      extract_lets -merge -useContext +onlyGivenNames v21
      extract_lets -merge -useContext +onlyGivenNames v22
      have h_v22 : Evolves a v22 := by
        unfold v22
        refine State.setNum_ev ?_
        refine State.setNum_ev ?_
        refine State.setNum_ev ?_
        refine State.setNum_ev ?_
        exact h_v20
      try clear_value v22
      extract_lets -merge -useContext +onlyGivenNames v23
      have h_v23 : Evolves a v23 := by
        unfold v23
        refine State.freeLeases_ev ?_
        refine State.freeSlots_ev ?_
        exact h_v22
      try clear_value v23
      extract_lets -merge -useContext +onlyGivenNames v24
      have h_v24 : Evolves a v24 := by
        unfold v24
        refine Evolves.foldl (fun t25 x26 h_t25 => ?_) ?_
        · refine State.setNum_ev ?_
          exact h_t25
        · exact h_v23
      try clear_value v24
      refine EvolvesO.next ?_
      refine State.interrupt_ev ?_
      refine State.setNum_ev ?_
      refine State.setNum_ev ?_
      exact h_v24

end Sys2Proof.Machine
end

