-- ==== Sys2Proof/Laws/KeepTorus.lean ====
section
/-!
SUPPORT. Every function of Machine/Torus.lean that answers a state keeps what `Evolves` names.
-/

namespace Sys2Proof.Machine

set_option linter.all false

theorem State.a2aSend_ev {a : State} {x0 : Sys2Proof.Machine.State} {x1 : Sys2Proof.CmdRef} {x2 : Sys2Proof.Machine.Cmd} {x3 : Sys2Proof.Machine.Sheet} (hx0 : Evolves a x0) : Evolves a (State.a2aSend x0 x1 x2 x3) := by
  unfold State.a2aSend
  extract_lets -merge -useContext +onlyGivenNames v1
  extract_lets -merge -useContext +onlyGivenNames v2
  extract_lets -merge -useContext +onlyGivenNames v3
  extract_lets -merge -useContext +onlyGivenNames v4
  extract_lets -merge -useContext +onlyGivenNames v5
  split
  · refine State.settle_ev ?_
    exact hx0
  · refine Evolves.ite ?_ ?_
    · refine State.kill_ev ?_
      exact hx0
    · extract_lets -merge -useContext +onlyGivenNames v6
      extract_lets -merge -useContext +onlyGivenNames v7
      extract_lets -merge -useContext +onlyGivenNames v8
      have h_v8 : Evolves a v8 := by
        unfold v8
        refine State.noteReads_ev ?_
        exact hx0
      try clear_value v8
      extract_lets -merge -useContext +onlyGivenNames v9
      have h_v9 : Evolves a v9 := by
        unfold v9
        refine State.modCmd_ev ?_
        exact h_v8
      try clear_value v9
      split
      · exact h_v9
      · refine Evolves.foldl (fun t10 x11 h_t10 => ?_) ?_
        · refine Evolves.ite ?_ ?_
          · exact h_t10
          · extract_lets -merge -useContext +onlyGivenNames v12
            refine State.routeMsg_ev ?_
            refine State.charge_ev ?_
            exact h_t10
        · exact h_v9

theorem State.ackedMsg_ev {a : State} {x0 : Sys2Proof.Machine.State} {x1 : Sys2Proof.Machine.TxMsg} (hx0 : Evolves a x0) : Evolves a (State.ackedMsg x0 x1) := by
  unfold State.ackedMsg
  refine Evolves.ite ?_ ?_
  · exact hx0
  · extract_lets -merge -useContext +onlyGivenNames v1
    refine Evolves.ite ?_ ?_
    · exact hx0
    · refine State.modInset_ev ?_
      exact hx0

theorem State.addRepair_ev {a : State} {x0 : Sys2Proof.Machine.State} {x1 : ℕ} {x2 : ℕ} {x3 : ℕ} {x4 : ℕ} (hx0 : Evolves a x0) : Evolves a (State.addRepair x0 x1 x2 x3 x4) := by
  unfold State.addRepair
  extract_lets -merge -useContext +onlyGivenNames v1
  extract_lets -merge -useContext +onlyGivenNames v2
  extract_lets -merge -useContext +onlyGivenNames v3
  have h_v3 : Evolves a v3 := by
    unfold v3
    refine Evolves.mk' ?_ rfl
    exact hx0
  try clear_value v3
  refine State.setNum_ev ?_
  exact h_v3

theorem State.modPort_ev {a : State} {x0 : Sys2Proof.Machine.State} {x1 : ℕ} {x2 : Port → Sys2Proof.Machine.Port} (hx0 : Evolves a x0) : Evolves a (State.modPort x0 x1 x2) := by
  unfold State.modPort
  refine State.setPort_ev ?_
  exact hx0

theorem State.returnCredit_ev {a : State} {x0 : Sys2Proof.Machine.State} {x1 : Sys2Proof.Msg} (hx0 : Evolves a x0) : Evolves a (State.returnCredit x0 x1) := by
  unfold State.returnCredit
  extract_lets -merge -useContext +onlyGivenNames v1
  extract_lets -merge -useContext +onlyGivenNames v2
  extract_lets -merge -useContext +onlyGivenNames v3
  extract_lets -merge -useContext +onlyGivenNames v4
  extract_lets -merge -useContext +onlyGivenNames v5
  refine Evolves.ite ?_ ?_
  · exact hx0
  · refine State.emit_ev ?_
    refine State.setPort_ev ?_
    exact hx0

theorem State.forward_ev {a : State} {x0 : Sys2Proof.Machine.State} {x1 : Sys2Proof.Msg} (hx0 : Evolves a x0) : Evolves a (State.forward x0 x1) := by
  unfold State.forward
  extract_lets -merge -useContext +onlyGivenNames v1
  refine State.bumpNode_ev ?_
  refine State.routeMsg_ev ?_
  exact hx0

theorem State.arriveMsg_ev {a : State} {x0 : Sys2Proof.Machine.State} {x1 : ℕ} {x2 : Sys2Proof.Msg} {x3 : State → Sys2Proof.Machine.State} (hx0 : Evolves a x0) (hx3 : ∀ y0, Evolves a y0 → Evolves a (x3 y0)) : EvolvesO a (State.arriveMsg x0 x1 x2 x3) := by
  unfold State.arriveMsg
  refine EvolvesO.ite ?_ ?_
  · exact EvolvesO.fault
  · refine EvolvesO.ite ?_ ?_
    · refine EvolvesO.next ?_
      exact hx0
    · extract_lets -merge -useContext +onlyGivenNames v1
      refine EvolvesO.ite ?_ ?_
      · refine EvolvesO.next ?_
        refine State.bumpNode_ev ?_
        refine State.returnCredit_ev ?_
        exact hx0
      · refine EvolvesO.ite ?_ ?_
        · refine EvolvesO.next ?_
          exact hx0
        · extract_lets -merge -useContext +onlyGivenNames v2
          have h_v2 : Evolves a v2 := by
            unfold v2
            refine State.returnCredit_ev ?_
            exact hx0
          try clear_value v2
          extract_lets -merge -useContext +onlyGivenNames v3
          refine EvolvesO.ite ?_ ?_
          · refine EvolvesO.next ?_
            refine State.forward_ev ?_
            exact h_v2
          · refine EvolvesO.ite ?_ ?_
            · refine EvolvesO.next ?_
              split
              · refine State.bump_ev ?_
                exact h_v2
              · exact h_v2
            · refine EvolvesO.next ?_
              refine hx3 _ ?_
              exact h_v2

theorem State.dropPort_ev {a : State} {x0 : Sys2Proof.Machine.State} {x1 : ℕ} (hx0 : Evolves a x0) : Evolves a (State.dropPort x0 x1) := by
  unfold State.dropPort
  refine Evolves.mk' ?_ rfl
  exact hx0

theorem State.failPort_ev {a : State} {x0 : Sys2Proof.Machine.State} {x1 : ℕ} (hx0 : Evolves a x0) : Evolves a (State.failPort x0 x1) := by
  unfold State.failPort
  extract_lets -merge -useContext +onlyGivenNames v1
  have h_v1 : Evolves a v1 := by
    unfold v1
    refine State.modPort_ev ?_
    exact hx0
  try clear_value v1
  split
  · refine State.nodeEvent_ev ?_
    exact h_v1
  · split
    · refine State.emit_ev ?_
      exact h_v1
    · refine State.nodeEvent_ev ?_
      refine State.dropPort_ev ?_
      exact h_v1

theorem State.landMsg_ev {a : State} {x0 : Sys2Proof.Machine.State} {x1 : Sys2Proof.Msg} (hx0 : Evolves a x0) : Evolves a (State.landMsg x0 x1) := by
  unfold State.landMsg
  split
  · exact hx0
  · refine Evolves.ite ?_ ?_
    · split
      · refine State.kill_ev ?_
        exact hx0
      · refine State.bump_ev ?_
        exact hx0
    · refine Evolves.ite ?_ ?_
      · refine State.bump_ev ?_
        exact hx0
      · refine Evolves.ite ?_ ?_
        · extract_lets -merge -useContext +onlyGivenNames v1
          have h_v1 : Evolves a v1 := by
            unfold v1
            refine State.bump_ev ?_
            exact hx0
          try clear_value v1
          split
          · refine State.kill_ev ?_
            exact h_v1
          · exact h_v1
        · extract_lets -merge -useContext +onlyGivenNames v2
          have h_v2 : Evolves a v2 := by
            unfold v2
            refine State.charge_ev ?_
            exact hx0
          try clear_value v2
          refine Evolves.mk' ?_ rfl
          exact h_v2

theorem State.movePort_ev {a : State} {x0 : Sys2Proof.Machine.State} {x1 : ℕ} {x2 : ℕ} (hx0 : Evolves a x0) : Evolves a (State.movePort x0 x1 x2) := by
  unfold State.movePort
  extract_lets -merge -useContext +onlyGivenNames v1
  extract_lets -merge -useContext +onlyGivenNames v2
  extract_lets -merge -useContext +onlyGivenNames v3
  extract_lets -merge -useContext +onlyGivenNames v4
  extract_lets -merge -useContext +onlyGivenNames v5
  extract_lets -merge -useContext +onlyGivenNames v6
  extract_lets -merge -useContext +onlyGivenNames v7
  have h_v7 : Evolves a v7 := by
    unfold v7
    refine State.setPort_ev ?_
    exact hx0
  try clear_value v7
  extract_lets -merge -useContext +onlyGivenNames v8
  have h_v8 : Evolves a v8 := by
    unfold v8
    refine State.setPort_ev ?_
    exact h_v7
  try clear_value v8
  extract_lets -merge -useContext +onlyGivenNames v9
  extract_lets -merge -useContext +onlyGivenNames v10
  have h_v10 : Evolves a v10 := by
    unfold v10
    refine Evolves.mk' ?_ rfl
    exact h_v8
  try clear_value v10
  refine State.emit_ev ?_
  exact h_v10

theorem State.resendFrom_ev {a : State} {x0 : Sys2Proof.Machine.State} {x1 : ℕ} {x2 : ℕ} (hx0 : Evolves a x0) : Evolves a (State.resendFrom x0 x1 x2) := by
  unfold State.resendFrom
  extract_lets -merge -useContext +onlyGivenNames v1
  extract_lets -merge -useContext +onlyGivenNames v2
  extract_lets -merge -useContext +onlyGivenNames v3
  refine State.bumpNode_ev ?_
  refine State.emit_ev ?_
  refine State.setPort_ev ?_
  exact hx0

theorem State.sentMsg_ev {a : State} {x0 : Sys2Proof.Machine.State} {x1 : ℕ} {x2 : ℕ} (hx0 : Evolves a x0) : Evolves a (State.sentMsg x0 x1 x2) := by
  unfold State.sentMsg
  refine Evolves.ite ?_ ?_
  · exact hx0
  · extract_lets -merge -useContext +onlyGivenNames v1
    refine Evolves.ite ?_ ?_
    · exact hx0
    · refine State.modInset_ev ?_
      exact hx0

theorem State.sendNak_ev {a : State} {x0 : Sys2Proof.Machine.State} {x1 : ℕ} (hx0 : Evolves a x0) : Evolves a (State.sendNak x0 x1) := by
  unfold State.sendNak
  refine State.emit_ev ?_
  exact hx0

theorem State.takeAck_ev {a : State} {x0 : Sys2Proof.Machine.State} {x1 : ℕ} {x2 : ℕ} (hx0 : Evolves a x0) : Evolves a (State.takeAck x0 x1 x2) := by
  unfold State.takeAck
  extract_lets -merge -useContext +onlyGivenNames v1
  extract_lets -merge -useContext +onlyGivenNames v2
  refine Evolves.ite ?_ ?_
  · exact hx0
  · extract_lets -merge -useContext +onlyGivenNames v3
    extract_lets -merge -useContext +onlyGivenNames v4
    have h_v4 : Evolves a v4 := by
      unfold v4
      refine State.setPort_ev ?_
      exact hx0
    try clear_value v4
    extract_lets -merge -useContext +onlyGivenNames v5
    have h_v5 : Evolves a v5 := by
      unfold v5
      refine State.countBytes_ev ?_
      exact h_v4
    try clear_value v5
    refine Evolves.foldl (fun t6 x7 h_t6 => ?_) ?_
    · refine State.ackedMsg_ev ?_
      exact h_t6
    · exact h_v5

theorem execA2aSlot_ev {a : State} {x0 : Sys2Proof.Msg} {x1 : Sys2Proof.Machine.State} (hx1 : Evolves a x1) : EvolvesO a (execA2aSlot x0 x1) := by
  unfold execA2aSlot
  refine State.arriveMsg_ev ?_ ?_
  · exact hx1
  · intro z1 h_z1
    refine State.landMsg_ev ?_
    exact h_z1

theorem execBarrier_ev {a : State} {x0 : Sys2Proof.Msg} {x1 : Sys2Proof.Machine.State} (hx1 : Evolves a x1) : EvolvesO a (execBarrier x0 x1) := by
  unfold execBarrier
  refine State.arriveMsg_ev ?_ ?_
  · exact hx1
  · intro z1 h_z1
    extract_lets -merge -useContext +onlyGivenNames v2
    extract_lets -merge -useContext +onlyGivenNames v3
    refine Evolves.ite ?_ ?_
    · refine State.barrierArrive_ev ?_
      exact h_z1
    · refine State.barrierDone_ev ?_
      exact h_z1

theorem execDelayProbe_ev {a : State} {x0 : ℕ} {x1 : ℕ} {x2 : Sys2Proof.Machine.State} (hx2 : Evolves a x2) : EvolvesO a (execDelayProbe x0 x1 x2) := by
  unfold execDelayProbe
  refine EvolvesO.ite ?_ ?_
  · exact EvolvesO.fault
  · extract_lets -merge -useContext +onlyGivenNames v1
    refine EvolvesO.ite ?_ ?_
    · refine EvolvesO.next ?_
      exact hx2
    · refine EvolvesO.next ?_
      refine State.emit_ev ?_
      refine State.setPort_ev ?_
      exact hx2

theorem execDone_ev {a : State} {x0 : Sys2Proof.Msg} {x1 : Sys2Proof.Machine.State} (hx1 : Evolves a x1) : EvolvesO a (execDone x0 x1) := by
  unfold execDone
  refine State.arriveMsg_ev ?_ ?_
  · exact hx1
  · intro z1 h_z1
    refine Evolves.ite ?_ ?_
    · refine Evolves.mk' ?_ rfl
      exact h_z1
    · exact h_z1

theorem execEvent_ev {a : State} {x0 : Sys2Proof.Msg} {x1 : Sys2Proof.Machine.State} (hx1 : Evolves a x1) : EvolvesO a (execEvent x0 x1) := by
  unfold execEvent
  refine State.arriveMsg_ev ?_ ?_
  · exact hx1
  · intro z1 h_z1
    split
    · exact h_z1
    · extract_lets -merge -useContext +onlyGivenNames v2
      refine State.eventFull_ev ?_
      exact h_z1

theorem execFlitReceive_ev {a : State} {x0 : ℕ} {x1 : Sys2Proof.FlitIn} {x2 : Sys2Proof.Machine.State} (hx2 : Evolves a x2) : EvolvesO a (execFlitReceive x0 x1 x2) := by
  unfold execFlitReceive
  refine EvolvesO.ite ?_ ?_
  · exact EvolvesO.fault
  · extract_lets -merge -useContext +onlyGivenNames v1
    refine EvolvesO.ite ?_ ?_
    · refine EvolvesO.next ?_
      exact hx2
    · split
      · refine EvolvesO.next ?_
        refine State.sendNak_ev ?_
        refine State.fireTimed_ev ?_
        exact hx2
      · extract_lets -merge -useContext +onlyGivenNames v2
        have h_v2 : Evolves a v2 := by
          unfold v2
          refine State.bumpNode_ev ?_
          exact hx2
        try clear_value v2
        refine EvolvesO.ite ?_ ?_
        · refine EvolvesO.next ?_
          refine State.setPort_ev ?_
          exact h_v2
        · refine EvolvesO.next ?_
          refine State.sendNak_ev ?_
          refine State.setPort_ev ?_
          exact h_v2
      · extract_lets -merge -useContext +onlyGivenNames v3
        have h_v3 : Evolves a v3 := by
          unfold v3
          refine State.setPort_ev ?_
          exact hx2
        try clear_value v3
        refine EvolvesO.ite ?_ ?_
        · refine EvolvesO.next ?_
          refine State.sendNak_ev ?_
          exact h_v3
        · extract_lets -merge -useContext +onlyGivenNames v4
          have h_v4 : Evolves a v4 := by
            unfold v4
            refine State.takeAck_ev ?_
            exact h_v3
          try clear_value v4
          extract_lets -merge -useContext +onlyGivenNames v5
          have h_v5 : Evolves a v5 := by
            unfold v5
            refine Evolves.ite ?_ ?_
            · exact h_v4
            · refine State.modPort_ev ?_
              exact h_v4
          try clear_value v5
          refine EvolvesO.ite ?_ ?_
          · refine EvolvesO.next ?_
            exact h_v5
          · refine EvolvesO.ite ?_ ?_
            · refine EvolvesO.next ?_
              refine State.sendNak_ev ?_
              exact h_v5
            · extract_lets -merge -useContext +onlyGivenNames v6
              have h_v6 : Evolves a v6 := by
                unfold v6
                refine State.modPort_ev ?_
                exact h_v5
              try clear_value v6
              refine EvolvesO.next ?_
              refine State.countBytes_ev ?_
              exact h_v6

theorem execLaneSerWindow_ev {a : State} {x0 : ℕ} {x1 : ℕ} {x2 : ℕ} {x3 : ℕ} {x4 : Bool} {x5 : Sys2Proof.Machine.State} (hx5 : Evolves a x5) : EvolvesO a (execLaneSerWindow x0 x1 x2 x3 x4 x5) := by
  unfold execLaneSerWindow
  refine EvolvesO.ite ?_ ?_
  · exact EvolvesO.fault
  · extract_lets -merge -useContext +onlyGivenNames v1
    extract_lets -merge -useContext +onlyGivenNames v2
    extract_lets -merge -useContext +onlyGivenNames v3
    refine EvolvesO.ite ?_ ?_
    · refine EvolvesO.next ?_
      exact hx5
    · split
      · refine EvolvesO.next ?_
        refine State.emit_ev ?_
        exact hx5
      · refine EvolvesO.ite ?_ ?_
        · refine EvolvesO.next ?_
          refine State.failPort_ev ?_
          exact hx5
        · refine EvolvesO.next ?_
          exact hx5

theorem execLaneSwap_ev {a : State} {x0 : ℕ} {x1 : ℕ} {x2 : ℕ} {x3 : ℕ} {x4 : Sys2Proof.Machine.State} (hx4 : Evolves a x4) : EvolvesO a (execLaneSwap x0 x1 x2 x3 x4) := by
  unfold execLaneSwap
  refine EvolvesO.ite ?_ ?_
  · exact EvolvesO.fault
  · extract_lets -merge -useContext +onlyGivenNames v1
    refine EvolvesO.ite ?_ ?_
    · refine EvolvesO.next ?_
      exact hx4
    · extract_lets -merge -useContext +onlyGivenNames v2
      split
      · refine EvolvesO.next ?_
        refine State.fireTimed_ev ?_
        refine State.setPort_ev ?_
        exact hx4
      · extract_lets -merge -useContext +onlyGivenNames v3
        have h_v3 : Evolves a v3 := by
          unfold v3
          refine State.setPort_ev ?_
          exact hx4
        try clear_value v3
        refine EvolvesO.next ?_
        refine State.addRepair_ev ?_
        refine State.nodeEvent_ev ?_
        refine State.bumpNode_ev ?_
        exact h_v3

theorem execLease_ev {a : State} {x0 : Sys2Proof.Msg} {x1 : Sys2Proof.Machine.State} (hx1 : Evolves a x1) : EvolvesO a (execLease x0 x1) := by
  unfold execLease
  refine State.arriveMsg_ev ?_ ?_
  · exact hx1
  · intro z1 h_z1
    extract_lets -merge -useContext +onlyGivenNames v2
    extract_lets -merge -useContext +onlyGivenNames v3
    extract_lets -merge -useContext +onlyGivenNames v4
    extract_lets -merge -useContext +onlyGivenNames v5
    extract_lets -merge -useContext +onlyGivenNames v6
    refine Evolves.ite ?_ ?_
    · refine Evolves.ite ?_ ?_
      · split
        · rename_i s7 y8 y9 heq
          have h_s7 : Evolves a s7 := by
            refine Evolves.fstEq (by assumption) ?_
            refine State.leaseTake_ev ?_
            exact h_z1
          refine State.syncSend_ev ?_
          exact h_s7
      · refine Evolves.ite ?_ ?_
        · refine State.leaseFree_ev ?_
          exact h_z1
        · exact h_z1
    · extract_lets -merge -useContext +onlyGivenNames v10
      extract_lets -merge -useContext +onlyGivenNames v11
      have h_v11 : Evolves a v11 := by
        unfold v11
        refine Evolves.mk' ?_ rfl
        exact h_z1
      try clear_value v11
      refine Evolves.ite ?_ ?_
      · extract_lets -merge -useContext +onlyGivenNames v12
        extract_lets -merge -useContext +onlyGivenNames v13
        have h_v13 : Evolves a v13 := by
          unfold v13
          refine State.modCmd_ev ?_
          exact h_v11
        try clear_value v13
        refine State.setSync_ev ?_
        exact h_v13
      · refine Evolves.ite ?_ ?_
        · refine State.leaseLost_ev ?_
          exact h_v11
        · exact h_v11

theorem execLinkDown_ev {a : State} {x0 : ℕ} {x1 : Sys2Proof.Machine.State} (hx1 : Evolves a x1) : EvolvesO a (execLinkDown x0 x1) := by
  unfold execLinkDown
  refine EvolvesO.ite ?_ ?_
  · exact EvolvesO.fault
  · extract_lets -merge -useContext +onlyGivenNames v1
    split
    · refine EvolvesO.next ?_
      refine State.emit_ev ?_
      exact hx1
    · refine EvolvesO.ite ?_ ?_
      · refine EvolvesO.next ?_
        exact hx1
      · refine EvolvesO.next ?_
        refine State.failPort_ev ?_
        exact hx1

theorem execMgmtReq_ev {a : State} {x0 : Sys2Proof.Msg} {x1 : Sys2Proof.Machine.State} (hx1 : Evolves a x1) : EvolvesO a (execMgmtReq x0 x1) := by
  unfold execMgmtReq
  refine State.arriveMsg_ev ?_ ?_
  · exact hx1
  · intro z1 h_z1
    extract_lets -merge -useContext +onlyGivenNames v2
    refine Evolves.ite ?_ ?_
    · refine State.queueReq_ev ?_
      exact h_z1
    · refine State.respond_ev ?_
      exact h_z1

theorem execMgmtRsp_ev {a : State} {x0 : Sys2Proof.Msg} {x1 : Sys2Proof.Machine.State} (hx1 : Evolves a x1) : EvolvesO a (execMgmtRsp x0 x1) := by
  unfold execMgmtRsp
  refine State.arriveMsg_ev ?_ ?_
  · exact hx1
  · intro z1 h_z1
    refine State.emit_ev ?_
    exact h_z1

theorem execNak_ev {a : State} {x0 : ℕ} {x1 : ℕ} {x2 : Sys2Proof.Machine.State} (hx2 : Evolves a x2) : EvolvesO a (execNak x0 x1 x2) := by
  unfold execNak
  refine EvolvesO.ite ?_ ?_
  · exact EvolvesO.fault
  · refine EvolvesO.ite ?_ ?_
    · refine EvolvesO.next ?_
      exact hx2
    · extract_lets -merge -useContext +onlyGivenNames v1
      have h_v1 : Evolves a v1 := by
        unfold v1
        refine State.takeAck_ev ?_
        exact hx2
      try clear_value v1
      extract_lets -merge -useContext +onlyGivenNames v2
      refine EvolvesO.ite ?_ ?_
      · refine EvolvesO.next ?_
        exact h_v1
      · refine EvolvesO.next ?_
        refine State.resendFrom_ev ?_
        exact h_v1

theorem execPortSwap_ev {a : State} {x0 : ℕ} {x1 : ℕ} {x2 : Sys2Proof.Machine.State} (hx2 : Evolves a x2) : EvolvesO a (execPortSwap x0 x1 x2) := by
  unfold execPortSwap
  refine EvolvesO.ite ?_ ?_
  · exact EvolvesO.fault
  · extract_lets -merge -useContext +onlyGivenNames v1
    refine EvolvesO.ite ?_ ?_
    · refine EvolvesO.next ?_
      exact hx2
    · split
      · extract_lets -merge -useContext +onlyGivenNames v2
        have h_v2 : Evolves a v2 := by
          unfold v2
          refine State.movePort_ev ?_
          exact hx2
        try clear_value v2
        refine EvolvesO.next ?_
        refine State.fireTimed_ev ?_
        refine State.modPort_ev ?_
        exact h_v2
      · refine EvolvesO.ite ?_ ?_
        · refine EvolvesO.next ?_
          exact hx2
        · refine EvolvesO.next ?_
          refine State.addRepair_ev ?_
          refine State.nodeEvent_ev ?_
          refine State.bumpNode_ev ?_
          refine State.movePort_ev ?_
          exact hx2

theorem execPortTraining_ev {a : State} {x0 : ℕ} {x1 : Sys2Proof.TrainIn} {x2 : Sys2Proof.Machine.State} (hx2 : Evolves a x2) : EvolvesO a (execPortTraining x0 x1 x2) := by
  unfold execPortTraining
  refine EvolvesO.ite ?_ ?_
  · exact EvolvesO.fault
  · extract_lets -merge -useContext +onlyGivenNames v1
    extract_lets -merge -useContext +onlyGivenNames v2
    refine EvolvesO.ite ?_ ?_
    · refine EvolvesO.next ?_
      exact hx2
    · extract_lets -merge -useContext +onlyGivenNames v3
      extract_lets -merge -useContext +onlyGivenNames v4
      extract_lets -merge -useContext +onlyGivenNames v5
      extract_lets -merge -useContext +onlyGivenNames v6
      have h_v6 : Evolves a v6 := by
        unfold v6
        refine State.bumpNode_ev ?_
        exact hx2
      try clear_value v6
      extract_lets -merge -useContext +onlyGivenNames v7
      extract_lets -merge -useContext +onlyGivenNames v8
      have h_v8 : Evolves a v8 := by
        unfold v8
        refine Evolves.mk' ?_ rfl
        exact h_v6
      try clear_value v8
      extract_lets -merge -useContext +onlyGivenNames v9
      extract_lets -merge -useContext +onlyGivenNames v10
      refine EvolvesO.ite ?_ ?_
      · refine EvolvesO.next ?_
        refine State.nodeEvent_ev ?_
        refine State.setPort_ev ?_
        exact h_v8
      · extract_lets -merge -useContext +onlyGivenNames v11
        refine EvolvesO.next ?_
        refine State.setPort_ev ?_
        exact h_v8

theorem execPresetReq_ev {a : State} {x0 : ℕ} {x1 : ℕ} {x2 : ℕ} {x3 : ℕ} {x4 : Sys2Proof.Machine.State} (hx4 : Evolves a x4) : EvolvesO a (execPresetReq x0 x1 x2 x3 x4) := by
  unfold execPresetReq
  refine EvolvesO.ite ?_ ?_
  · exact EvolvesO.fault
  · refine EvolvesO.ite ?_ ?_
    · refine EvolvesO.next ?_
      exact hx4
    · extract_lets -merge -useContext +onlyGivenNames v1
      refine EvolvesO.next ?_
      refine State.bumpNode_ev ?_
      refine State.modPort_ev ?_
      exact hx4

theorem execProbe_ev {a : State} {x0 : ℕ} {x1 : ℕ} {x2 : ℕ} {x3 : ℕ} {x4 : ℕ} {x5 : Sys2Proof.Machine.State} (hx5 : Evolves a x5) : EvolvesO a (execProbe x0 x1 x2 x3 x4 x5) := by
  unfold execProbe
  refine EvolvesO.ite ?_ ?_
  · exact EvolvesO.fault
  · extract_lets -merge -useContext +onlyGivenNames v1
    refine EvolvesO.ite ?_ ?_
    · refine EvolvesO.next ?_
      exact hx5
    · refine EvolvesO.ite ?_ ?_
      · refine EvolvesO.next ?_
        refine State.setPort_ev ?_
        exact hx5
      · refine EvolvesO.next ?_
        refine State.emit_ev ?_
        exact hx5

theorem execPut_ev {a : State} {x0 : Sys2Proof.Msg} {x1 : Sys2Proof.Machine.State} (hx1 : Evolves a x1) : EvolvesO a (execPut x0 x1) := by
  unfold execPut
  refine State.arriveMsg_ev ?_ ?_
  · exact hx1
  · intro z1 h_z1
    refine State.landMsg_ev ?_
    exact h_z1

theorem execRehearsalSwapReturn_ev {a : State} {x0 : ℕ} {x1 : Sys2Proof.Machine.State} (hx1 : Evolves a x1) : EvolvesO a (execRehearsalSwapReturn x0 x1) := by
  unfold execRehearsalSwapReturn
  refine EvolvesO.ite ?_ ?_
  · exact EvolvesO.fault
  · extract_lets -merge -useContext +onlyGivenNames v1
    split
    · refine EvolvesO.next ?_
      exact hx1
    · refine EvolvesO.ite ?_ ?_
      · refine EvolvesO.next ?_
        exact hx1
      · refine EvolvesO.ite ?_ ?_
        · extract_lets -merge -useContext +onlyGivenNames v2
          have h_v2 : Evolves a v2 := by
            unfold v2
            refine State.setPort_ev ?_
            exact hx1
          try clear_value v2
          refine EvolvesO.ite ?_ ?_
          · refine EvolvesO.next ?_
            refine State.movePort_ev ?_
            exact h_v2
          · refine EvolvesO.next ?_
            exact h_v2
        · refine EvolvesO.next ?_
          refine State.setPort_ev ?_
          exact hx1

theorem execRetrain_ev {a : State} {x0 : ℕ} {x1 : Sys2Proof.Machine.State} (hx1 : Evolves a x1) : EvolvesO a (execRetrain x0 x1) := by
  unfold execRetrain
  refine EvolvesO.ite ?_ ?_
  · exact EvolvesO.fault
  · refine EvolvesO.ite ?_ ?_
    · refine EvolvesO.next ?_
      exact hx1
    · refine EvolvesO.next ?_
      refine State.modPort_ev ?_
      exact hx1

theorem execToken_ev {a : State} {x0 : Sys2Proof.Msg} {x1 : Sys2Proof.Machine.State} (hx1 : Evolves a x1) : EvolvesO a (execToken x0 x1) := by
  unfold execToken
  refine State.arriveMsg_ev ?_ ?_
  · exact hx1
  · intro z1 h_z1
    extract_lets -merge -useContext +onlyGivenNames v2
    extract_lets -merge -useContext +onlyGivenNames v3
    refine Evolves.ite ?_ ?_
    · refine State.tokenServe_ev ?_
      exact h_z1
    · refine State.tokenAnswer_ev ?_
      exact h_z1

theorem execTorusA2a_ev {a : State} {x0 : Sys2Proof.CmdRef} {x1 : Sys2Proof.Machine.State} (hx1 : Evolves a x1) : EvolvesO a (execTorusA2a x0 x1) := by
  unfold execTorusA2a
  refine EvolvesO.ite ?_ ?_
  · exact EvolvesO.fault
  · split
    · refine EvolvesO.ite ?_ ?_
      · refine EvolvesO.next ?_
        refine State.a2aSend_ev ?_
        exact hx1
      · extract_lets -merge -useContext +onlyGivenNames v1
        extract_lets -merge -useContext +onlyGivenNames v2
        extract_lets -merge -useContext +onlyGivenNames v3
        extract_lets -merge -useContext +onlyGivenNames v4
        extract_lets -merge -useContext +onlyGivenNames v5
        refine EvolvesO.ite ?_ ?_
        · refine EvolvesO.next ?_
          refine State.killRehearsed_ev ?_
          exact hx1
        · refine EvolvesO.ite ?_ ?_
          · refine EvolvesO.next ?_
            refine State.kill_ev ?_
            exact hx1
          · refine EvolvesO.ite ?_ ?_
            · refine EvolvesO.next ?_
              exact hx1
            · extract_lets -merge -useContext +onlyGivenNames v6
              have h_v6 : Evolves a v6 := by
                unfold v6
                refine State.modCmd_ev ?_
                exact hx1
              try clear_value v6
              refine EvolvesO.next ?_
              refine State.finish_ev ?_
              exact h_v6
    · refine EvolvesO.next ?_
      exact hx1

theorem execTorusPut_ev {a : State} {x0 : Sys2Proof.CmdRef} {x1 : Sys2Proof.Machine.State} (hx1 : Evolves a x1) : EvolvesO a (execTorusPut x0 x1) := by
  unfold execTorusPut
  refine State.engineRowOpen_ev ?_ ?_
  · exact hx1
  · intro z1 z2 h_z1
    extract_lets -merge -useContext +onlyGivenNames v3
    split
    · refine Evolves.pair1 ?_
      exact h_z1
    · refine Evolves.pair1 ?_
      exact h_z1
    · extract_lets -merge -useContext +onlyGivenNames v4
      have h_v4 : Evolves a v4 := by
        unfold v4
        refine State.noteRead_ev ?_
        exact h_z1
      try clear_value v4
      extract_lets -merge -useContext +onlyGivenNames v5
      extract_lets -merge -useContext +onlyGivenNames v6
      extract_lets -merge -useContext +onlyGivenNames v7
      have h_v7 : Evolves a v7 := by
        unfold v7
        refine State.modCmd_ev ?_
        refine State.charge_ev ?_
        exact h_v4
      try clear_value v7
      refine Evolves.pair1 ?_
      split
      · refine State.routeMsg_ev ?_
        exact h_v7
      · exact h_v7

theorem execTorusWait_ev {a : State} {x0 : Sys2Proof.CmdRef} {x1 : Sys2Proof.Machine.State} (hx1 : Evolves a x1) : EvolvesO a (execTorusWait x0 x1) := by
  unfold execTorusWait
  refine EvolvesO.ite ?_ ?_
  · exact EvolvesO.fault
  · split
    · extract_lets -merge -useContext +onlyGivenNames v1
      extract_lets -merge -useContext +onlyGivenNames v2
      refine EvolvesO.ite ?_ ?_
      · refine EvolvesO.next ?_
        refine State.killRehearsed_ev ?_
        exact hx1
      · refine EvolvesO.ite ?_ ?_
        · refine EvolvesO.next ?_
          refine State.kill_ev ?_
          exact hx1
        · refine EvolvesO.ite ?_ ?_
          · refine EvolvesO.next ?_
            exact hx1
          · refine EvolvesO.ite ?_ ?_
            · refine EvolvesO.next ?_
              refine State.kill_ev ?_
              exact hx1
            · extract_lets -merge -useContext +onlyGivenNames v3
              have h_v3 : Evolves a v3 := by
                unfold v3
                refine State.modCmd_ev ?_
                exact hx1
              try clear_value v3
              refine EvolvesO.next ?_
              refine State.finish_ev ?_
              exact h_v3
    · refine EvolvesO.next ?_
      exact hx1

theorem execTrainingTimeout_ev {a : State} {x0 : ℕ} {x1 : Sys2Proof.Machine.State} (hx1 : Evolves a x1) : EvolvesO a (execTrainingTimeout x0 x1) := by
  unfold execTrainingTimeout
  refine EvolvesO.ite ?_ ?_
  · exact EvolvesO.fault
  · extract_lets -merge -useContext +onlyGivenNames v1
    refine EvolvesO.ite ?_ ?_
    · refine EvolvesO.next ?_
      exact hx1
    · refine EvolvesO.ite ?_ ?_
      · refine EvolvesO.next ?_
        refine State.failPort_ev ?_
        exact hx1
      · refine EvolvesO.next ?_
        refine State.setPort_ev ?_
        exact hx1

end Sys2Proof.Machine
end

