-- ==== Sys2Proof/Laws/KeepInsets.lean ====
section
/-!
SUPPORT. Every function of Machine/Insets.lean that answers a state keeps what `Evolves` names.
-/

namespace Sys2Proof.Machine

set_option linter.all false

theorem State.finishDrains_ev {a : State} {x0 : Sys2Proof.Machine.State} {x1 : ℕ} (hx0 : Evolves a x0) : Evolves a (State.finishDrains x0 x1) := by
  unfold State.finishDrains
  refine Evolves.foldl (fun t1 x2 h_t1 => ?_) ?_
  · refine Evolves.ite ?_ ?_
    · split
      · refine State.endDrain_ev ?_
        exact h_t1
      · exact h_t1
    · exact h_t1
  · exact hx0

theorem State.spareUnit_ev {a : State} {x0 : Sys2Proof.Machine.State} {x1 : ℕ} {x2 : ℕ} (hx0 : Evolves a x0) : Evolves a (State.spareUnit x0 x1 x2) := by
  unfold State.spareUnit
  extract_lets -merge -useContext +onlyGivenNames v1
  extract_lets -merge -useContext +onlyGivenNames v2
  refine Evolves.ite ?_ ?_
  · exact hx0
  · extract_lets -merge -useContext +onlyGivenNames v3
    extract_lets -merge -useContext +onlyGivenNames v4
    have h_v4 : Evolves a v4 := by
      unfold v4
      refine Evolves.mk' ?_ rfl
      exact hx0
    try clear_value v4
    refine State.addRepair_ev ?_
    exact h_v4

theorem State.quiesce_ev {a : State} {x0 : Sys2Proof.Machine.State} {x1 : ℕ} (hx0 : Evolves a x0) : Evolves a (State.quiesce x0 x1) := by
  unfold State.quiesce
  refine Evolves.foldl (fun t1 x2 h_t1 => ?_) ?_
  · refine State.spareUnit_ev ?_
    exact h_t1
  · exact hx0

theorem State.clearStaging_ev {a : State} {x0 : Sys2Proof.Machine.State} {x1 : ℕ} (hx0 : Evolves a x0) : Evolves a (State.clearStaging x0 x1) := by
  unfold State.clearStaging
  exact Evolves.mkMem hx0 (fun hm => mw_clearRegion (mw_clear hm)) rfl

theorem State.dropLeases_ev {a : State} {x0 : Sys2Proof.Machine.State} {x1 : ℕ} (hx0 : Evolves a x0) : Evolves a (State.dropLeases x0 x1) := by
  unfold State.dropLeases
  extract_lets -merge -useContext +onlyGivenNames v1
  have h_v1 : Evolves a v1 := by
    unfold v1
    refine Evolves.foldl (fun t2 x3 h_t2 => ?_) ?_
    · refine State.leaseRelease_ev ?_
      exact h_t2
    · exact hx0
  try clear_value v1
  extract_lets -merge -useContext +onlyGivenNames v4
  have h_v4 : Evolves a v4 := by
    unfold v4
    refine State.freeLeases_ev ?_
    exact h_v1
  try clear_value v4
  refine Evolves.mk' ?_ rfl
  exact h_v4

theorem State.flushWaiting_ev {a : State} {x0 : Sys2Proof.Machine.State} {x1 : ℕ} (hx0 : Evolves a x0) : Evolves a (State.flushWaiting x0 x1) := by
  unfold State.flushWaiting
  extract_lets -merge -useContext +onlyGivenNames v1
  refine Evolves.foldl (fun t2 x3 h_t2 => ?_) ?_
  · refine State.arrive_ev ?_
    exact h_t2
  · refine Evolves.mk' ?_ rfl
    exact hx0

theorem State.loadT0_ev {a : State} {x0 : Sys2Proof.Machine.State} {x1 : ℕ} {x2 : ℕ} (hx0 : Evolves a x0) : Evolves a (State.loadT0 x0 x1 x2) := by
  unfold State.loadT0
  exact Evolves.foldl1 (fun t x h => Evolves.mkMem h (fun hm => mw_copyRegion hm) rfl) hx0

theorem State.markRange_ev {a : State} {x0 : Sys2Proof.Machine.State} {x1 : ℕ} {x2 : ℕ} (hx0 : Evolves a x0) : Evolves a (State.markRange x0 x1 x2) := by
  unfold State.markRange
  refine Evolves.foldl (fun t1 x2 h_t1 => ?_) ?_
  · split
    · refine State.markDirty_ev ?_
      exact h_t1
    · exact h_t1
  · exact hx0

theorem State.nodeFault_ev {a : State} {x0 : Sys2Proof.Machine.State} (hx0 : Evolves a x0) : Evolves a (State.nodeFault x0) := by
  unfold State.nodeFault
  extract_lets -merge -useContext +onlyGivenNames v1
  have h_v1 : Evolves a v1 := by
    unfold v1
    refine State.nodeEvent_ev ?_
    refine State.setNum_ev ?_
    exact hx0
  try clear_value v1
  extract_lets -merge -useContext +onlyGivenNames v2
  extract_lets -merge -useContext +onlyGivenNames v3
  have h_v3 : Evolves a v3 := by
    unfold v3
    refine Evolves.mk' ?_ rfl
    exact h_v1
  try clear_value v3
  refine Evolves.foldl (fun t4 x5 h_t4 => ?_) ?_
  · refine State.closeRequests_ev ?_
    refine State.killAll_ev ?_
    exact h_t4
  · exact h_v3

theorem State.resetInset_ev {a : State} {x0 : Sys2Proof.Machine.State} {x1 : ℕ} {x2 : ℕ} (hx0 : Evolves a x0) : Evolves a (State.resetInset x0 x1 x2) := by
  unfold State.resetInset
  extract_lets -merge -useContext +onlyGivenNames v1
  have h_v1 : Evolves a v1 := by
    unfold v1
    refine State.modInset_ev ?_
    exact hx0
  try clear_value v1
  extract_lets -merge -useContext +onlyGivenNames v2
  have h_v2 : Evolves a v2 := by
    unfold v2
    refine State.killAll_ev ?_
    exact h_v1
  try clear_value v2
  extract_lets -merge -useContext +onlyGivenNames v3
  have h_v3 : Evolves a v3 := by
    unfold v3
    refine State.finishDrains_ev ?_
    exact h_v2
  try clear_value v3
  extract_lets -merge -useContext +onlyGivenNames v4
  have h_v4 : Evolves a v4 := by
    unfold v4
    refine State.closeRequests_ev ?_
    exact h_v3
  try clear_value v4
  extract_lets -merge -useContext +onlyGivenNames v5
  have h_v5 : Evolves a v5 := by
    unfold v5
    refine State.rejectSubs_ev ?_
    exact h_v4
  try clear_value v5
  extract_lets -merge -useContext +onlyGivenNames v6
  have h_v6 : Evolves a v6 := by
    unfold v6
    refine State.flushWaiting_ev ?_
    exact h_v5
  try clear_value v6
  extract_lets -merge -useContext +onlyGivenNames v7
  have h_v7 : Evolves a v7 := by
    unfold v7
    refine State.clearStaging_ev ?_
    refine State.dropLeases_ev ?_
    exact h_v6
  try clear_value v7
  extract_lets -merge -useContext +onlyGivenNames v8
  have h_v8 : Evolves a v8 := by
    unfold v8
    refine Evolves.ite ?_ ?_
    · refine State.bump_ev ?_
      refine State.dropCkpt_ev ?_
      exact h_v7
    · exact h_v7
  try clear_value v8
  extract_lets -merge -useContext +onlyGivenNames v9
  have h_v9 : Evolves a v9 := by
    unfold v9
    refine State.setNum_ev ?_
    refine State.modInset_ev ?_
    exact h_v8
  try clear_value v9
  extract_lets -merge -useContext +onlyGivenNames v10
  have h_v10 : Evolves a v10 := by
    unfold v10
    refine State.quiesce_ev ?_
    exact h_v9
  try clear_value v10
  extract_lets -merge -useContext +onlyGivenNames v11
  have h_v11 : Evolves a v11 := by
    unfold v11
    refine State.modInset_ev ?_
    exact h_v10
  try clear_value v11
  extract_lets -merge -useContext +onlyGivenNames v12
  extract_lets -merge -useContext +onlyGivenNames v13
  have h_v13 : Evolves a v13 := by
    unfold v13
    refine Evolves.foldl (fun t14 x15 h_t14 => ?_) ?_
    · refine Evolves.ite ?_ ?_
      · exact h_t14
      · refine State.fireVector_ev ?_
        exact h_t14
    · exact h_v11
  try clear_value v13
  refine State.interrupt_ev ?_
  exact h_v13

theorem State.saveT0_ev {a : State} {x0 : Sys2Proof.Machine.State} {x1 : ℕ} {x2 : ℕ} (hx0 : Evolves a x0) : Evolves a (State.saveT0 x0 x1 x2) := by
  unfold State.saveT0
  exact Evolves.foldl1 (fun t x h => State.markRange_ev (Evolves.mkMem h (fun hm => mw_copyRegion hm) rfl)) hx0

theorem State.swapOut_ev {a : State} {x0 : Sys2Proof.Machine.State} {x1 : ℕ} {x2 : ℕ} {x3 : ℕ} (hx0 : Evolves a x0) : Evolves a (State.swapOut x0 x1 x2 x3) := by
  unfold State.swapOut
  split
  · exact hx0
  · extract_lets -merge -useContext +onlyGivenNames v1
    extract_lets -merge -useContext +onlyGivenNames v2
    have h_v2 : Evolves a v2 := by
      unfold v2
      refine Evolves.mkDraw ?_ rfl
      exact hx0
    try clear_value v2
    split
    · rename_i s3 y4 y5 heq
      have h_s3 : Evolves a s3 := by
        refine Evolves.fstEq (by assumption) ?_
        refine State.program_ev ?_
        exact h_v2
      refine State.setMap_ev ?_
      exact h_s3
    · rename_i s6 y7 y8 heq
      have h_s6 : Evolves a s6 := by
        refine Evolves.fstEq (by assumption) ?_
        refine State.program_ev ?_
        exact h_v2
      exact h_s6

theorem State.swapChannel_ev {a : State} {x0 : Sys2Proof.Machine.State} {x1 : ℕ} {x2 : ℕ} {x3 : ℕ} {x4 : ℕ} (hx0 : Evolves a x0) : Evolves a (State.swapChannel x0 x1 x2 x3 x4) := by
  unfold State.swapChannel
  extract_lets -merge -useContext +onlyGivenNames d r base
  refine Evolves.ite hx0 ?_
  extract_lets -merge -useContext +onlyGivenNames s1 m1 m2
  have h1 : Evolves a s1 := by
    unfold s1
    split
    · exact Evolves.foldl (fun t x h => State.swapOut_ev h) hx0
    · exact hx0
  refine State.modInset_ev (State.markRange_ev (Evolves.mkMem h1 (fun hm => ?_) rfl))
  unfold m2
  split
  · split
    · exact mw_clear hm
    · exact mw_foldl (fun _ _ h => mw_putGroup h) (mw_clear hm)
  · exact mw_clear hm

theorem State.woPreempt_ev {a : State} {x0 : Sys2Proof.Machine.State} {x1 : ℕ} {x2 : Sys2Proof.Bytes} (hx0 : Evolves a x0) : Evolves a (State.woPreempt x0 x1 x2).1 := by
  unfold State.woPreempt
  extract_lets -merge -useContext +onlyGivenNames v1
  extract_lets -merge -useContext +onlyGivenNames v2
  extract_lets -merge -useContext +onlyGivenNames v3
  refine Evolves.ite1 ?_ ?_
  · refine Evolves.pair1 ?_
    exact hx0
  · refine Evolves.ite1 ?_ ?_
    · refine Evolves.pair1 ?_
      exact hx0
    · refine Evolves.ite1 ?_ ?_
      · refine Evolves.pair1 ?_
        exact hx0
      · refine Evolves.ite1 ?_ ?_
        · refine Evolves.pair1 ?_
          exact hx0
        · refine Evolves.pair1 ?_
          refine State.modInset_ev ?_
          exact hx0

theorem State.woReset_ev {a : State} {x0 : Sys2Proof.Machine.State} {x1 : ℕ} {x2 : Sys2Proof.Bytes} (hx0 : Evolves a x0) : Evolves a (State.woReset x0 x1 x2).1 := by
  unfold State.woReset
  refine Evolves.pair1 ?_
  refine State.resetInset_ev ?_
  exact hx0

theorem execInsetReset_ev {a : State} {x0 : Sys2Proof.GazReq} {x1 : Sys2Proof.Machine.State} (hx1 : Evolves a x1) : EvolvesO a (execInsetReset x0 x1) := by
  unfold execInsetReset
  refine State.woRow_ev ?_ ?_
  · exact hx1
  · intro z1 z2 z3 h_z1
    refine State.woReset_ev ?_
    exact h_z1

theorem execIntHoldoff_ev {a : State} {x0 : ℕ} {x1 : ℕ} {x2 : Sys2Proof.Machine.State} (hx2 : Evolves a x2) : EvolvesO a (execIntHoldoff x0 x1 x2) := by
  unfold execIntHoldoff
  refine EvolvesO.ite ?_ ?_
  · exact EvolvesO.fault
  · extract_lets -merge -useContext +onlyGivenNames v1
    refine EvolvesO.ite ?_ ?_
    · refine EvolvesO.next ?_
      exact hx2
    · refine EvolvesO.next ?_
      refine State.fireVector_ev ?_
      exact hx2

theorem execPreempt_ev {a : State} {x0 : Sys2Proof.GazReq} {x1 : Sys2Proof.Machine.State} (hx1 : Evolves a x1) : EvolvesO a (execPreempt x0 x1) := by
  unfold execPreempt
  refine State.woRow_ev ?_ ?_
  · exact hx1
  · intro z1 z2 z3 h_z1
    refine State.woPreempt_ev ?_
    exact h_z1

theorem execSwitchEnd_ev {a : State} {x0 : ℕ} {x1 : Sys2Proof.Machine.State} (hx1 : Evolves a x1) : EvolvesO a (execSwitchEnd x0 x1) := by
  unfold execSwitchEnd
  refine EvolvesO.ite ?_ ?_
  · exact EvolvesO.fault
  · split
    · refine EvolvesO.next ?_
      exact hx1
    · refine EvolvesO.ite ?_ ?_
      · refine EvolvesO.next ?_
        exact hx1
      · extract_lets -merge -useContext +onlyGivenNames v1
        have h_v1 : Evolves a v1 := by
          unfold v1
          refine State.saveT0_ev ?_
          exact hx1
        try clear_value v1
        extract_lets -merge -useContext +onlyGivenNames v2
        have h_v2 : Evolves a v2 := by
          unfold v2
          refine Evolves.foldl (fun t3 x4 h_t3 => ?_) ?_
          · refine State.swapChannel_ev ?_
            exact h_t3
          · exact h_v1
        try clear_value v2
        extract_lets -merge -useContext +onlyGivenNames v5
        have h_v5 : Evolves a v5 := by
          unfold v5
          refine State.loadT0_ev ?_
          exact h_v2
        try clear_value v5
        extract_lets -merge -useContext +onlyGivenNames v6
        have h_v6 : Evolves a v6 := by
          unfold v6
          refine State.modInset_ev ?_
          exact h_v5
        try clear_value v6
        refine EvolvesO.next ?_
        refine State.interrupt_ev ?_
        refine State.reportDone_ev ?_
        exact h_v6

end Sys2Proof.Machine
end

