-- ==== Sys2Proof/Laws/KeepPower.lean ====
section
/-!
SUPPORT. Every function of Machine/Power.lean that answers a state keeps what `Evolves` names.
-/

namespace Sys2Proof.Machine

set_option linter.all false

theorem State.trainPorts_ev {a : State} {x0 : Sys2Proof.Machine.State} (hx0 : Evolves a x0) : Evolves a (State.trainPorts x0) := by
  unfold State.trainPorts
  refine Evolves.foldl (fun t1 x2 h_t1 => ?_) ?_
  · refine State.modPort_ev ?_
    exact h_t1
  · exact hx0

theorem State.setSetpoint_ev {a : State} {x0 : Sys2Proof.Machine.State} {x1 : ℕ} (hx0 : Evolves a x0) : Evolves a (State.setSetpoint x0 x1) := by
  unfold State.setSetpoint
  extract_lets -merge -useContext +onlyGivenNames v1
  refine Evolves.ite ?_ ?_
  · exact hx0
  · refine State.emit_ev ?_
    refine Evolves.mk' ?_ rfl
    exact hx0

theorem State.vcoreBoundary_ev {a : State} {x0 : Sys2Proof.Machine.State} {x1 : ℕ} {x2 : ℕ} (hx0 : Evolves a x0) : Evolves a (State.vcoreBoundary x0 x1 x2) := by
  unfold State.vcoreBoundary
  extract_lets -merge -useContext +onlyGivenNames v1
  split
  · extract_lets -merge -useContext +onlyGivenNames v2
    split
    · refine Evolves.ite ?_ ?_
      · exact hx0
      · extract_lets -merge -useContext +onlyGivenNames v3
        extract_lets -merge -useContext +onlyGivenNames v4
        extract_lets -merge -useContext +onlyGivenNames v5
        have h_v5 : Evolves a v5 := by
          unfold v5
          refine Evolves.ite ?_ ?_
          · refine Evolves.mk' ?_ rfl
            exact hx0
          · exact hx0
        try clear_value v5
        refine State.setSetpoint_ev ?_
        exact h_v5
    · extract_lets -merge -useContext +onlyGivenNames v6
      extract_lets -merge -useContext +onlyGivenNames v7
      have h_v7 : Evolves a v7 := by
        unfold v7
        refine Evolves.mk' ?_ rfl
        exact hx0
      try clear_value v7
      extract_lets -merge -useContext +onlyGivenNames v8
      have h_v8 : Evolves a v8 := by
        unfold v8
        refine State.bumpNode_ev ?_
        exact h_v7
      try clear_value v8
      refine State.setSetpoint_ev ?_
      exact h_v8

theorem State.holdPorts_ev {a : State} {x0 : Sys2Proof.Machine.State} (hx0 : Evolves a x0) : Evolves a (State.holdPorts x0) := by
  unfold State.holdPorts
  refine Evolves.foldl (fun t1 x2 h_t1 => ?_) ?_
  · refine State.modPort_ev ?_
    exact h_t1
  · exact hx0

theorem State.railLost_ev {a : State} {x0 : Sys2Proof.Machine.State} {x1 : ℕ} (hx0 : Evolves a x0) : Evolves a (State.railLost x0 x1) := by
  unfold State.railLost
  refine State.nodeEvent_ev ?_
  refine Evolves.mk' ?_ rfl
  exact hx0

theorem State.railStatus_ev {a : State} {x0 : Sys2Proof.Machine.State} {x1 : ℕ} {x2 : ℕ} (hx0 : Evolves a x0) : Evolves a (State.railStatus x0 x1 x2) := by
  unfold State.railStatus
  extract_lets -merge -useContext +onlyGivenNames v1
  extract_lets -merge -useContext +onlyGivenNames v2
  have h_v2 : Evolves a v2 := by
    unfold v2
    refine Evolves.mk' ?_ rfl
    exact hx0
  try clear_value v2
  refine Evolves.ite ?_ ?_
  · exact h_v2
  · refine State.emit_ev ?_
    refine State.nodeEvent_ev ?_
    exact h_v2

theorem State.setTelemetry_ev {a : State} {x0 : Sys2Proof.Machine.State} {x1 : ℕ} {x2 : Sys2Proof.Bytes} (hx0 : Evolves a x0) : Evolves a (State.setTelemetry x0 x1 x2) := by
  unfold State.setTelemetry
  extract_lets -merge -useContext +onlyGivenNames v1
  refine State.setReg_ev ?_
  exact hx0

theorem State.readRails_ev {a : State} {x0 : Sys2Proof.Machine.State} {x1 : Sys2Proof.RailIn} {x2 : Bool} (hx0 : Evolves a x0) : Evolves a (State.readRails x0 x1 x2) := by
  unfold State.readRails
  split
  · rename_i s1 y2 heq
    have h_s1 : Evolves a s1 := by
      refine Evolves.fstEq (by assumption) ?_
      split
      · refine Evolves.pair1 ?_
        refine State.fireTimed_ev ?_
        exact hx0
      · refine Evolves.pair1 ?_
        exact hx0
    refine Evolves.foldl (fun t3 x4 h_t3 => ?_) ?_
    · split
      · refine State.railLost_ev ?_
        exact h_t3
      · extract_lets -merge -useContext +onlyGivenNames v5
        have h_v5 : Evolves a v5 := by
          unfold v5
          refine Evolves.ite ?_ ?_
          · refine State.setTelemetry_ev ?_
            exact h_t3
          · refine State.setTelemetry_ev ?_
            exact h_t3
        try clear_value v5
        refine State.railStatus_ev ?_
        exact h_v5
    · exact h_s1

theorem State.warnOnce_ev {a : State} {x0 : Sys2Proof.Machine.State} {x1 : ℕ} {x2 : ℤ} {x3 : ℤ} (hx0 : Evolves a x0) : Evolves a (State.warnOnce x0 x1 x2 x3) := by
  unfold State.warnOnce
  extract_lets -merge -useContext +onlyGivenNames v1
  extract_lets -merge -useContext +onlyGivenNames v2
  extract_lets -merge -useContext +onlyGivenNames v3
  extract_lets -merge -useContext +onlyGivenNames v4
  have h_v4 : Evolves a v4 := by
    unfold v4
    refine Evolves.mk' ?_ rfl
    exact hx0
  try clear_value v4
  refine Evolves.ite ?_ ?_
  · refine State.nodeEvent_ev ?_
    exact h_v4
  · exact h_v4

theorem execDynamicAddressAssignment_ev {a : State} {x0 : ℕ} {x1 : Sys2Proof.Machine.State} (hx1 : Evolves a x1) : EvolvesO a (execDynamicAddressAssignment x0 x1) := by
  unfold execDynamicAddressAssignment
  refine EvolvesO.ite ?_ ?_
  · exact EvolvesO.fault
  · refine EvolvesO.ite ?_ ?_
    · refine EvolvesO.next ?_
      refine Evolves.mk' ?_ rfl
      exact hx1
    · refine EvolvesO.next ?_
      exact hx1

theorem execRefclkCheck_ev {a : State} {x0 : ℤ} {x1 : ℕ} {x2 : ℤ} {x3 : Sys2Proof.Machine.State} (hx3 : Evolves a x3) : EvolvesO a (execRefclkCheck x0 x1 x2 x3) := by
  unfold execRefclkCheck
  refine EvolvesO.ite ?_ ?_
  · refine EvolvesO.next ?_
    exact hx3
  · extract_lets -merge -useContext +onlyGivenNames v1
    have h_v1 : Evolves a v1 := by
      unfold v1
      refine State.setReg_ev ?_
      exact hx3
    try clear_value v1
    extract_lets -merge -useContext +onlyGivenNames v2
    refine EvolvesO.ite ?_ ?_
    · extract_lets -merge -useContext +onlyGivenNames v3
      extract_lets -merge -useContext +onlyGivenNames v4
      extract_lets -merge -useContext +onlyGivenNames v5
      have h_v5 : Evolves a v5 := by
        unfold v5
        refine Evolves.mk' ?_ rfl
        exact h_v1
      try clear_value v5
      refine EvolvesO.next ?_
      refine Evolves.ite ?_ ?_
      · refine State.nodeEvent_ev ?_
        refine State.holdPorts_ev ?_
        exact h_v5
      · exact h_v5
    · refine EvolvesO.ite ?_ ?_
      · extract_lets -merge -useContext +onlyGivenNames v6
        refine EvolvesO.ite ?_ ?_
        · refine EvolvesO.next ?_
          refine Evolves.mk' ?_ rfl
          exact h_v1
        · extract_lets -merge -useContext +onlyGivenNames v7
          extract_lets -merge -useContext +onlyGivenNames v8
          have h_v8 : Evolves a v8 := by
            unfold v8
            refine Evolves.mk' ?_ rfl
            exact h_v1
          try clear_value v8
          refine EvolvesO.next ?_
          refine Evolves.ite ?_ ?_
          · refine State.trainPorts_ev ?_
            exact h_v8
          · exact h_v8
      · refine EvolvesO.next ?_
        exact h_v1

theorem execThermalSample_ev {a : State} {x0 : Sys2Proof.TempIn} {x1 : Sys2Proof.Machine.State} (hx1 : Evolves a x1) : EvolvesO a (execThermalSample x0 x1) := by
  unfold execThermalSample
  refine EvolvesO.ite ?_ ?_
  · refine EvolvesO.next ?_
    exact hx1
  · extract_lets -merge -useContext +onlyGivenNames v1
    extract_lets -merge -useContext +onlyGivenNames v2
    extract_lets -merge -useContext +onlyGivenNames v3
    extract_lets -merge -useContext +onlyGivenNames v4
    extract_lets -merge -useContext +onlyGivenNames v5
    have h_v5 : Evolves a v5 := by
      unfold v5
      refine State.setReg_ev ?_
      exact hx1
    try clear_value v5
    extract_lets -merge -useContext +onlyGivenNames v6
    have h_v6 : Evolves a v6 := by
      unfold v6
      try clear_value v3
      split
      · refine State.fireTimed_ev ?_
        exact h_v5
      · refine State.warnOnce_ev ?_
        exact h_v5
    try clear_value v6
    extract_lets -merge -useContext +onlyGivenNames v7
    have h_v7 : Evolves a v7 := by
      unfold v7
      refine Evolves.foldl (fun t8 x9 h_t8 => ?_) ?_
      · refine State.warnOnce_ev ?_
        exact h_t8
      · exact h_v6
    try clear_value v7
    extract_lets -merge -useContext +onlyGivenNames v10
    refine EvolvesO.ite ?_ ?_
    · extract_lets -merge -useContext +onlyGivenNames v11
      extract_lets -merge -useContext +onlyGivenNames v12
      have h_v12 : Evolves a v12 := by
        unfold v12
        refine Evolves.mk' ?_ rfl
        exact h_v7
      try clear_value v12
      refine EvolvesO.next ?_
      refine State.emit_ev ?_
      refine State.nodeFault_ev ?_
      refine State.nodeEvent_ev ?_
      exact h_v12
    · refine EvolvesO.next ?_
      exact h_v7

theorem execVcoreEmergency_ev {a : State} {x0 : ℕ} {x1 : Sys2Proof.Machine.State} (hx1 : Evolves a x1) : EvolvesO a (execVcoreEmergency x0 x1) := by
  unfold execVcoreEmergency
  refine EvolvesO.ite ?_ ?_
  · refine EvolvesO.next ?_
    exact hx1
  · extract_lets -merge -useContext +onlyGivenNames v1
    have h_v1 : Evolves a v1 := by
      unfold v1
      refine State.bumpNode_ev ?_
      exact hx1
    try clear_value v1
    extract_lets -merge -useContext +onlyGivenNames v2
    extract_lets -merge -useContext +onlyGivenNames v3
    have h_v3 : Evolves a v3 := by
      unfold v3
      refine Evolves.mk' ?_ rfl
      exact h_v1
    try clear_value v3
    refine EvolvesO.next ?_
    refine State.setSetpoint_ev ?_
    exact h_v3

theorem execVcoreMargin_ev {a : State} {x0 : ℕ} {x1 : Sys2Proof.Machine.State} (hx1 : Evolves a x1) : EvolvesO a (execVcoreMargin x0 x1) := by
  unfold execVcoreMargin
  refine EvolvesO.ite ?_ ?_
  · refine EvolvesO.next ?_
    refine State.nodeFault_ev ?_
    refine State.nodeEvent_ev ?_
    exact hx1
  · refine EvolvesO.next ?_
    exact hx1

theorem execVrAlert_ev {a : State} {x0 : Sys2Proof.RailIn} {x1 : Sys2Proof.Machine.State} (hx1 : Evolves a x1) : EvolvesO a (execVrAlert x0 x1) := by
  unfold execVrAlert
  refine EvolvesO.ite ?_ ?_
  · refine EvolvesO.next ?_
    refine State.readRails_ev ?_
    exact hx1
  · refine EvolvesO.next ?_
    exact hx1

theorem execVrPoll_ev {a : State} {x0 : Sys2Proof.RailIn} {x1 : Sys2Proof.Machine.State} (hx1 : Evolves a x1) : EvolvesO a (execVrPoll x0 x1) := by
  unfold execVrPoll
  refine EvolvesO.ite ?_ ?_
  · refine EvolvesO.next ?_
    refine State.readRails_ev ?_
    exact hx1
  · refine EvolvesO.next ?_
    exact hx1

end Sys2Proof.Machine
end

