-- ==== Sys2Proof/Laws/KeepReliability.lean ====
section
/-!
SUPPORT. Every function of Machine/Reliability.lean that answers a state keeps what `Evolves` names.
-/

namespace Sys2Proof.Machine

set_option linter.all false

theorem State.extendMr_ev {a : State} {x0 : Sys2Proof.Machine.State} {x1 : ℕ} {x2 : Sys2Proof.Bytes} (hx0 : Evolves a x0) : Evolves a (State.extendMr x0 x1 x2) := by
  unfold State.extendMr
  refine Evolves.mk' ?_ rfl
  exact hx0

theorem State.extendMr6_ev {a : State} {x0 : Sys2Proof.Machine.State} {x1 : ℕ} {x2 : Sys2Proof.Bytes} (hx0 : Evolves a x0) : Evolves a (State.extendMr6 x0 x1 x2) := by
  unfold State.extendMr6
  extract_lets -merge -useContext +onlyGivenNames v1
  refine State.setReg_ev ?_
  exact hx0

theorem State.setBoot_ev {a : State} {x0 : Sys2Proof.Machine.State} {x1 : ℕ} {x2 : Sys2Proof.Bytes} (hx0 : Evolves a x0) : Evolves a (State.setBoot x0 x1 x2) := by
  unfold State.setBoot
  refine Evolves.mk' ?_ rfl
  exact hx0

theorem State.qualify_ev {a : State} {x0 : Sys2Proof.Machine.State} {x1 : ℕ} {x2 : ℕ} {x3 : ℕ} (hx0 : Evolves a x0) : Evolves a (State.qualify x0 x1 x2 x3) := by
  unfold State.qualify
  refine Evolves.ite ?_ ?_
  · exact hx0
  · refine Evolves.ite ?_ ?_
    · refine Evolves.mk' ?_ rfl
      exact hx0
    · refine Evolves.ite ?_ ?_
      · exact hx0
      · extract_lets -merge -useContext +onlyGivenNames v1
        have h_v1 : Evolves a v1 := by
          unfold v1
          refine State.nodeEvent_ev ?_
          exact hx0
        try clear_value v1
        extract_lets -merge -useContext +onlyGivenNames v2
        refine Evolves.ite ?_ ?_
        · refine State.setUnit_ev ?_
          exact h_v1
        · exact h_v1

theorem State.rewrite_ev {a : State} {x0 : Sys2Proof.Machine.State} {x1 : ℕ} {x2 : ℕ} {x3 : ℕ} (hx0 : Evolves a x0) : Evolves a (State.rewrite x0 x1 x2 x3) := by
  unfold State.rewrite
  split
  · refine Evolves.mkMem hx0 (fun hm => ?_) rfl
    exact mw_chk (mw_setBytes hm)
  · exact hx0

theorem State.rewritePoison_ev {a : State} {x0 : Sys2Proof.Machine.State} {x1 : ℕ} {x2 : ℕ} {x3 : ℕ} (hx0 : Evolves a x0) : Evolves a (State.rewritePoison x0 x1 x2 x3) := by
  unfold State.rewritePoison
  refine Evolves.ite ?_ ?_
  · refine Evolves.mkMem ?_ (fun hm => ?_) rfl
    · exact hx0
    · first | exact hm | exact mw_writeWordEq (by assumption) hm | exact mw_writeWord hm | exact mw_poisonWord hm | exact mw_clear hm | exact mw_clearRegion hm | exact mw_copyRegion hm | exact mw_putGroup hm | exact mw_putWords hm | exact mw_foldl (fun _ _ h => mw_poisonWord h) hm
  · refine Evolves.ite ?_ ?_
    · split
      · refine Evolves.mkMem ?_ (fun hm => ?_) rfl
        · exact hx0
        · first | exact hm | exact mw_writeWordEq (by assumption) hm | exact mw_writeWord hm | exact mw_poisonWord hm | exact mw_clear hm | exact mw_clearRegion hm | exact mw_copyRegion hm | exact mw_putGroup hm | exact mw_putWords hm | exact mw_foldl (fun _ _ h => mw_poisonWord h) hm
      · refine Evolves.mk' ?_ rfl
        exact hx0
      · refine State.setSync_ev ?_
        exact hx0
      · exact hx0
    · exact hx0

theorem State.scrubAct_ev {a : State} {x0 : Sys2Proof.Machine.State} {x1 : ℕ} {x2 : ℕ} {x3 : ℕ} {x4 : Sys2Proof.Machine.Scrub} {x5 : Sys2Proof.Machine.Find} (hx0 : Evolves a x0) : Evolves a (State.scrubAct x0 x1 x2 x3 x4 x5).1 := by
  unfold State.scrubAct
  split
  · refine Evolves.pair1 ?_
    exact hx0
  · extract_lets -merge -useContext +onlyGivenNames v1
    have h_v1 : Evolves a v1 := by
      unfold v1
      refine State.rewrite_ev ?_
      exact hx0
    try clear_value v1
    extract_lets -merge -useContext +onlyGivenNames v2
    extract_lets -merge -useContext +onlyGivenNames v3
    have h_v3 : Evolves a v3 := by
      unfold v3
      refine Evolves.mk' ?_ rfl
      exact h_v1
    try clear_value v3
    extract_lets -merge -useContext +onlyGivenNames v4
    extract_lets -merge -useContext +onlyGivenNames v5
    refine Evolves.pair1 ?_
    refine Evolves.ite ?_ ?_
    · refine State.qualify_ev ?_
      exact h_v3
    · exact h_v3
  · extract_lets -merge -useContext +onlyGivenNames v6
    have h_v6 : Evolves a v6 := by
      unfold v6
      refine State.rewritePoison_ev ?_
      exact hx0
    try clear_value v6
    extract_lets -merge -useContext +onlyGivenNames v7
    extract_lets -merge -useContext +onlyGivenNames v8
    have h_v8 : Evolves a v8 := by
      unfold v8
      refine Evolves.mk' ?_ rfl
      exact h_v6
    try clear_value v8
    extract_lets -merge -useContext +onlyGivenNames v9
    have h_v9 : Evolves a v9 := by
      unfold v9
      refine State.nodeEvent_ev ?_
      exact h_v8
    try clear_value v9
    refine Evolves.pair1 ?_
    refine State.qualify_ev ?_
    exact h_v9

theorem State.vote_ev {a : State} {x0 : Sys2Proof.Machine.State} {x1 : ℕ} {x2 : Sys2Proof.ScrubFound} (hx0 : Evolves a x0) : Evolves a (State.vote x0 x1 x2) := by
  unfold State.vote
  split
  · exact hx0
  · refine State.bumpNode_ev ?_
    exact hx0
  · refine Evolves.ite ?_ ?_
    · refine State.resetInset_ev ?_
      refine State.event_ev ?_
      exact hx0
    · refine State.nodeFault_ev ?_
      refine State.nodeEvent_ev ?_
      exact hx0

theorem execChannelFill_ev {a : State} {x0 : ℕ} {x1 : Sys2Proof.Machine.State} (hx1 : Evolves a x1) : EvolvesO a (execChannelFill x0 x1) := by
  unfold execChannelFill
  refine EvolvesO.ite ?_ ?_
  · exact EvolvesO.fault
  · refine EvolvesO.ite ?_ ?_
    · refine EvolvesO.next ?_
      exact hx1
    · refine EvolvesO.next ?_
      refine State.setUnit_ev ?_
      refine Evolves.mkMem ?_ (fun hm => ?_) rfl
      · exact hx1
      · first | exact hm | exact mw_writeWordEq (by assumption) hm | exact mw_writeWord hm | exact mw_poisonWord hm | exact mw_clear hm | exact mw_clearRegion hm | exact mw_copyRegion hm | exact mw_putGroup hm | exact mw_putWords hm | exact mw_foldl (fun _ _ h => mw_poisonWord h) hm

theorem execChannelSpared_ev {a : State} {x0 : ℕ} {x1 : Sys2Proof.Machine.State} (hx1 : Evolves a x1) : EvolvesO a (execChannelSpared x0 x1) := by
  unfold execChannelSpared
  refine EvolvesO.ite ?_ ?_
  · exact EvolvesO.fault
  · extract_lets -merge -useContext +onlyGivenNames v1
    refine EvolvesO.ite ?_ ?_
    · refine EvolvesO.next ?_
      exact hx1
    · extract_lets -merge -useContext +onlyGivenNames v2
      extract_lets -merge -useContext +onlyGivenNames v3
      extract_lets -merge -useContext +onlyGivenNames v4
      have h_v4 : Evolves a v4 := by
        unfold v4
        refine State.setUnit_ev ?_
        exact hx1
      try clear_value v4
      extract_lets -merge -useContext +onlyGivenNames v5
      extract_lets -merge -useContext +onlyGivenNames v6
      have h_v6 : Evolves a v6 := by
        unfold v6
        refine Evolves.mk' ?_ rfl
        exact h_v4
      try clear_value v6
      refine EvolvesO.next ?_
      refine State.addRepair_ev ?_
      refine State.nodeEvent_ev ?_
      exact h_v6

theorem execRemapApplied_ev {a : State} {x0 : ℕ} {x1 : ℕ} {x2 : ℕ} {x3 : Sys2Proof.Machine.State} (hx3 : Evolves a x3) : EvolvesO a (execRemapApplied x0 x1 x2 x3) := by
  unfold execRemapApplied
  refine EvolvesO.ite ?_ ?_
  · exact EvolvesO.fault
  · refine EvolvesO.ite ?_ ?_
    · refine EvolvesO.next ?_
      exact hx3
    · extract_lets -merge -useContext +onlyGivenNames v1
      extract_lets -merge -useContext +onlyGivenNames v2
      extract_lets -merge -useContext +onlyGivenNames v3
      have h_v3 : Evolves a v3 := by
        unfold v3
        refine Evolves.mk' ?_ rfl
        exact hx3
      try clear_value v3
      extract_lets -merge -useContext +onlyGivenNames v4
      refine EvolvesO.next ?_
      refine State.addRepair_ev ?_
      refine State.nodeEvent_ev ?_
      exact h_v3

theorem execRepairRecordWrite_ev {a : State} {x0 : Bool} {x1 : Sys2Proof.Machine.State} (hx1 : Evolves a x1) : EvolvesO a (execRepairRecordWrite x0 x1) := by
  unfold execRepairRecordWrite
  refine EvolvesO.ite ?_ ?_
  · refine EvolvesO.next ?_
    exact hx1
  · refine EvolvesO.ite ?_ ?_
    · refine EvolvesO.next ?_
      refine State.nodeEvent_ev ?_
      exact hx1
    · extract_lets -merge -useContext +onlyGivenNames v1
      extract_lets -merge -useContext +onlyGivenNames v2
      extract_lets -merge -useContext +onlyGivenNames v3
      extract_lets -merge -useContext +onlyGivenNames v4
      extract_lets -merge -useContext +onlyGivenNames v5
      have h_v5 : Evolves a v5 := by
        unfold v5
        refine State.setBoot_ev ?_
        exact hx1
      try clear_value v5
      extract_lets -merge -useContext +onlyGivenNames v6
      extract_lets -merge -useContext +onlyGivenNames v7
      have h_v7 : Evolves a v7 := by
        unfold v7
        refine Evolves.mk' ?_ rfl
        exact h_v5
      try clear_value v7
      refine EvolvesO.next ?_
      refine State.extendMr_ev ?_
      refine State.setNum_ev ?_
      exact h_v7

theorem execScrubRead_ev {a : State} {x0 : ℕ} {x1 : ℕ} {x2 : Sys2Proof.ScrubFound} {x3 : Sys2Proof.Machine.State} (hx3 : Evolves a x3) : EvolvesO a (execScrubRead x0 x1 x2 x3) := by
  unfold execScrubRead
  refine EvolvesO.ite ?_ ?_
  · exact EvolvesO.fault
  · refine EvolvesO.ite ?_ ?_
    · refine EvolvesO.next ?_
      refine State.vote_ev ?_
      exact hx3
    · extract_lets -merge -useContext +onlyGivenNames v1
      refine EvolvesO.ite ?_ ?_
      · refine EvolvesO.next ?_
        exact hx3
      · extract_lets -merge -useContext +onlyGivenNames v2
        extract_lets -merge -useContext +onlyGivenNames v3
        split
        · rename_i s4 y5 heq
          have h_s4 : Evolves a s4 := by
            refine Evolves.fstEq (by assumption) ?_
            split
            · refine Evolves.pair1 ?_
              refine State.fireTimed_ev ?_
              exact hx3
            · refine State.scrubAct_ev ?_
              exact hx3
          extract_lets -merge -useContext +onlyGivenNames v6
          extract_lets -merge -useContext +onlyGivenNames v7
          have h_v7 : Evolves a v7 := by
            unfold v7
            refine Evolves.ite ?_ ?_
            · refine State.nodeEvent_ev ?_
              exact h_s4
            · exact h_s4
          try clear_value v7
          extract_lets -merge -useContext +onlyGivenNames v8
          extract_lets -merge -useContext +onlyGivenNames v9
          refine EvolvesO.next ?_
          refine Evolves.mk' ?_ rfl
          exact h_v7

theorem execSuspectClear_ev {a : State} {x0 : Sys2Proof.GazReq} {x1 : Sys2Proof.Machine.State} (hx1 : Evolves a x1) : EvolvesO a (execSuspectClear x0 x1) := by
  unfold execSuspectClear
  refine State.woRow_ev ?_ ?_
  · exact hx1
  · intro z1 z2 z3 h_z1
    refine State.woSuspectClear_ev ?_
    exact h_z1

end Sys2Proof.Machine
end

