-- ==== Sys2Proof/Laws/KeepTraffic.lean ====
section
/-!
SUPPORT. Every function of Machine/Traffic.lean that answers a state keeps what `Evolves` names.
-/

namespace Sys2Proof.Machine

set_option linter.all false

theorem State.setGate_ev {a : State} {x0 : Sys2Proof.Machine.State} {x1 : ℕ} {x2 : Sys2Proof.Machine.Gate} (hx0 : Evolves a x0) : Evolves a (State.setGate x0 x1 x2) := by
  unfold State.setGate
  refine Evolves.mk' ?_ rfl
  exact hx0

theorem State.popItem_ev {a : State} {x0 : Sys2Proof.Machine.State} {x1 : ℕ} {x2 : ℕ} (hx0 : Evolves a x0) : Evolves a (State.popItem x0 x1 x2) := by
  unfold State.popItem
  extract_lets -merge -useContext +onlyGivenNames v1
  extract_lets -merge -useContext +onlyGivenNames v2
  extract_lets -merge -useContext +onlyGivenNames v3
  refine State.bumpFlow_ev ?_
  refine State.setFlow_ev ?_
  exact hx0

theorem State.putService_ev {a : State} {x0 : Sys2Proof.Machine.State} {x1 : ℕ} {x2 : ℕ} {x3 : ℕ} (hx0 : Evolves a x0) : Evolves a (State.putService x0 x1 x2 x3) := by
  unfold State.putService
  extract_lets -merge -useContext +onlyGivenNames v1
  extract_lets -merge -useContext +onlyGivenNames v2
  extract_lets -merge -useContext +onlyGivenNames v3
  have h_v3 : Evolves a v3 := by
    unfold v3
    refine State.setService_ev ?_
    exact hx0
  try clear_value v3
  refine Evolves.ite ?_ ?_
  · refine State.bump_ev ?_
    exact h_v3
  · exact h_v3

theorem State.sampleDepth_ev {a : State} {x0 : Sys2Proof.Machine.State} {x1 : ℕ} {x2 : ℕ} (hx0 : Evolves a x0) : Evolves a (State.sampleDepth x0 x1 x2) := by
  unfold State.sampleDepth
  split
  · extract_lets -merge -useContext +onlyGivenNames v1
    extract_lets -merge -useContext +onlyGivenNames v2
    extract_lets -merge -useContext +onlyGivenNames v3
    refine Evolves.mk' ?_ rfl
    exact hx0

theorem State.sendItem_ev {a : State} {x0 : Sys2Proof.Machine.State} {x1 : ℕ} {x2 : Sys2Proof.Machine.Item} (hx0 : Evolves a x0) : Evolves a (State.sendItem x0 x1 x2) := by
  unfold State.sendItem
  extract_lets -merge -useContext +onlyGivenNames v1
  split
  · extract_lets -merge -useContext +onlyGivenNames v2
    extract_lets -merge -useContext +onlyGivenNames v3
    extract_lets -merge -useContext +onlyGivenNames v4
    extract_lets -merge -useContext +onlyGivenNames v5
    extract_lets -merge -useContext +onlyGivenNames v6
    refine State.sentMsg_ev ?_
    refine State.emit_ev ?_
    refine State.setPort_ev ?_
    exact hx0
  · refine State.emit_ev ?_
    refine State.charge_ev ?_
    refine State.countBytes_ev ?_
    exact hx0
  · refine State.emit_ev ?_
    refine State.countBytes_ev ?_
    exact hx0
  · refine State.emit_ev ?_
    exact hx0

theorem State.serveFrame_ev {a : State} {x0 : Sys2Proof.Machine.State} {x1 : ℕ} {x2 : Sys2Proof.Bytes} (hx0 : Evolves a x0) : Evolves a (State.serveFrame x0 x1 x2) := by
  unfold State.serveFrame
  extract_lets -merge -useContext +onlyGivenNames v1
  refine State.queueReq_ev ?_
  exact hx0

theorem execAnnounce_ev {a : State} {x0 : Sys2Proof.Machine.State} (hx0 : Evolves a x0) : EvolvesO a (execAnnounce x0) := by
  unfold execAnnounce
  refine EvolvesO.ite ?_ ?_
  · refine EvolvesO.next ?_
    exact hx0
  · split
    · rename_i y1 s2 heq
      have h_s2 : Evolves a s2 := by
        refine Evolves.sndEq (by assumption) ?_
        refine State.draw_ev ?_
        exact hx0
      extract_lets -merge -useContext +onlyGivenNames v3
      extract_lets -merge -useContext +onlyGivenNames v4
      extract_lets -merge -useContext +onlyGivenNames v5
      extract_lets -merge -useContext +onlyGivenNames v6
      have h_v6 : Evolves a v6 := by
        unfold v6
        refine Evolves.mk' ?_ rfl
        exact h_s2
      try clear_value v6
      refine EvolvesO.next ?_
      refine State.enqueue_ev ?_
      exact h_v6

theorem execDepthSample_ev {a : State} {x0 : Sys2Proof.Machine.State} (hx0 : Evolves a x0) : EvolvesO a (execDepthSample x0) := by
  unfold execDepthSample
  refine EvolvesO.ite ?_ ?_
  · refine EvolvesO.next ?_
    exact hx0
  · extract_lets -merge -useContext +onlyGivenNames v1
    extract_lets -merge -useContext +onlyGivenNames v2
    have h_v2 : Evolves a v2 := by
      unfold v2
      refine Evolves.mk' ?_ rfl
      exact hx0
    try clear_value v2
    refine EvolvesO.next ?_
    refine Evolves.foldl (fun t3 x4 h_t3 => ?_) ?_
    · refine Evolves.foldl (fun t5 x6 h_t5 => ?_) ?_
      · refine State.sampleDepth_ev ?_
        exact h_t5
      · exact h_t3
    · exact h_v2

theorem execEgressSelect_ev {a : State} {x0 : ℕ} {x1 : Sys2Proof.Machine.State} (hx1 : Evolves a x1) : EvolvesO a (execEgressSelect x0 x1) := by
  unfold execEgressSelect
  refine EvolvesO.ite ?_ ?_
  · exact EvolvesO.fault
  · extract_lets -merge -useContext +onlyGivenNames v1
    refine EvolvesO.ite ?_ ?_
    · refine EvolvesO.next ?_
      exact hx1
    · extract_lets -merge -useContext +onlyGivenNames v2
      extract_lets -merge -useContext +onlyGivenNames v3
      extract_lets -merge -useContext +onlyGivenNames v4
      have h_v4 : Evolves a v4 := by
        unfold v4
        refine State.bumpNode_ev ?_
        refine State.setGate_ev ?_
        exact hx1
      try clear_value v4
      extract_lets -merge -useContext +onlyGivenNames v5
      try clear_value v5
      split
      · refine EvolvesO.next ?_
        exact h_v4
      · extract_lets -merge -useContext +onlyGivenNames v6
        extract_lets -merge -useContext +onlyGivenNames v7
        extract_lets -merge -useContext +onlyGivenNames v8
        extract_lets -merge -useContext +onlyGivenNames v9
        extract_lets -merge -useContext +onlyGivenNames v10
        split
        · refine EvolvesO.next ?_
          exact h_v4
        · split
          · refine EvolvesO.next ?_
            exact h_v4
          · extract_lets -merge -useContext +onlyGivenNames v11
            have h_v11 : Evolves a v11 := by
              unfold v11
              refine Evolves.foldl (fun t12 x13 h_t12 => ?_) ?_
              · refine State.setService_ev ?_
                exact h_t12
              · exact h_v4
            try clear_value v11
            extract_lets -merge -useContext +onlyGivenNames v14
            have h_v14 : Evolves a v14 := by
              unfold v14
              refine Evolves.foldl (fun t15 x16 h_t15 => ?_) ?_
              · refine State.setFlow_ev ?_
                exact h_t15
              · exact h_v11
            try clear_value v14
            extract_lets -merge -useContext +onlyGivenNames v17
            have h_v17 : Evolves a v17 := by
              unfold v17
              refine State.popItem_ev ?_
              exact h_v14
            try clear_value v17
            extract_lets -merge -useContext +onlyGivenNames v18
            have h_v18 : Evolves a v18 := by
              unfold v18
              refine State.putService_ev ?_
              exact h_v17
            try clear_value v18
            extract_lets -merge -useContext +onlyGivenNames v19
            have h_v19 : Evolves a v19 := by
              unfold v19
              refine Evolves.ite ?_ ?_
              · refine State.bumpNode_ev ?_
                exact h_v18
              · exact h_v18
            try clear_value v19
            extract_lets -merge -useContext +onlyGivenNames v20
            extract_lets -merge -useContext +onlyGivenNames v21
            have h_v21 : Evolves a v21 := by
              unfold v21
              refine State.setGate_ev ?_
              exact h_v19
            try clear_value v21
            refine EvolvesO.next ?_
            refine State.sendItem_ev ?_
            exact h_v21

theorem execFieldFrame_ev {a : State} {x0 : Sys2Proof.Bytes} {x1 : Bool} {x2 : Sys2Proof.Machine.State} (hx2 : Evolves a x2) : EvolvesO a (execFieldFrame x0 x1 x2) := by
  unfold execFieldFrame
  refine EvolvesO.ite ?_ ?_
  · refine EvolvesO.next ?_
    exact hx2
  · extract_lets -merge -useContext +onlyGivenNames v1
    have h_v1 : Evolves a v1 := by
      unfold v1
      refine State.countBytes_ev ?_
      exact hx2
    try clear_value v1
    extract_lets -merge -useContext +onlyGivenNames v2
    extract_lets -merge -useContext +onlyGivenNames v3
    extract_lets -merge -useContext +onlyGivenNames v4
    extract_lets -merge -useContext +onlyGivenNames v5
    extract_lets -merge -useContext +onlyGivenNames v6
    refine EvolvesO.ite ?_ ?_
    · refine EvolvesO.next ?_
      refine State.bumpNode_ev ?_
      exact h_v1
    · refine EvolvesO.ite ?_ ?_
      · refine EvolvesO.next ?_
        refine State.bumpNode_ev ?_
        exact h_v1
      · refine EvolvesO.ite ?_ ?_
        · refine EvolvesO.next ?_
          refine State.bumpNode_ev ?_
          exact h_v1
        · extract_lets -merge -useContext +onlyGivenNames v7
          extract_lets -merge -useContext +onlyGivenNames v8
          have h_v8 : ∀ z9, Evolves a z9 → Evolves a (v8 z9) := by
            intro z9 h_z9
            unfold v8
            refine State.setFlow_ev ?_
            exact h_z9
          try clear_value v8
          refine EvolvesO.ite ?_ ?_
          · refine EvolvesO.next ?_
            refine h_v8 _ ?_
            exact h_v1
          · split
            · rename_i s10 heq
              have h_s10 : Evolves a s10 := by
                refine EvolvesQ.eq (by assumption) ?_
                refine State.release_ev ?_
                exact h_v1
              refine EvolvesO.next ?_
              refine State.serveFrame_ev ?_
              exact h_s10
            · refine EvolvesO.next ?_
              refine h_v8 _ ?_
              exact h_v1

theorem execGateEntry_ev {a : State} {x0 : ℕ} {x1 : Sys2Proof.Machine.State} (hx1 : Evolves a x1) : EvolvesO a (execGateEntry x0 x1) := by
  unfold execGateEntry
  refine EvolvesO.ite ?_ ?_
  · exact EvolvesO.fault
  · extract_lets -merge -useContext +onlyGivenNames v1
    extract_lets -merge -useContext +onlyGivenNames v2
    extract_lets -merge -useContext +onlyGivenNames v3
    refine EvolvesO.ite ?_ ?_
    · refine EvolvesO.next ?_
      refine State.setGate_ev ?_
      exact hx1
    · refine EvolvesO.next ?_
      exact hx1

theorem execShaperRelease_ev {a : State} {x0 : ℕ} {x1 : Sys2Proof.Machine.State} (hx1 : Evolves a x1) : EvolvesO a (execShaperRelease x0 x1) := by
  unfold execShaperRelease
  refine EvolvesO.ite ?_ ?_
  · exact EvolvesO.fault
  · refine EvolvesO.ite ?_ ?_
    · extract_lets -merge -useContext +onlyGivenNames v1
      refine EvolvesO.ite ?_ ?_
      · split
        · rename_i s2 heq
          have h_s2 : Evolves a s2 := by
            refine EvolvesQ.eq (by assumption) ?_
            refine State.release_ev ?_
            exact hx1
          refine EvolvesO.next ?_
          refine State.setSubs_ev ?_
          exact h_s2
        · refine EvolvesO.next ?_
          exact hx1
      · refine EvolvesO.next ?_
        exact hx1
    · refine EvolvesO.ite ?_ ?_
      · split
        · refine EvolvesO.next ?_
          exact hx1
        · split
          · rename_i s3 heq
            have h_s3 : Evolves a s3 := by
              refine EvolvesQ.eq (by assumption) ?_
              refine State.release_ev ?_
              exact hx1
            refine EvolvesO.next ?_
            refine State.arrive_ev ?_
            refine Evolves.mk' ?_ rfl
            exact h_s3
          · refine EvolvesO.next ?_
            exact hx1
      · split
        · refine EvolvesO.next ?_
          exact hx1
        · split
          · refine EvolvesO.next ?_
            exact hx1
          · rename_i s4 heq
            have h_s4 : Evolves a s4 := by
              refine EvolvesQ.eq (by assumption) ?_
              refine State.release_ev ?_
              exact hx1
            split
            · refine EvolvesO.next ?_
              refine State.serveFrame_ev ?_
              refine State.setFlow_ev ?_
              exact h_s4
            · refine EvolvesO.next ?_
              refine State.setFlow_ev ?_
              exact h_s4

theorem execTmSample_ev {a : State} {x0 : ℕ} {x1 : Sys2Proof.Machine.State} (hx1 : Evolves a x1) : EvolvesO a (execTmSample x0 x1) := by
  unfold execTmSample
  refine EvolvesO.ite ?_ ?_
  · exact EvolvesO.fault
  · refine EvolvesO.ite ?_ ?_
    · refine EvolvesO.next ?_
      exact hx1
    · extract_lets -merge -useContext +onlyGivenNames v1
      extract_lets -merge -useContext +onlyGivenNames v2
      extract_lets -merge -useContext +onlyGivenNames v3
      extract_lets -merge -useContext +onlyGivenNames v4
      have h_v4 : Evolves a v4 := by
        unfold v4
        refine Evolves.ite ?_ ?_
        · exact hx1
        · refine Evolves.foldl (fun t5 x6 h_t5 => ?_) ?_
          · extract_lets -merge -useContext +onlyGivenNames v7
            extract_lets -merge -useContext +onlyGivenNames v8
            have h_v8 : Evolves a v8 := by
              unfold v8
              refine Evolves.ite ?_ ?_
              · refine State.bump_ev ?_
                exact h_t5
              · exact h_t5
            try clear_value v8
            extract_lets -merge -useContext +onlyGivenNames v9
            have h_v9 : Evolves a v9 := by
              unfold v9
              refine State.storeBytes_ev ?_
              exact h_v8
            try clear_value v9
            refine Evolves.mk' ?_ rfl
            exact h_v9
          · exact hx1
      try clear_value v4
      extract_lets -merge -useContext +onlyGivenNames v10
      refine EvolvesO.next ?_
      refine Evolves.mk' ?_ rfl
      exact h_v4

end Sys2Proof.Machine
end

