-- ==== Sys2Proof/Laws/KeepViews.lean ====
section
/-!
SUPPORT. Every function of Machine/Views.lean that answers a state keeps what `Evolves` names.
-/

namespace Sys2Proof.Machine

set_option linter.all false

theorem State.putSet_ev {a : State} {x0 : Sys2Proof.Machine.State} {x1 : ℕ} {x2 : Sys2Proof.Machine.StageSet} (hx0 : Evolves a x0) : Evolves a (State.putSet x0 x1 x2) := by
  unfold State.putSet
  refine Evolves.mk' ?_ rfl
  exact hx0

end Sys2Proof.Machine
end

