-- ==== Sys2Proof/Laws/KeepApply.lean ====
section
/-!
SUPPORT. Every function of Machine/Apply.lean that answers a state keeps what `Evolves` names.
-/

namespace Sys2Proof.Machine

set_option linter.all false

theorem State.applyProfile_ev {a : State} {x0 : Sys2Proof.Machine.State} (hx0 : Evolves a x0) : Evolves a (State.applyProfile x0) := by
  unfold State.applyProfile
  refine Evolves.ite ?_ ?_
  · exact hx0
  · refine State.trainPorts_ev ?_
    refine Evolves.mk' ?_ rfl
    exact hx0

theorem State.newFlashSeq_ev {a : State} {x0 : Sys2Proof.Machine.State} {x1 : Sys2Proof.Machine.Dict} (hx0 : Evolves a x0) : Evolves a (State.newFlashSeq x0 x1) := by
  unfold State.newFlashSeq
  extract_lets -merge -useContext +onlyGivenNames v1
  have h_v1 : Evolves a v1 := by
    unfold v1
    refine State.extendMr_ev ?_
    exact hx0
  try clear_value v1
  refine Evolves.foldl (fun t2 x3 h_t2 => ?_) ?_
  · refine Evolves.ite ?_ ?_
    · refine Evolves.mk' ?_ rfl
      exact h_t2
    · exact h_t2
  · exact h_v1

theorem State.serviceEdit_ev {a : State} {x0 : Sys2Proof.Machine.State} {x1 : ℕ} {x2 : ℕ} (hx0 : Evolves a x0) : Evolves a (State.serviceEdit x0 x1 x2) := by
  unfold State.serviceEdit
  extract_lets -merge -useContext +onlyGivenNames v1
  extract_lets -merge -useContext +onlyGivenNames v2
  extract_lets -merge -useContext +onlyGivenNames v3
  refine State.setService_ev ?_
  exact hx0

theorem State.flowEdit_ev {a : State} {x0 : Sys2Proof.Machine.State} {x1 : ℕ} {x2 : ℕ} (hx0 : Evolves a x0) : Evolves a (State.flowEdit x0 x1 x2) := by
  unfold State.flowEdit
  extract_lets -merge -useContext +onlyGivenNames v1
  extract_lets -merge -useContext +onlyGivenNames v2
  extract_lets -merge -useContext +onlyGivenNames v3
  refine State.setFlow_ev ?_
  exact hx0

theorem State.tmEdits_ev {a : State} {x0 : Sys2Proof.Machine.State} {x1 : ℕ} {x2 : ℕ → Bool} (hx0 : Evolves a x0) : Evolves a (State.tmEdits x0 x1 x2) := by
  unfold State.tmEdits
  extract_lets -merge -useContext +onlyGivenNames v1
  extract_lets -merge -useContext +onlyGivenNames v2
  have h_v2 : Evolves a v2 := by
    unfold v2
    refine Evolves.ite ?_ ?_
    · refine Evolves.foldl (fun t3 x4 h_t3 => ?_) ?_
      · refine State.serviceEdit_ev ?_
        exact h_t3
      · exact hx0
    · exact hx0
  try clear_value v2
  refine Evolves.ite ?_ ?_
  · refine Evolves.foldl (fun t5 x6 h_t5 => ?_) ?_
    · refine State.flowEdit_ev ?_
      exact h_t5
    · exact h_v2
  · exact h_v2

theorem State.dropFlows_ev {a : State} {x0 : Sys2Proof.Machine.State} {x1 : ℕ} (hx0 : Evolves a x0) : Evolves a (State.dropFlows x0 x1) := by
  unfold State.dropFlows
  refine State.rejectSubs_ev ?_
  exact hx0

theorem State.newGate_ev {a : State} {x0 : Sys2Proof.Machine.State} {x1 : ℕ} {x2 : Sys2Proof.Bytes} (hx0 : Evolves a x0) : Evolves a (State.newGate x0 x1 x2) := by
  unfold State.newGate
  extract_lets -merge -useContext +onlyGivenNames v1
  refine State.setGate_ev ?_
  exact hx0

theorem State.newCredits_ev {a : State} {x0 : Sys2Proof.Machine.State} {x1 : Sys2Proof.Machine.Dict} (hx0 : Evolves a x0) : Evolves a (State.newCredits x0 x1) := by
  unfold State.newCredits
  refine Evolves.foldl (fun t1 x2 h_t1 => ?_) ?_
  · refine State.modPort_ev ?_
    exact h_t1
  · exact hx0

theorem State.newCounters_ev {a : State} {x0 : Sys2Proof.Machine.State} {x1 : Sys2Proof.Machine.Dict} (hx0 : Evolves a x0) : Evolves a (State.newCounters x0 x1) := by
  unfold State.newCounters
  extract_lets -merge -useContext +onlyGivenNames v1
  extract_lets -merge -useContext +onlyGivenNames v2
  extract_lets -merge -useContext +onlyGivenNames v3
  extract_lets -merge -useContext +onlyGivenNames v4
  refine Evolves.mk' ?_ rfl
  exact hx0

theorem State.nodeEffects_ev {a : State} {x0 : Sys2Proof.Machine.State} {x1 : Sys2Proof.Machine.Dict} {x2 : ℕ → Bool} (hx0 : Evolves a x0) : Evolves a (State.nodeEffects x0 x1 x2) := by
  unfold State.nodeEffects
  extract_lets -merge -useContext +onlyGivenNames v1
  have h_v1 : Evolves a v1 := by
    unfold v1
    refine Evolves.ite ?_ ?_
    · refine State.newFlashSeq_ev ?_
      exact hx0
    · exact hx0
  try clear_value v1
  extract_lets -merge -useContext +onlyGivenNames v2
  have h_v2 : Evolves a v2 := by
    unfold v2
    refine State.tmEdits_ev ?_
    exact h_v1
  try clear_value v2
  extract_lets -merge -useContext +onlyGivenNames v3
  have h_v3 : Evolves a v3 := by
    unfold v3
    refine Evolves.foldl (fun t4 x5 h_t4 => ?_) ?_
    · refine State.dropFlows_ev ?_
      exact h_t4
    · exact h_v2
  try clear_value v3
  extract_lets -merge -useContext +onlyGivenNames v6
  have h_v6 : Evolves a v6 := by
    unfold v6
    refine Evolves.foldl (fun t7 x8 h_t7 => ?_) ?_
    · refine Evolves.ite ?_ ?_
      · refine State.newGate_ev ?_
        exact h_t7
      · exact h_t7
    · exact h_v3
  try clear_value v6
  extract_lets -merge -useContext +onlyGivenNames v9
  have h_v9 : Evolves a v9 := by
    unfold v9
    refine Evolves.ite ?_ ?_
    · refine State.newCredits_ev ?_
      exact h_v6
    · exact h_v6
  try clear_value v9
  extract_lets -merge -useContext +onlyGivenNames v10
  have h_v10 : Evolves a v10 := by
    unfold v10
    refine Evolves.ite ?_ ?_
    · refine State.newCounters_ev ?_
      exact h_v9
    · exact h_v9
  try clear_value v10
  extract_lets -merge -useContext +onlyGivenNames v11
  have h_v11 : Evolves a v11 := by
    unfold v11
    refine Evolves.ite ?_ ?_
    · refine State.emptySamples_ev ?_
      exact h_v10
    · exact h_v10
  try clear_value v11
  extract_lets -merge -useContext +onlyGivenNames v12
  extract_lets -merge -useContext +onlyGivenNames v13
  have h_v13 : Evolves a v13 := by
    unfold v13
    refine Evolves.ite ?_ ?_
    · refine Evolves.mk' ?_ rfl
      exact h_v11
    · exact h_v11
  try clear_value v13
  extract_lets -merge -useContext +onlyGivenNames v14
  have h_v14 : Evolves a v14 := by
    unfold v14
    refine Evolves.ite ?_ ?_
    · refine State.bindApply_ev ?_
      exact h_v13
    · exact h_v13
  try clear_value v14
  refine Evolves.ite ?_ ?_
  · refine State.applyProfile_ev ?_
    exact h_v14
  · exact h_v14

theorem State.dirtyNew_ev {a : State} {x0 : Sys2Proof.Machine.State} {x1 : Sys2Proof.Machine.Dict} {x2 : Sys2Proof.Machine.Dict} {x3 : ℕ} (hx0 : Evolves a x0) : Evolves a (State.dirtyNew x0 x1 x2 x3) := by
  unfold State.dirtyNew
  refine Evolves.foldl (fun t1 x2 h_t1 => ?_) ?_
  · extract_lets -merge -useContext +onlyGivenNames v3
    extract_lets -merge -useContext +onlyGivenNames v4
    refine Evolves.mkMem ?_ (fun hm => ?_) rfl
    · exact h_t1
    · first | exact hm | exact mw_writeWordEq (by assumption) hm | exact mw_writeWord hm | exact mw_poisonWord hm | exact mw_clear hm | exact mw_clearRegion hm | exact mw_copyRegion hm | exact mw_putGroup hm | exact mw_putWords hm | exact mw_foldl (fun _ _ h => mw_poisonWord h) hm
  · exact hx0

theorem State.takeBack_ev {a : State} {x0 : Sys2Proof.Machine.State} {x1 : Sys2Proof.Machine.Dict} {x2 : Sys2Proof.Machine.Dict} {x3 : ℕ} (hx0 : Evolves a x0) : Evolves a (State.takeBack x0 x1 x2 x3) := by
  unfold State.takeBack
  dsimp only
  refine Evolves.foldl (fun t x h => State.setUnit_ev h) ?_
  refine Evolves.mkMem hx0 (fun hm => ?_) rfl
  exact mw_foldl (fun _ _ h => mw_clear h) (mw_foldl (fun _ _ h => mw_clear h) hm)

theorem State.syncTake_ev {a : State} {x0 : Sys2Proof.Machine.State} {x1 : ℕ} (hx0 : Evolves a x0) : Evolves a (State.syncTake x0 x1) := by
  unfold State.syncTake
  extract_lets -merge -useContext +onlyGivenNames v1
  refine Evolves.foldl (fun t2 x3 h_t2 => ?_) ?_
  · extract_lets -merge -useContext +onlyGivenNames v4
    extract_lets -merge -useContext +onlyGivenNames v5
    extract_lets -merge -useContext +onlyGivenNames v6
    extract_lets -merge -useContext +onlyGivenNames v7
    refine State.setSync_ev ?_
    exact h_t2
  · exact hx0

theorem State.newRings_ev {a : State} {x0 : Sys2Proof.Machine.State} {x1 : ℕ} {x2 : Sys2Proof.Machine.Dict} (hx0 : Evolves a x0) : Evolves a (State.newRings x0 x1 x2) := by
  unfold State.newRings
  extract_lets -merge -useContext +onlyGivenNames v1
  extract_lets -merge -useContext +onlyGivenNames v2
  have h_v2 : Evolves a v2 := by
    unfold v2
    refine Evolves.ite ?_ ?_
    · refine State.modInset_ev ?_
      exact hx0
    · exact hx0
  try clear_value v2
  extract_lets -merge -useContext +onlyGivenNames v3
  have h_v3 : Evolves a v3 := by
    unfold v3
    refine Evolves.ite ?_ ?_
    · refine State.modInset_ev ?_
      exact h_v2
    · exact h_v2
  try clear_value v3
  refine Evolves.ite ?_ ?_
  · refine Evolves.mk' ?_ rfl
    exact h_v3
  · exact h_v3

theorem State.keepLayers_ev {a : State} {x0 : Sys2Proof.Machine.State} {x1 : ℕ} (hx0 : Evolves a x0) : Evolves a (State.keepLayers x0 x1) := by
  unfold State.keepLayers
  extract_lets -merge -useContext +onlyGivenNames v1
  refine State.modInset_ev ?_
  exact hx0

theorem State.newStreams_ev {a : State} {x0 : Sys2Proof.Machine.State} {x1 : ℕ} {x2 : ℕ → Bool} (hx0 : Evolves a x0) : Evolves a (State.newStreams x0 x1 x2) := by
  unfold State.newStreams
  extract_lets -merge -useContext +onlyGivenNames v1
  have h_v1 : Evolves a v1 := by
    unfold v1
    refine Evolves.foldl (fun t2 x3 h_t2 => ?_) ?_
    · refine Evolves.ite ?_ ?_
      · refine State.modInset_ev ?_
        exact h_t2
      · exact h_t2
    · exact hx0
  try clear_value v1
  refine Evolves.ite ?_ ?_
  · refine State.modInset_ev ?_
    exact h_v1
  · exact h_v1

theorem State.insetEffects_ev {a : State} {x0 : Sys2Proof.Machine.State} {x1 : Sys2Proof.Machine.Dict} {x2 : ℕ} {x3 : ℕ → Bool} (hx0 : Evolves a x0) : Evolves a (State.insetEffects x0 x1 x2 x3) := by
  unfold State.insetEffects
  extract_lets -merge -useContext +onlyGivenNames v1
  extract_lets -merge -useContext +onlyGivenNames v2
  have h_v2 : Evolves a v2 := by
    unfold v2
    refine State.dirtyNew_ev ?_
    refine State.takeBack_ev ?_
    exact hx0
  try clear_value v2
  extract_lets -merge -useContext +onlyGivenNames v3
  have h_v3 : Evolves a v3 := by
    unfold v3
    refine Evolves.ite ?_ ?_
    · refine State.syncTake_ev ?_
      exact h_v2
    · exact h_v2
  try clear_value v3
  extract_lets -merge -useContext +onlyGivenNames v4
  have h_v4 : Evolves a v4 := by
    unfold v4
    refine State.dropFlows_ev ?_
    refine State.tmEdits_ev ?_
    exact h_v3
  try clear_value v4
  extract_lets -merge -useContext +onlyGivenNames v5
  have h_v5 : Evolves a v5 := by
    unfold v5
    refine State.newRings_ev ?_
    exact h_v4
  try clear_value v5
  extract_lets -merge -useContext +onlyGivenNames v6
  have h_v6 : Evolves a v6 := by
    unfold v6
    refine Evolves.ite ?_ ?_
    · refine State.keepLayers_ev ?_
      exact h_v5
    · exact h_v5
  try clear_value v6
  extract_lets -merge -useContext +onlyGivenNames v7
  have h_v7 : Evolves a v7 := by
    unfold v7
    refine Evolves.ite ?_ ?_
    · refine State.extendMr6_ev ?_
      exact h_v6
    · exact h_v6
  try clear_value v7
  refine State.newStreams_ev ?_
  exact h_v7

theorem State.applySet_ev {a : State} {x0 : Sys2Proof.Machine.State} {x1 : ℕ} (hx0 : Evolves a x0) : Evolves a (State.applySet x0 x1) := by
  unfold State.applySet
  extract_lets -merge -useContext +onlyGivenNames v1
  extract_lets -merge -useContext +onlyGivenNames v2
  extract_lets -merge -useContext +onlyGivenNames v3
  split
  · extract_lets -merge -useContext +onlyGivenNames v4
    have h_v4 : Evolves a v4 := by
      unfold v4
      refine State.putSet_ev ?_
      exact hx0
    try clear_value v4
    extract_lets -merge -useContext +onlyGivenNames v5
    extract_lets -merge -useContext +onlyGivenNames v6
    have h_v6 : Evolves a v6 := by
      unfold v6
      refine Evolves.mk' ?_ rfl
      exact h_v4
    try clear_value v6
    refine Evolves.ite ?_ ?_
    · refine State.nodeEvent_ev ?_
      exact h_v6
    · refine State.event_ev ?_
      exact h_v6
  · extract_lets -merge -useContext +onlyGivenNames v7
    extract_lets -merge -useContext +onlyGivenNames v8
    have h_v8 : Evolves a v8 := by
      unfold v8
      refine Evolves.mk' ?_ rfl
      exact hx0
    try clear_value v8
    extract_lets -merge -useContext +onlyGivenNames v9
    refine Evolves.ite ?_ ?_
    · refine State.nodeEffects_ev ?_
      exact h_v8
    · refine State.insetEffects_ev ?_
      exact h_v8

theorem State.enterSheet_ev {a : State} {x0 : Sys2Proof.Machine.State} {x1 : ℕ} (hx0 : Evolves a x0) : Evolves a (State.enterSheet x0 x1) := by
  unfold State.enterSheet
  extract_lets -merge -useContext +onlyGivenNames v1
  extract_lets -merge -useContext +onlyGivenNames v2
  extract_lets -merge -useContext +onlyGivenNames v3
  have h_v3 : Evolves a v3 := by
    unfold v3
    refine State.modInset_ev ?_
    exact hx0
  try clear_value v3
  refine Evolves.ite ?_ ?_
  · exact h_v3
  · refine State.setNum_ev ?_
    exact h_v3

end Sys2Proof.Machine
end

