-- ==== Sys2Proof/Laws/KeepMeridian.lean ====
section
/-!
SUPPORT. Every function of Machine/Meridian.lean that answers a state keeps what `Evolves` names.
-/

namespace Sys2Proof.Machine

set_option linter.all false

theorem State.becomeMaster_ev {a : State} {x0 : Sys2Proof.Machine.State} (hx0 : Evolves a x0) : Evolves a (State.becomeMaster x0) := by
  unfold State.becomeMaster
  extract_lets -merge -useContext +onlyGivenNames v1
  extract_lets -merge -useContext +onlyGivenNames v2
  have h_v2 : Evolves a v2 := by
    unfold v2
    refine Evolves.mk' ?_ rfl
    exact hx0
  try clear_value v2
  refine State.setNum_ev ?_
  exact h_v2

theorem State.useDone_ev {a : State} {x0 : Sys2Proof.Machine.State} {x1 : ℕ} (hx0 : Evolves a x0) : Evolves a (State.useDone x0 x1) := by
  unfold State.useDone
  refine Evolves.mk' ?_ rfl
  exact hx0

theorem State.declareDatum_ev {a : State} {x0 : Sys2Proof.Machine.State} {x1 : ℕ} {x2 : ℕ} (hx0 : Evolves a x0) : Evolves a (State.declareDatum x0 x1 x2).1 := by
  unfold State.declareDatum
  extract_lets -merge -useContext +onlyGivenNames v1
  have h_v1 : Evolves a v1 := by
    unfold v1
    refine State.useDone_ev ?_
    exact hx0
  try clear_value v1
  refine Evolves.pair1 ?_
  refine Evolves.mk' ?_ rfl
  exact h_v1

theorem State.seqMismatch_ev {a : State} {x0 : Sys2Proof.Machine.State} {x1 : ℕ} {x2 : List ℕ} (hx0 : Evolves a x0) : Evolves a (State.seqMismatch x0 x1 x2) := by
  unfold State.seqMismatch
  extract_lets -merge -useContext +onlyGivenNames v1
  have h_v1 : Evolves a v1 := by
    unfold v1
    refine State.useDone_ev ?_
    exact hx0
  try clear_value v1
  extract_lets -merge -useContext +onlyGivenNames v2
  extract_lets -merge -useContext +onlyGivenNames v3
  have h_v3 : Evolves a v3 := by
    unfold v3
    refine Evolves.mk' ?_ rfl
    exact h_v1
  try clear_value v3
  refine Evolves.foldl (fun t4 x5 h_t4 => ?_) ?_
  · refine Evolves.ite ?_ ?_
    · split
      · refine State.event_ev ?_
        exact h_t4
      · exact h_t4
    · refine State.sendCtl_ev ?_
      exact h_t4
  · exact h_v3

theorem State.declareTag_ev {a : State} {x0 : Sys2Proof.Machine.State} {x1 : ℕ} {x2 : ℕ} {x3 : List ℕ} (hx0 : Evolves a x0) : Evolves a (State.declareTag x0 x1 x2 x3).1 := by
  unfold State.declareTag
  extract_lets -merge -useContext +onlyGivenNames v1
  extract_lets -merge -useContext +onlyGivenNames v2
  try clear_value v2
  split
  · refine State.declareDatum_ev ?_
    exact hx0
  · extract_lets -merge -useContext +onlyGivenNames v3
    try clear_value v3
    split
    · refine Evolves.pair1 ?_
      exact hx0
    · refine Evolves.pair1 ?_
      exact hx0
    · refine Evolves.ite1 ?_ ?_
      · refine Evolves.pair1 ?_
        exact hx0
      · refine Evolves.ite1 ?_ ?_
        · refine Evolves.pair1 ?_
          exact hx0
        · refine Evolves.ite1 ?_ ?_
          · refine Evolves.pair1 ?_
            refine State.seqMismatch_ev ?_
            exact hx0
          · refine State.declareDatum_ev ?_
            exact hx0

theorem State.declareAll_ev {a : State} {x0 : Sys2Proof.Machine.State} {x1 : ℕ} {x2 : List (ℕ × List ℕ)} (hx0 : Evolves a x0) : Evolves a (State.declareAll x0 x1 x2).1 := by
  unfold State.declareAll
  refine Evolves.foldl1 (fun t1 x2 h_t1 => ?_) ?_
  · split
    · rename_i s3 y4 heq
      have h_s3 : Evolves a s3 := by
        refine Evolves.fstEq (by assumption) ?_
        refine State.declareTag_ev ?_
        exact h_t1
      refine Evolves.pair1 ?_
      exact h_s3
  · refine Evolves.pair1 ?_
    exact hx0

theorem State.flood_ev {a : State} {x0 : Sys2Proof.Machine.State} {x1 : Option ℕ} {x2 : ℕ} {x3 : ℕ} {x4 : ℕ} {x5 : ℕ} {x6 : ℕ} {x7 : List Sys2Proof.TagDecl} (hx0 : Evolves a x0) : Evolves a (State.flood x0 x1 x2 x3 x4 x5 x6 x7) := by
  unfold State.flood
  refine Evolves.foldl (fun t1 x2 h_t1 => ?_) ?_
  · refine State.emit_ev ?_
    exact h_t1
  · exact hx0

theorem State.leaveLock_ev {a : State} {x0 : Sys2Proof.Machine.State} {x1 : ℕ} (hx0 : Evolves a x0) : Evolves a (State.leaveLock x0 x1) := by
  unfold State.leaveLock
  extract_lets -merge -useContext +onlyGivenNames v1
  have h_v1 : Evolves a v1 := by
    unfold v1
    refine State.setNum_ev ?_
    exact hx0
  try clear_value v1
  extract_lets -merge -useContext +onlyGivenNames v2
  extract_lets -merge -useContext +onlyGivenNames v3
  have h_v3 : Evolves a v3 := by
    unfold v3
    refine Evolves.mk' ?_ rfl
    exact h_v1
  try clear_value v3
  extract_lets -merge -useContext +onlyGivenNames v4
  have h_v4 : Evolves a v4 := by
    unfold v4
    refine Evolves.ite ?_ ?_
    · exact h_v3
    · refine State.nodeEvent_ev ?_
      exact h_v3
  try clear_value v4
  refine Evolves.foldl (fun t5 x6 h_t5 => ?_) ?_
  · extract_lets -merge -useContext +onlyGivenNames v7
    have h_v7 : Evolves a v7 := by
      unfold v7
      refine State.modInset_ev ?_
      exact h_t5
    try clear_value v7
    split
    · refine Evolves.ite ?_ ?_
      · refine State.leaveDomain_ev ?_
        exact h_v7
      · exact h_v7
    · refine State.leaveDomain_ev ?_
      exact h_v7
  · exact h_v4

theorem State.reportAgain_ev {a : State} {x0 : Sys2Proof.Machine.State} (hx0 : Evolves a x0) : Evolves a (State.reportAgain x0) := by
  unfold State.reportAgain
  refine Evolves.foldl (fun t1 x2 h_t1 => ?_) ?_
  · extract_lets -merge -useContext +onlyGivenNames v3
    split
    · refine Evolves.ite ?_ ?_
      · refine State.reportDone_ev ?_
        exact h_t1
      · exact h_t1
    · refine Evolves.ite ?_ ?_
      · refine State.reportDone_ev ?_
        exact h_t1
      · exact h_t1
    · refine State.reportDone_ev ?_
      exact h_t1
    · exact h_t1
  · exact hx0

theorem State.takeMessage_ev {a : State} {x0 : Sys2Proof.Machine.State} {x1 : Sys2Proof.TickIn} (hx0 : Evolves a x0) : Evolves a (State.takeMessage x0 x1) := by
  unfold State.takeMessage
  extract_lets -merge -useContext +onlyGivenNames v1
  extract_lets -merge -useContext +onlyGivenNames v2
  extract_lets -merge -useContext +onlyGivenNames v3
  extract_lets -merge -useContext +onlyGivenNames v4
  have h_v4 : Evolves a v4 := by
    unfold v4
    refine Evolves.mk' ?_ rfl
    exact hx0
  try clear_value v4
  extract_lets -merge -useContext +onlyGivenNames v5
  have h_v5 : Evolves a v5 := by
    unfold v5
    refine State.setNum_ev ?_
    refine State.setNum_ev ?_
    exact h_v4
  try clear_value v5
  refine Evolves.ite ?_ ?_
  · refine State.reportAgain_ev ?_
    exact h_v5
  · exact h_v5

theorem State.hearLocked_ev {a : State} {x0 : Sys2Proof.Machine.State} {x1 : Sys2Proof.TickIn} (hx0 : Evolves a x0) : Evolves a (State.hearLocked x0 x1) := by
  unfold State.hearLocked
  refine Evolves.ite ?_ ?_
  · refine State.leaveLock_ev ?_
    exact hx0
  · refine Evolves.ite ?_ ?_
    · refine State.leaveLock_ev ?_
      exact hx0
    · refine Evolves.ite ?_ ?_
      · refine State.takeMessage_ev ?_
        exact hx0
      · exact hx0

theorem State.relockSets_ev {a : State} {x0 : Sys2Proof.Machine.State} (hx0 : Evolves a x0) : Evolves a (State.relockSets x0) := by
  unfold State.relockSets
  refine Evolves.foldl (fun t1 x2 h_t1 => ?_) ?_
  · extract_lets -merge -useContext +onlyGivenNames v3
    extract_lets -merge -useContext +onlyGivenNames v4
    have h_v4 : Evolves a v4 := by
      unfold v4
      refine State.putSet_ev ?_
      exact h_t1
    try clear_value v4
    refine Evolves.ite ?_ ?_
    · refine State.nodeEvent_ev ?_
      exact h_v4
    · refine State.event_ev ?_
      exact h_v4
  · exact hx0

theorem State.hearUnlocked_ev {a : State} {x0 : Sys2Proof.Machine.State} {x1 : Sys2Proof.TickIn} (hx0 : Evolves a x0) : Evolves a (State.hearUnlocked x0 x1) := by
  unfold State.hearUnlocked
  extract_lets -merge -useContext +onlyGivenNames v1
  extract_lets -merge -useContext +onlyGivenNames v2
  have h_v2 : ∀ z3, Evolves a (v2 z3) := by
    intro z3
    unfold v2
    refine Evolves.mk' ?_ rfl
    exact hx0
  try clear_value v2
  refine Evolves.ite ?_ ?_
  · refine h_v2 _
  · refine Evolves.ite ?_ ?_
    · extract_lets -merge -useContext +onlyGivenNames v4
      have h_v4 : Evolves a v4 := by
        unfold v4
        refine Evolves.ite ?_ ?_
        · refine State.relockSets_ev ?_
          exact hx0
        · exact hx0
      try clear_value v4
      extract_lets -merge -useContext +onlyGivenNames v5
      have h_v5 : Evolves a v5 := by
        unfold v5
        refine State.setNum_ev ?_
        exact h_v4
      try clear_value v5
      refine State.takeMessage_ev ?_
      refine Evolves.mk' ?_ rfl
      exact h_v5
    · refine h_v2 _

theorem State.hearMaster_ev {a : State} {x0 : Sys2Proof.Machine.State} {x1 : Sys2Proof.TickIn} (hx0 : Evolves a x0) : Evolves a (State.hearMaster x0 x1) := by
  unfold State.hearMaster
  split
  · refine Evolves.ite ?_ ?_
    · exact hx0
    · extract_lets -merge -useContext +onlyGivenNames v1
      have h_v1 : Evolves a v1 := by
        unfold v1
        refine State.leaveLock_ev ?_
        exact hx0
      try clear_value v1
      refine State.hearUnlocked_ev ?_
      refine Evolves.mk' ?_ rfl
      exact h_v1
  · exact hx0

theorem execBoundaryMessage_ev {a : State} {x0 : Sys2Proof.TickIn} {x1 : Sys2Proof.Machine.State} (hx1 : Evolves a x1) : EvolvesO a (execBoundaryMessage x0 x1) := by
  unfold execBoundaryMessage
  refine EvolvesO.ite ?_ ?_
  · exact EvolvesO.fault
  · refine EvolvesO.ite ?_ ?_
    · refine EvolvesO.next ?_
      exact hx1
    · refine EvolvesO.ite ?_ ?_
      · refine EvolvesO.next ?_
        refine Evolves.mk' ?_ rfl
        exact hx1
      · refine EvolvesO.ite ?_ ?_
        · refine EvolvesO.next ?_
          exact hx1
        · extract_lets -merge -useContext +onlyGivenNames v1
          extract_lets -merge -useContext +onlyGivenNames v2
          extract_lets -merge -useContext +onlyGivenNames v3
          have h_v3 : Evolves a v3 := by
            unfold v3
            refine Evolves.mk' ?_ rfl
            exact hx1
          try clear_value v3
          extract_lets -merge -useContext +onlyGivenNames v4
          have h_v4 : Evolves a v4 := by
            unfold v4
            refine State.flood_ev ?_
            exact h_v3
          try clear_value v4
          refine EvolvesO.next ?_
          refine Evolves.ite ?_ ?_
          · refine State.hearMaster_ev ?_
            exact h_v4
          · refine Evolves.ite ?_ ?_
            · refine State.hearUnlocked_ev ?_
              exact h_v4
            · refine State.hearLocked_ev ?_
              exact h_v4

theorem execHoldover_ev {a : State} {x0 : Sys2Proof.Machine.State} (hx0 : Evolves a x0) : EvolvesO a (execHoldover x0) := by
  unfold execHoldover
  refine EvolvesO.ite ?_ ?_
  · refine EvolvesO.next ?_
    exact hx0
  · refine EvolvesO.next ?_
    refine State.setNum_ev ?_
    refine Evolves.mk' ?_ rfl
    exact hx0

theorem execMasterFailover_ev {a : State} {x0 : Sys2Proof.Machine.State} (hx0 : Evolves a x0) : EvolvesO a (execMasterFailover x0) := by
  unfold execMasterFailover
  refine EvolvesO.ite ?_ ?_
  · refine EvolvesO.next ?_
    exact hx0
  · refine EvolvesO.next ?_
    refine State.reportAgain_ev ?_
    refine State.nodeEvent_ev ?_
    refine State.becomeMaster_ev ?_
    exact hx0

theorem execMasterWait_ev {a : State} {x0 : Sys2Proof.Machine.State} (hx0 : Evolves a x0) : EvolvesO a (execMasterWait x0) := by
  unfold execMasterWait
  split
  · refine EvolvesO.next ?_
    exact hx0
  · extract_lets -merge -useContext +onlyGivenNames v1
    refine EvolvesO.ite ?_ ?_
    · refine EvolvesO.next ?_
      exact hx0
    · refine EvolvesO.next ?_
      refine State.becomeMaster_ev ?_
      exact hx0

theorem execTickSend_ev {a : State} {x0 : List (ℕ × List ℕ)} {x1 : Sys2Proof.Machine.State} (hx1 : Evolves a x1) : EvolvesO a (execTickSend x0 x1) := by
  unfold execTickSend
  extract_lets -merge -useContext +onlyGivenNames v1
  refine EvolvesO.ite ?_ ?_
  · refine EvolvesO.next ?_
    exact hx1
  · split
    · rename_i s2 y3 heq
      have h_s2 : Evolves a s2 := by
        refine Evolves.fstEq (by assumption) ?_
        refine State.declareAll_ev ?_
        exact hx1
      extract_lets -merge -useContext +onlyGivenNames v4
      extract_lets -merge -useContext +onlyGivenNames v5
      extract_lets -merge -useContext +onlyGivenNames v6
      have h_v6 : Evolves a v6 := by
        unfold v6
        refine Evolves.mk' ?_ rfl
        exact h_s2
      try clear_value v6
      refine EvolvesO.next ?_
      refine State.flood_ev ?_
      exact h_v6

theorem execTickUnlock_ev {a : State} {x0 : Sys2Proof.Machine.State} (hx0 : Evolves a x0) : EvolvesO a (execTickUnlock x0) := by
  unfold execTickUnlock
  split
  · refine EvolvesO.next ?_
    exact hx0
  · refine EvolvesO.ite ?_ ?_
    · refine EvolvesO.next ?_
      exact hx0
    · refine EvolvesO.next ?_
      refine State.leaveLock_ev ?_
      exact hx0

end Sys2Proof.Machine
end

