-- ==== Sys2Proof/Laws/KeepScribe.lean ====
section
/-!
SUPPORT. Every function of Machine/Scribe.lean that answers a state keeps what `Evolves` names.
-/

namespace Sys2Proof.Machine

set_option linter.all false

theorem State.programUnit_ev {a : State} {x0 : ℕ} {x1 : Sys2Proof.Machine.State} {x2 : ℕ} {x3 : List (ℕ × Sys2Proof.Bytes)} {x4 : List Bool} (hx1 : Evolves a x1) : Evolves a (State.programUnit x0 x1 x2 x3 x4).1 := by
  induction x0 generalizing x1 x2 x3 x4 with
  | zero => unfold State.programUnit; exact hx1
  | succ n ih =>
    unfold State.programUnit
    split
    · exact hx1
    · split
      · exact ih (State.retireBlock_ev hx1)
      · refine State.closeFull_ev (State.setBlock_ev ?_)
        refine Evolves.foldl (fun t x h => State.putPage_ev h) ?_
        exact Evolves.foldl (fun t x h => State.putPage_ev h) hx1

theorem State.moveMap_ev {a : State} {x0 : Sys2Proof.Machine.State} {x1 : ℕ} {x2 : ℕ} (hx0 : Evolves a x0) : Evolves a (State.moveMap x0 x1 x2) := by
  unfold State.moveMap
  split
  · refine Evolves.ite ?_ ?_
    · refine State.setMap_ev ?_
      exact hx0
    · exact hx0
  · exact hx0

theorem Bg.copyRun_ev {a : State} {x0 : Sys2Proof.Machine.Bg} {x1 : ℕ} {x2 : ℕ} {x3 : List ℕ} (hx0 : Evolves a x0.s) : Evolves a (Bg.copyRun x0 x1 x2 x3).s := by
  unfold Bg.copyRun
  extract_lets -merge -useContext +onlyGivenNames v1
  split
  · rename_i s2 y3 y4 heq
    have h_s2 : Evolves a s2 := by
      refine Evolves.fstEq (by assumption) ?_
      refine Evolves.foldl1 (fun t5 x6 h_t5 => ?_) ?_
      · split
        · rename_i s7 y8 y9 y10 heq
          have h_s7 : Evolves a s7 := by
            refine Evolves.fstEq (by assumption) ?_
            refine State.arrayRead_ev ?_
            exact h_t5
          refine Evolves.pair1 ?_
          exact h_s7
      · refine Evolves.pair1 ?_
        exact hx0
    extract_lets -merge -useContext +onlyGivenNames v11
    extract_lets -merge -useContext +onlyGivenNames v12
    extract_lets -merge -useContext +onlyGivenNames v13
    have h_v13 : Evolves a v13.s := by
      unfold v13
      refine Bg_mk_ev ?_
      exact h_s2
    try clear_value v13
    refine Evolves.iteF ?_ ?_
    · exact h_v13
    · refine Evolves.iteF ?_ ?_
      · split
        · rename_i s14 y15 y16 heq
          have h_s14 : Evolves a s14 := by
            refine Evolves.fstEq (by assumption) ?_
            refine State.programUnit_ev ?_
            exact h_s2
          refine Bg_mk_ev ?_
          refine State.bumpNode_ev ?_
          refine Evolves.foldl (fun t17 x18 h_t17 => ?_) ?_
          · refine State.moveMap_ev ?_
            exact h_t17
          · exact h_s14
        · rename_i s19 y20 heq
          have h_s19 : Evolves a s19 := by
            refine Evolves.fstEq (by assumption) ?_
            refine State.programUnit_ev ?_
            exact h_s2
          refine Bg_mk_ev ?_
          exact h_s19
      · refine Evolves.foldlB (fun t21 x22 h_t21 => ?_) ?_
        · split
          · rename_i s23 y24 y25 heq
            have h_s23 : Evolves a s23 := by
              refine Evolves.fstEq (by assumption) ?_
              refine State.program_ev ?_
              exact h_t21
            refine Bg_mk_ev ?_
            refine State.bumpNode_ev ?_
            refine State.moveMap_ev ?_
            exact h_s23
          · rename_i s26 y27 y28 heq
            have h_s26 : Evolves a s26 := by
              refine Evolves.fstEq (by assumption) ?_
              refine State.program_ev ?_
              exact h_t21
            refine Bg_mk_ev ?_
            exact h_s26
        · exact h_v13

theorem Bg.copyBlock_ev {a : State} {x0 : ℕ} {x1 : Sys2Proof.Machine.Bg} {x2 : ℕ} {x3 : ℕ} (hx1 : Evolves a x1.s) : Evolves a (Bg.copyBlock x0 x1 x2 x3).s := by
  induction x0 generalizing x1 x2 x3 with
  | zero => unfold Bg.copyBlock; exact hx1
  | succ n ih =>
    unfold Bg.copyBlock
    have h := Bg.copyRun_ev (x1 := x2) (x2 := copyKind (x1.s.blockAt x3).kind)
      (x3 := ((x1.s.validIn x3).take (if copyKind (x1.s.blockAt x3).kind = 0 then (x1.s.geo (x2 / 64)).progPages else 1)).map (·.1)) hx1
    exact Evolves.iteF hx1 (Evolves.iteF h (ih h))

theorem Bg.erase_ev {a : State} {x0 : Sys2Proof.Machine.Bg} {x1 : ℕ} {x2 : ℕ} {x3 : ℕ} (hx0 : Evolves a x0.s) : Evolves a (Bg.erase x0 x1 x2 x3).s := by
  unfold Bg.erase
  extract_lets -merge -useContext +onlyGivenNames v1
  extract_lets -merge -useContext +onlyGivenNames v2
  refine Evolves.iteF ?_ ?_
  · exact hx0
  · extract_lets -merge -useContext +onlyGivenNames v3
    extract_lets -merge -useContext +onlyGivenNames v4
    extract_lets -merge -useContext +onlyGivenNames v5
    have h_v5 : Evolves a v5.s := by
      unfold v5
      refine Bg_mk_ev ?_
      exact hx0
    try clear_value v5
    try clear_value v3
    split
    · refine Bg_mk_ev ?_
      refine State.retireBlock_ev ?_
      exact h_v5
    · extract_lets -merge -useContext +onlyGivenNames v6
      have h_v6 : Evolves a v6 := by
        unfold v6
        refine State.setBlock_ev ?_
        exact h_v5
      try clear_value v6
      refine Bg_mk_ev ?_
      refine Evolves.mk' ?_ rfl
      exact h_v6

theorem Bg.collect_ev {a : State} {x0 : Sys2Proof.Machine.Bg} {x1 : ℕ} {x2 : ℕ} (hx0 : Evolves a x0.s) : Evolves a (Bg.collect x0 x1 x2).s := by
  unfold Bg.collect
  extract_lets -merge -useContext +onlyGivenNames v1
  have h_v1 : Evolves a v1.s := by
    unfold v1
    refine Bg.copyBlock_ev ?_
    exact hx0
  try clear_value v1
  refine Evolves.iteF ?_ ?_
  · refine Bg.erase_ev ?_
    exact h_v1
  · exact h_v1

theorem Bg.emptyVoid_ev {a : State} {x0 : Sys2Proof.Machine.Bg} {x1 : ℕ} (hx0 : Evolves a x0.s) : Evolves a (Bg.emptyVoid x0 x1).s := by
  unfold Bg.emptyVoid
  extract_lets -merge -useContext +onlyGivenNames v1
  refine Evolves.iteF ?_ ?_
  · exact hx0
  · extract_lets -merge -useContext +onlyGivenNames v2
    extract_lets -merge -useContext +onlyGivenNames v3
    have h_v3 : Evolves a v3.s := by
      unfold v3
      refine Evolves.foldlB (fun t4 x5 h_t4 => ?_) ?_
      · refine Evolves.iteF ?_ ?_
        · refine Bg.copyBlock_ev ?_
          exact h_t4
        · refine Bg.collect_ev ?_
          exact h_t4
      · exact hx0
    try clear_value v3
    extract_lets -merge -useContext +onlyGivenNames v6
    refine Evolves.iteF ?_ ?_
    · exact h_v3
    · extract_lets -merge -useContext +onlyGivenNames v7
      extract_lets -merge -useContext +onlyGivenNames v8
      extract_lets -merge -useContext +onlyGivenNames v9
      extract_lets -merge -useContext +onlyGivenNames v10
      extract_lets -merge -useContext +onlyGivenNames v11
      have h_v11 : Evolves a v11 := by
        unfold v11
        exact h_v3
      try clear_value v11
      extract_lets -merge -useContext +onlyGivenNames v12
      extract_lets -merge -useContext +onlyGivenNames v13
      have h_v13 : Evolves a v13 := by
        unfold v13
        refine Evolves.mk' ?_ rfl
        exact h_v11
      try clear_value v13
      extract_lets -merge -useContext +onlyGivenNames v14
      extract_lets -merge -useContext +onlyGivenNames v15
      extract_lets -merge -useContext +onlyGivenNames v16
      have h_v16 : Evolves a v16 := by
        unfold v16
        refine Evolves.foldl (fun t17 x18 h_t17 => ?_) ?_
        · refine State.voidRecord_ev ?_
          exact h_t17
        · exact h_v13
      try clear_value v16
      refine Bg_mk_ev ?_
      refine State.setNum_ev ?_
      exact h_v16

theorem Bg.fold_ev {a : State} {x0 : Sys2Proof.Machine.Bg} {x1 : ℕ} (hx0 : Evolves a x0.s) : Evolves a (Bg.fold x0 x1).s := by
  unfold Bg.fold
  extract_lets -merge -useContext +onlyGivenNames v1
  refine Evolves.foldlB (fun t2 x3 h_t2 => ?_) ?_
  · refine Bg.copyBlock_ev ?_
    exact h_t2
  · exact hx0

theorem Bg.gc_ev {a : State} {x0 : ℕ} {x1 : Sys2Proof.Machine.Bg} {x2 : ℕ} {x3 : ℕ} (hx1 : Evolves a x1.s) : Evolves a (Bg.gc x0 x1 x2 x3).s := by
  induction x0 generalizing x1 x2 x3 with
  | zero => unfold Bg.gc; exact hx1
  | succ n ih =>
    unfold Bg.gc
    refine Evolves.iteF ?_ (Bg_mk_ev (Evolves.mk' hx1 rfl))
    have h : ∀ b0 : Bg, Evolves a b0.s → Evolves a (match b0.s.victim x2 x3 with
        | none => b0
        | some k => if (b0.collect x2 k).left = b0.left then b0.collect x2 k else Bg.gc n (b0.collect x2 k) x2 x3).s := by
      intro b0 hb
      split
      · exact hb
      · exact Evolves.iteF (Bg.collect_ev hb) (ih (Bg.collect_ev hb))
    exact h _ (Bg_mk_ev (Evolves.mk' (b := x1.s) hx1 rfl))

theorem Bg.ready_ev {a : State} {x0 : Sys2Proof.Machine.Bg} {x1 : ℕ} (hx0 : Evolves a x0.s) : Evolves a (Bg.ready x0 x1).s := by
  unfold Bg.ready
  extract_lets -merge -useContext +onlyGivenNames v1
  extract_lets -merge -useContext +onlyGivenNames v2
  extract_lets -merge -useContext +onlyGivenNames v3
  have h_v3 : Evolves a v3.s := by
    unfold v3
    refine Evolves.foldlB (fun t4 x5 h_t4 => ?_) ?_
    · refine Evolves.iteF ?_ ?_
      · refine Bg.erase_ev ?_
        exact h_t4
      · exact h_t4
    · exact hx0
  try clear_value v3
  extract_lets -merge -useContext +onlyGivenNames v6
  refine Evolves.foldlB (fun t7 x8 h_t7 => ?_) ?_
  · extract_lets -merge -useContext +onlyGivenNames v9
    have h_v9 : Evolves a v9.s := by
      unfold v9
      refine Bg.erase_ev ?_
      exact h_t7
    try clear_value v9
    refine Evolves.iteF ?_ ?_
    · refine Bg_mk_ev ?_
      refine State.bumpNode_ev ?_
      exact h_v9
    · exact h_v9
  · exact h_v3

theorem Bg.rebind_ev {a : State} {x0 : Sys2Proof.Machine.Bg} {x1 : ℕ} (hx0 : Evolves a x0.s) : Evolves a (Bg.rebind x0 x1).s := by
  unfold Bg.rebind
  extract_lets -merge -useContext +onlyGivenNames v1
  extract_lets -merge -useContext +onlyGivenNames v2
  refine Evolves.foldlB (fun t3 x4 h_t3 => ?_) ?_
  · extract_lets -merge -useContext +onlyGivenNames v5
    refine Evolves.iteF ?_ ?_
    · exact h_t3
    · refine Bg.copyRun_ev ?_
      exact h_t3
  · exact hx0

theorem CkptWin.group_ev {a : State} {x0 : ℕ} {x1 : ℕ} {x2 : Sys2Proof.Machine.CkptWin} {x3 : ℕ} (hx2 : Evolves a x2.s) : Evolves a (CkptWin.group x0 x1 x2 x3).s := by
  unfold CkptWin.group
  extract_lets -merge -useContext +onlyGivenNames v1
  refine Evolves.iteC ?_ ?_
  · exact hx2
  · extract_lets -merge -useContext +onlyGivenNames v2
    extract_lets -merge -useContext +onlyGivenNames v3
    split
    · exact hx2
    · extract_lets -merge -useContext +onlyGivenNames v4
      refine Evolves.iteC ?_ ?_
      · exact hx2
      · split
        · refine Evolves.iteC ?_ ?_
          · refine CkptWin_mk_ev ?_
            refine State.abortCkpt_ev ?_
            exact hx2
          · extract_lets -merge -useContext +onlyGivenNames v5
            split
            · rename_i s6 y7 y8 heq
              have h_s6 : Evolves a s6 := by
                refine Evolves.fstEq (by assumption) ?_
                refine State.program_ev ?_
                exact hx2
              refine CkptWin_mk_ev ?_
              refine State.abortCkpt_ev ?_
              exact h_s6
            · rename_i s9 y10 y11 heq
              have h_s9 : Evolves a s9 := by
                refine Evolves.fstEq (by assumption) ?_
                refine State.program_ev ?_
                exact hx2
              extract_lets -merge -useContext +onlyGivenNames v12
              extract_lets -merge -useContext +onlyGivenNames v13
              have h_v13 : Evolves a v13 := by
                unfold v13
                refine State.setNum_ev ?_
                refine State.modInset_ev ?_
                refine State.setMap_ev ?_
                exact h_s9
              try clear_value v13
              refine CkptWin_mk_ev ?_
              exact h_v13

theorem Gather.put_ev {a : State} {x0 : Sys2Proof.Machine.Gather} {x1 : ℕ} {x2 : Sys2Proof.Bytes} {x3 : Bool} (hx0 : Evolves a x0.s) : Evolves a (Gather.put x0 x1 x2 x3).s := by
  unfold Gather.put
  refine Gather_mk_ev ?_
  exact hx0

theorem State.badEntry_ev {a : State} {x0 : Sys2Proof.Machine.State} {x1 : ℕ} {x2 : Sys2Proof.Machine.Cmd} (hx0 : Evolves a x0) : Evolves a (State.badEntry x0 x1 x2) := by
  unfold State.badEntry
  refine State.event_ev ?_
  refine State.bump_ev ?_
  exact hx0

theorem State.mapLost_ev {a : State} {x0 : Sys2Proof.Machine.State} {x1 : ℕ} {x2 : ℕ} (hx0 : Evolves a x0) : EvolvesP a (State.mapLost x0 x1 x2) := by
  unfold State.mapLost
  refine EvolvesP.ite ?_ ?_
  · refine EvolvesP.some ?_
    refine Evolves.pair1 ?_
    exact hx0
  · split
    · refine EvolvesP.ite ?_ ?_
      · refine EvolvesP.some ?_
        refine Evolves.pair1 ?_
        refine State.bump_ev ?_
        refine Evolves.mk' ?_ rfl
        exact hx0
      · exact EvolvesP.none
    · exact EvolvesP.none

theorem State.mapLostEvent_ev {a : State} {x0 : Sys2Proof.Machine.State} {x1 : ℕ} {x2 : ℕ} {x3 : Sys2Proof.Machine.Cmd} (hx0 : Evolves a x0) : Evolves a (State.mapLostEvent x0 x1 x2 x3) := by
  unfold State.mapLostEvent
  refine Evolves.ite ?_ ?_
  · refine State.eventFull_ev ?_
    exact hx0
  · refine State.event_ev ?_
    exact hx0

theorem Gather.entry_ev {a : State} {x0 : ℕ} {x1 : ℕ} {x2 : Sys2Proof.Machine.Cmd} {x3 : Sys2Proof.Machine.Gather} {x4 : ℕ} (hx3 : Evolves a x3.s) : Evolves a (Gather.entry x0 x1 x2 x3 x4).s := by
  unfold Gather.entry
  extract_lets -merge -useContext +onlyGivenNames v1
  refine Evolves.iteG ?_ ?_
  · refine Gather.put_ev ?_
    exact hx3
  · refine Evolves.iteG ?_ ?_
    · refine Gather.put_ev ?_
      refine Gather_mk_ev ?_
      refine State.badEntry_ev ?_
      exact hx3
    · split
      · rename_i s2 y3 heq
        have h_s2 : Evolves a s2 := by
          refine EvolvesP.eq (by assumption) ?_
          refine State.mapLost_ev ?_
          exact hx3
        refine Gather.put_ev ?_
        refine Gather_mk_ev ?_
        refine State.mapLostEvent_ev ?_
        exact h_s2
      · split
        · refine Gather.put_ev ?_
          refine Gather_mk_ev ?_
          refine State.bump_ev ?_
          refine State.bump_ev ?_
          exact hx3
        · refine Evolves.iteG ?_ ?_
          · refine Gather.put_ev ?_
            refine Gather_mk_ev ?_
            refine State.bump_ev ?_
            exact hx3
          · refine Evolves.iteG ?_ ?_
            · refine Gather.put_ev ?_
              exact hx3
            · extract_lets -merge -useContext +onlyGivenNames v4
              extract_lets -merge -useContext +onlyGivenNames v5
              extract_lets -merge -useContext +onlyGivenNames v6
              have h_v6 : Evolves a v6.s := by
                unfold v6
                refine Gather_mk_ev ?_
                exact hx3
              try clear_value v6
              refine Evolves.iteG ?_ ?_
              · refine Gather.put_ev ?_
                refine Gather_mk_ev ?_
                refine State.bump_ev ?_
                exact h_v6
              · refine Evolves.iteG ?_ ?_
                · extract_lets -merge -useContext +onlyGivenNames v7
                  have h_v7 : Evolves a v7 := by
                    unfold v7
                    refine State.eventFull_ev ?_
                    refine State.bump_ev ?_
                    exact h_v6
                  try clear_value v7
                  refine Gather.put_ev ?_
                  refine Gather_mk_ev ?_
                  exact h_v7
                · split
                  · rename_i s8 y9 y10 y11 heq
                    have h_s8 : Evolves a s8 := by
                      refine Evolves.fstEq (by assumption) ?_
                      refine State.arrayRead_ev ?_
                      exact h_v6
                    extract_lets -merge -useContext +onlyGivenNames v12
                    have h_v12 : Evolves a v12.s := by
                      unfold v12
                      refine Gather_mk_ev ?_
                      exact h_s8
                    try clear_value v12
                    refine Evolves.iteG ?_ ?_
                    · refine Gather.put_ev ?_
                      refine Gather_mk_ev ?_
                      refine State.bump_ev ?_
                      exact h_v12
                    · refine Gather.put_ev ?_
                      refine Gather_mk_ev ?_
                      refine State.bump_ev ?_
                      exact h_v12

theorem State.background_ev {a : State} {x0 : Sys2Proof.Machine.State} {x1 : Sys2Proof.FlashPhys} {x2 : ℕ} {x3 : ℕ} (hx0 : Evolves a x0) : Evolves a (State.background x0 x1 x2 x3).1 := by
  unfold State.background
  extract_lets -merge -useContext +onlyGivenNames v1
  have h_v1 : Evolves a v1.s := by
    unfold v1
    refine Bg_mk_ev ?_
    exact hx0
  try clear_value v1
  extract_lets -merge -useContext +onlyGivenNames v2
  have h_v2 : Evolves a v2.s := by
    unfold v2
    refine Bg.emptyVoid_ev ?_
    exact h_v1
  try clear_value v2
  extract_lets -merge -useContext +onlyGivenNames v3
  have h_v3 : Evolves a v3.s := by
    unfold v3
    refine Evolves.foldlB (fun t4 x5 h_t4 => ?_) ?_
    · refine Bg.collect_ev ?_
      exact h_t4
    · exact h_v2
  try clear_value v3
  extract_lets -merge -useContext +onlyGivenNames v6
  have h_v6 : Evolves a v6.s := by
    unfold v6
    refine Bg.rebind_ev ?_
    refine Bg.ready_ev ?_
    refine Bg.fold_ev ?_
    exact h_v3
  try clear_value v6
  extract_lets -merge -useContext +onlyGivenNames v7
  have h_v7 : Evolves a v7.s := by
    unfold v7
    refine Bg.gc_ev ?_
    refine Bg.gc_ev ?_
    exact h_v6
  try clear_value v7
  refine Evolves.pair1 ?_
  exact h_v7

theorem State.writeImage_ev {a : State} {x0 : Sys2Proof.Machine.State} (hx0 : Evolves a x0) : Evolves a (State.writeImage x0) := by
  unfold State.writeImage
  split
  · exact hx0
  · refine Evolves.mk' ?_ rfl
    exact hx0

theorem State.bgWork_ev {a : State} {x0 : Sys2Proof.Machine.State} {x1 : Sys2Proof.Machine.Cmd} {x2 : Sys2Proof.FlashPhys} (hx0 : Evolves a x0) : Evolves a (State.bgWork x0 x1 x2) := by
  unfold State.bgWork
  extract_lets -merge -useContext +onlyGivenNames v1
  extract_lets -merge -useContext +onlyGivenNames w1
  have h_w1 : Evolves a w1 := by
    unfold w1
    exact Evolves.ite (State.writeImage_ev hx0) hx0
  try clear_value w1
  extract_lets -merge -useContext +onlyGivenNames v2
  extract_lets -merge -useContext +onlyGivenNames v3
  extract_lets -merge -useContext +onlyGivenNames v4
  extract_lets -merge -useContext +onlyGivenNames v5
  extract_lets -merge -useContext +onlyGivenNames v6
  have h_v6 : Evolves a v6 := by
    unfold v6
    refine Evolves.mk' ?_ rfl
    exact h_w1
  try clear_value v6
  refine Evolves.foldl1 (fun t7 x8 h_t7 => ?_) ?_
  · refine State.background_ev ?_
    exact h_t7
  · refine Evolves.pair1 ?_
    exact h_v6

theorem State.retryCause_ev {a : State} {x0 : Sys2Proof.Machine.State} {x1 : Sys2Proof.CmdRef} {x2 : ℕ} {x3 : Sys2Proof.Tab ℕ} (hx0 : Evolves a x0) : Evolves a (State.retryCause x0 x1 x2 x3) := by
  unfold State.retryCause
  refine Evolves.ite ?_ ?_
  · refine State.modCmd_ev ?_
    exact hx0
  · exact hx0

theorem State.gatherWork_ev {a : State} {x0 : Sys2Proof.Machine.State} {x1 : Sys2Proof.CmdRef} {x2 : Sys2Proof.Machine.Cmd} {x3 : List Sys2Proof.FlashRead} (hx0 : Evolves a x0) : Evolves a (State.gatherWork x0 x1 x2 x3).1 := by
  unfold State.gatherWork
  extract_lets -merge -useContext +onlyGivenNames v1
  extract_lets -merge -useContext +onlyGivenNames v2
  split
  · refine Evolves.pair1 ?_
    exact hx0
  · extract_lets -merge -useContext +onlyGivenNames v3
    have h_v3 : Evolves a v3 := by
      unfold v3
      refine State.noteReads_ev ?_
      exact hx0
    try clear_value v3
    extract_lets -merge -useContext +onlyGivenNames v4
    have h_v4 : Evolves a v4.s := by
      unfold v4
      refine Gather_mk_ev ?_
      exact h_v3
    try clear_value v4
    extract_lets -merge -useContext +onlyGivenNames v5
    have h_v5 : Evolves a v5.s := by
      unfold v5
      refine Evolves.foldlG (fun t6 x7 h_t6 => ?_) ?_
      · refine Gather.entry_ev ?_
        exact h_t6
      · exact h_v4
    try clear_value v5
    extract_lets -merge -useContext +onlyGivenNames v8
    extract_lets -merge -useContext +onlyGivenNames v9
    refine Evolves.pair1 ?_
    refine State.retryCause_ev ?_
    exact h_v5

theorem State.programPages_ev {a : State} {x0 : Sys2Proof.Machine.State} {x1 : ℕ} {x2 : List (ℕ × Sys2Proof.Bytes)} (hx0 : Evolves a x0) : EvolvesQ a (State.programPages x0 x1 x2) := by
  induction x2 generalizing x0 with
  | nil => exact EvolvesQ.some hx0
  | cons p rest ih =>
    obtain ⟨lpn, b⟩ := p
    unfold State.programPages
    split
    · exact EvolvesQ.none
    · refine EvolvesQ.ite EvolvesQ.none ?_
      split
      · rename_i s' y ppn heq
        exact ih (State.setMap_ev (Evolves.fstEq heq (State.program_ev hx0)))
      · exact EvolvesQ.none

theorem State.writeEntries_ev {a : State} {x0 : Sys2Proof.Machine.State} {x1 : ℕ} {x2 : ℕ} {x3 : Sys2Proof.Machine.Cmd} (hx0 : Evolves a x0) : Evolves a (State.writeEntries x0 x1 x2 x3).1 := by
  unfold State.writeEntries
  extract_lets -merge -useContext +onlyGivenNames v1
  have h_v1 : ∀ z2 z3, Evolves a z2.1 → Evolves a (v1 z2 z3).1 := by
    intro z2 z3 h_z2
    unfold v1
    split
    · rename_i s4 y5 y6
      have h_s4 : Evolves a s4 := by
        exact h_z2
      extract_lets -merge -useContext +onlyGivenNames v7
      refine Evolves.ite1 ?_ ?_
      · exact h_z2
      · extract_lets -merge -useContext +onlyGivenNames v8
        extract_lets -merge -useContext +onlyGivenNames v9
        extract_lets -merge -useContext +onlyGivenNames v10
        refine Evolves.ite1 ?_ ?_
        · refine Evolves.pair1 ?_
          exact h_s4
        · refine Evolves.pair1 ?_
          refine State.badEntry_ev ?_
          exact h_s4
  try clear_value v1
  split
  · rename_i s11 y12 y13 heq
    have h_s11 : Evolves a s11 := by
      refine Evolves.fstEq (by assumption) ?_
      refine Evolves.foldl1 (fun t14 x15 h_t14 => ?_) ?_
      · refine h_v1 _ _ ?_
        exact h_t14
      · refine Evolves.pair1 ?_
        exact hx0
    refine Evolves.pair1 ?_
    exact h_s11

theorem Writing.base_ev {a : State} {x0 : Sys2Proof.Machine.Writing} {x1 : ℕ} {x2 : ℕ} {x3 : Sys2Proof.Machine.Cmd} (hx0 : Evolves a x0.s) : Evolves a (Writing.base x0 x1 x2 x3).1.s := by
  unfold Writing.base
  split
  · rename_i s1 y2 heq
    have h_s1 : Evolves a s1 := by
      refine EvolvesP.eq (by assumption) ?_
      refine State.mapLost_ev ?_
      exact hx0
    refine Evolves.pairF ?_
    refine Writing_mk_ev ?_
    refine Evolves.ite ?_ ?_
    · refine State.mapLostEvent_ev ?_
      exact h_s1
    · exact h_s1
  · split
    · refine Evolves.pairF ?_
      exact hx0
    · refine Evolves.iteFP ?_ ?_
      · refine Evolves.pairF ?_
        refine Writing_mk_ev ?_
        exact hx0
      · split
        · rename_i s3 y4 y5 y6 heq
          have h_s3 : Evolves a s3 := by
            refine Evolves.fstEq (by assumption) ?_
            refine State.arrayRead_ev ?_
            exact hx0
          extract_lets -merge -useContext +onlyGivenNames v7
          extract_lets -merge -useContext +onlyGivenNames v8
          have h_v8 : Evolves a v8.s := by
            unfold v8
            refine Writing_mk_ev ?_
            exact h_s3
          try clear_value v8
          refine Evolves.iteFP ?_ ?_
          · refine Evolves.pairF ?_
            exact h_v8
          · refine Evolves.pairF ?_
            refine Writing_mk_ev ?_
            refine State.bump_ev ?_
            exact h_v8

theorem Writing.page_ev {a : State} {x0 : ℕ} {x1 : Sys2Proof.Machine.Cmd} {x2 : List Sys2Proof.Machine.WriteEnt} {x3 : Sys2Proof.Machine.Writing} {x4 : ℕ} (hx3 : Evolves a x3.s) : Evolves a (Writing.page x0 x1 x2 x3 x4).s := by
  unfold Writing.page
  refine Evolves.iteW ?_ ?_
  · exact hx3
  · extract_lets -merge -useContext +onlyGivenNames v1
    split
    · exact hx3
    · refine Evolves.iteW ?_ ?_
      · refine Writing_mk_ev ?_
        exact hx3
      · split
        · rename_i s2 y3 heq
          have h_s2 : Evolves a s2.s := by
            refine Evolves.fpEq (by assumption) ?_
            refine Evolves.iteFP ?_ ?_
            · refine Evolves.pairF ?_
              exact hx3
            · refine Writing.base_ev ?_
              exact hx3
          refine Evolves.iteW ?_ ?_
          · exact h_s2
          · extract_lets -merge -useContext +onlyGivenNames v4
            split
            · rename_i s5 y6 y7 heq
              have h_s5 : Evolves a s5 := by
                refine Evolves.fstEq (by assumption) ?_
                refine State.program_ev ?_
                exact h_s2
              refine Writing_mk_ev ?_
              refine State.bump_ev ?_
              exact h_s5
            · rename_i s8 y9 y10 heq
              have h_s8 : Evolves a s8 := by
                refine Evolves.fstEq (by assumption) ?_
                refine State.program_ev ?_
                exact h_s2
              refine Writing_mk_ev ?_
              exact h_s8

theorem State.scribeWriteWork_ev {a : State} {x0 : Sys2Proof.Machine.State} {x1 : Sys2Proof.CmdRef} {x2 : Sys2Proof.Machine.Cmd} {x3 : Sys2Proof.FlashPhys} (hx0 : Evolves a x0) : Evolves a (State.scribeWriteWork x0 x1 x2 x3).1 := by
  unfold State.scribeWriteWork
  extract_lets -merge -useContext +onlyGivenNames v1
  extract_lets -merge -useContext +onlyGivenNames v2
  extract_lets -merge -useContext +onlyGivenNames v3
  split
  · refine Evolves.pair1 ?_
    exact hx0
  · split
    · rename_i s4 y5 heq
      have h_s4 : Evolves a s4 := by
        refine Evolves.fstEq (by assumption) ?_
        refine State.writeEntries_ev ?_
        refine State.noteReads_ev ?_
        exact hx0
      refine Evolves.ite1 ?_ ?_
      · refine Evolves.pair1 ?_
        exact h_s4
      · extract_lets -merge -useContext +onlyGivenNames v6
        have h_v6 : Evolves a v6 := by
          unfold v6
          refine State.noteReads_ev ?_
          exact h_s4
        try clear_value v6
        refine Evolves.ite1 ?_ ?_
        · refine Evolves.pair1 ?_
          exact h_v6
        · extract_lets -merge -useContext +onlyGivenNames v7
          have h_v7 : Evolves a v7.s := by
            unfold v7
            refine Evolves.foldlW (fun t8 x9 h_t8 => ?_) ?_
            · refine Writing.page_ev ?_
              exact h_t8
            · refine Writing_mk_ev ?_
              exact h_v6
          try clear_value v7
          extract_lets -merge -useContext +onlyGivenNames v10
          have h_v10 : Evolves a v10 := by
            unfold v10
            refine State.modCmd_ev ?_
            refine State.retryCause_ev ?_
            exact h_v7
          try clear_value v10
          split
          · refine Evolves.pair1 ?_
            exact h_v10
          · refine Evolves.pair1 ?_
            exact h_v10

theorem State.wearAll_ev {a : State} {x0 : Sys2Proof.Machine.State} (hx0 : Evolves a x0) : Evolves a (State.wearAll x0) := by
  unfold State.wearAll
  extract_lets -merge -useContext +onlyGivenNames v1
  refine Evolves.foldl (fun t2 x3 h_t2 => ?_) ?_
  · extract_lets -merge -useContext +onlyGivenNames v4
    extract_lets -merge -useContext +onlyGivenNames v5
    refine Evolves.mk' ?_ rfl
    exact h_t2
  · exact hx0

theorem execBgWindow_ev {a : State} {x0 : Sys2Proof.CmdRef} {x1 : Sys2Proof.FlashPhys} {x2 : Sys2Proof.Machine.State} (hx2 : Evolves a x2) : EvolvesO a (execBgWindow x0 x1 x2) := by
  unfold execBgWindow
  refine State.engineRowOpen_ev ?_ ?_
  · exact hx2
  · intro z1 z2 h_z1
    refine Evolves.pair1 ?_
    refine State.bgWork_ev ?_
    exact h_z1

theorem execCkptManifest_ev {a : State} {x0 : ℕ} {x1 : Bool} {x2 : Sys2Proof.Machine.State} (hx2 : Evolves a x2) : EvolvesO a (execCkptManifest x0 x1 x2) := by
  unfold execCkptManifest
  refine EvolvesO.ite ?_ ?_
  · exact EvolvesO.fault
  · extract_lets -merge -useContext +onlyGivenNames v1
    refine EvolvesO.ite ?_ ?_
    · refine EvolvesO.next ?_
      exact hx2
    · refine EvolvesO.ite ?_ ?_
      · refine EvolvesO.next ?_
        refine State.abortCkpt_ev ?_
        exact hx2
      · extract_lets -merge -useContext +onlyGivenNames v2
        extract_lets -merge -useContext +onlyGivenNames v3
        split
        · rename_i s4 heq
          have h_s4 : Evolves a s4 := by
            refine EvolvesQ.eq (by assumption) ?_
            refine State.programPages_ev ?_
            exact hx2
          refine EvolvesO.next ?_
          refine State.modInset_ev ?_
          exact h_s4
        · refine EvolvesO.next ?_
          refine State.abortCkpt_ev ?_
          exact hx2

theorem execCkptWindow_ev {a : State} {x0 : Sys2Proof.CmdRef} {x1 : Sys2Proof.FlashPhys} {x2 : Sys2Proof.Machine.State} (hx2 : Evolves a x2) : EvolvesO a (execCkptWindow x0 x1 x2) := by
  unfold execCkptWindow
  refine State.engineRowOpen_ev ?_ ?_
  · exact hx2
  · intro z1 z2 h_z1
    extract_lets -merge -useContext +onlyGivenNames v3
    have h_v3 : Evolves a v3.s := by
      unfold v3
      refine Evolves.foldlC (fun t4 x5 h_t4 => ?_) ?_
      · refine CkptWin.group_ev ?_
        exact h_t4
      · refine CkptWin_mk_ev ?_
        exact h_z1
    try clear_value v3
    refine Evolves.pair1 ?_
    exact h_v3

theorem execFlashChannelReset_ev {a : State} {x0 : ℕ} {x1 : List ℕ} {x2 : Sys2Proof.Machine.State} (hx2 : Evolves a x2) : EvolvesO a (execFlashChannelReset x0 x1 x2) := by
  unfold execFlashChannelReset
  refine EvolvesO.ite ?_ ?_
  · exact EvolvesO.fault
  · extract_lets -merge -useContext +onlyGivenNames v1
    extract_lets -merge -useContext +onlyGivenNames v2
    have h_v2 : Evolves a v2 := by
      unfold v2
      refine Evolves.mk' ?_ rfl
      exact hx2
    try clear_value v2
    extract_lets -merge -useContext +onlyGivenNames v3
    split
    · extract_lets -merge -useContext +onlyGivenNames v4
      have h_v4 : Evolves a v4 := by
        unfold v4
        refine State.bumpNode_ev ?_
        exact h_v2
      try clear_value v4
      split
      · refine EvolvesO.next ?_
        refine Evolves.mk' ?_ rfl
        exact h_v4
      · extract_lets -merge -useContext +onlyGivenNames v5
        extract_lets -merge -useContext +onlyGivenNames v6
        have h_v6 : Evolves a v6 := by
          unfold v6
          refine Evolves.mk' ?_ rfl
          exact h_v4
        try clear_value v6
        refine EvolvesO.next ?_
        split
        · refine State.event_ev ?_
          exact h_v6
        · refine State.nodeEvent_ev ?_
          exact h_v6

theorem execRebuild_ev {a : State} {x0 : List Sys2Proof.FlashRead} {x1 : Sys2Proof.Machine.State} (hx1 : Evolves a x1) : EvolvesO a (execRebuild x0 x1) := by
  unfold execRebuild
  refine EvolvesO.ite ?_ ?_
  · refine EvolvesO.next ?_
    exact hx1
  · extract_lets -merge -useContext +onlyGivenNames v1
    extract_lets -merge -useContext +onlyGivenNames v2
    extract_lets -merge -useContext +onlyGivenNames v3
    extract_lets -merge -useContext +onlyGivenNames v4
    extract_lets -merge -useContext +onlyGivenNames v5
    extract_lets -merge -useContext +onlyGivenNames v6
    have h_v6 : Evolves a v6 := by
      unfold v6
      refine Evolves.mk' ?_ rfl
      exact hx1
    try clear_value v6
    extract_lets -merge -useContext +onlyGivenNames v7
    have h_v7 : Evolves a v7 := by
      unfold v7
      refine State.setNum_ev ?_
      refine State.wearAll_ev ?_
      exact h_v6
    try clear_value v7
    refine EvolvesO.next ?_
    refine State.setNum_ev ?_
    exact h_v7

theorem execScribeGather_ev {a : State} {x0 : Sys2Proof.CmdRef} {x1 : List Sys2Proof.FlashRead} {x2 : Sys2Proof.Machine.State} (hx2 : Evolves a x2) : EvolvesO a (execScribeGather x0 x1 x2) := by
  unfold execScribeGather
  refine State.engineRowOpen_ev ?_ ?_
  · exact hx2
  · intro z1 z2 h_z1
    refine State.gatherWork_ev ?_
    exact h_z1

theorem execScribeWrite_ev {a : State} {x0 : Sys2Proof.CmdRef} {x1 : Sys2Proof.FlashPhys} {x2 : Sys2Proof.Machine.State} (hx2 : Evolves a x2) : EvolvesO a (execScribeWrite x0 x1 x2) := by
  unfold execScribeWrite
  refine State.engineRowOpen_ev ?_ ?_
  · exact hx2
  · intro z1 z2 h_z1
    refine State.scribeWriteWork_ev ?_
    exact h_z1

theorem execZqCal_ev {a : State} {x0 : ℕ} {x1 : Sys2Proof.Machine.State} (hx1 : Evolves a x1) : EvolvesO a (execZqCal x0 x1) := by
  unfold execZqCal
  refine EvolvesO.ite ?_ ?_
  · exact EvolvesO.fault
  · refine EvolvesO.ite ?_ ?_
    · refine EvolvesO.next ?_
      refine Evolves.mk' ?_ rfl
      exact hx1
    · refine EvolvesO.next ?_
      exact hx1

end Sys2Proof.Machine
end

