-- ==== Sys2Proof/Laws/KeepBoundary.lean ====
section
/-!
SUPPORT. Every function of Machine/Boundary.lean that answers a state keeps what `Evolves` names.
-/

namespace Sys2Proof.Machine

set_option linter.all false

theorem State.chargeRunning_ev {a : State} {x0 : Sys2Proof.Machine.State} {x1 : ℕ} (hx0 : Evolves a x0) : Evolves a (State.chargeRunning x0 x1) := by
  unfold State.chargeRunning
  extract_lets -merge -useContext +onlyGivenNames v1
  have h_v1 : Evolves a v1 := by
    unfold v1
    refine Evolves.foldl (fun t2 x3 h_t2 => ?_) ?_
    · refine State.chargeCmd_ev ?_
      exact h_t2
    · exact hx0
  try clear_value v1
  refine Evolves.foldl (fun t4 x5 h_t4 => ?_) ?_
  · refine State.chargeProc_ev ?_
    exact h_t4
  · exact h_v1

theorem State.putAcct_ev {a : State} {x0 : Sys2Proof.Machine.State} {x1 : ℕ} {x2 : ℕ} {x3 : ℕ} (hx0 : Evolves a x0) : Evolves a (State.putAcct x0 x1 x2 x3) := by
  unfold State.putAcct
  extract_lets -merge -useContext +onlyGivenNames v1
  extract_lets -merge -useContext +onlyGivenNames v2
  have h_v2 : Evolves a v2 := by
    unfold v2
    refine State.storeBytes_ev ?_
    exact hx0
  try clear_value v2
  extract_lets -merge -useContext +onlyGivenNames v3
  have h_v3 : Evolves a v3 := by
    unfold v3
    refine Evolves.ite ?_ ?_
    · exact hx0
    · refine State.modInset_ev ?_
      exact h_v2
  try clear_value v3
  refine State.modInset_ev ?_
  exact h_v3

theorem State.account_ev {a : State} {x0 : Sys2Proof.Machine.State} {x1 : ℕ} {x2 : ℕ} (hx0 : Evolves a x0) : Evolves a (State.account x0 x1 x2) := by
  unfold State.account
  extract_lets -merge -useContext +onlyGivenNames v1
  have h_v1 : Evolves a v1 := by
    unfold v1
    refine State.chargeRunning_ev ?_
    exact hx0
  try clear_value v1
  extract_lets -merge -useContext +onlyGivenNames v2
  extract_lets -merge -useContext +onlyGivenNames v3
  extract_lets -merge -useContext +onlyGivenNames v4
  split
  · rename_i y5 s6 heq
    have h_s6 : Evolves a s6 := by
      refine Evolves.sndEq (by assumption) ?_
      refine Evolves.ite2 ?_ ?_
      · refine State.draw_ev ?_
        exact h_v1
      · refine Evolves.pair2 ?_
        exact h_v1
    extract_lets -merge -useContext +onlyGivenNames v7
    extract_lets -merge -useContext +onlyGivenNames v8
    have h_v8 : Evolves a v8 := by
      unfold v8
      refine Evolves.foldl (fun t9 x10 h_t9 => ?_) ?_
      · refine State.putAcct_ev ?_
        exact h_t9
      · exact h_s6
    try clear_value v8
    extract_lets -merge -useContext +onlyGivenNames v11
    have h_v11 : Evolves a v11 := by
      unfold v11
      refine State.bumpNode_ev ?_
      exact h_v8
    try clear_value v11
    refine Evolves.mk' ?_ rfl
    exact h_v11

theorem State.dropUnclaimed_ev {a : State} {x0 : Sys2Proof.Machine.State} {x1 : ℕ} {x2 : ℕ} (hx0 : Evolves a x0) : Evolves a (State.dropUnclaimed x0 x1 x2) := by
  unfold State.dropUnclaimed
  extract_lets -merge -useContext +onlyGivenNames v1
  extract_lets -merge -useContext +onlyGivenNames v2
  extract_lets -merge -useContext +onlyGivenNames v3
  extract_lets -merge -useContext +onlyGivenNames v4
  have h_v4 : Evolves a v4 := by
    unfold v4
    refine Evolves.mk' ?_ rfl
    exact hx0
  try clear_value v4
  refine State.bump_ev ?_
  exact h_v4

theorem State.beginSheet_ev {a : State} {x0 : Sys2Proof.Machine.State} {x1 : ℕ} {x2 : ℕ} {x3 : ℕ} {x4 : Sys2Proof.Machine.Image} (hx0 : Evolves a x0) : Evolves a (State.beginSheet x0 x1 x2 x3 x4) := by
  unfold State.beginSheet
  extract_lets -merge -useContext +onlyGivenNames v1
  extract_lets -merge -useContext +onlyGivenNames v2
  extract_lets -merge -useContext +onlyGivenNames v3
  extract_lets -merge -useContext +onlyGivenNames v4
  have h_v4 : Evolves a v4 := by
    unfold v4
    refine Evolves.mk' ?_ rfl
    exact hx0
  try clear_value v4
  extract_lets -merge -useContext +onlyGivenNames v5
  have h_v5 : Evolves a v5 := by
    unfold v5
    refine State.modInset_ev ?_
    exact h_v4
  try clear_value v5
  refine State.dropUnclaimed_ev ?_
  refine State.setNum_ev ?_
  refine State.setNum_ev ?_
  exact h_v5

theorem State.beginSwitch_ev {a : State} {x0 : Sys2Proof.Machine.State} {x1 : ℕ} {x2 : ℕ} {x3 : ℕ} (hx0 : Evolves a x0) : Evolves a (State.beginSwitch x0 x1 x2 x3) := by
  unfold State.beginSwitch
  refine State.setNum_ev ?_
  refine State.modInset_ev ?_
  exact hx0

theorem State.tickRehearsals_ev {a : State} {x0 : Sys2Proof.Machine.State} (hx0 : Evolves a x0) : Evolves a (State.tickRehearsals x0) := by
  unfold State.tickRehearsals
  extract_lets -merge -useContext +onlyGivenNames v1
  extract_lets -merge -useContext +onlyGivenNames v2
  have h_v2 : Evolves a v2 := by
    unfold v2
    split
    · refine State.fireTimed_ev ?_
      refine Evolves.mk' ?_ rfl
      exact hx0
    · exact hx0
  try clear_value v2
  split
  · refine State.bumpNode_ev ?_
    refine State.fireTimed_ev ?_
    exact h_v2
  · exact h_v2

theorem State.boundaryDecls_ev {a : State} {x0 : Sys2Proof.Machine.State} {x1 : ℕ} {x2 : List (ℕ × List ℕ)} (hx0 : Evolves a x0) : Evolves a (State.boundaryDecls x0 x1 x2).1 := by
  unfold State.boundaryDecls
  extract_lets -merge -useContext +onlyGivenNames v1
  refine Evolves.ite1 ?_ ?_
  · try clear_value v1
    split
    · refine Evolves.pair1 ?_
      exact hx0
    · split
      · rename_i s2 y3 heq
        have h_s2 : Evolves a s2 := by
          refine Evolves.fstEq (by assumption) ?_
          refine State.declareAll_ev ?_
          exact hx0
        refine Evolves.pair1 ?_
        exact h_s2
  · refine Evolves.ite1 ?_ ?_
    · refine Evolves.pair1 ?_
      exact hx0
    · refine Evolves.pair1 ?_
      exact hx0

theorem State.ckptCommit_ev {a : State} {x0 : Sys2Proof.Machine.State} {x1 : ℕ} (hx0 : Evolves a x0) : Evolves a (State.ckptCommit x0 x1) := by
  unfold State.ckptCommit
  extract_lets -merge -useContext +onlyGivenNames v1
  refine Evolves.ite ?_ ?_
  · exact hx0
  · extract_lets -merge -useContext +onlyGivenNames v2
    extract_lets -merge -useContext +onlyGivenNames v3
    extract_lets -merge -useContext +onlyGivenNames v4
    have h_v4 : Evolves a v4 := by
      unfold v4
      refine Evolves.mkMem ?_ (fun hm => ?_) rfl
      · exact hx0
      · first | exact hm | exact mw_writeWordEq (by assumption) hm | exact mw_writeWord hm | exact mw_poisonWord hm | exact mw_clear hm | exact mw_clearRegion hm | exact mw_copyRegion hm | exact mw_putGroup hm | exact mw_putWords hm | exact mw_foldl (fun _ _ h => mw_poisonWord h) hm
    try clear_value v4
    extract_lets -merge -useContext +onlyGivenNames v5
    extract_lets -merge -useContext +onlyGivenNames v6
    have h_v6 : Evolves a v6 := by
      unfold v6
      refine State.modInset_ev ?_
      exact h_v4
    try clear_value v6
    refine State.setNum_ev ?_
    refine State.setNum_ev ?_
    refine State.setNum_ev ?_
    exact h_v6

theorem State.ckptTake_ev {a : State} {x0 : Sys2Proof.Machine.State} {x1 : ℕ} {x2 : Sys2Proof.Machine.Sheet} (hx0 : Evolves a x0) : Evolves a (State.ckptTake x0 x1 x2) := by
  unfold State.ckptTake
  extract_lets -merge -useContext +onlyGivenNames v1
  extract_lets -merge -useContext +onlyGivenNames v2
  extract_lets -merge -useContext +onlyGivenNames v3
  extract_lets -merge -useContext +onlyGivenNames v4
  extract_lets -merge -useContext +onlyGivenNames v5
  extract_lets -merge -useContext +onlyGivenNames v6
  extract_lets -merge -useContext +onlyGivenNames v7
  extract_lets -merge -useContext +onlyGivenNames v8
  extract_lets -merge -useContext +onlyGivenNames v9
  have h_v9 : Evolves a v9 := by
    unfold v9
    refine State.modInset_ev ?_
    refine Evolves.mkMem ?_ (fun hm => ?_) rfl
    · exact hx0
    · first | exact hm | exact mw_writeWordEq (by assumption) hm | exact mw_writeWord hm | exact mw_poisonWord hm | exact mw_clear hm | exact mw_clearRegion hm | exact mw_copyRegion hm | exact mw_putGroup hm | exact mw_putWords hm | exact mw_foldl (fun _ _ h => mw_poisonWord h) hm
  try clear_value v9
  refine State.setNum_ev ?_
  refine State.setNum_ev ?_
  refine State.setNum_ev ?_
  exact h_v9

theorem State.ckptDatum_ev {a : State} {x0 : Sys2Proof.Machine.State} {x1 : ℕ} {x2 : Sys2Proof.Machine.Sheet} (hx0 : Evolves a x0) : Evolves a (State.ckptDatum x0 x1 x2) := by
  unfold State.ckptDatum
  extract_lets -merge -useContext +onlyGivenNames v1
  have h_v1 : Evolves a v1 := by
    unfold v1
    refine State.ckptCommit_ev ?_
    exact hx0
  try clear_value v1
  refine Evolves.ite ?_ ?_
  · exact h_v1
  · refine Evolves.ite ?_ ?_
    · refine State.event_ev ?_
      refine State.bump_ev ?_
      exact h_v1
    · refine Evolves.ite ?_ ?_
      · refine State.event_ev ?_
        refine State.bump_ev ?_
        exact h_v1
      · refine State.ckptTake_ev ?_
        exact h_v1

theorem State.closeSheet_ev {a : State} {x0 : Sys2Proof.Machine.State} {x1 : ℕ} {x2 : Sys2Proof.Machine.Sheet} (hx0 : Evolves a x0) : Evolves a (State.closeSheet x0 x1 x2) := by
  unfold State.closeSheet
  extract_lets -merge -useContext +onlyGivenNames v1
  have h_v1 : Evolves a v1 := by
    unfold v1
    refine State.modInset_ev ?_
    refine State.setNum_ev ?_
    exact hx0
  try clear_value v1
  refine State.setNum_ev ?_
  refine State.ckptDatum_ev ?_
  exact h_v1

theorem State.toSlice_ev {a : State} {x0 : Sys2Proof.Machine.State} {x1 : ℕ} {x2 : ℕ} (hx0 : Evolves a x0) : Evolves a (State.toSlice x0 x1 x2) := by
  unfold State.toSlice
  extract_lets -merge -useContext +onlyGivenNames v1
  extract_lets -merge -useContext +onlyGivenNames v2
  extract_lets -merge -useContext +onlyGivenNames v3
  split
  · refine State.modInset_ev ?_
    exact hx0
  · refine State.modInset_ev ?_
    exact hx0

theorem State.preemptNow_ev {a : State} {x0 : Sys2Proof.Machine.State} {x1 : ℕ} {x2 : Sys2Proof.Machine.PreemptReq} (hx0 : Evolves a x0) : Evolves a (State.preemptNow x0 x1 x2) := by
  unfold State.preemptNow
  extract_lets -merge -useContext +onlyGivenNames v1
  extract_lets -merge -useContext +onlyGivenNames v2
  have h_v2 : Evolves a v2 := by
    unfold v2
    refine State.modInset_ev ?_
    exact hx0
  try clear_value v2
  split
  · rename_i s3 y4 heq
    have h_s3 : Evolves a s3 := by
      refine Evolves.fstEq (by assumption) ?_
      refine State.killAll_ev ?_
      exact h_v2
    extract_lets -merge -useContext +onlyGivenNames v5
    have h_v5 : Evolves a v5 := by
      unfold v5
      refine State.finishDrains_ev ?_
      exact h_s3
    try clear_value v5
    extract_lets -merge -useContext +onlyGivenNames v6
    have h_v6 : Evolves a v6 := by
      unfold v6
      split
      · refine State.closeSheet_ev ?_
        exact h_v5
      · exact h_v5
    try clear_value v6
    split
    · rename_i s7 y8 heq
      have h_s7 : Evolves a s7 := by
        refine Evolves.fstEq (by assumption) ?_
        refine State.closeRequests_ev ?_
        exact h_v6
      extract_lets -merge -useContext +onlyGivenNames v9
      have h_v9 : Evolves a v9 := by
        unfold v9
        refine Evolves.ite ?_ ?_
        · refine State.abortCkpt_ev ?_
          exact h_s7
        · exact h_s7
      try clear_value v9
      extract_lets -merge -useContext +onlyGivenNames v10
      have h_v10 : Evolves a v10 := by
        unfold v10
        refine State.bump_ev ?_
        refine State.bump_ev ?_
        exact h_v9
      try clear_value v10
      refine State.toSlice_ev ?_
      refine State.beginSwitch_ev ?_
      exact h_v10

theorem State.preemptions_ev {a : State} {x0 : Sys2Proof.Machine.State} {x1 : ℕ} {x2 : List Sys2Proof.TagDecl} (hx0 : Evolves a x0) : Evolves a (State.preemptions x0 x1 x2).1 := by
  unfold State.preemptions
  refine Evolves.foldl1 (fun t1 x2 h_t1 => ?_) ?_
  · extract_lets -merge -useContext +onlyGivenNames v3
    have h_v3 : Evolves a v3 := by
      unfold v3
      exact h_t1
    try clear_value v3
    extract_lets -merge -useContext +onlyGivenNames v4
    split
    · refine Evolves.ite1 ?_ ?_
      · refine Evolves.pair1 ?_
        refine State.preemptNow_ev ?_
        exact h_v3
      · refine Evolves.pair1 ?_
        exact h_v3
    · refine Evolves.pair1 ?_
      exact h_v3
  · refine Evolves.pair1 ?_
    exact hx0

theorem State.slipInset_ev {a : State} {x0 : Sys2Proof.Machine.State} {x1 : ℕ} (hx0 : Evolves a x0) : Evolves a (State.slipInset x0 x1) := by
  unfold State.slipInset
  extract_lets -merge -useContext +onlyGivenNames v1
  refine Evolves.ite ?_ ?_
  · refine State.bump_ev ?_
    exact hx0
  · refine Evolves.ite ?_ ?_
    · refine State.bump_ev ?_
      exact hx0
    · extract_lets -merge -useContext +onlyGivenNames v2
      have h_v2 : Evolves a v2 := by
        unfold v2
        refine State.bump_ev ?_
        exact hx0
      try clear_value v2
      split
      · exact h_v2
      · extract_lets -merge -useContext +onlyGivenNames v3
        have h_v3 : Evolves a v3 := by
          unfold v3
          refine State.modInset_ev ?_
          exact h_v2
        try clear_value v3
        refine Evolves.ite ?_ ?_
        · refine State.bump_ev ?_
          exact h_v3
        · exact h_v3

theorem State.closeInset_ev {a : State} {x0 : Sys2Proof.Machine.State} {x1 : ℕ} {x2 : Sys2Proof.Machine.AtBound} (hx0 : Evolves a x0) : Evolves a (State.closeInset x0 x1 x2) := by
  unfold State.closeInset
  split
  · exact hx0
  · exact hx0
  · refine State.slipInset_ev ?_
    exact hx0
  · split
    · refine State.closeSheet_ev ?_
      exact hx0
    · exact hx0

theorem State.takeInset_ev {a : State} {x0 : Sys2Proof.Machine.State} {x1 : ℕ} {x2 : Bool} (hx0 : Evolves a x0) : Evolves a (State.takeInset x0 x1 x2) := by
  unfold State.takeInset
  extract_lets -merge -useContext +onlyGivenNames v1
  extract_lets -merge -useContext +onlyGivenNames v2
  extract_lets -merge -useContext +onlyGivenNames v3
  have h_v3 : Evolves a v3 := by
    unfold v3
    refine State.applySet_ev ?_
    exact hx0
  try clear_value v3
  refine Evolves.ite ?_ ?_
  · refine State.enterSheet_ev ?_
    exact h_v3
  · exact h_v3

theorem State.takeSets_ev {a : State} {x0 : Sys2Proof.Machine.State} {x1 : ℕ} {x2 : Option (List Sys2Proof.TagDecl)} {x3 : List (ℕ × Bool × AtBound)} (hx0 : Evolves a x0) : Evolves a (State.takeSets x0 x1 x2 x3).1 := by
  unfold State.takeSets
  extract_lets -merge -useContext +onlyGivenNames v1
  have h_v1 : Evolves a v1 := by
    unfold v1
    refine Evolves.ite ?_ ?_
    · refine State.applySet_ev ?_
      exact hx0
    · exact hx0
  try clear_value v1
  refine Evolves.foldl1 (fun t2 x3 h_t2 => ?_) ?_
  · refine Evolves.ite1 ?_ ?_
    · refine Evolves.pair1 ?_
      refine State.takeInset_ev ?_
      exact h_t2
    · exact h_t2
  · refine Evolves.pair1 ?_
    exact h_v1

theorem State.gateBoundary_ev {a : State} {x0 : Sys2Proof.Machine.State} {x1 : ℕ} {x2 : ℕ} {x3 : ℕ} (hx0 : Evolves a x0) : Evolves a (State.gateBoundary x0 x1 x2 x3) := by
  unfold State.gateBoundary
  extract_lets -merge -useContext +onlyGivenNames v1
  extract_lets -merge -useContext +onlyGivenNames v2
  split
  · refine State.setGate_ev ?_
    exact hx0
  · refine Evolves.ite ?_ ?_
    · refine State.setGate_ev ?_
      exact hx0
    · refine Evolves.ite ?_ ?_
      · refine State.bumpNode_ev ?_
        refine State.setGate_ev ?_
        exact hx0
      · refine State.bumpNode_ev ?_
        refine State.setGate_ev ?_
        exact hx0

theorem State.noSheet_ev {a : State} {x0 : Sys2Proof.Machine.State} {x1 : ℕ} (hx0 : Evolves a x0) : Evolves a (State.noSheet x0 x1) := by
  unfold State.noSheet
  refine State.setNum_ev ?_
  refine State.modInset_ev ?_
  exact hx0

theorem State.stopStream_ev {a : State} {x0 : Sys2Proof.Machine.State} {x1 : ℕ} {x2 : ℕ} (hx0 : Evolves a x0) : Evolves a (State.stopStream x0 x1 x2) := by
  unfold State.stopStream
  refine State.noSheet_ev ?_
  refine State.event_ev ?_
  refine State.closeRequests_ev ?_
  exact hx0

theorem State.nextSheet_ev {a : State} {x0 : Sys2Proof.Machine.State} {x1 : ℕ} {x2 : ℕ} {x3 : ℕ} {x4 : List ℕ} (hx0 : Evolves a x0) : Evolves a (State.nextSheet x0 x1 x2 x3 x4) := by
  unfold State.nextSheet
  extract_lets -merge -useContext +onlyGivenNames v1
  split
  · refine State.noSheet_ev ?_
    exact hx0
  · refine Evolves.ite ?_ ?_
    · refine State.stopStream_ev ?_
      exact hx0
    · refine Evolves.ite ?_ ?_
      · refine State.stopStream_ev ?_
        exact hx0
      · refine State.beginSheet_ev ?_
        exact hx0

theorem State.slice_ev {a : State} {x0 : Sys2Proof.Machine.State} {x1 : ℕ} {x2 : ℕ} {x3 : List ℕ} (hx0 : Evolves a x0) : Evolves a (State.slice x0 x1 x2 x3) := by
  unfold State.slice
  extract_lets -merge -useContext +onlyGivenNames v1
  extract_lets -merge -useContext +onlyGivenNames v2
  extract_lets -merge -useContext +onlyGivenNames v3
  extract_lets -merge -useContext +onlyGivenNames v4
  refine Evolves.ite ?_ ?_
  · refine State.nextSheet_ev ?_
    exact hx0
  · split
    · refine State.noSheet_ev ?_
      exact hx0
    · extract_lets -merge -useContext +onlyGivenNames v5
      have h_v5 : ∀ z6, Evolves a z6 → Evolves a (v5 z6) := by
        intro z6 h_z6
        unfold v5
        refine State.modInset_ev ?_
        exact h_z6
      try clear_value v5
      refine Evolves.ite ?_ ?_
      · refine State.nextSheet_ev ?_
        refine h_v5 _ ?_
        exact hx0
      · refine Evolves.ite ?_ ?_
        · refine State.noSheet_ev ?_
          refine h_v5 _ ?_
          refine State.beginSwitch_ev ?_
          exact hx0
        · refine Evolves.ite ?_ ?_
          · refine State.noSheet_ev ?_
            exact hx0
          · refine State.nextSheet_ev ?_
            refine State.bump_ev ?_
            exact hx0

theorem State.startInset_ev {a : State} {x0 : Sys2Proof.Machine.State} {x1 : ℕ} {x2 : ℕ} {x3 : List ℕ} {x4 : Bool} (hx0 : Evolves a x0) : Evolves a (State.startInset x0 x1 x2 x3 x4) := by
  unfold State.startInset
  extract_lets -merge -useContext +onlyGivenNames v1
  refine Evolves.ite ?_ ?_
  · refine State.noSheet_ev ?_
    exact hx0
  · split
    · extract_lets -merge -useContext +onlyGivenNames v2
      have h_v2 : Evolves a v2 := by
        unfold v2
        refine State.setNum_ev ?_
        exact hx0
      try clear_value v2
      refine State.nextSheet_ev ?_
      refine State.modInset_ev ?_
      exact h_v2
    · extract_lets -merge -useContext +onlyGivenNames v3
      extract_lets -merge -useContext +onlyGivenNames v4
      extract_lets -merge -useContext +onlyGivenNames v5
      have h_v5 : Evolves a v5 := by
        unfold v5
        refine State.modInset_ev ?_
        exact hx0
      try clear_value v5
      refine State.nextSheet_ev ?_
      refine State.toSlice_ev ?_
      refine State.setNum_ev ?_
      exact h_v5
    · refine Evolves.ite ?_ ?_
      · refine State.slice_ev ?_
        exact hx0
      · exact hx0

theorem State.restoreModes_ev {a : State} {x0 : Sys2Proof.Machine.State} {x1 : ℕ} (hx0 : Evolves a x0) : Evolves a (State.restoreModes x0 x1) := by
  unfold State.restoreModes
  refine Evolves.foldl (fun t1 x2 h_t1 => ?_) ?_
  · refine State.bumpNode_ev ?_
    refine State.askMode_ev ?_
    exact h_t1
  · exact hx0

theorem State.openInset_ev {a : State} {x0 : Sys2Proof.Machine.State} {x1 : ℕ} {x2 : ℕ} {x3 : List ℕ} {x4 : Bool} {x5 : Bool} {x6 : Sys2Proof.Machine.AtBound} (hx0 : Evolves a x0) : Evolves a (State.openInset x0 x1 x2 x3 x4 x5 x6) := by
  unfold State.openInset
  extract_lets -merge -useContext +onlyGivenNames v1
  have h_v1 : Evolves a v1 := by
    unfold v1
    refine Evolves.ite ?_ ?_
    · refine State.startInset_ev ?_
      exact hx0
    · refine Evolves.ite ?_ ?_
      · refine State.noSheet_ev ?_
        exact hx0
      · exact hx0
  try clear_value v1
  extract_lets -merge -useContext +onlyGivenNames v2
  have h_v2 : Evolves a v2 := by
    unfold v2
    refine Evolves.ite ?_ ?_
    · refine State.restoreModes_ev ?_
      exact h_v1
    · exact h_v1
  try clear_value v2
  refine Evolves.ite ?_ ?_
  · refine State.quiesce_ev ?_
    exact h_v2
  · exact h_v2

theorem State.tagCapture_ev {a : State} {x0 : Sys2Proof.Machine.State} {x1 : ℕ} (hx0 : Evolves a x0) : Evolves a (State.tagCapture x0 x1) := by
  unfold State.tagCapture
  split
  · exact hx0
  · refine Evolves.ite ?_ ?_
    · exact hx0
    · refine Evolves.mk' ?_ rfl
      exact hx0

theorem State.boundary_ev {a : State} {x0 : Sys2Proof.Machine.State} {x1 : ℕ} {x2 : ℕ} {x3 : Sys2Proof.BoundaryIn} (hx0 : Evolves a x0) : Evolves a (State.boundary x0 x1 x2 x3) := by
  unfold State.boundary
  extract_lets -merge -useContext +onlyGivenNames v1
  have h_v1 : Evolves a v1 := by
    unfold v1
    refine State.tickRehearsals_ev ?_
    exact hx0
  try clear_value v1
  extract_lets -merge -useContext +onlyGivenNames v2
  have h_v2 : Evolves a v2 := by
    unfold v2
    refine State.dumpCapture_ev ?_
    exact h_v1
  try clear_value v2
  extract_lets -merge -useContext +onlyGivenNames v3
  have h_v3 : Evolves a v3 := by
    unfold v3
    refine State.account_ev ?_
    exact h_v2
  try clear_value v3
  extract_lets -merge -useContext +onlyGivenNames v4
  have h_v4 : Evolves a v4 := by
    unfold v4
    refine State.vcoreBoundary_ev ?_
    refine State.bwBoundary_ev ?_
    exact h_v3
  try clear_value v4
  split
  · rename_i s5 y6 heq
    have h_s5 : Evolves a s5 := by
      refine Evolves.fstEq (by assumption) ?_
      refine State.boundaryDecls_ev ?_
      exact h_v4
    split
    · rename_i s7 y8 heq
      have h_s7 : Evolves a s7 := by
        refine Evolves.fstEq (by assumption) ?_
        refine State.preemptions_ev ?_
        exact h_s5
      extract_lets -merge -useContext +onlyGivenNames v9
      have h_v9 : Evolves a v9 := by
        unfold v9
        refine Evolves.foldl (fun t10 x11 h_t10 => ?_) ?_
        · refine State.closeInset_ev ?_
          exact h_t10
        · exact h_s7
      try clear_value v9
      extract_lets -merge -useContext +onlyGivenNames v12
      have h_v12 : Evolves a v12 := by
        unfold v12
        refine State.setNum_ev ?_
        exact h_v9
      try clear_value v12
      split
      · rename_i s13 y14 heq
        have h_s13 : Evolves a s13 := by
          refine Evolves.fstEq (by assumption) ?_
          refine State.takeSets_ev ?_
          exact h_v12
        extract_lets -merge -useContext +onlyGivenNames w1
        have h_w1 : Evolves a w1 := by
          unfold w1
          exact Evolves.ite (State.writeImage_ev h_s13) h_s13
        try clear_value w1
        extract_lets -merge -useContext +onlyGivenNames v15
        extract_lets -merge -useContext +onlyGivenNames v16
        extract_lets -merge -useContext +onlyGivenNames v17
        have h_v17 : Evolves a v17 := by
          unfold v17
          refine Evolves.mk' ?_ rfl
          exact h_w1
        try clear_value v17
        extract_lets -merge -useContext +onlyGivenNames v18
        have h_v18 : Evolves a v18 := by
          unfold v18
          refine Evolves.foldl (fun t19 x20 h_t19 => ?_) ?_
          · refine State.gateBoundary_ev ?_
            exact h_t19
          · exact h_v17
        try clear_value v18
        extract_lets -merge -useContext +onlyGivenNames v21
        have h_v21 : Evolves a v21 := by
          unfold v21
          refine State.bindBoundary_ev ?_
          refine State.takeQueues_ev ?_
          exact h_v18
        try clear_value v21
        extract_lets -merge -useContext +onlyGivenNames v22
        have h_v22 : Evolves a v22 := by
          unfold v22
          refine Evolves.foldl (fun t23 x24 h_t23 => ?_) ?_
          · refine State.openInset_ev ?_
            exact h_t23
          · exact h_v21
        try clear_value v22
        refine State.tagCapture_ev ?_
        exact h_v22

theorem execTickBoundary_ev {a : State} {x0 : Sys2Proof.BoundaryIn} {x1 : Sys2Proof.Machine.State} (hx1 : Evolves a x1) : EvolvesO a (execTickBoundary x0 x1) := by
  unfold execTickBoundary
  refine EvolvesO.ite ?_ ?_
  · refine EvolvesO.next ?_
    exact hx1
  · refine EvolvesO.next ?_
    refine State.boundary_ev ?_
    exact hx1

end Sys2Proof.Machine
end

