-- ==== Sys2Proof/Laws/KeepCartouche.lean ====
section
/-!
SUPPORT. Every function of Machine/Cartouche.lean that answers a state keeps what `Evolves` names.
-/

namespace Sys2Proof.Machine

set_option linter.all false

theorem State.raiseFloor_ev {a : State} {x0 : Sys2Proof.Machine.State} {x1 : ℕ} (hx0 : Evolves a x0) : Evolves a (State.raiseFloor x0 x1) := by
  unfold State.raiseFloor
  extract_lets -merge -useContext +onlyGivenNames v1
  extract_lets -merge -useContext +onlyGivenNames v2
  have h_v2 : Evolves a v2 := by
    unfold v2
    refine State.setNum_ev ?_
    exact hx0
  try clear_value v2
  refine Evolves.ite ?_ ?_
  · refine State.setNum_ev ?_
    exact h_v2
  · refine State.nodeEvent_ev ?_
    refine State.setNum_ev ?_
    exact h_v2

theorem State.secCode_ev {a : State} {x0 : Sys2Proof.Machine.State} {x1 : ℕ} (hx0 : Evolves a x0) : Evolves a (State.secCode x0 x1).1 := by
  unfold State.secCode
  refine Evolves.pair1 ?_
  refine State.nodeEvent_ev ?_
  exact hx0

theorem State.setOwner_ev {a : State} {x0 : Sys2Proof.Machine.State} {x1 : Sys2Proof.Bytes} (hx0 : Evolves a x0) : Evolves a (State.setOwner x0 x1) := by
  unfold State.setOwner
  extract_lets -merge -useContext +onlyGivenNames v1
  extract_lets -merge -useContext +onlyGivenNames v2
  have h_v2 : Evolves a v2 := by
    unfold v2
    refine Evolves.ite ?_ ?_
    · refine State.setNum_ev ?_
      exact hx0
    · exact hx0
  try clear_value v2
  refine State.setBoot_ev ?_
  refine State.setReg_ev ?_
  exact h_v2

theorem State.woAttestNonce_ev {a : State} {x0 : Sys2Proof.Machine.State} {x1 : ℕ} {x2 : Sys2Proof.Bytes} (hx0 : Evolves a x0) : Evolves a (State.woAttestNonce x0 x1 x2).1 := by
  unfold State.woAttestNonce
  refine Evolves.ite1 ?_ ?_
  · refine Evolves.pair1 ?_
    exact hx0
  · refine Evolves.ite1 ?_ ?_
    · refine Evolves.pair1 ?_
      exact hx0
    · refine Evolves.pair1 ?_
      refine Evolves.mk' ?_ rfl
      exact hx0

theorem State.woDebugToken_ev {a : State} {x0 : Sys2Proof.Machine.State} {x1 : ℕ} {x2 : Sys2Proof.Bytes} (hx0 : Evolves a x0) : Evolves a (State.woDebugToken x0 x1 x2).1 := by
  unfold State.woDebugToken
  extract_lets -merge -useContext +onlyGivenNames v1
  extract_lets -merge -useContext +onlyGivenNames v2
  extract_lets -merge -useContext +onlyGivenNames v3
  extract_lets -merge -useContext +onlyGivenNames v4
  extract_lets -merge -useContext +onlyGivenNames v5
  extract_lets -merge -useContext +onlyGivenNames v6
  refine Evolves.ite1 ?_ ?_
  · refine Evolves.pair1 ?_
    exact hx0
  · refine Evolves.ite1 ?_ ?_
    · refine State.secCode_ev ?_
      exact hx0
    · extract_lets -merge -useContext +onlyGivenNames v7
      have h_v7 : Evolves a v7 := by
        unfold v7
        refine State.setNum_ev ?_
        exact hx0
      try clear_value v7
      refine Evolves.pair1 ?_
      refine State.nodeEvent_ev ?_
      refine State.extendMr_ev ?_
      exact h_v7

theorem State.woFloorCert_ev {a : State} {x0 : Sys2Proof.Machine.State} {x1 : ℕ} {x2 : Sys2Proof.Bytes} (hx0 : Evolves a x0) : Evolves a (State.woFloorCert x0 x1 x2).1 := by
  unfold State.woFloorCert
  extract_lets -merge -useContext +onlyGivenNames v1
  extract_lets -merge -useContext +onlyGivenNames v2
  refine Evolves.ite1 ?_ ?_
  · refine Evolves.pair1 ?_
    exact hx0
  · split
    · refine Evolves.pair1 ?_
      refine State.fireTimed_ev ?_
      exact hx0
    · refine Evolves.ite1 ?_ ?_
      · refine State.secCode_ev ?_
        exact hx0
      · refine Evolves.pair1 ?_
        refine State.extendMr_ev ?_
        refine State.raiseFloor_ev ?_
        exact hx0

theorem State.woImageWrite_ev {a : State} {x0 : Sys2Proof.Machine.State} {x1 : ℕ} {x2 : Sys2Proof.Bytes} (hx0 : Evolves a x0) : Evolves a (State.woImageWrite x0 x1 x2).1 := by
  unfold State.woImageWrite
  refine Evolves.ite1 ?_ ?_
  · refine State.secCode_ev ?_
    exact hx0
  · refine Evolves.ite1 ?_ ?_
    · refine Evolves.pair1 ?_
      exact hx0
    · extract_lets -merge -useContext +onlyGivenNames w1
      extract_lets -merge -useContext +onlyGivenNames v1
      have h_v1 : Evolves a v1 := by
        unfold v1
        refine Evolves.mk' ?_ rfl
        exact hx0
      try clear_value v1
      refine Evolves.pair1 ?_
      exact Evolves.ite (State.writeImage_ev h_v1) h_v1

theorem State.woMeasureExtend_ev {a : State} {x0 : Sys2Proof.Machine.State} {x1 : ℕ} {x2 : Sys2Proof.Bytes} (hx0 : Evolves a x0) : Evolves a (State.woMeasureExtend x0 x1 x2).1 := by
  unfold State.woMeasureExtend
  refine Evolves.ite1 ?_ ?_
  · refine Evolves.pair1 ?_
    exact hx0
  · refine Evolves.pair1 ?_
    refine State.extendMr_ev ?_
    exact hx0

theorem State.woOwnerKey_ev {a : State} {x0 : Sys2Proof.GazPath} {x1 : Sys2Proof.Machine.State} {x2 : ℕ} {x3 : Sys2Proof.Bytes} (hx1 : Evolves a x1) : Evolves a (State.woOwnerKey x0 x1 x2 x3).1 := by
  unfold State.woOwnerKey
  refine Evolves.ite1 ?_ ?_
  · refine Evolves.ite1 ?_ ?_
    · refine Evolves.pair1 ?_
      exact hx1
    · split
      · refine Evolves.pair1 ?_
        refine State.setOwner_ev ?_
        exact hx1
      · refine State.secCode_ev ?_
        exact hx1
  · extract_lets -merge -useContext +onlyGivenNames v1
    extract_lets -merge -useContext +onlyGivenNames v2
    refine Evolves.ite1 ?_ ?_
    · refine Evolves.pair1 ?_
      exact hx1
    · refine Evolves.ite1 ?_ ?_
      · refine Evolves.pair1 ?_
        refine State.setOwner_ev ?_
        exact hx1
      · refine State.secCode_ev ?_
        exact hx1

theorem execAttestNonce_ev {a : State} {x0 : Sys2Proof.GazReq} {x1 : Sys2Proof.Machine.State} (hx1 : Evolves a x1) : EvolvesO a (execAttestNonce x0 x1) := by
  unfold execAttestNonce
  refine State.woRow_ev ?_ ?_
  · exact hx1
  · intro z1 z2 z3 h_z1
    refine State.woAttestNonce_ev ?_
    exact h_z1

theorem execAttestReport_ev {a : State} {x0 : ℕ} {x1 : Bool} {x2 : Sys2Proof.Machine.State} (hx2 : Evolves a x2) : EvolvesO a (execAttestReport x0 x1 x2) := by
  unfold execAttestReport
  refine EvolvesO.ite ?_ ?_
  · exact EvolvesO.fault
  · split
    · refine EvolvesO.next ?_
      exact hx2
    · refine EvolvesO.ite ?_ ?_
      · refine EvolvesO.next ?_
        exact hx2
      · extract_lets -merge -useContext +onlyGivenNames v1
        extract_lets -merge -useContext +onlyGivenNames v2
        have h_v2 : Evolves a v2 := by
          unfold v2
          refine Evolves.mk' ?_ rfl
          exact hx2
        try clear_value v2
        extract_lets -merge -useContext +onlyGivenNames v3
        refine EvolvesO.next ?_
        split
        · refine State.setReg_ev ?_
          refine State.fireTimed_ev ?_
          exact h_v2
        · refine Evolves.ite ?_ ?_
          · refine State.setReg_ev ?_
            exact h_v2
          · refine State.setReg_ev ?_
            refine State.nodeEvent_ev ?_
            exact h_v2

theorem execDebugToken_ev {a : State} {x0 : Sys2Proof.GazReq} {x1 : Sys2Proof.Machine.State} (hx1 : Evolves a x1) : EvolvesO a (execDebugToken x0 x1) := by
  unfold execDebugToken
  refine State.woRow_ev ?_ ?_
  · exact hx1
  · intro z1 z2 z3 h_z1
    refine State.woDebugToken_ev ?_
    exact h_z1

theorem execFloorCert_ev {a : State} {x0 : Sys2Proof.GazReq} {x1 : Sys2Proof.Machine.State} (hx1 : Evolves a x1) : EvolvesO a (execFloorCert x0 x1) := by
  unfold execFloorCert
  refine State.woRow_ev ?_ ?_
  · exact hx1
  · intro z1 z2 z3 h_z1
    refine State.woFloorCert_ev ?_
    exact h_z1

theorem execImageWrite_ev {a : State} {x0 : Sys2Proof.GazReq} {x1 : Sys2Proof.Machine.State} (hx1 : Evolves a x1) : EvolvesO a (execImageWrite x0 x1) := by
  unfold execImageWrite
  refine State.woRow_ev ?_ ?_
  · exact hx1
  · intro z1 z2 z3 h_z1
    refine State.woImageWrite_ev ?_
    exact h_z1

theorem execMeasureExtend_ev {a : State} {x0 : Sys2Proof.GazReq} {x1 : Sys2Proof.Machine.State} (hx1 : Evolves a x1) : EvolvesO a (execMeasureExtend x0 x1) := by
  unfold execMeasureExtend
  refine State.woRow_ev ?_ ?_
  · exact hx1
  · intro z1 z2 z3 h_z1
    refine State.woMeasureExtend_ev ?_
    exact h_z1

theorem execOwnerKey_ev {a : State} {x0 : Sys2Proof.GazReq} {x1 : Sys2Proof.Machine.State} (hx1 : Evolves a x1) : EvolvesO a (execOwnerKey x0 x1) := by
  unfold execOwnerKey
  refine State.woRow_ev ?_ ?_
  · exact hx1
  · intro z1 z2 z3 h_z1
    refine State.woOwnerKey_ev ?_
    exact h_z1

end Sys2Proof.Machine
end

