-- ==== Sys2Proof/Laws/KeepEmbedding.lean ====
section
/-!
SUPPORT. Every function of Machine/Embedding.lean that answers a state keeps what `Evolves` names.
-/

namespace Sys2Proof.Machine

set_option linter.all false

theorem State.applyWork_ev {a : State} {x0 : Sys2Proof.Machine.State} {x1 : Sys2Proof.CmdRef} {x2 : Sys2Proof.Machine.Cmd} (hx0 : Evolves a x0) : Evolves a (State.applyWork x0 x1 x2).1 := by
  unfold State.applyWork
  extract_lets -merge -useContext +onlyGivenNames v1
  extract_lets -merge -useContext +onlyGivenNames v2
  extract_lets -merge -useContext +onlyGivenNames v3
  extract_lets -merge -useContext +onlyGivenNames v4
  extract_lets -merge -useContext +onlyGivenNames v5
  split
  · refine Evolves.pair1 ?_
    exact hx0
  · extract_lets -merge -useContext +onlyGivenNames v6
    refine Evolves.ite1 ?_ ?_
    · refine Evolves.pair1 ?_
      exact hx0
    · refine Evolves.ite1 ?_ ?_
      · refine Evolves.pair1 ?_
        exact hx0
      · extract_lets -merge -useContext +onlyGivenNames v7
        have h_v7 : Evolves a v7 := by
          unfold v7
          refine State.noteReads_ev ?_
          exact hx0
        try clear_value v7
        extract_lets -merge -useContext +onlyGivenNames v8
        extract_lets -merge -useContext +onlyGivenNames v9
        extract_lets -merge -useContext +onlyGivenNames v10
        extract_lets -merge -useContext +onlyGivenNames v11
        extract_lets -merge -useContext +onlyGivenNames v12
        extract_lets -merge -useContext +onlyGivenNames v13
        extract_lets -merge -useContext +onlyGivenNames v14
        refine Evolves.pair1 ?_
        exact h_v7

theorem State.fetchListWork_ev {a : State} {x0 : Sys2Proof.Machine.State} {x1 : Sys2Proof.CmdRef} {x2 : Sys2Proof.Machine.Cmd} (hx0 : Evolves a x0) : Evolves a (State.fetchListWork x0 x1 x2).1 := by
  unfold State.fetchListWork
  extract_lets -merge -useContext +onlyGivenNames v1
  extract_lets -merge -useContext +onlyGivenNames v2
  extract_lets -merge -useContext +onlyGivenNames v3
  split
  · refine Evolves.pair1 ?_
    exact hx0
  · extract_lets -merge -useContext +onlyGivenNames v4
    have h_v4 : Evolves a v4 := by
      unfold v4
      refine State.noteReads_ev ?_
      exact hx0
    try clear_value v4
    extract_lets -merge -useContext +onlyGivenNames v5
    extract_lets -merge -useContext +onlyGivenNames v6
    extract_lets -merge -useContext +onlyGivenNames v7
    refine Evolves.pair1 ?_
    exact h_v4

theorem State.poolWork_ev {a : State} {x0 : Sys2Proof.Machine.State} {x1 : Sys2Proof.CmdRef} {x2 : Sys2Proof.Machine.Cmd} (hx0 : Evolves a x0) : Evolves a (State.poolWork x0 x1 x2).1 := by
  unfold State.poolWork
  extract_lets -merge -useContext +onlyGivenNames v1
  extract_lets -merge -useContext +onlyGivenNames v2
  extract_lets -merge -useContext +onlyGivenNames v3
  extract_lets -merge -useContext +onlyGivenNames v4
  extract_lets -merge -useContext +onlyGivenNames v5
  split
  · refine Evolves.pair1 ?_
    exact hx0
  · split
    · refine Evolves.pair1 ?_
      exact hx0
    · extract_lets -merge -useContext +onlyGivenNames v6
      extract_lets -merge -useContext +onlyGivenNames v7
      split
      · refine Evolves.pair1 ?_
        exact hx0
      · extract_lets -merge -useContext +onlyGivenNames v8
        refine Evolves.ite1 ?_ ?_
        · refine Evolves.pair1 ?_
          exact hx0
        · extract_lets -merge -useContext +onlyGivenNames v9
          have h_v9 : Evolves a v9 := by
            unfold v9
            refine State.noteReads_ev ?_
            exact hx0
          try clear_value v9
          extract_lets -merge -useContext +onlyGivenNames v10
          extract_lets -merge -useContext +onlyGivenNames v11
          extract_lets -merge -useContext +onlyGivenNames v12
          extract_lets -merge -useContext +onlyGivenNames v13
          extract_lets -merge -useContext +onlyGivenNames v14
          extract_lets -merge -useContext +onlyGivenNames v15
          extract_lets -merge -useContext +onlyGivenNames v16
          extract_lets -merge -useContext +onlyGivenNames v17
          extract_lets -merge -useContext +onlyGivenNames v18
          extract_lets -merge -useContext +onlyGivenNames v19
          extract_lets -merge -useContext +onlyGivenNames v20
          extract_lets -merge -useContext +onlyGivenNames v21
          extract_lets -merge -useContext +onlyGivenNames v22
          split
          · rename_i y23 s24 heq
            have h_s24 : Evolves a s24 := by
              refine Evolves.sndEq (by assumption) ?_
              refine Evolves.ite2 ?_ ?_
              · refine State.draw_ev ?_
                exact h_v9
              · refine Evolves.pair2 ?_
                exact h_v9
            extract_lets -merge -useContext +onlyGivenNames v25
            split
            · rename_i y26 s27 heq
              have h_s27 : Evolves a s27 := by
                refine Evolves.sndEq (by assumption) ?_
                refine Evolves.ite2 ?_ ?_
                · refine State.draw_ev ?_
                  exact h_s24
                · refine Evolves.pair2 ?_
                  exact h_s24
              extract_lets -merge -useContext +onlyGivenNames v28
              extract_lets -merge -useContext +onlyGivenNames v29
              extract_lets -merge -useContext +onlyGivenNames v30
              extract_lets -merge -useContext +onlyGivenNames v31
              extract_lets -merge -useContext +onlyGivenNames v32
              refine Evolves.pair1 ?_
              exact h_s27

theorem State.routeWork_ev {a : State} {x0 : Sys2Proof.Machine.State} {x1 : Sys2Proof.CmdRef} {x2 : Sys2Proof.Machine.Cmd} (hx0 : Evolves a x0) : Evolves a (State.routeWork x0 x1 x2).1 := by
  unfold State.routeWork
  extract_lets -merge -useContext +onlyGivenNames v1
  extract_lets -merge -useContext +onlyGivenNames v2
  extract_lets -merge -useContext +onlyGivenNames v3
  split
  · refine Evolves.pair1 ?_
    exact hx0
  · extract_lets -merge -useContext +onlyGivenNames v4
    extract_lets -merge -useContext +onlyGivenNames v5
    extract_lets -merge -useContext +onlyGivenNames v6
    extract_lets -merge -useContext +onlyGivenNames v7
    extract_lets -merge -useContext +onlyGivenNames v8
    extract_lets -merge -useContext +onlyGivenNames v9
    refine Evolves.ite1 ?_ ?_
    · refine Evolves.pair1 ?_
      exact hx0
    · refine Evolves.ite1 ?_ ?_
      · refine Evolves.pair1 ?_
        exact hx0
      · split
        · refine Evolves.pair1 ?_
          exact hx0
        · extract_lets -merge -useContext +onlyGivenNames v10
          have h_v10 : Evolves a v10 := by
            unfold v10
            refine State.noteReads_ev ?_
            exact hx0
          try clear_value v10
          extract_lets -merge -useContext +onlyGivenNames v11
          extract_lets -merge -useContext +onlyGivenNames v12
          extract_lets -merge -useContext +onlyGivenNames v13
          extract_lets -merge -useContext +onlyGivenNames v14
          extract_lets -merge -useContext +onlyGivenNames v15
          extract_lets -merge -useContext +onlyGivenNames v16
          extract_lets -merge -useContext +onlyGivenNames v17
          extract_lets -merge -useContext +onlyGivenNames v18
          extract_lets -merge -useContext +onlyGivenNames v19
          extract_lets -merge -useContext +onlyGivenNames v20
          extract_lets -merge -useContext +onlyGivenNames v21
          extract_lets -merge -useContext +onlyGivenNames v22
          extract_lets -merge -useContext +onlyGivenNames v23
          extract_lets -merge -useContext +onlyGivenNames v24
          extract_lets -merge -useContext +onlyGivenNames v25
          extract_lets -merge -useContext +onlyGivenNames v26
          extract_lets -merge -useContext +onlyGivenNames v27
          extract_lets -merge -useContext +onlyGivenNames v28
          extract_lets -merge -useContext +onlyGivenNames v29
          extract_lets -merge -useContext +onlyGivenNames v30
          extract_lets -merge -useContext +onlyGivenNames v31
          refine Evolves.pair1 ?_
          exact h_v10

theorem State.scatterKeys_ev {a : State} {x0 : Sys2Proof.Machine.State} {x1 : ℕ} {x2 : ℕ} {x3 : ℕ} {x4 : List ℕ} (hx0 : Evolves a x0) : Evolves a (State.scatterKeys x0 x1 x2 x3 x4).1 := by
  unfold State.scatterKeys
  extract_lets -merge -useContext +onlyGivenNames v1
  extract_lets -merge -useContext +onlyGivenNames v2
  extract_lets -merge -useContext +onlyGivenNames v3
  refine Evolves.ite1 ?_ ?_
  · refine Evolves.pair1 ?_
    exact hx0
  · refine Evolves.foldl1 (fun t4 x5 h_t4 => ?_) ?_
    · split
      · rename_i y6 s7 heq
        have h_s7 : Evolves a s7 := by
          refine Evolves.sndEq (by assumption) ?_
          refine State.draw_ev ?_
          exact h_t4
        refine Evolves.pair1 ?_
        exact h_s7
    · refine Evolves.pair1 ?_
      exact hx0

theorem State.scatterWork_ev {a : State} {x0 : Sys2Proof.Machine.State} {x1 : Sys2Proof.CmdRef} {x2 : Sys2Proof.Machine.Cmd} (hx0 : Evolves a x0) : Evolves a (State.scatterWork x0 x1 x2).1 := by
  unfold State.scatterWork
  extract_lets -merge -useContext +onlyGivenNames v1
  extract_lets -merge -useContext +onlyGivenNames v2
  extract_lets -merge -useContext +onlyGivenNames v3
  extract_lets -merge -useContext +onlyGivenNames v4
  extract_lets -merge -useContext +onlyGivenNames v5
  split
  · refine Evolves.pair1 ?_
    exact hx0
  · extract_lets -merge -useContext +onlyGivenNames v6
    extract_lets -merge -useContext +onlyGivenNames v7
    extract_lets -merge -useContext +onlyGivenNames v8
    extract_lets -merge -useContext +onlyGivenNames v9
    split
    · refine Evolves.pair1 ?_
      exact hx0
    · extract_lets -merge -useContext +onlyGivenNames v10
      have h_v10 : Evolves a v10 := by
        unfold v10
        refine State.noteReads_ev ?_
        exact hx0
      try clear_value v10
      extract_lets -merge -useContext +onlyGivenNames v11
      extract_lets -merge -useContext +onlyGivenNames v12
      extract_lets -merge -useContext +onlyGivenNames v13
      extract_lets -merge -useContext +onlyGivenNames v14
      extract_lets -merge -useContext +onlyGivenNames v15
      extract_lets -merge -useContext +onlyGivenNames v16
      split
      · rename_i s17 y18 y19 heq
        have h_s17 : Evolves a s17 := by
          refine Evolves.fstEq (by assumption) ?_
          refine Evolves.foldl1 (fun t20 x21 h_t20 => ?_) ?_
          · split
            · rename_i s22 y23 y24
              have h_s22 : Evolves a s22 := by
                exact h_t20
              extract_lets -merge -useContext +onlyGivenNames v25
              extract_lets -merge -useContext +onlyGivenNames v26
              split
              · rename_i s27 y28 heq
                have h_s27 : Evolves a s27 := by
                  refine Evolves.fstEq (by assumption) ?_
                  refine State.scatterKeys_ev ?_
                  exact h_s22
                extract_lets -merge -useContext +onlyGivenNames v29
                split
                · extract_lets -merge -useContext +onlyGivenNames v30
                  refine Evolves.pair1 ?_
                  exact h_s27
          · refine Evolves.pair1 ?_
            exact h_v10
        refine Evolves.pair1 ?_
        exact h_s17

theorem State.serveWork_ev {a : State} {x0 : Sys2Proof.Machine.State} {x1 : Sys2Proof.CmdRef} {x2 : Sys2Proof.Machine.Cmd} (hx0 : Evolves a x0) : Evolves a (State.serveWork x0 x1 x2).1 := by
  unfold State.serveWork
  extract_lets -merge -useContext +onlyGivenNames v1
  extract_lets -merge -useContext +onlyGivenNames v2
  extract_lets -merge -useContext +onlyGivenNames v3
  extract_lets -merge -useContext +onlyGivenNames v4
  split
  · refine Evolves.pair1 ?_
    exact hx0
  · extract_lets -merge -useContext +onlyGivenNames v5
    extract_lets -merge -useContext +onlyGivenNames v6
    extract_lets -merge -useContext +onlyGivenNames v7
    split
    · refine Evolves.pair1 ?_
      exact hx0
    · extract_lets -merge -useContext +onlyGivenNames v8
      extract_lets -merge -useContext +onlyGivenNames v9
      have h_v9 : Evolves a v9 := by
        unfold v9
        refine State.noteReads_ev ?_
        exact hx0
      try clear_value v9
      extract_lets -merge -useContext +onlyGivenNames v10
      split
      · extract_lets -merge -useContext +onlyGivenNames v11
        extract_lets -merge -useContext +onlyGivenNames v12
        refine Evolves.pair1 ?_
        exact h_v9

theorem execEmbApply_ev {a : State} {x0 : Sys2Proof.CmdRef} {x1 : Sys2Proof.Hw} {x2 : Sys2Proof.Machine.State} (hx2 : Evolves a x2) : EvolvesO a (execEmbApply x0 x1 x2) := by
  unfold execEmbApply
  refine State.engineRow_ev ?_ ?_
  · exact hx2
  · intro z1 z2 h_z1
    refine State.applyWork_ev ?_
    exact h_z1

theorem execEmbFetchList_ev {a : State} {x0 : Sys2Proof.CmdRef} {x1 : Sys2Proof.Hw} {x2 : Sys2Proof.Machine.State} (hx2 : Evolves a x2) : EvolvesO a (execEmbFetchList x0 x1 x2) := by
  unfold execEmbFetchList
  refine State.engineRow_ev ?_ ?_
  · exact hx2
  · intro z1 z2 h_z1
    refine State.fetchListWork_ev ?_
    exact h_z1

theorem execEmbPool_ev {a : State} {x0 : Sys2Proof.CmdRef} {x1 : Sys2Proof.Hw} {x2 : Sys2Proof.Machine.State} (hx2 : Evolves a x2) : EvolvesO a (execEmbPool x0 x1 x2) := by
  unfold execEmbPool
  refine State.engineRow_ev ?_ ?_
  · exact hx2
  · intro z1 z2 h_z1
    refine State.poolWork_ev ?_
    exact h_z1

theorem execEmbRoute_ev {a : State} {x0 : Sys2Proof.CmdRef} {x1 : Sys2Proof.Hw} {x2 : Sys2Proof.Machine.State} (hx2 : Evolves a x2) : EvolvesO a (execEmbRoute x0 x1 x2) := by
  unfold execEmbRoute
  refine State.engineRow_ev ?_ ?_
  · exact hx2
  · intro z1 z2 h_z1
    refine State.routeWork_ev ?_
    exact h_z1

theorem execEmbScatter_ev {a : State} {x0 : Sys2Proof.CmdRef} {x1 : Sys2Proof.Hw} {x2 : Sys2Proof.Machine.State} (hx2 : Evolves a x2) : EvolvesO a (execEmbScatter x0 x1 x2) := by
  unfold execEmbScatter
  refine State.engineRow_ev ?_ ?_
  · exact hx2
  · intro z1 z2 h_z1
    refine State.scatterWork_ev ?_
    exact h_z1

theorem execEmbServe_ev {a : State} {x0 : Sys2Proof.CmdRef} {x1 : Sys2Proof.Hw} {x2 : Sys2Proof.Machine.State} (hx2 : Evolves a x2) : EvolvesO a (execEmbServe x0 x1 x2) := by
  unfold execEmbServe
  refine State.engineRow_ev ?_ ?_
  · exact hx2
  · intro z1 z2 h_z1
    refine State.serveWork_ev ?_
    exact h_z1

end Sys2Proof.Machine
end

