-- ==== Sys2Proof/Laws/KeepGazetteer.lean ====
section
/-!
SUPPORT. Every function of Machine/Gazetteer.lean that answers a state keeps what `Evolves` names.
-/

namespace Sys2Proof.Machine

set_option linter.all false

theorem State.answerRead_ev {a : State} {x0 : Sys2Proof.Machine.State} {x1 : Sys2Proof.GazReq} {x2 : Sys2Proof.Machine.EntryRow} {x3 : Sys2Proof.Machine.GVal} (hx0 : Evolves a x0) : Evolves a (State.answerRead x0 x1 x2 x3) := by
  unfold State.answerRead
  extract_lets -merge -useContext +onlyGivenNames v1
  extract_lets -merge -useContext +onlyGivenNames v2
  refine Evolves.ite ?_ ?_
  · refine State.answer_ev ?_
    exact hx0
  · extract_lets -merge -useContext +onlyGivenNames v3
    extract_lets -merge -useContext +onlyGivenNames v4
    refine State.answer_ev ?_
    exact hx0

theorem State.dropImages_ev {a : State} {x0 : Sys2Proof.Machine.State} {x1 : ℕ} (hx0 : Evolves a x0) : Evolves a (State.dropImages x0 x1) := by
  unfold State.dropImages
  refine Evolves.mk' ?_ rfl
  exact hx0

theorem State.applyRow_ev {a : State} {x0 : Sys2Proof.Machine.State} {x1 : Sys2Proof.GazReq} {x2 : ℕ} (hx0 : Evolves a x0) : Evolves a (State.applyRow x0 x1 x2) := by
  unfold State.applyRow
  extract_lets -merge -useContext +onlyGivenNames v1
  extract_lets -merge -useContext +onlyGivenNames v2
  refine Evolves.ite ?_ ?_
  · refine State.respond_ev ?_
    exact hx0
  · refine Evolves.ite ?_ ?_
    · refine State.respond_ev ?_
      exact hx0
    · refine Evolves.ite ?_ ?_
      · refine State.respond_ev ?_
        exact hx0
      · refine Evolves.ite ?_ ?_
        · refine State.respond_ev ?_
          exact hx0
        · refine Evolves.ite ?_ ?_
          · refine State.respond_ev ?_
            exact hx0
          · extract_lets -merge -useContext +onlyGivenNames v3
            extract_lets -merge -useContext +onlyGivenNames v4
            have h_v4 : Evolves a v4 := by
              unfold v4
              refine Evolves.mk' ?_ rfl
              exact hx0
            try clear_value v4
            refine State.respond_ev ?_
            refine State.dropImages_ev ?_
            refine State.putSet_ev ?_
            exact h_v4

theorem State.checkSet_ev {a : State} {x0 : Sys2Proof.Machine.State} {x1 : Sys2Proof.GazReq} {x2 : ℕ} (hx0 : Evolves a x0) : Evolves a (State.checkSet x0 x1 x2) := by
  unfold State.checkSet
  extract_lets -merge -useContext +onlyGivenNames v1
  refine Evolves.ite ?_ ?_
  · refine State.respond_ev ?_
    exact hx0
  · extract_lets -merge -useContext +onlyGivenNames v2
    have h_v2 : ∀ z3 z4 z5 z6, Evolves a z3 → Evolves a (v2 z3 z4 z5 z6) := by
      intro z3 z4 z5 z6 h_z3
      unfold v2
      extract_lets -merge -useContext +onlyGivenNames v7
      have h_v7 : Evolves a v7 := by
        unfold v7
        refine State.putSet_ev ?_
        exact h_z3
      try clear_value v7
      extract_lets -merge -useContext +onlyGivenNames v8
      extract_lets -merge -useContext +onlyGivenNames v9
      have h_v9 : Evolves a v9 := by
        unfold v9
        refine Evolves.mk' ?_ rfl
        exact h_v7
      try clear_value v9
      refine State.answer_ev ?_
      exact h_v9
    try clear_value v2
    split
    · refine h_v2 _ _ _ _ ?_
      exact hx0
    · refine h_v2 _ _ _ _ ?_
      exact hx0

theorem State.discardRow_ev {a : State} {x0 : Sys2Proof.Machine.State} {x1 : Sys2Proof.GazReq} {x2 : ℕ} (hx0 : Evolves a x0) : Evolves a (State.discardRow x0 x1 x2) := by
  unfold State.discardRow
  extract_lets -merge -useContext +onlyGivenNames v1
  refine Evolves.ite ?_ ?_
  · refine State.respond_ev ?_
    exact hx0
  · refine Evolves.ite ?_ ?_
    · refine State.respond_ev ?_
      exact hx0
    · refine State.respond_ev ?_
      refine State.dropImages_ev ?_
      refine State.putSet_ev ?_
      exact hx0

theorem State.readRow_ev {a : State} {x0 : Sys2Proof.Machine.State} {x1 : Sys2Proof.GazReq} {x2 : State → EntryRow → Sys2Proof.Machine.GVal} (hx0 : Evolves a x0) : Evolves a (State.readRow x0 x1 x2) := by
  unfold State.readRow
  extract_lets -merge -useContext +onlyGivenNames v1
  have h_v1 : Evolves a v1 := by
    unfold v1
    refine State.unqueue_ev ?_
    exact hx0
  try clear_value v1
  split
  · refine State.respond_ev ?_
    exact h_v1
  · refine Evolves.ite ?_ ?_
    · refine State.respond_ev ?_
      exact h_v1
    · refine State.answerRead_ev ?_
      exact h_v1

theorem State.rwPlain_ev {a : State} {x0 : ℕ} {x1 : Sys2Proof.Machine.State} {x2 : ℕ} {x3 : Sys2Proof.Bytes} (hx1 : Evolves a x1) : Evolves a (State.rwPlain x0 x1 x2 x3).1 := by
  unfold State.rwPlain
  refine Evolves.pair1 ?_
  refine State.setNum_ev ?_
  exact hx1

theorem State.rwSampleRead_ev {a : State} {x0 : Sys2Proof.Machine.State} {x1 : ℕ} {x2 : Sys2Proof.Bytes} (hx0 : Evolves a x0) : Evolves a (State.rwSampleRead x0 x1 x2).1 := by
  unfold State.rwSampleRead
  extract_lets -merge -useContext +onlyGivenNames v1
  extract_lets -merge -useContext +onlyGivenNames v2
  extract_lets -merge -useContext +onlyGivenNames v3
  have h_v3 : Evolves a v3 := by
    unfold v3
    refine State.setNum_ev ?_
    exact hx0
  try clear_value v3
  refine Evolves.pair1 ?_
  refine Evolves.mk' ?_ rfl
  exact h_v3

theorem State.rwStore_ev {a : State} {x0 : ℕ} {x1 : Sys2Proof.Machine.State} {x2 : ℕ} {x3 : Sys2Proof.Bytes} (hx1 : Evolves a x1) : Evolves a (State.rwStore x0 x1 x2 x3).1 := by
  unfold State.rwStore
  extract_lets -merge -useContext +onlyGivenNames v1
  have h_v1 : Evolves a v1 := by
    unfold v1
    refine State.setNum_ev ?_
    exact hx1
  try clear_value v1
  refine Evolves.ite1 ?_ ?_
  · refine Evolves.pair1 ?_
    exact hx1
  · refine Evolves.ite1 ?_ ?_
    · refine Evolves.pair1 ?_
      exact hx1
    · refine Evolves.pair1 ?_
      exact h_v1

theorem State.setRow_ev {a : State} {x0 : Sys2Proof.Machine.State} {x1 : Sys2Proof.GazReq} {x2 : ℕ} {x3 : Bool} {x4 : State → ℕ → Sys2Proof.Machine.State} (hx0 : Evolves a x0) (hx4 : ∀ y0 y1, Evolves a y0 → Evolves a (x4 y0 y1)) : EvolvesO a (State.setRow x0 x1 x2 x3 x4) := by
  unfold State.setRow
  refine EvolvesO.ite ?_ ?_
  · refine EvolvesO.next ?_
    exact hx0
  · extract_lets -merge -useContext +onlyGivenNames v1
    have h_v1 : Evolves a v1 := by
      unfold v1
      refine State.unqueue_ev ?_
      exact hx0
    try clear_value v1
    refine EvolvesO.next ?_
    refine Evolves.ite ?_ ?_
    · refine State.respond_ev ?_
      exact h_v1
    · refine Evolves.ite ?_ ?_
      · refine State.respond_ev ?_
        exact h_v1
      · refine Evolves.ite ?_ ?_
        · refine State.respond_ev ?_
          exact h_v1
        · refine hx4 _ _ ?_
          exact h_v1

theorem State.stage_ev {a : State} {x0 : Sys2Proof.Machine.State} {x1 : ℕ} {x2 : ℕ} {x3 : Sys2Proof.Machine.GVal} (hx0 : Evolves a x0) : Evolves a (State.stage x0 x1 x2 x3).1 := by
  unfold State.stage
  extract_lets -merge -useContext +onlyGivenNames v1
  extract_lets -merge -useContext +onlyGivenNames v2
  have h_v2 : Evolves a v2 := by
    unfold v2
    refine State.putSet_ev ?_
    exact hx0
  try clear_value v2
  refine Evolves.ite1 ?_ ?_
  · refine Evolves.pair1 ?_
    exact hx0
  · refine Evolves.pair1 ?_
    exact h_v2

theorem State.stageWrite_ev {a : State} {x0 : Sys2Proof.Machine.State} {x1 : Sys2Proof.GazReq} {x2 : Sys2Proof.Machine.EntryRow} (hx0 : Evolves a x0) : Evolves a (State.stageWrite x0 x1 x2) := by
  unfold State.stageWrite
  split
  · rename_i s1 y2 heq
    have h_s1 : Evolves a s1 := by
      refine Evolves.fstEq (by assumption) ?_
      refine State.value_ev ?_
      exact hx0
    refine Evolves.ite ?_ ?_
    · refine State.respond_ev ?_
      exact h_s1
    · refine Evolves.ite ?_ ?_
      · refine State.respond_ev ?_
        exact hx0
      · refine Evolves.ite ?_ ?_
        · refine State.respond_ev ?_
          exact hx0
        · refine State.respond_ev ?_
          exact h_s1
  · rename_i s3 y4 heq
    have h_s3 : Evolves a s3 := by
      refine Evolves.fstEq (by assumption) ?_
      refine State.value_ev ?_
      exact hx0
    refine Evolves.ite ?_ ?_
    · refine State.respond_ev ?_
      exact hx0
    · refine Evolves.ite ?_ ?_
      · refine State.respond_ev ?_
        exact hx0
      · split
        · refine State.respond_ev ?_
          exact h_s3
        · split
          · rename_i s5 y6 heq
            have h_s5 : Evolves a s5 := by
              refine Evolves.fstEq (by assumption) ?_
              refine State.stage_ev ?_
              exact h_s3
            refine State.respond_ev ?_
            exact h_s5

theorem execApply_ev {a : State} {x0 : Sys2Proof.GazReq} {x1 : Sys2Proof.Machine.State} (hx1 : Evolves a x1) : EvolvesO a (execApply x0 x1) := by
  unfold execApply
  refine State.setRow_ev ?_ ?_
  · exact hx1
  · intro z1 z2 h_z1
    refine State.applyRow_ev ?_
    exact h_z1

theorem execCheck_ev {a : State} {x0 : Sys2Proof.GazReq} {x1 : Sys2Proof.Machine.State} (hx1 : Evolves a x1) : EvolvesO a (execCheck x0 x1) := by
  unfold execCheck
  refine State.setRow_ev ?_ ?_
  · exact hx1
  · intro z1 z2 h_z1
    refine State.checkSet_ev ?_
    exact h_z1

theorem execDiscard_ev {a : State} {x0 : Sys2Proof.GazReq} {x1 : Sys2Proof.Machine.State} (hx1 : Evolves a x1) : EvolvesO a (execDiscard x0 x1) := by
  unfold execDiscard
  refine State.setRow_ev ?_ ?_
  · exact hx1
  · intro z1 z2 h_z1
    refine State.discardRow_ev ?_
    exact h_z1

theorem execRead_ev {a : State} {x0 : Sys2Proof.GazReq} {x1 : Sys2Proof.Machine.State} (hx1 : Evolves a x1) : EvolvesO a (execRead x0 x1) := by
  unfold execRead
  refine EvolvesO.ite ?_ ?_
  · refine EvolvesO.next ?_
    exact hx1
  · refine EvolvesO.ite ?_ ?_
    · refine EvolvesO.next ?_
      refine State.readRow_ev ?_
      exact hx1
    · refine EvolvesO.ite ?_ ?_
      · refine EvolvesO.next ?_
        refine State.respond_ev ?_
        refine State.unqueue_ev ?_
        exact hx1
      · refine EvolvesO.next ?_
        exact hx1

theorem execReadStaged_ev {a : State} {x0 : Sys2Proof.GazReq} {x1 : Sys2Proof.Machine.State} (hx1 : Evolves a x1) : EvolvesO a (execReadStaged x0 x1) := by
  unfold execReadStaged
  refine EvolvesO.ite ?_ ?_
  · refine EvolvesO.next ?_
    refine State.readRow_ev ?_
    exact hx1
  · refine EvolvesO.next ?_
    exact hx1

theorem execSetState_ev {a : State} {x0 : Sys2Proof.GazReq} {x1 : Sys2Proof.Machine.State} (hx1 : Evolves a x1) : EvolvesO a (execSetState x0 x1) := by
  unfold execSetState
  refine State.setRow_ev ?_ ?_
  · exact hx1
  · intro z1 z2 h_z1
    extract_lets -merge -useContext +onlyGivenNames v3
    extract_lets -merge -useContext +onlyGivenNames v4
    refine State.answer_ev ?_
    exact h_z1

theorem rwAct_ev {a : State} {x0 : ℕ} {x1 : State} {x2 : ℕ} {x3 : Sys2Proof.Bytes} (hx1 : Evolves a x1) : Evolves a (rwAct x0 x1 x2 x3).1 := by
  unfold rwAct
  split
  · exact State.rwStore_ev hx1
  · split
    · exact State.rwSampleRead_ev hx1
    · exact State.rwPlain_ev hx1

theorem execWrite_ev {a : State} {x0 : Sys2Proof.GazReq} {x1 : Sys2Proof.Machine.State} (hx1 : Evolves a x1) : EvolvesO a (execWrite x0 x1) := by
  unfold execWrite
  refine EvolvesO.ite ?_ ?_
  · refine EvolvesO.next ?_
    exact hx1
  · split
    · refine EvolvesO.ite ?_ ?_
      · refine EvolvesO.next ?_
        exact hx1
      · refine EvolvesO.ite ?_ ?_
        · refine EvolvesO.next ?_
          refine State.actWrite_ev ?_ ?_
          · exact hx1
          · intro z1 z2 z3 h_z1
            refine rwAct_ev ?_
            exact h_z1
        · extract_lets -merge -useContext +onlyGivenNames v4
          have h_v4 : Evolves a v4 := by
            unfold v4
            refine State.unqueue_ev ?_
            exact hx1
          try clear_value v4
          refine EvolvesO.next ?_
          split
          · refine State.respond_ev ?_
            exact h_v4
          · refine State.stageWrite_ev ?_
            exact h_v4
    · extract_lets -merge -useContext +onlyGivenNames v5
      have h_v5 : Evolves a v5 := by
        unfold v5
        refine State.unqueue_ev ?_
        exact hx1
      try clear_value v5
      refine EvolvesO.next ?_
      split
      · refine State.respond_ev ?_
        exact h_v5
      · refine State.stageWrite_ev ?_
        exact h_v5

end Sys2Proof.Machine
end

