-- ==== Sys2Proof/Laws/KeepMaintain.lean ====
section
/-!
SUPPORT. Every function of Machine/Maintain.lean that answers a state keeps what `Evolves` names.
-/

namespace Sys2Proof.Machine

set_option linter.all false

theorem State.consolidateWork_ev {a : State} {x0 : Sys2Proof.Machine.State} {x1 : Sys2Proof.CmdRef} {x2 : Sys2Proof.Machine.Cmd} (hx0 : Evolves a x0) : Evolves a (State.consolidateWork x0 x1 x2).1 := by
  unfold State.consolidateWork
  extract_lets -merge -useContext +onlyGivenNames v1
  split
  · refine Evolves.pair1 ?_
    exact hx0
  · split
    · extract_lets -merge -useContext +onlyGivenNames v2
      split
      · extract_lets -merge -useContext +onlyGivenNames v3
        refine Evolves.pair1 ?_
        exact hx0

theorem State.deleteWork_ev {a : State} {x0 : Sys2Proof.Machine.State} {x1 : Sys2Proof.CmdRef} {x2 : Sys2Proof.Machine.Cmd} (hx0 : Evolves a x0) : Evolves a (State.deleteWork x0 x1 x2).1 := by
  unfold State.deleteWork
  extract_lets -merge -useContext +onlyGivenNames v1
  extract_lets -merge -useContext +onlyGivenNames v2
  split
  · refine Evolves.pair1 ?_
    exact hx0
  · split
    · refine Evolves.pair1 ?_
      exact hx0

theorem State.linkWork_ev {a : State} {x0 : Sys2Proof.Machine.State} {x1 : Sys2Proof.CmdRef} {x2 : Sys2Proof.Machine.Cmd} (hx0 : Evolves a x0) : Evolves a (State.linkWork x0 x1 x2).1 := by
  unfold State.linkWork
  extract_lets -merge -useContext +onlyGivenNames v1
  split
  · refine Evolves.pair1 ?_
    exact hx0
  · split
    · extract_lets -merge -useContext +onlyGivenNames v2
      refine Evolves.pair1 ?_
      exact hx0

theorem execConsolidate_ev {a : State} {x0 : Sys2Proof.CmdRef} {x1 : Sys2Proof.Hw} {x2 : Sys2Proof.Machine.State} (hx2 : Evolves a x2) : EvolvesO a (execConsolidate x0 x1 x2) := by
  unfold execConsolidate
  refine State.engineRow_ev ?_ ?_
  · exact hx2
  · intro z1 z2 h_z1
    refine State.consolidateWork_ev ?_
    exact h_z1

theorem execDelete_ev {a : State} {x0 : Sys2Proof.CmdRef} {x1 : Sys2Proof.Hw} {x2 : Sys2Proof.Machine.State} (hx2 : Evolves a x2) : EvolvesO a (execDelete x0 x1 x2) := by
  unfold execDelete
  refine State.engineRow_ev ?_ ?_
  · exact hx2
  · intro z1 z2 h_z1
    refine State.deleteWork_ev ?_
    exact h_z1

theorem execInsertLink_ev {a : State} {x0 : Sys2Proof.CmdRef} {x1 : Sys2Proof.Hw} {x2 : Sys2Proof.Machine.State} (hx2 : Evolves a x2) : EvolvesO a (execInsertLink x0 x1 x2) := by
  unfold execInsertLink
  refine State.engineRow_ev ?_ ?_
  · exact hx2
  · intro z1 z2 h_z1
    refine State.linkWork_ev ?_
    exact h_z1

end Sys2Proof.Machine
end

