-- ==== Sys2Proof/Laws/KeepMovers.lean ====
section
/-!
SUPPORT. Every function of Machine/Movers.lean that answers a state keeps what `Evolves` names.
-/

namespace Sys2Proof.Machine

set_option linter.all false

theorem State.copyMem_ev {a : State} {x0 : Sys2Proof.Machine.State} {x1 : Sys2Proof.CmdRef} {x2 : Sys2Proof.Machine.Cmd} (hx0 : Evolves a x0) : Evolves a (State.copyMem x0 x1 x2).1 := by
  unfold State.copyMem
  extract_lets -merge -useContext +onlyGivenNames v1
  extract_lets -merge -useContext +onlyGivenNames v2
  extract_lets -merge -useContext +onlyGivenNames v3
  extract_lets -merge -useContext +onlyGivenNames v4
  have h_v4 : Evolves a v4 := by
    unfold v4
    refine State.noteRead_ev ?_
    exact hx0
  try clear_value v4
  refine Evolves.pair1 ?_
  exact h_v4

theorem State.transposeWork_ev {a : State} {x0 : Sys2Proof.Machine.State} {x1 : Sys2Proof.CmdRef} {x2 : Sys2Proof.Machine.Cmd} (hx0 : Evolves a x0) : Evolves a (State.transposeWork x0 x1 x2).1 := by
  unfold State.transposeWork
  extract_lets -merge -useContext +onlyGivenNames v1
  extract_lets -merge -useContext +onlyGivenNames v2
  extract_lets -merge -useContext +onlyGivenNames v3
  extract_lets -merge -useContext +onlyGivenNames v4
  extract_lets -merge -useContext +onlyGivenNames v5
  extract_lets -merge -useContext +onlyGivenNames v6
  extract_lets -merge -useContext +onlyGivenNames v7
  extract_lets -merge -useContext +onlyGivenNames v8
  extract_lets -merge -useContext +onlyGivenNames v9
  extract_lets -merge -useContext +onlyGivenNames v10
  extract_lets -merge -useContext +onlyGivenNames v11
  extract_lets -merge -useContext +onlyGivenNames v12
  extract_lets -merge -useContext +onlyGivenNames v13
  extract_lets -merge -useContext +onlyGivenNames v14
  have h_v14 : Evolves a v14 := by
    unfold v14
    refine State.noteRead_ev ?_
    exact hx0
  try clear_value v14
  refine Evolves.pair1 ?_
  exact h_v14

theorem execBlockTranspose_ev {a : State} {x0 : Sys2Proof.CmdRef} {x1 : Sys2Proof.Hw} {x2 : Sys2Proof.Machine.State} (hx2 : Evolves a x2) : EvolvesO a (execBlockTranspose x0 x1 x2) := by
  unfold execBlockTranspose
  refine State.engineRow_ev ?_ ?_
  · exact hx2
  · intro z1 z2 h_z1
    refine State.transposeWork_ev ?_
    exact h_z1

theorem execDmCopy_ev {a : State} {x0 : Sys2Proof.CmdRef} {x1 : Sys2Proof.Hw} {x2 : Sys2Proof.Machine.State} (hx2 : Evolves a x2) : EvolvesO a (execDmCopy x0 x1 x2) := by
  unfold execDmCopy
  refine State.engineRow_ev ?_ ?_
  · exact hx2
  · intro z1 z2 h_z1
    refine State.copyMem_ev ?_
    exact h_z1

theorem execDmFill_ev {a : State} {x0 : Sys2Proof.CmdRef} {x1 : Sys2Proof.Hw} {x2 : Sys2Proof.Machine.State} (hx2 : Evolves a x2) : EvolvesO a (execDmFill x0 x1 x2) := by
  unfold execDmFill
  refine State.engineRow_ev ?_ ?_
  · exact hx2
  · intro z1 z2 h_z1
    extract_lets -merge -useContext +onlyGivenNames v3
    refine Evolves.pair1 ?_
    exact h_z1

theorem execDmHostRead_ev {a : State} {x0 : Sys2Proof.CmdRef} {x1 : Sys2Proof.HostData} {x2 : Sys2Proof.Machine.State} (hx2 : Evolves a x2) : EvolvesO a (execDmHostRead x0 x1 x2) := by
  unfold execDmHostRead
  refine State.engineRowOpen_ev ?_ ?_
  · exact hx2
  · intro z1 z2 h_z1
    extract_lets -merge -useContext +onlyGivenNames v3
    extract_lets -merge -useContext +onlyGivenNames v4
    have h_v4 : Evolves a v4 := by
      unfold v4
      refine State.emit_ev ?_
      exact h_z1
    try clear_value v4
    extract_lets -merge -useContext +onlyGivenNames v5
    refine Evolves.ite1 ?_ ?_
    · refine Evolves.pair1 ?_
      exact h_v4
    · extract_lets -merge -useContext +onlyGivenNames v6
      extract_lets -merge -useContext +onlyGivenNames v7
      extract_lets -merge -useContext +onlyGivenNames v8
      extract_lets -merge -useContext +onlyGivenNames v9
      have h_v9 : Evolves a v9 := by
        unfold v9
        refine State.charge_ev ?_
        refine State.countBytes_ev ?_
        exact h_v4
      try clear_value v9
      refine Evolves.pair1 ?_
      exact h_v9

end Sys2Proof.Machine
end

