-- ==== Sys2Proof/Laws/KeepPlacement.lean ====
section
/-!
SUPPORT. Every function of Machine/Placement.lean that answers a state keeps what `Evolves` names.
-/

namespace Sys2Proof.Machine

set_option linter.all false

theorem State.atlasWork_ev {a : State} {x0 : Sys2Proof.Machine.State} {x1 : Sys2Proof.CmdRef} {x2 : Sys2Proof.Machine.Cmd} (hx0 : Evolves a x0) : Evolves a (State.atlasWork x0 x1 x2).1 := by
  unfold State.atlasWork
  extract_lets -merge -useContext +onlyGivenNames v1
  extract_lets -merge -useContext +onlyGivenNames v2
  extract_lets -merge -useContext +onlyGivenNames v3
  refine Evolves.ite1 ?_ ?_
  · refine Evolves.pair1 ?_
    exact hx0
  · split
    · refine Evolves.pair1 ?_
      exact hx0
    · extract_lets -merge -useContext +onlyGivenNames v4
      extract_lets -merge -useContext +onlyGivenNames v5
      split
      · refine Evolves.pair1 ?_
        exact hx0
      · extract_lets -merge -useContext +onlyGivenNames v6
        extract_lets -merge -useContext +onlyGivenNames v7
        extract_lets -merge -useContext +onlyGivenNames v8
        extract_lets -merge -useContext +onlyGivenNames v9
        split
        · refine Evolves.pair1 ?_
          exact hx0
        · extract_lets -merge -useContext +onlyGivenNames v10
          refine Evolves.ite1 ?_ ?_
          · refine Evolves.pair1 ?_
            exact hx0
          · split
            · refine Evolves.pair1 ?_
              exact hx0

theorem State.commitWork_ev {a : State} {x0 : Sys2Proof.Machine.State} {x1 : Sys2Proof.CmdRef} {x2 : Sys2Proof.Machine.Cmd} (hx0 : Evolves a x0) : Evolves a (State.commitWork x0 x1 x2).1 := by
  unfold State.commitWork
  extract_lets -merge -useContext +onlyGivenNames v1
  extract_lets -merge -useContext +onlyGivenNames v2
  extract_lets -merge -useContext +onlyGivenNames v3
  extract_lets -merge -useContext +onlyGivenNames v4
  extract_lets -merge -useContext +onlyGivenNames v5
  extract_lets -merge -useContext +onlyGivenNames v6
  split
  · refine Evolves.pair1 ?_
    exact hx0
  · split
    · refine Evolves.pair1 ?_
      exact hx0
    · extract_lets -merge -useContext +onlyGivenNames v7
      extract_lets -merge -useContext +onlyGivenNames v8
      extract_lets -merge -useContext +onlyGivenNames v9
      split
      · refine Evolves.pair1 ?_
        exact hx0
      · extract_lets -merge -useContext +onlyGivenNames v10
        have h_v10 : Evolves a v10 := by
          unfold v10
          refine State.noteReads_ev ?_
          exact hx0
        try clear_value v10
        extract_lets -merge -useContext +onlyGivenNames v11
        extract_lets -merge -useContext +onlyGivenNames v12
        extract_lets -merge -useContext +onlyGivenNames v13
        extract_lets -merge -useContext +onlyGivenNames v14
        extract_lets -merge -useContext +onlyGivenNames v15
        extract_lets -merge -useContext +onlyGivenNames v16
        refine Evolves.ite1 ?_ ?_
        · refine Evolves.pair1 ?_
          exact h_v10
        · extract_lets -merge -useContext +onlyGivenNames v17
          extract_lets -merge -useContext +onlyGivenNames v18
          extract_lets -merge -useContext +onlyGivenNames v19
          extract_lets -merge -useContext +onlyGivenNames v20
          extract_lets -merge -useContext +onlyGivenNames v21
          split
          · rename_i y22 s23 heq
            have h_s23 : Evolves a s23 := by
              refine Evolves.sndEq (by assumption) ?_
              refine State.draw_ev ?_
              exact h_v10
            extract_lets -merge -useContext +onlyGivenNames v24
            refine Evolves.pair1 ?_
            exact h_s23

theorem State.decideWork_ev {a : State} {x0 : Sys2Proof.Machine.State} {x1 : Sys2Proof.CmdRef} {x2 : Sys2Proof.Machine.Cmd} (hx0 : Evolves a x0) : Evolves a (State.decideWork x0 x1 x2).1 := by
  unfold State.decideWork
  extract_lets -merge -useContext +onlyGivenNames v1
  extract_lets -merge -useContext +onlyGivenNames v2
  extract_lets -merge -useContext +onlyGivenNames v3
  extract_lets -merge -useContext +onlyGivenNames v4
  extract_lets -merge -useContext +onlyGivenNames v5
  extract_lets -merge -useContext +onlyGivenNames v6
  split
  · refine Evolves.pair1 ?_
    exact hx0
  · refine Evolves.ite1 ?_ ?_
    · refine Evolves.pair1 ?_
      exact hx0
    · refine Evolves.ite1 ?_ ?_
      · refine Evolves.pair1 ?_
        exact hx0
      · split
        · refine Evolves.pair1 ?_
          exact hx0
        · extract_lets -merge -useContext +onlyGivenNames v7
          have h_v7 : Evolves a v7 := by
            unfold v7
            refine State.noteReads_ev ?_
            exact hx0
          try clear_value v7
          extract_lets -merge -useContext +onlyGivenNames v8
          extract_lets -merge -useContext +onlyGivenNames v9
          extract_lets -merge -useContext +onlyGivenNames v10
          extract_lets -merge -useContext +onlyGivenNames v11
          extract_lets -merge -useContext +onlyGivenNames v12
          extract_lets -merge -useContext +onlyGivenNames v13
          extract_lets -merge -useContext +onlyGivenNames v14
          extract_lets -merge -useContext +onlyGivenNames v15
          split
          · extract_lets -merge -useContext +onlyGivenNames v16
            extract_lets -merge -useContext +onlyGivenNames v17
            extract_lets -merge -useContext +onlyGivenNames v18
            extract_lets -merge -useContext +onlyGivenNames v19
            split
            · rename_i y20 s21 heq
              have h_s21 : Evolves a s21 := by
                refine Evolves.sndEq (by assumption) ?_
                refine State.draw_ev ?_
                exact h_v7
              refine Evolves.pair1 ?_
              exact h_s21

theorem State.migFetchWork_ev {a : State} {x0 : Sys2Proof.Machine.State} {x1 : Sys2Proof.CmdRef} {x2 : Sys2Proof.Machine.Cmd} (hx0 : Evolves a x0) : Evolves a (State.migFetchWork x0 x1 x2).1 := by
  unfold State.migFetchWork
  extract_lets -merge -useContext +onlyGivenNames v1
  extract_lets -merge -useContext +onlyGivenNames v2
  extract_lets -merge -useContext +onlyGivenNames v3
  split
  · refine Evolves.pair1 ?_
    exact hx0
  · extract_lets -merge -useContext +onlyGivenNames v4
    extract_lets -merge -useContext +onlyGivenNames v5
    extract_lets -merge -useContext +onlyGivenNames v6
    extract_lets -merge -useContext +onlyGivenNames v7
    refine Evolves.pair1 ?_
    exact hx0

theorem State.migSendWork_ev {a : State} {x0 : Sys2Proof.Machine.State} {x1 : Sys2Proof.CmdRef} {x2 : Sys2Proof.Machine.Cmd} (hx0 : Evolves a x0) : Evolves a (State.migSendWork x0 x1 x2).1 := by
  unfold State.migSendWork
  extract_lets -merge -useContext +onlyGivenNames v1
  extract_lets -merge -useContext +onlyGivenNames v2
  extract_lets -merge -useContext +onlyGivenNames v3
  split
  · refine Evolves.pair1 ?_
    exact hx0
  · extract_lets -merge -useContext +onlyGivenNames v4
    extract_lets -merge -useContext +onlyGivenNames v5
    extract_lets -merge -useContext +onlyGivenNames v6
    extract_lets -merge -useContext +onlyGivenNames v7
    extract_lets -merge -useContext +onlyGivenNames v8
    extract_lets -merge -useContext +onlyGivenNames v9
    split
    · refine Evolves.pair1 ?_
      exact hx0
    · split
      · split
        · refine Evolves.pair1 ?_
          exact hx0
        · extract_lets -merge -useContext +onlyGivenNames v10
          have h_v10 : Evolves a v10 := by
            unfold v10
            refine State.noteReads_ev ?_
            exact hx0
          try clear_value v10
          extract_lets -merge -useContext +onlyGivenNames v11
          extract_lets -merge -useContext +onlyGivenNames v12
          refine Evolves.pair1 ?_
          exact h_v10

theorem State.replaceWork_ev {a : State} {x0 : Sys2Proof.Machine.State} {x1 : Sys2Proof.CmdRef} {x2 : Sys2Proof.Machine.Cmd} (hx0 : Evolves a x0) : Evolves a (State.replaceWork x0 x1 x2).1 := by
  unfold State.replaceWork
  extract_lets -merge -useContext +onlyGivenNames v1
  extract_lets -merge -useContext +onlyGivenNames v2
  extract_lets -merge -useContext +onlyGivenNames v3
  extract_lets -merge -useContext +onlyGivenNames v4
  extract_lets -merge -useContext +onlyGivenNames v5
  extract_lets -merge -useContext +onlyGivenNames v6
  split
  · refine Evolves.pair1 ?_
    exact hx0
  · extract_lets -merge -useContext +onlyGivenNames v7
    refine Evolves.ite1 ?_ ?_
    · refine Evolves.pair1 ?_
      exact hx0
    · extract_lets -merge -useContext +onlyGivenNames v8
      have h_v8 : Evolves a v8 := by
        unfold v8
        refine State.noteReads_ev ?_
        exact hx0
      try clear_value v8
      extract_lets -merge -useContext +onlyGivenNames v9
      extract_lets -merge -useContext +onlyGivenNames v10
      extract_lets -merge -useContext +onlyGivenNames v11
      extract_lets -merge -useContext +onlyGivenNames v12
      refine Evolves.pair1 ?_
      exact h_v8

theorem State.surveyWork_ev {a : State} {x0 : Sys2Proof.Machine.State} {x1 : Sys2Proof.CmdRef} {x2 : Sys2Proof.Machine.Cmd} (hx0 : Evolves a x0) : Evolves a (State.surveyWork x0 x1 x2).1 := by
  unfold State.surveyWork
  extract_lets -merge -useContext +onlyGivenNames v1
  extract_lets -merge -useContext +onlyGivenNames v2
  extract_lets -merge -useContext +onlyGivenNames v3
  extract_lets -merge -useContext +onlyGivenNames v4
  extract_lets -merge -useContext +onlyGivenNames v5
  split
  · refine Evolves.pair1 ?_
    exact hx0
  · extract_lets -merge -useContext +onlyGivenNames v6
    extract_lets -merge -useContext +onlyGivenNames v7
    extract_lets -merge -useContext +onlyGivenNames v8
    extract_lets -merge -useContext +onlyGivenNames v9
    extract_lets -merge -useContext +onlyGivenNames v10
    extract_lets -merge -useContext +onlyGivenNames v11
    extract_lets -merge -useContext +onlyGivenNames v12
    extract_lets -merge -useContext +onlyGivenNames v13
    extract_lets -merge -useContext +onlyGivenNames v14
    extract_lets -merge -useContext +onlyGivenNames v15
    refine Evolves.pair1 ?_
    exact hx0

theorem execAtlasSwitch_ev {a : State} {x0 : Sys2Proof.CmdRef} {x1 : Sys2Proof.Hw} {x2 : Sys2Proof.Machine.State} (hx2 : Evolves a x2) : EvolvesO a (execAtlasSwitch x0 x1 x2) := by
  unfold execAtlasSwitch
  refine State.engineRow_ev ?_ ?_
  · exact hx2
  · intro z1 z2 h_z1
    refine State.atlasWork_ev ?_
    exact h_z1

theorem execChartCommit_ev {a : State} {x0 : Sys2Proof.CmdRef} {x1 : Sys2Proof.Hw} {x2 : Sys2Proof.Machine.State} (hx2 : Evolves a x2) : EvolvesO a (execChartCommit x0 x1 x2) := by
  unfold execChartCommit
  refine State.engineRow_ev ?_ ?_
  · exact hx2
  · intro z1 z2 h_z1
    refine State.commitWork_ev ?_
    exact h_z1

theorem execMigFetchList_ev {a : State} {x0 : Sys2Proof.CmdRef} {x1 : Sys2Proof.Hw} {x2 : Sys2Proof.Machine.State} (hx2 : Evolves a x2) : EvolvesO a (execMigFetchList x0 x1 x2) := by
  unfold execMigFetchList
  refine State.engineRow_ev ?_ ?_
  · exact hx2
  · intro z1 z2 h_z1
    refine State.migFetchWork_ev ?_
    exact h_z1

theorem execMigSend_ev {a : State} {x0 : Sys2Proof.CmdRef} {x1 : Sys2Proof.Hw} {x2 : Sys2Proof.Machine.State} (hx2 : Evolves a x2) : EvolvesO a (execMigSend x0 x1 x2) := by
  unfold execMigSend
  refine State.engineRow_ev ?_ ?_
  · exact hx2
  · intro z1 z2 h_z1
    refine State.migSendWork_ev ?_
    exact h_z1

theorem execPlaceDecide_ev {a : State} {x0 : Sys2Proof.CmdRef} {x1 : Sys2Proof.Hw} {x2 : Sys2Proof.Machine.State} (hx2 : Evolves a x2) : EvolvesO a (execPlaceDecide x0 x1 x2) := by
  unfold execPlaceDecide
  refine State.engineRow_ev ?_ ?_
  · exact hx2
  · intro z1 z2 h_z1
    refine State.decideWork_ev ?_
    exact h_z1

theorem execRowReplace_ev {a : State} {x0 : Sys2Proof.CmdRef} {x1 : Sys2Proof.Hw} {x2 : Sys2Proof.Machine.State} (hx2 : Evolves a x2) : EvolvesO a (execRowReplace x0 x1 x2) := by
  unfold execRowReplace
  refine State.engineRow_ev ?_ ?_
  · exact hx2
  · intro z1 z2 h_z1
    refine State.replaceWork_ev ?_
    exact h_z1

theorem execSurveyClose_ev {a : State} {x0 : Sys2Proof.CmdRef} {x1 : Sys2Proof.Hw} {x2 : Sys2Proof.Machine.State} (hx2 : Evolves a x2) : EvolvesO a (execSurveyClose x0 x1 x2) := by
  unfold execSurveyClose
  refine State.engineRow_ev ?_ ?_
  · exact hx2
  · intro z1 z2 h_z1
    refine State.surveyWork_ev ?_
    exact h_z1

end Sys2Proof.Machine
end

