-- ==== Sys2Proof/Laws/KeepProjection.lean ====
section
/-!
SUPPORT. Every function of Machine/Projection.lean that answers a state keeps what `Evolves` names.
-/

namespace Sys2Proof.Machine

set_option linter.all false

theorem State.projWork_ev {a : State} {x0 : Sys2Proof.Machine.State} {x1 : ℕ} {x2 : Sys2Proof.CmdRef} {x3 : Sys2Proof.Machine.Cmd} (hx0 : Evolves a x0) : Evolves a (State.projWork x0 x1 x2 x3).1 := by
  unfold State.projWork
  extract_lets -merge -useContext +onlyGivenNames v1
  extract_lets -merge -useContext +onlyGivenNames v2
  extract_lets -merge -useContext +onlyGivenNames v3
  extract_lets -merge -useContext +onlyGivenNames v4
  extract_lets -merge -useContext +onlyGivenNames v5
  extract_lets -merge -useContext +onlyGivenNames v6
  extract_lets -merge -useContext +onlyGivenNames v7
  refine Evolves.ite1 ?_ ?_
  · refine Evolves.pair1 ?_
    exact hx0
  · extract_lets -merge -useContext +onlyGivenNames v8
    split
    · refine Evolves.pair1 ?_
      exact hx0
    · extract_lets -merge -useContext +onlyGivenNames v9
      have h_v9 : Evolves a v9 := by
        unfold v9
        refine State.noteReads_ev ?_
        exact hx0
      try clear_value v9
      refine Evolves.ite1 ?_ ?_
      · refine Evolves.pair1 ?_
        exact h_v9
      · refine Evolves.ite1 ?_ ?_
        · split
          · refine Evolves.pair1 ?_
            exact h_v9
          · extract_lets -merge -useContext +onlyGivenNames v10
            extract_lets -merge -useContext +onlyGivenNames v11
            extract_lets -merge -useContext +onlyGivenNames v12
            extract_lets -merge -useContext +onlyGivenNames v13
            extract_lets -merge -useContext +onlyGivenNames v14
            refine Evolves.pair1 ?_
            exact h_v9
        · extract_lets -merge -useContext +onlyGivenNames v15
          extract_lets -merge -useContext +onlyGivenNames v16
          split
          · refine Evolves.pair1 ?_
            exact h_v9
          · extract_lets -merge -useContext +onlyGivenNames v17
            extract_lets -merge -useContext +onlyGivenNames v18
            extract_lets -merge -useContext +onlyGivenNames v19
            extract_lets -merge -useContext +onlyGivenNames v20
            refine Evolves.pair1 ?_
            exact h_v9

theorem execDequant_ev {a : State} {x0 : Sys2Proof.CmdRef} {x1 : Sys2Proof.Hw} {x2 : Sys2Proof.Machine.State} (hx2 : Evolves a x2) : EvolvesO a (execDequant x0 x1 x2) := by
  unfold execDequant
  refine State.engineRow_ev ?_ ?_
  · exact hx2
  · intro z1 z2 h_z1
    refine State.projWork_ev ?_
    exact h_z1

theorem execQuant_ev {a : State} {x0 : Sys2Proof.CmdRef} {x1 : Sys2Proof.Hw} {x2 : Sys2Proof.Machine.State} (hx2 : Evolves a x2) : EvolvesO a (execQuant x0 x1 x2) := by
  unfold execQuant
  refine State.engineRow_ev ?_ ?_
  · exact hx2
  · intro z1 z2 h_z1
    refine State.projWork_ev ?_
    exact h_z1

theorem execRange_ev {a : State} {x0 : Sys2Proof.CmdRef} {x1 : Sys2Proof.Hw} {x2 : Sys2Proof.Machine.State} (hx2 : Evolves a x2) : EvolvesO a (execRange x0 x1 x2) := by
  unfold execRange
  refine State.engineRow_ev ?_ ?_
  · exact hx2
  · intro z1 z2 h_z1
    refine State.projWork_ev ?_
    exact h_z1

end Sys2Proof.Machine
end

