-- ==== Sys2Proof/Laws/KeepSelect.lean ====
section
/-!
SUPPORT. Every function of Machine/Select.lean that answers a state keeps what `Evolves` names.
-/

namespace Sys2Proof.Machine

set_option linter.all false

theorem State.mergeSelect_ev {a : State} {x0 : Sys2Proof.Machine.State} {x1 : Sys2Proof.CmdRef} {x2 : Sys2Proof.Machine.Cmd} (hx0 : Evolves a x0) : Evolves a (State.mergeSelect x0 x1 x2).1 := by
  unfold State.mergeSelect
  extract_lets -merge -useContext +onlyGivenNames v1
  extract_lets -merge -useContext +onlyGivenNames v2
  split
  · refine Evolves.pair1 ?_
    exact hx0
  · extract_lets -merge -useContext +onlyGivenNames v3
    refine Evolves.ite1 ?_ ?_
    · extract_lets -merge -useContext +onlyGivenNames v4
      refine Evolves.pair1 ?_
      refine State.noteReads_ev ?_
      exact hx0
    · refine Evolves.pair1 ?_
      refine State.bump_ev ?_
      exact hx0

theorem State.rowSelect_ev {a : State} {x0 : Sys2Proof.Machine.State} {x1 : ℕ} {x2 : Sys2Proof.CmdRef} {x3 : Sys2Proof.Machine.Cmd} (hx0 : Evolves a x0) : Evolves a (State.rowSelect x0 x1 x2 x3).1 := by
  unfold State.rowSelect
  extract_lets -merge -useContext +onlyGivenNames v1
  extract_lets -merge -useContext +onlyGivenNames v2
  split
  · refine Evolves.pair1 ?_
    exact hx0
  · extract_lets -merge -useContext +onlyGivenNames v3
    extract_lets -merge -useContext +onlyGivenNames v4
    refine Evolves.pair1 ?_
    refine State.noteReads_ev ?_
    exact hx0

theorem execKth_ev {a : State} {x0 : Sys2Proof.CmdRef} {x1 : Sys2Proof.Hw} {x2 : Sys2Proof.Machine.State} (hx2 : Evolves a x2) : EvolvesO a (execKth x0 x1 x2) := by
  unfold execKth
  refine State.engineRow_ev ?_ ?_
  · exact hx2
  · intro z1 z2 h_z1
    refine State.rowSelect_ev ?_
    exact h_z1

theorem execMerge_ev {a : State} {x0 : Sys2Proof.CmdRef} {x1 : Sys2Proof.Hw} {x2 : Sys2Proof.Machine.State} (hx2 : Evolves a x2) : EvolvesO a (execMerge x0 x1 x2) := by
  unfold execMerge
  refine State.engineRow_ev ?_ ?_
  · exact hx2
  · intro z1 z2 h_z1
    refine State.mergeSelect_ev ?_
    exact h_z1

theorem execSelect_ev {a : State} {x0 : Sys2Proof.CmdRef} {x1 : Sys2Proof.Hw} {x2 : Sys2Proof.Machine.State} (hx2 : Evolves a x2) : EvolvesO a (execSelect x0 x1 x2) := by
  unfold execSelect
  refine State.engineRow_ev ?_ ?_
  · exact hx2
  · intro z1 z2 h_z1
    refine State.rowSelect_ev ?_
    exact h_z1

theorem execSort_ev {a : State} {x0 : Sys2Proof.CmdRef} {x1 : Sys2Proof.Hw} {x2 : Sys2Proof.Machine.State} (hx2 : Evolves a x2) : EvolvesO a (execSort x0 x1 x2) := by
  unfold execSort
  refine State.engineRow_ev ?_ ?_
  · exact hx2
  · intro z1 z2 h_z1
    refine State.rowSelect_ev ?_
    exact h_z1

end Sys2Proof.Machine
end

