-- ==== Sys2Proof/Laws/KeepStartup.lean ====
section
/-!
SUPPORT. Every function of Machine/Startup.lean that answers a state keeps what `Evolves` names.
-/

namespace Sys2Proof.Machine

set_option linter.all false

theorem State.applyRepair_ev {a : State} {x0 : Sys2Proof.Machine.State} {x1 : ℕ} (hx0 : Evolves a x0) : Evolves a (State.applyRepair x0 x1) := by
  unfold State.applyRepair
  extract_lets -merge -useContext +onlyGivenNames v1
  extract_lets -merge -useContext +onlyGivenNames v2
  extract_lets -merge -useContext +onlyGivenNames v3
  extract_lets -merge -useContext +onlyGivenNames v4
  extract_lets -merge -useContext +onlyGivenNames v5
  have h_v5 : Evolves a v5 := by
    unfold v5
    refine Evolves.mk' ?_ rfl
    exact hx0
  try clear_value v5
  split
  · refine Evolves.mk' ?_ rfl
    exact h_v5
  · refine Evolves.mk' ?_ rfl
    exact h_v5
  · refine State.modPort_ev ?_
    exact h_v5
  · refine Evolves.mk' ?_ rfl
    exact h_v5
  · exact h_v5

theorem State.bootRead_ev {a : State} {x0 : Sys2Proof.Machine.State} {x1 : ℕ} {x2 : Sys2Proof.Bytes} (hx0 : Evolves a x0) : Evolves a (State.bootRead x0 x1 x2) := by
  unfold State.bootRead
  refine Evolves.ite ?_ ?_
  · exact hx0
  · refine State.setBoot_ev ?_
    exact hx0

theorem State.chooseSlot_ev {a : State} {x0 : Sys2Proof.Machine.State} (hx0 : Evolves a x0) : Evolves a (State.chooseSlot x0).1 := by
  unfold State.chooseSlot
  split
  · refine Evolves.pair1 ?_
    exact hx0
  · refine Evolves.ite1 ?_ ?_
    · refine Evolves.pair1 ?_
      exact hx0
    · extract_lets -merge -useContext +onlyGivenNames v1
      have h_v1 : Evolves a v1 := by
        unfold v1
        refine State.nodeEvent_ev ?_
        exact hx0
      try clear_value v1
      refine Evolves.ite1 ?_ ?_
      · refine Evolves.pair1 ?_
        exact h_v1
      · refine Evolves.pair1 ?_
        exact h_v1

theorem State.enterRecovery_ev {a : State} {x0 : Sys2Proof.Machine.State} {x1 : ℕ} (hx0 : Evolves a x0) : Evolves a (State.enterRecovery x0 x1) := by
  unfold State.enterRecovery
  refine Evolves.mk' ?_ rfl
  exact hx0

theorem State.heldReset_ev {a : State} {x0 : Sys2Proof.Machine.State} {x1 : Bool} {x2 : Bool} (hx0 : Evolves a x0) : Evolves a (State.heldReset x0 x1 x2) := by
  unfold State.heldReset
  exact ⟨hx0.pending, hx0.cycle, hx0.out, hx0.draws, fun _ => rfl⟩

theorem State.makeIdentity_ev {a : State} {x0 : Sys2Proof.Machine.State} {x1 : Sys2Proof.Bytes} (hx0 : Evolves a x0) : Evolves a (State.makeIdentity x0 x1) := by
  unfold State.makeIdentity
  extract_lets -merge -useContext +onlyGivenNames v1
  have h_v1 : Evolves a v1 := by
    unfold v1
    refine State.setReg_ev ?_
    exact hx0
  try clear_value v1
  extract_lets -merge -useContext +onlyGivenNames v2
  have h_v2 : Evolves a v2 := by
    unfold v2
    refine State.setNum_ev ?_
    exact h_v1
  try clear_value v2
  extract_lets -merge -useContext +onlyGivenNames v3
  have h_v3 : Evolves a v3 := by
    unfold v3
    refine State.setReg_ev ?_
    exact h_v2
  try clear_value v3
  refine State.extendMr_ev ?_
  refine State.extendMr_ev ?_
  exact h_v3

theorem State.makeNonce_ev {a : State} {x0 : Sys2Proof.Machine.State} (hx0 : Evolves a x0) : Evolves a (State.makeNonce x0) := by
  unfold State.makeNonce
  extract_lets -merge -useContext +onlyGivenNames v1
  refine State.setReg_ev ?_
  refine Evolves.mk' ?_ rfl
  exact hx0

theorem State.noteTime_ev {a : State} {x0 : Sys2Proof.Machine.State} {x1 : ℕ} {x2 : ℕ} (hx0 : Evolves a x0) : Evolves a (State.noteTime x0 x1 x2) := by
  unfold State.noteTime
  extract_lets -merge -useContext +onlyGivenNames v1
  extract_lets -merge -useContext +onlyGivenNames v2
  refine State.setReg_ev ?_
  exact hx0

theorem State.readOwner_ev {a : State} {x0 : Sys2Proof.Machine.State} (hx0 : Evolves a x0) : Evolves a (State.readOwner x0) := by
  unfold State.readOwner
  extract_lets -merge -useContext +onlyGivenNames v1
  extract_lets -merge -useContext +onlyGivenNames v2
  have h_v2 : Evolves a v2 := by
    unfold v2
    refine Evolves.ite ?_ ?_
    · refine State.setNum_ev ?_
      refine State.setReg_ev ?_
      exact hx0
    · exact hx0
  try clear_value v2
  refine State.setNum_ev ?_
  exact h_v2

theorem State.ready_ev {a : State} {x0 : Sys2Proof.Machine.State} (hx0 : Evolves a x0) : Evolves a (State.ready x0) := by
  unfold State.ready
  extract_lets -merge -useContext +onlyGivenNames v1
  extract_lets -merge -useContext +onlyGivenNames v2
  extract_lets -merge -useContext +onlyGivenNames v3
  extract_lets -merge -useContext +onlyGivenNames v4
  extract_lets -merge -useContext +onlyGivenNames v5
  have h_v5 : Evolves a v5 := by
    unfold v5
    refine Evolves.mk' ?_ rfl
    exact hx0
  try clear_value v5
  refine State.setNum_ev ?_
  exact h_v5

theorem State.repairChoice_ev {a : State} {x0 : Sys2Proof.Machine.State} (hx0 : Evolves a x0) : Evolves a (State.repairChoice x0) := by
  unfold State.repairChoice
  extract_lets -merge -useContext +onlyGivenNames v1
  extract_lets -merge -useContext +onlyGivenNames v2
  extract_lets -merge -useContext +onlyGivenNames v3
  have h_v3 : ∀ z4 z5, Evolves a z4 → Evolves a (v3 z4 z5) := by
    intro z4 z5 h_z4
    unfold v3
    refine State.extendMr_ev ?_
    refine Evolves.mk' ?_ rfl
    exact h_z4
  try clear_value v3
  split
  · refine h_v3 _ _ ?_
    exact hx0
  · refine h_v3 _ _ ?_
    exact hx0
  · refine h_v3 _ _ ?_
    exact hx0
  · extract_lets -merge -useContext +onlyGivenNames v6
    refine h_v3 _ _ ?_
    refine State.nodeEvent_ev ?_
    exact hx0

theorem State.repairPhase_ev {a : State} {x0 : Sys2Proof.Machine.State} (hx0 : Evolves a x0) : Evolves a (State.repairPhase x0) := by
  unfold State.repairPhase
  refine Evolves.foldl1 (fun t1 x2 h_t1 => ?_) ?_
  · refine Evolves.ite1 ?_ ?_
    · refine Evolves.pair1 ?_
      refine State.nodeEvent_ev ?_
      refine State.bumpNode_ev ?_
      exact h_t1
    · refine Evolves.pair1 ?_
      refine State.applyRepair_ev ?_
      exact h_t1
  · refine Evolves.pair1 ?_
    exact hx0

theorem State.runImage_ev {a : State} {x0 : Sys2Proof.Machine.State} {x1 : ℕ} (hx0 : Evolves a x0) : Evolves a (State.runImage x0 x1) := by
  unfold State.runImage
  extract_lets -merge -useContext +onlyGivenNames v1
  refine State.extendMr_ev ?_
  refine State.setNum_ev ?_
  refine State.setNum_ev ?_
  exact hx0

theorem State.romPhase_ev {a : State} {x0 : Sys2Proof.Machine.State} {x1 : Sys2Proof.PhaseIn} (hx0 : Evolves a x0) : Evolves a (State.romPhase x0 x1) := by
  unfold State.romPhase
  extract_lets -merge -useContext +onlyGivenNames v1
  have h_v1 : Evolves a v1 := by
    unfold v1
    refine State.bootRead_ev ?_
    refine State.bootRead_ev ?_
    exact hx0
  try clear_value v1
  extract_lets -merge -useContext +onlyGivenNames v2
  have h_v2 : Evolves a v2 := by
    unfold v2
    refine State.bootRead_ev ?_
    refine State.bootRead_ev ?_
    refine State.bootRead_ev ?_
    exact h_v1
  try clear_value v2
  extract_lets -merge -useContext +onlyGivenNames v3
  have h_v3 : Evolves a v3 := by
    unfold v3
    refine State.makeNonce_ev ?_
    refine State.bootRead_ev ?_
    exact h_v2
  try clear_value v3
  refine Evolves.ite ?_ ?_
  · refine State.enterRecovery_ev ?_
    exact h_v3
  · extract_lets -merge -useContext +onlyGivenNames v4
    have h_v4 : Evolves a v4 := by
      unfold v4
      refine State.makeIdentity_ev ?_
      exact h_v3
    try clear_value v4
    refine Evolves.ite ?_ ?_
    · refine State.enterRecovery_ev ?_
      exact h_v4
    · split
      · rename_i s5 heq
        have h_s5 : Evolves a s5 := by
          refine Evolves.fstEq (by assumption) ?_
          refine State.chooseSlot_ev ?_
          exact h_v4
        refine State.enterRecovery_ev ?_
        exact h_s5
      · rename_i s6 y7 heq
        have h_s6 : Evolves a s6 := by
          refine Evolves.fstEq (by assumption) ?_
          refine State.chooseSlot_ev ?_
          exact h_v4
        refine State.readOwner_ev ?_
        refine State.repairChoice_ev ?_
        refine State.runImage_ev ?_
        exact h_s6

theorem State.woInsetStart_ev {a : State} {x0 : Sys2Proof.Machine.State} {x1 : ℕ} {x2 : Sys2Proof.Bytes} (hx0 : Evolves a x0) : Evolves a (State.woInsetStart x0 x1 x2).1 := by
  unfold State.woInsetStart
  extract_lets -merge -useContext +onlyGivenNames v1
  extract_lets -merge -useContext +onlyGivenNames v2
  extract_lets -merge -useContext +onlyGivenNames v3
  refine Evolves.ite1 ?_ ?_
  · refine Evolves.pair1 ?_
    exact hx0
  · refine Evolves.ite1 ?_ ?_
    · refine Evolves.pair1 ?_
      exact hx0
    · refine Evolves.ite1 ?_ ?_
      · refine Evolves.pair1 ?_
        exact hx0
      · refine Evolves.pair1 ?_
        refine State.reportDone_ev ?_
        refine State.modInset_ev ?_
        exact hx0

theorem execInsetStart_ev {a : State} {x0 : Sys2Proof.GazReq} {x1 : Sys2Proof.Machine.State} (hx1 : Evolves a x1) : EvolvesO a (execInsetStart x0 x1) := by
  unfold execInsetStart
  refine State.woRow_ev ?_ ?_
  · exact hx1
  · intro z1 z2 z3 h_z1
    refine State.woInsetStart_ev ?_
    exact h_z1

theorem execPwrGoodFall_ev {a : State} {x0 : Sys2Proof.Machine.State} (hx0 : Evolves a x0) : EvolvesO a (execPwrGoodFall x0) := by
  unfold execPwrGoodFall
  refine EvolvesO.ite ?_ ?_
  · refine EvolvesO.next ?_
    refine State.heldReset_ev ?_
    exact hx0
  · refine EvolvesO.next ?_
    exact hx0

theorem execPwrGoodRise_ev {a : State} {x0 : Sys2Proof.RailIn} {x1 : Sys2Proof.Machine.State} (hx1 : Evolves a x1) : EvolvesO a (execPwrGoodRise x0 x1) := by
  unfold execPwrGoodRise
  refine EvolvesO.ite ?_ ?_
  · refine EvolvesO.next ?_
    exact hx1
  · refine EvolvesO.ite ?_ ?_
    · refine EvolvesO.next ?_
      refine Evolves.mk' ?_ rfl
      exact hx1
    · refine EvolvesO.next ?_
      refine Evolves.mk' ?_ rfl
      exact hx1

theorem execResetN_ev {a : State} {x0 : ℕ} {x1 : Sys2Proof.Machine.State} (hx1 : Evolves a x1) : EvolvesO a (execResetN x0 x1) := by
  unfold execResetN
  refine EvolvesO.ite ?_ ?_
  · refine EvolvesO.next ?_
    exact hx1
  · refine EvolvesO.next ?_
    refine Evolves.mk' ?_ rfl
    exact hx1

theorem execResetNAssert_ev {a : State} {x0 : Sys2Proof.Machine.State} (hx0 : Evolves a x0) : EvolvesO a (execResetNAssert x0) := by
  unfold execResetNAssert
  refine EvolvesO.ite ?_ ?_
  · refine EvolvesO.next ?_
    exact hx0
  · extract_lets -merge -useContext +onlyGivenNames v1
    have h_v1 : Evolves a v1 := by
      unfold v1
      refine State.heldReset_ev ?_
      exact hx0
    try clear_value v1
    refine EvolvesO.next ?_
    refine Evolves.mk' ?_ rfl
    exact h_v1

theorem execStartPhaseEnd_ev {a : State} {x0 : Sys2Proof.PhaseIn} {x1 : Sys2Proof.Machine.State} (hx1 : Evolves a x1) : EvolvesO a (execStartPhaseEnd x0 x1) := by
  unfold execStartPhaseEnd
  extract_lets -merge -useContext +onlyGivenNames v1
  refine EvolvesO.ite ?_ ?_
  · refine EvolvesO.next ?_
    exact hx1
  · extract_lets -merge -useContext +onlyGivenNames v2
    extract_lets -merge -useContext +onlyGivenNames v3
    have h_v3 : Evolves a v3 := by
      unfold v3
      refine Evolves.ite ?_ ?_
      · refine State.romPhase_ev ?_
        exact hx1
      · refine Evolves.ite ?_ ?_
        · refine State.repairPhase_ev ?_
          exact hx1
        · refine Evolves.ite ?_ ?_
          · refine Evolves.mk' ?_ rfl
            exact hx1
          · exact hx1
    try clear_value v3
    refine EvolvesO.ite ?_ ?_
    · refine EvolvesO.next ?_
      exact h_v3
    · extract_lets -merge -useContext +onlyGivenNames v4
      have h_v4 : Evolves a v4 := by
        unfold v4
        refine State.setNum_ev ?_
        refine State.noteTime_ev ?_
        exact h_v3
      try clear_value v4
      refine EvolvesO.next ?_
      refine Evolves.ite ?_ ?_
      · refine State.ready_ev ?_
        exact h_v4
      · exact h_v4

end Sys2Proof.Machine
end

