-- ==== Sys2Proof/Laws/KeepTiles.lean ====
section
/-!
SUPPORT. Every function of Machine/Tiles.lean that answers a state keeps what `Evolves` names.
-/

namespace Sys2Proof.Machine

set_option linter.all false

theorem State.matWork_ev {a : State} {x0 : Sys2Proof.Machine.State} {x1 : Sys2Proof.CmdRef} {x2 : Sys2Proof.Machine.Cmd} (hx0 : Evolves a x0) : Evolves a (State.matWork x0 x1 x2).1 := by
  unfold State.matWork
  extract_lets -merge -useContext +onlyGivenNames v1
  extract_lets -merge -useContext +onlyGivenNames v2
  extract_lets -merge -useContext +onlyGivenNames v3
  extract_lets -merge -useContext +onlyGivenNames v4
  extract_lets -merge -useContext +onlyGivenNames v5
  refine Evolves.ite1 ?_ ?_
  · refine Evolves.pair1 ?_
    exact hx0
  · extract_lets -merge -useContext +onlyGivenNames v6
    split
    · refine Evolves.pair1 ?_
      exact hx0
    · extract_lets -merge -useContext +onlyGivenNames v7
      have h_v7 : Evolves a v7 := by
        unfold v7
        refine State.noteReads_ev ?_
        exact hx0
      try clear_value v7
      refine Evolves.ite1 ?_ ?_
      · refine Evolves.pair1 ?_
        exact h_v7
      · extract_lets -merge -useContext +onlyGivenNames v8
        extract_lets -merge -useContext +onlyGivenNames v9
        have h_v9 : Evolves a v9 := by
          unfold v9
          refine Evolves.ite ?_ ?_
          · exact h_v7
          · refine State.bump_ev ?_
            exact h_v7
        try clear_value v9
        extract_lets -merge -useContext +onlyGivenNames v10
        extract_lets -merge -useContext +onlyGivenNames v11
        refine Evolves.ite1 ?_ ?_
        · refine Evolves.pair1 ?_
          exact h_v9
        · extract_lets -merge -useContext +onlyGivenNames v12
          split
          · refine Evolves.pair1 ?_
            exact h_v9
          · extract_lets -merge -useContext +onlyGivenNames v13
            extract_lets -merge -useContext +onlyGivenNames v14
            refine Evolves.pair1 ?_
            exact h_v9

theorem State.vecWork_ev {a : State} {x0 : Sys2Proof.Machine.State} {x1 : ℕ} {x2 : Sys2Proof.Machine.Cmd} (hx0 : Evolves a x0) : Evolves a (State.vecWork x0 x1 x2).1 := by
  unfold State.vecWork
  extract_lets -merge -useContext +onlyGivenNames v1
  extract_lets -merge -useContext +onlyGivenNames v2
  extract_lets -merge -useContext +onlyGivenNames v3
  split
  · refine Evolves.pair1 ?_
    exact hx0
  · extract_lets -merge -useContext +onlyGivenNames v4
    have h_v4 : Evolves a v4 := by
      unfold v4
      refine State.noteReads_ev ?_
      exact hx0
    try clear_value v4
    refine Evolves.ite1 ?_ ?_
    · refine Evolves.pair1 ?_
      exact h_v4
    · extract_lets -merge -useContext +onlyGivenNames v5
      extract_lets -merge -useContext +onlyGivenNames v6
      extract_lets -merge -useContext +onlyGivenNames v7
      refine Evolves.pair1 ?_
      exact h_v4

theorem State.vecRow_ev {a : State} {x0 : Sys2Proof.Machine.State} {x1 : Sys2Proof.CmdRef} {x2 : Sys2Proof.Hw} {x3 : ℕ} (hx0 : Evolves a x0) : EvolvesO a (State.vecRow x0 x1 x2 x3) := by
  unfold State.vecRow
  refine State.engineRow_ev ?_ ?_
  · exact hx0
  · intro z1 z2 h_z1
    refine State.vecWork_ev ?_
    exact h_z1

theorem execAbs_ev {a : State} {x0 : Sys2Proof.CmdRef} {x1 : Sys2Proof.Hw} {x2 : Sys2Proof.Machine.State} (hx2 : Evolves a x2) : EvolvesO a (execAbs x0 x1 x2) := by
  unfold execAbs
  refine State.vecRow_ev ?_
  exact hx2

theorem execAdd_ev {a : State} {x0 : Sys2Proof.CmdRef} {x1 : Sys2Proof.Hw} {x2 : Sys2Proof.Machine.State} (hx2 : Evolves a x2) : EvolvesO a (execAdd x0 x1 x2) := by
  unfold execAdd
  refine State.vecRow_ev ?_
  exact hx2

theorem execCmpGt_ev {a : State} {x0 : Sys2Proof.CmdRef} {x1 : Sys2Proof.Hw} {x2 : Sys2Proof.Machine.State} (hx2 : Evolves a x2) : EvolvesO a (execCmpGt x0 x1 x2) := by
  unfold execCmpGt
  refine State.vecRow_ev ?_
  exact hx2

theorem execCvt_ev {a : State} {x0 : Sys2Proof.CmdRef} {x1 : Sys2Proof.Hw} {x2 : Sys2Proof.Machine.State} (hx2 : Evolves a x2) : EvolvesO a (execCvt x0 x1 x2) := by
  unfold execCvt
  refine State.vecRow_ev ?_
  exact hx2

theorem execExp_ev {a : State} {x0 : Sys2Proof.CmdRef} {x1 : Sys2Proof.Hw} {x2 : Sys2Proof.Machine.State} (hx2 : Evolves a x2) : EvolvesO a (execExp x0 x1 x2) := by
  unfold execExp
  refine State.vecRow_ev ?_
  exact hx2

theorem execFma_ev {a : State} {x0 : Sys2Proof.CmdRef} {x1 : Sys2Proof.Hw} {x2 : Sys2Proof.Machine.State} (hx2 : Evolves a x2) : EvolvesO a (execFma x0 x1 x2) := by
  unfold execFma
  refine State.vecRow_ev ?_
  exact hx2

theorem execGelu_ev {a : State} {x0 : Sys2Proof.CmdRef} {x1 : Sys2Proof.Hw} {x2 : Sys2Proof.Machine.State} (hx2 : Evolves a x2) : EvolvesO a (execGelu x0 x1 x2) := by
  unfold execGelu
  refine State.vecRow_ev ?_
  exact hx2

theorem execLog_ev {a : State} {x0 : Sys2Proof.CmdRef} {x1 : Sys2Proof.Hw} {x2 : Sys2Proof.Machine.State} (hx2 : Evolves a x2) : EvolvesO a (execLog x0 x1 x2) := by
  unfold execLog
  refine State.vecRow_ev ?_
  exact hx2

theorem execMatmul_ev {a : State} {x0 : Sys2Proof.CmdRef} {x1 : Sys2Proof.Hw} {x2 : Sys2Proof.Machine.State} (hx2 : Evolves a x2) : EvolvesO a (execMatmul x0 x1 x2) := by
  unfold execMatmul
  refine State.engineRow_ev ?_ ?_
  · exact hx2
  · intro z1 z2 h_z1
    refine State.matWork_ev ?_
    exact h_z1

theorem execMax_ev {a : State} {x0 : Sys2Proof.CmdRef} {x1 : Sys2Proof.Hw} {x2 : Sys2Proof.Machine.State} (hx2 : Evolves a x2) : EvolvesO a (execMax x0 x1 x2) := by
  unfold execMax
  refine State.vecRow_ev ?_
  exact hx2

theorem execMin_ev {a : State} {x0 : Sys2Proof.CmdRef} {x1 : Sys2Proof.Hw} {x2 : Sys2Proof.Machine.State} (hx2 : Evolves a x2) : EvolvesO a (execMin x0 x1 x2) := by
  unfold execMin
  refine State.vecRow_ev ?_
  exact hx2

theorem execMul_ev {a : State} {x0 : Sys2Proof.CmdRef} {x1 : Sys2Proof.Hw} {x2 : Sys2Proof.Machine.State} (hx2 : Evolves a x2) : EvolvesO a (execMul x0 x1 x2) := by
  unfold execMul
  refine State.vecRow_ev ?_
  exact hx2

theorem execNeg_ev {a : State} {x0 : Sys2Proof.CmdRef} {x1 : Sys2Proof.Hw} {x2 : Sys2Proof.Machine.State} (hx2 : Evolves a x2) : EvolvesO a (execNeg x0 x1 x2) := by
  unfold execNeg
  refine State.vecRow_ev ?_
  exact hx2

theorem execRecip_ev {a : State} {x0 : Sys2Proof.CmdRef} {x1 : Sys2Proof.Hw} {x2 : Sys2Proof.Machine.State} (hx2 : Evolves a x2) : EvolvesO a (execRecip x0 x1 x2) := by
  unfold execRecip
  refine State.vecRow_ev ?_
  exact hx2

theorem execRelu_ev {a : State} {x0 : Sys2Proof.CmdRef} {x1 : Sys2Proof.Hw} {x2 : Sys2Proof.Machine.State} (hx2 : Evolves a x2) : EvolvesO a (execRelu x0 x1 x2) := by
  unfold execRelu
  refine State.vecRow_ev ?_
  exact hx2

theorem execRowMax_ev {a : State} {x0 : Sys2Proof.CmdRef} {x1 : Sys2Proof.Hw} {x2 : Sys2Proof.Machine.State} (hx2 : Evolves a x2) : EvolvesO a (execRowMax x0 x1 x2) := by
  unfold execRowMax
  refine State.vecRow_ev ?_
  exact hx2

theorem execRowSum_ev {a : State} {x0 : Sys2Proof.CmdRef} {x1 : Sys2Proof.Hw} {x2 : Sys2Proof.Machine.State} (hx2 : Evolves a x2) : EvolvesO a (execRowSum x0 x1 x2) := by
  unfold execRowSum
  refine State.vecRow_ev ?_
  exact hx2

theorem execRowSumsq_ev {a : State} {x0 : Sys2Proof.CmdRef} {x1 : Sys2Proof.Hw} {x2 : Sys2Proof.Machine.State} (hx2 : Evolves a x2) : EvolvesO a (execRowSumsq x0 x1 x2) := by
  unfold execRowSumsq
  refine State.vecRow_ev ?_
  exact hx2

theorem execRsqrt_ev {a : State} {x0 : Sys2Proof.CmdRef} {x1 : Sys2Proof.Hw} {x2 : Sys2Proof.Machine.State} (hx2 : Evolves a x2) : EvolvesO a (execRsqrt x0 x1 x2) := by
  unfold execRsqrt
  refine State.vecRow_ev ?_
  exact hx2

theorem execSigmoid_ev {a : State} {x0 : Sys2Proof.CmdRef} {x1 : Sys2Proof.Hw} {x2 : Sys2Proof.Machine.State} (hx2 : Evolves a x2) : EvolvesO a (execSigmoid x0 x1 x2) := by
  unfold execSigmoid
  refine State.vecRow_ev ?_
  exact hx2

theorem execSub_ev {a : State} {x0 : Sys2Proof.CmdRef} {x1 : Sys2Proof.Hw} {x2 : Sys2Proof.Machine.State} (hx2 : Evolves a x2) : EvolvesO a (execSub x0 x1 x2) := by
  unfold execSub
  refine State.vecRow_ev ?_
  exact hx2

theorem execTanh_ev {a : State} {x0 : Sys2Proof.CmdRef} {x1 : Sys2Proof.Hw} {x2 : Sys2Proof.Machine.State} (hx2 : Evolves a x2) : EvolvesO a (execTanh x0 x1 x2) := by
  unfold execTanh
  refine State.vecRow_ev ?_
  exact hx2

theorem execVectorSelect_ev {a : State} {x0 : Sys2Proof.CmdRef} {x1 : Sys2Proof.Hw} {x2 : Sys2Proof.Machine.State} (hx2 : Evolves a x2) : EvolvesO a (execVectorSelect x0 x1 x2) := by
  unfold execVectorSelect
  refine State.vecRow_ev ?_
  exact hx2

end Sys2Proof.Machine
end

