-- ==== Sys2Proof/Laws/PerInstr.lean ====
section
/-!
SUPPORT. Statements made for every command as syntax, one lemma per constructor: a well-formed command of a Sheet names an
Inset and an index that exist.
-/

namespace Sys2Proof.Laws.Wf

/-- The command of a Sheet that a row names. -/
def refOf : Instr → Option CmdRef
  | .tickBoundary _ => none
  | .boundaryMessage _ => none
  | .holdover => none
  | .tickUnlock => none
  | .masterFailover => none
  | .masterWait => none
  | .tickSend _ => none
  | .commandIssue c => some c
  | .commitPoint c => some c
  | .drainEnd c _ => some c
  | .overrunAbandon _ => none
  | .matmul c _ => some c
  | .add c _ => some c
  | .sub c _ => some c
  | .mul c _ => some c
  | .fma c _ => some c
  | .min c _ => some c
  | .max c _ => some c
  | .abs c _ => some c
  | .neg c _ => some c
  | .relu c _ => some c
  | .cmpGt c _ => some c
  | .vectorSelect c _ => some c
  | .cvt c _ => some c
  | .exp c _ => some c
  | .log c _ => some c
  | .recip c _ => some c
  | .rsqrt c _ => some c
  | .tanh c _ => some c
  | .sigmoid c _ => some c
  | .gelu c _ => some c
  | .rowSum c _ => some c
  | .rowMax c _ => some c
  | .rowSumsq c _ => some c
  | .quant c _ => some c
  | .dequant c _ => some c
  | .range c _ => some c
  | .select c _ => some c
  | .sort c _ => some c
  | .merge c _ => some c
  | .kth c _ => some c
  | .searchStart c _ => some c
  | .searchExpand c _ => some c
  | .searchFetchList c _ => some c
  | .searchFinish c _ => some c
  | .insertLink c _ => some c
  | .delete c _ => some c
  | .consolidate c _ => some c
  | .embRoute c _ => some c
  | .embFetchList c _ => some c
  | .embServe c _ => some c
  | .embPool c _ => some c
  | .embScatter c _ => some c
  | .embApply c _ => some c
  | .rowReplace c _ => some c
  | .surveyClose c _ => some c
  | .placeDecide c _ => some c
  | .migFetchList c _ => some c
  | .migSend c _ => some c
  | .chartCommit c _ => some c
  | .atlasSwitch c _ => some c
  | .bsuMode c => some c
  | .modeChangeSequence _ => none
  | .bsuRun c _ => some c
  | .bsuQload c _ => some c
  | .scoreSketch c _ _ => some c
  | .dotI8 c _ _ => some c
  | .l2I8 c _ _ => some c
  | .cmpSelect c _ _ => some c
  | .poolRows c _ _ => some c
  | .fill c _ _ => some c
  | .copy c _ _ => some c
  | .bsuHoldPoison _ => none
  | .apertureEnqueue _ _ _ => none
  | .apFlush _ => none
  | .dmCopy c _ => some c
  | .dmFill c _ => some c
  | .dmHostRead c _ => some c
  | .blockTranspose c _ => some c
  | .ckptCapture c _ => some c
  | .hostAdmit c _ => some c
  | .hostComplete c _ => some c
  | .scribeGather c _ => some c
  | .scribeWrite c _ => some c
  | .ckptWindow c _ => some c
  | .ckptManifest _ _ => none
  | .bgWindow c _ => some c
  | .zqCal _ => none
  | .flashChannelReset _ _ => none
  | .rebuild _ => none
  | .flashFormat _ => none
  | .ckptRestore _ => none
  | .restoreEnd _ _ => none
  | .portTraining _ _ => none
  | .trainingTimeout _ => none
  | .flitReceive _ _ => none
  | .nak _ _ => none
  | .laneSerWindow _ _ _ _ _ => none
  | .laneSwap _ _ _ _ => none
  | .linkDown _ => none
  | .portSwap _ _ => none
  | .probe _ _ _ _ _ => none
  | .delayProbe _ _ => none
  | .presetReq _ _ _ _ => none
  | .retrain _ => none
  | .put _ => none
  | .a2aSlot _ => none
  | .done _ => none
  | .token _ => none
  | .lease _ => none
  | .barrier _ => none
  | .mgmtReq _ => none
  | .mgmtRsp _ => none
  | .event _ => none
  | .torusPut c => some c
  | .torusWait c => some c
  | .torusA2a c => some c
  | .sqTail _ _ _ => none
  | .queueConfig _ _ _ _ => none
  | .shaperRelease _ => none
  | .egressSelect _ => none
  | .gateEntry _ => none
  | .tmSample _ => none
  | .depthSample => none
  | .switchEnd _ => none
  | .preempt _ => none
  | .insetReset _ => none
  | .leaseRevoked _ => none
  | .intHoldoff _ _ => none
  | .cxlMemRead _ _ => none
  | .cxlMemWrite _ _ _ _ => none
  | .controlCoreAccess _ => none
  | .hdmCommit _ _ _ _ => none
  | .cxlSnoop _ => none
  | .cxlConfigRequest _ => none
  | .getSupportedLogs _ => none
  | .getLog _ _ _ _ => none
  | .getTimestamp _ => none
  | .setTimestamp _ _ => none
  | .mailboxUnsupported _ _ => none
  | .switchInstant _ => none
  | .bindRelease _ => none
  | .hostLinkLost => none
  | .orphanAbort _ => none
  | .roleChange _ => none
  | .fieldFrame _ _ => none
  | .announce => none
  | .read _ => none
  | .write _ => none
  | .readStaged _ => none
  | .check _ => none
  | .apply _ => none
  | .discard _ => none
  | .setState _ => none
  | .scrubRead _ _ _ => none
  | .remapApplied _ _ _ => none
  | .channelSpared _ => none
  | .channelFill _ => none
  | .repairRecordWrite _ => none
  | .suspectClear _ => none
  | .dumpRecord => none
  | .counterClear _ => none
  | .sampleReset _ => none
  | .attestNonce _ => none
  | .attestReport _ _ => none
  | .floorCert _ => none
  | .ownerKey _ => none
  | .imageWrite _ => none
  | .measureExtend _ => none
  | .debugToken _ => none
  | .pwrGoodRise _ => none
  | .pwrGoodFall => none
  | .resetN _ => none
  | .startPhaseEnd _ => none
  | .vrPoll _ => none
  | .vrAlert _ => none
  | .vcoreEmergency _ => none
  | .vcoreMargin _ => none
  | .thermalSample _ => none
  | .refclkCheck _ _ _ => none
  | .insetStart _ => none
  | .apertureOperation _ _ => none
  | .rehearsalSwapReturn _ => none
  | .resetNAssert => none
  | .dynamicAddressAssignment _ => none

/-- A well-formed command that names a command of a Sheet names one of an existing Inset, with an index that fits. -/
def Statement (i : Instr) : Prop := i.wf = true → ∀ r, refOf i = some r → r.inset < 16 ∧ r.idx < 65536

theorem of_none {i : Instr} (h : refOf i = none) : Statement i := by
  intro _ r hr
  rw [h] at hr
  cases hr

theorem of_ref {i : Instr} {c : CmdRef} (h : refOf i = some c) (hw : i.wf = c.wf) : Statement i := by
  intro hi r hr
  rw [h] at hr
  cases hr
  rw [hw] at hi
  simpa [CmdRef.wf] using hi

theorem tickBoundary (b : BoundaryIn) : Statement (.tickBoundary b) := of_none rfl
theorem boundaryMessage (m : TickIn) : Statement (.boundaryMessage m) := of_none rfl
theorem holdover : Statement .holdover := of_none rfl
theorem tickUnlock : Statement .tickUnlock := of_none rfl
theorem masterFailover : Statement .masterFailover := of_none rfl
theorem masterWait : Statement .masterWait := of_none rfl
theorem tickSend (members : List (Nat × List Nat)) : Statement (.tickSend members) := of_none rfl
theorem commandIssue (c : CmdRef) : Statement (.commandIssue c) := of_ref rfl rfl
theorem commitPoint (c : CmdRef) : Statement (.commitPoint c) := of_ref rfl rfl
theorem drainEnd (c : CmdRef) (badStage : List Nat) : Statement (.drainEnd c badStage) := of_ref rfl rfl
theorem overrunAbandon (inset : Nat) : Statement (.overrunAbandon inset) := of_none rfl
theorem matmul (c : CmdRef) (hw : Hw) : Statement (.matmul c hw) := of_ref rfl rfl
theorem add (c : CmdRef) (hw : Hw) : Statement (.add c hw) := of_ref rfl rfl
theorem sub (c : CmdRef) (hw : Hw) : Statement (.sub c hw) := of_ref rfl rfl
theorem mul (c : CmdRef) (hw : Hw) : Statement (.mul c hw) := of_ref rfl rfl
theorem fma (c : CmdRef) (hw : Hw) : Statement (.fma c hw) := of_ref rfl rfl
theorem min (c : CmdRef) (hw : Hw) : Statement (.min c hw) := of_ref rfl rfl
theorem max (c : CmdRef) (hw : Hw) : Statement (.max c hw) := of_ref rfl rfl
theorem abs (c : CmdRef) (hw : Hw) : Statement (.abs c hw) := of_ref rfl rfl
theorem neg (c : CmdRef) (hw : Hw) : Statement (.neg c hw) := of_ref rfl rfl
theorem relu (c : CmdRef) (hw : Hw) : Statement (.relu c hw) := of_ref rfl rfl
theorem cmpGt (c : CmdRef) (hw : Hw) : Statement (.cmpGt c hw) := of_ref rfl rfl
theorem vectorSelect (c : CmdRef) (hw : Hw) : Statement (.vectorSelect c hw) := of_ref rfl rfl
theorem cvt (c : CmdRef) (hw : Hw) : Statement (.cvt c hw) := of_ref rfl rfl
theorem exp (c : CmdRef) (hw : Hw) : Statement (.exp c hw) := of_ref rfl rfl
theorem log (c : CmdRef) (hw : Hw) : Statement (.log c hw) := of_ref rfl rfl
theorem recip (c : CmdRef) (hw : Hw) : Statement (.recip c hw) := of_ref rfl rfl
theorem rsqrt (c : CmdRef) (hw : Hw) : Statement (.rsqrt c hw) := of_ref rfl rfl
theorem tanh (c : CmdRef) (hw : Hw) : Statement (.tanh c hw) := of_ref rfl rfl
theorem sigmoid (c : CmdRef) (hw : Hw) : Statement (.sigmoid c hw) := of_ref rfl rfl
theorem gelu (c : CmdRef) (hw : Hw) : Statement (.gelu c hw) := of_ref rfl rfl
theorem rowSum (c : CmdRef) (hw : Hw) : Statement (.rowSum c hw) := of_ref rfl rfl
theorem rowMax (c : CmdRef) (hw : Hw) : Statement (.rowMax c hw) := of_ref rfl rfl
theorem rowSumsq (c : CmdRef) (hw : Hw) : Statement (.rowSumsq c hw) := of_ref rfl rfl
theorem quant (c : CmdRef) (hw : Hw) : Statement (.quant c hw) := of_ref rfl rfl
theorem dequant (c : CmdRef) (hw : Hw) : Statement (.dequant c hw) := of_ref rfl rfl
theorem range (c : CmdRef) (hw : Hw) : Statement (.range c hw) := of_ref rfl rfl
theorem select (c : CmdRef) (hw : Hw) : Statement (.select c hw) := of_ref rfl rfl
theorem sort (c : CmdRef) (hw : Hw) : Statement (.sort c hw) := of_ref rfl rfl
theorem merge (c : CmdRef) (hw : Hw) : Statement (.merge c hw) := of_ref rfl rfl
theorem kth (c : CmdRef) (hw : Hw) : Statement (.kth c hw) := of_ref rfl rfl
theorem searchStart (c : CmdRef) (hw : Hw) : Statement (.searchStart c hw) := of_ref rfl rfl
theorem searchExpand (c : CmdRef) (hw : Hw) : Statement (.searchExpand c hw) := of_ref rfl rfl
theorem searchFetchList (c : CmdRef) (hw : Hw) : Statement (.searchFetchList c hw) := of_ref rfl rfl
theorem searchFinish (c : CmdRef) (hw : Hw) : Statement (.searchFinish c hw) := of_ref rfl rfl
theorem insertLink (c : CmdRef) (hw : Hw) : Statement (.insertLink c hw) := of_ref rfl rfl
theorem delete (c : CmdRef) (hw : Hw) : Statement (.delete c hw) := of_ref rfl rfl
theorem consolidate (c : CmdRef) (hw : Hw) : Statement (.consolidate c hw) := of_ref rfl rfl
theorem embRoute (c : CmdRef) (hw : Hw) : Statement (.embRoute c hw) := of_ref rfl rfl
theorem embFetchList (c : CmdRef) (hw : Hw) : Statement (.embFetchList c hw) := of_ref rfl rfl
theorem embServe (c : CmdRef) (hw : Hw) : Statement (.embServe c hw) := of_ref rfl rfl
theorem embPool (c : CmdRef) (hw : Hw) : Statement (.embPool c hw) := of_ref rfl rfl
theorem embScatter (c : CmdRef) (hw : Hw) : Statement (.embScatter c hw) := of_ref rfl rfl
theorem embApply (c : CmdRef) (hw : Hw) : Statement (.embApply c hw) := of_ref rfl rfl
theorem rowReplace (c : CmdRef) (hw : Hw) : Statement (.rowReplace c hw) := of_ref rfl rfl
theorem surveyClose (c : CmdRef) (hw : Hw) : Statement (.surveyClose c hw) := of_ref rfl rfl
theorem placeDecide (c : CmdRef) (hw : Hw) : Statement (.placeDecide c hw) := of_ref rfl rfl
theorem migFetchList (c : CmdRef) (hw : Hw) : Statement (.migFetchList c hw) := of_ref rfl rfl
theorem migSend (c : CmdRef) (hw : Hw) : Statement (.migSend c hw) := of_ref rfl rfl
theorem chartCommit (c : CmdRef) (hw : Hw) : Statement (.chartCommit c hw) := of_ref rfl rfl
theorem atlasSwitch (c : CmdRef) (hw : Hw) : Statement (.atlasSwitch c hw) := of_ref rfl rfl
theorem bsuMode (c : CmdRef) : Statement (.bsuMode c) := of_ref rfl rfl
theorem modeChangeSequence (channel : Nat) : Statement (.modeChangeSequence channel) := of_none rfl
theorem bsuRun (c : CmdRef) (hw : Hw) : Statement (.bsuRun c hw) := of_ref rfl rfl
theorem bsuQload (c : CmdRef) (hw : Hw) : Statement (.bsuQload c hw) := of_ref rfl rfl
theorem scoreSketch (c : CmdRef) (op : Nat) (hw : Hw) : Statement (.scoreSketch c op hw) := of_ref rfl rfl
theorem dotI8 (c : CmdRef) (op : Nat) (hw : Hw) : Statement (.dotI8 c op hw) := of_ref rfl rfl
theorem l2I8 (c : CmdRef) (op : Nat) (hw : Hw) : Statement (.l2I8 c op hw) := of_ref rfl rfl
theorem cmpSelect (c : CmdRef) (op : Nat) (hw : Hw) : Statement (.cmpSelect c op hw) := of_ref rfl rfl
theorem poolRows (c : CmdRef) (op : Nat) (hw : Hw) : Statement (.poolRows c op hw) := of_ref rfl rfl
theorem fill (c : CmdRef) (op : Nat) (hw : Hw) : Statement (.fill c op hw) := of_ref rfl rfl
theorem copy (c : CmdRef) (op : Nat) (hw : Hw) : Statement (.copy c op hw) := of_ref rfl rfl
theorem bsuHoldPoison (channel : Nat) : Statement (.bsuHoldPoison channel) := of_none rfl
theorem apertureEnqueue (channel : Nat) (slot : Nat) (data : Bytes) : Statement (.apertureEnqueue channel slot data) := of_none rfl
theorem apFlush (channel : Nat) : Statement (.apFlush channel) := of_none rfl
theorem dmCopy (c : CmdRef) (hw : Hw) : Statement (.dmCopy c hw) := of_ref rfl rfl
theorem dmFill (c : CmdRef) (hw : Hw) : Statement (.dmFill c hw) := of_ref rfl rfl
theorem dmHostRead (c : CmdRef) (reply : HostData) : Statement (.dmHostRead c reply) := of_ref rfl rfl
theorem blockTranspose (c : CmdRef) (hw : Hw) : Statement (.blockTranspose c hw) := of_ref rfl rfl
theorem ckptCapture (c : CmdRef) (hw : Hw) : Statement (.ckptCapture c hw) := of_ref rfl rfl
theorem hostAdmit (c : CmdRef) (hw : Hw) : Statement (.hostAdmit c hw) := of_ref rfl rfl
theorem hostComplete (c : CmdRef) (hw : Hw) : Statement (.hostComplete c hw) := of_ref rfl rfl
theorem scribeGather (c : CmdRef) (reads : List FlashRead) : Statement (.scribeGather c reads) := of_ref rfl rfl
theorem scribeWrite (c : CmdRef) (phys : FlashPhys) : Statement (.scribeWrite c phys) := of_ref rfl rfl
theorem ckptWindow (c : CmdRef) (phys : FlashPhys) : Statement (.ckptWindow c phys) := of_ref rfl rfl
theorem ckptManifest (inset : Nat) (programmed : Bool) : Statement (.ckptManifest inset programmed) := of_none rfl
theorem bgWindow (c : CmdRef) (phys : FlashPhys) : Statement (.bgWindow c phys) := of_ref rfl rfl
theorem zqCal (channel : Nat) : Statement (.zqCal channel) := of_none rfl
theorem flashChannelReset (channel : Nat) (trained : List Nat) : Statement (.flashChannelReset channel trained) := of_none rfl
theorem rebuild (phys : List FlashRead) : Statement (.rebuild phys) := of_none rfl
theorem flashFormat (r : GazReq) : Statement (.flashFormat r) := of_none rfl
theorem ckptRestore (r : GazReq) : Statement (.ckptRestore r) := of_none rfl
theorem restoreEnd (inset : Nat) (phys : List FlashRead) : Statement (.restoreEnd inset phys) := of_none rfl
theorem portTraining (port : Nat) (t : TrainIn) : Statement (.portTraining port t) := of_none rfl
theorem trainingTimeout (port : Nat) : Statement (.trainingTimeout port) := of_none rfl
theorem flitReceive (port : Nat) (flit : FlitIn) : Statement (.flitReceive port flit) := of_none rfl
theorem nak (port : Nat) (seq : Nat) : Statement (.nak port seq) := of_none rfl
theorem laneSerWindow (port : Nat) (lane : Nat) (errors : Nat) (symbols : Nat) (lockLost : Bool) : Statement (.laneSerWindow port lane errors symbols lockLost) := of_none rfl
theorem laneSwap (port : Nat) (lane : Nat) (spare : Nat) (codeword : Nat) : Statement (.laneSwap port lane spare codeword) := of_none rfl
theorem linkDown (port : Nat) : Statement (.linkDown port) := of_none rfl
theorem portSwap (port : Nat) (spare : Nat) : Statement (.portSwap port spare) := of_none rfl
theorem probe (port : Nat) (t1 : Nat) (t2 : Nat) (t3 : Nat) (t4 : Nat) : Statement (.probe port t1 t2 t3 t4) := of_none rfl
theorem delayProbe (port : Nat) (t1 : Nat) : Statement (.delayProbe port t1) := of_none rfl
theorem presetReq (port : Nat) (lane : Nat) (preset : Nat) (codeword : Nat) : Statement (.presetReq port lane preset codeword) := of_none rfl
theorem retrain (port : Nat) : Statement (.retrain port) := of_none rfl
theorem put (m : Msg) : Statement (.put m) := of_none rfl
theorem a2aSlot (m : Msg) : Statement (.a2aSlot m) := of_none rfl
theorem done (m : Msg) : Statement (.done m) := of_none rfl
theorem token (m : Msg) : Statement (.token m) := of_none rfl
theorem lease (m : Msg) : Statement (.lease m) := of_none rfl
theorem barrier (m : Msg) : Statement (.barrier m) := of_none rfl
theorem mgmtReq (m : Msg) : Statement (.mgmtReq m) := of_none rfl
theorem mgmtRsp (m : Msg) : Statement (.mgmtRsp m) := of_none rfl
theorem event (m : Msg) : Statement (.event m) := of_none rfl
theorem torusPut (c : CmdRef) : Statement (.torusPut c) := of_ref rfl rfl
theorem torusWait (c : CmdRef) : Statement (.torusWait c) := of_ref rfl rfl
theorem torusA2a (c : CmdRef) : Statement (.torusA2a c) := of_ref rfl rfl
theorem sqTail (fn : Nat) (queue : Nat) (value : Nat) : Statement (.sqTail fn queue value) := of_none rfl
theorem queueConfig (fn : Nat) (queue : Nat) (field : Nat) (value : Nat) : Statement (.queueConfig fn queue field value) := of_none rfl
theorem shaperRelease (flow : Nat) : Statement (.shaperRelease flow) := of_none rfl
theorem egressSelect (port : Nat) : Statement (.egressSelect port) := of_none rfl
theorem gateEntry (port : Nat) : Statement (.gateEntry port) := of_none rfl
theorem tmSample (inset : Nat) : Statement (.tmSample inset) := of_none rfl
theorem depthSample : Statement .depthSample := of_none rfl
theorem switchEnd (inset : Nat) : Statement (.switchEnd inset) := of_none rfl
theorem preempt (r : GazReq) : Statement (.preempt r) := of_none rfl
theorem insetReset (r : GazReq) : Statement (.insetReset r) := of_none rfl
theorem leaseRevoked (sync : Nat) : Statement (.leaseRevoked sync) := of_none rfl
theorem intHoldoff (inset : Nat) (vector : Nat) : Statement (.intHoldoff inset vector) := of_none rfl
theorem cxlMemRead (hpa : Nat) (noc : Bool) : Statement (.cxlMemRead hpa noc) := of_none rfl
theorem cxlMemWrite (hpa : Nat) (data : Bytes) (mask : Nat) (poison : Bool) : Statement (.cxlMemWrite hpa data mask poison) := of_none rfl
theorem controlCoreAccess (a : CoreAccess) : Statement (.controlCoreAccess a) := of_none rfl
theorem hdmCommit (decoder : Nat) (base : Nat) (size : Nat) (ways : Nat) : Statement (.hdmCommit decoder base size ways) := of_none rfl
theorem cxlSnoop (addr : Nat) : Statement (.cxlSnoop addr) := of_none rfl
theorem cxlConfigRequest (addr : Nat) : Statement (.cxlConfigRequest addr) := of_none rfl
theorem getSupportedLogs (fn : Nat) : Statement (.getSupportedLogs fn) := of_none rfl
theorem getLog (fn : Nat) (uuid : Bytes) (offset : Nat) (length : Nat) : Statement (.getLog fn uuid offset length) := of_none rfl
theorem getTimestamp (fn : Nat) : Statement (.getTimestamp fn) := of_none rfl
theorem setTimestamp (fn : Nat) (ns : Nat) : Statement (.setTimestamp fn ns) := of_none rfl
theorem mailboxUnsupported (fn : Nat) (opcode : Nat) : Statement (.mailboxUnsupported fn opcode) := of_none rfl
theorem switchInstant (inset : Nat) : Statement (.switchInstant inset) := of_none rfl
theorem bindRelease (r : GazReq) : Statement (.bindRelease r) := of_none rfl
theorem hostLinkLost : Statement .hostLinkLost := of_none rfl
theorem orphanAbort (inset : Nat) : Statement (.orphanAbort inset) := of_none rfl
theorem roleChange (r : GazReq) : Statement (.roleChange r) := of_none rfl
theorem fieldFrame (frame : Bytes) (fcsOk : Bool) : Statement (.fieldFrame frame fcsOk) := of_none rfl
theorem announce : Statement .announce := of_none rfl
theorem read (r : GazReq) : Statement (.read r) := of_none rfl
theorem write (r : GazReq) : Statement (.write r) := of_none rfl
theorem readStaged (r : GazReq) : Statement (.readStaged r) := of_none rfl
theorem check (r : GazReq) : Statement (.check r) := of_none rfl
theorem apply (r : GazReq) : Statement (.apply r) := of_none rfl
theorem discard (r : GazReq) : Statement (.discard r) := of_none rfl
theorem setState (r : GazReq) : Statement (.setState r) := of_none rfl
theorem scrubRead (mc : Nat) (inst : Nat) (found : ScrubFound) : Statement (.scrubRead mc inst found) := of_none rfl
theorem remapApplied (mc : Nat) (inst : Nat) (row : Nat) : Statement (.remapApplied mc inst row) := of_none rfl
theorem channelSpared (channel : Nat) : Statement (.channelSpared channel) := of_none rfl
theorem channelFill (channel : Nat) : Statement (.channelFill channel) := of_none rfl
theorem repairRecordWrite (ok : Bool) : Statement (.repairRecordWrite ok) := of_none rfl
theorem suspectClear (r : GazReq) : Statement (.suspectClear r) := of_none rfl
theorem dumpRecord : Statement .dumpRecord := of_none rfl
theorem counterClear (r : GazReq) : Statement (.counterClear r) := of_none rfl
theorem sampleReset (r : GazReq) : Statement (.sampleReset r) := of_none rfl
theorem attestNonce (r : GazReq) : Statement (.attestNonce r) := of_none rfl
theorem attestReport (inset : Nat) (ok : Bool) : Statement (.attestReport inset ok) := of_none rfl
theorem floorCert (r : GazReq) : Statement (.floorCert r) := of_none rfl
theorem ownerKey (r : GazReq) : Statement (.ownerKey r) := of_none rfl
theorem imageWrite (r : GazReq) : Statement (.imageWrite r) := of_none rfl
theorem measureExtend (r : GazReq) : Statement (.measureExtend r) := of_none rfl
theorem debugToken (r : GazReq) : Statement (.debugToken r) := of_none rfl
theorem pwrGoodRise (rails : RailIn) : Statement (.pwrGoodRise rails) := of_none rfl
theorem pwrGoodFall : Statement .pwrGoodFall := of_none rfl
theorem resetN (bootSrc : Nat) : Statement (.resetN bootSrc) := of_none rfl
theorem startPhaseEnd (p : PhaseIn) : Statement (.startPhaseEnd p) := of_none rfl
theorem vrPoll (rails : RailIn) : Statement (.vrPoll rails) := of_none rfl
theorem vrAlert (rails : RailIn) : Statement (.vrAlert rails) := of_none rfl
theorem vcoreEmergency (marginPs : Nat) : Statement (.vcoreEmergency marginPs) := of_none rfl
theorem vcoreMargin (marginPs : Nat) : Statement (.vcoreMargin marginPs) := of_none rfl
theorem thermalSample (temps : TempIn) : Statement (.thermalSample temps) := of_none rfl
theorem refclkCheck (ppb : Int) (spreadPpb : Nat) (cxlPpb : Int) : Statement (.refclkCheck ppb spreadPpb cxlPpb) := of_none rfl
theorem insetStart (r : GazReq) : Statement (.insetStart r) := of_none rfl
theorem apertureOperation (channel : Nat) (hw : Hw) : Statement (.apertureOperation channel hw) := of_none rfl
theorem rehearsalSwapReturn (port : Nat) : Statement (.rehearsalSwapReturn port) := of_none rfl
theorem resetNAssert : Statement .resetNAssert := of_none rfl
theorem dynamicAddressAssignment (addr : Nat) : Statement (.dynamicAddressAssignment addr) := of_none rfl

end Sys2Proof.Laws.Wf
end

