-- ==== Sys2Proof/Tests/Slice0.lean ====
section
/-!
SUPPORT. The model's own tests: an ill-formed command for each check of WellFormed.lean, which the check refuses; states and
operands that meet the hypotheses of each statement of Obligations.lean; and results of single commands on small states,
worked out from the rules named beside them.
-/

set_option Elab.async false

open Sys2Proof Sys2Proof.Machine

namespace Sys2Proof.Tests

/-! ### Ill-formed commands, one for each check of WellFormed.lean -/

/-- Every command of the list is refused. -/
def refusedAll (l : List Instr) : Bool := l.all (fun i => !i.wf)

def noRef : CmdRef := ⟨16, 0⟩
def badPath : GazReq := ⟨.mailbox 16, 0, []⟩
def badMsg : Msg := ⟨6, 0, 0, []⟩

theorem test_wf_command_reference : refusedAll
    [.matmul noRef .ok, .matmul ⟨0, 65536⟩ .ok, .commandIssue noRef, .commitPoint noRef, .drainEnd noRef [], .add noRef .ok,
     .sub noRef .ok, .mul noRef .ok, .fma noRef .ok, .min noRef .ok, .max noRef .ok, .abs noRef .ok, .neg noRef .ok,
     .relu noRef .ok, .cmpGt noRef .ok, .vectorSelect noRef .ok, .cvt noRef .ok, .exp noRef .ok, .log noRef .ok,
     .recip noRef .ok, .rsqrt noRef .ok, .tanh noRef .ok, .sigmoid noRef .ok, .gelu noRef .ok, .rowSum noRef .ok,
     .rowMax noRef .ok, .rowSumsq noRef .ok, .quant noRef .ok, .dequant noRef .ok, .range noRef .ok] = true := by
  decide +kernel
theorem test_wf_search_and_tables : refusedAll
    [.select noRef .ok, .sort noRef .ok, .merge noRef .ok, .kth noRef .ok, .searchStart noRef .ok, .searchExpand noRef .ok,
     .searchFetchList noRef .ok, .searchFinish noRef .ok, .insertLink noRef .ok, .delete noRef .ok, .consolidate noRef .ok,
     .embRoute noRef .ok, .embFetchList noRef .ok, .embServe noRef .ok, .embPool noRef .ok, .embScatter noRef .ok,
     .embApply noRef .ok, .rowReplace noRef .ok, .surveyClose noRef .ok, .placeDecide noRef .ok, .migFetchList noRef .ok,
     .migSend noRef .ok, .chartCommit noRef .ok, .atlasSwitch noRef .ok] = true := by decide +kernel
theorem test_wf_banks_and_tiers : refusedAll
    [.bsuMode noRef, .bsuRun noRef .ok, .bsuQload noRef .ok, .scoreSketch noRef 0 .ok, .dotI8 noRef 0 .ok, .l2I8 noRef 0 .ok,
     .cmpSelect noRef 0 .ok, .poolRows noRef 0 .ok, .fill noRef 0 .ok, .copy noRef 0 .ok, .dmCopy noRef .ok, .dmFill noRef .ok,
     .dmHostRead noRef [], .blockTranspose noRef .ok, .ckptCapture noRef .ok, .hostAdmit noRef .ok, .hostComplete noRef .ok,
     .scribeGather noRef [], .scribeWrite noRef ⟨[], []⟩, .ckptWindow noRef ⟨[], []⟩, .bgWindow noRef ⟨[], []⟩,
     .torusPut noRef, .torusWait noRef, .torusA2a noRef] = true := by decide +kernel
theorem test_wf_boundary : refusedAll
    [.tickBoundary ⟨[(16, [])], 0, 0, []⟩, .tickBoundary ⟨[(0, [4096])], 0, 0, []⟩, .tickBoundary ⟨[], 0, 0, [16]⟩,
     .tickSend [(16, [])], .boundaryMessage ⟨8, 0, 0, 0, 0, 0, 0, 0, List.replicate 16 ⟨0, 0⟩⟩,
     .boundaryMessage ⟨0, 0, 0, 4096, 0, 0, 0, 0, List.replicate 16 ⟨0, 0⟩⟩, .boundaryMessage ⟨0, 0, 0, 0, 0, 0, 0, 0, []⟩,
     .boundaryMessage ⟨0, 0, 0, 0, 0, 0, 0, 0, List.replicate 16 ⟨0, 3⟩⟩] = true := by decide +kernel
theorem test_wf_channels : refusedAll
    [.modeChangeSequence 256, .bsuHoldPoison 256, .apertureEnqueue 256 0 (zeros 8), .apertureEnqueue 0 2048 (zeros 8),
     .apertureEnqueue 0 0 [], .apFlush 256, .apertureOperation 256 .ok, .channelSpared 256, .channelFill 256,
     .zqCal 32, .flashChannelReset 32 []] = true := by decide +kernel
theorem test_wf_insets : refusedAll
    [.overrunAbandon 16, .ckptManifest 16 true, .restoreEnd 16 [], .tmSample 16, .switchEnd 16, .intHoldoff 16 0,
     .intHoldoff 0 128, .switchInstant 16, .orphanAbort 16, .attestReport 16 true, .leaseRevoked 16384] = true := by
  decide +kernel
theorem test_wf_ports : refusedAll
    [.portTraining 8 ⟨[], 0, [], 0, 0⟩, .portTraining 0 ⟨[18], 0, [], 0, 0⟩, .portTraining 0 ⟨[], 0, [], 4096, 0⟩,
     .portTraining 0 ⟨[], 0, [], 0, 8⟩, .trainingTimeout 8, .flitReceive 8 ⟨none⟩, .flitReceive 0 ⟨some (0, [])⟩,
     .flitReceive 0 ⟨some (2 ^ 64, zeros 256)⟩, .nak 8 0, .nak 0 4096, .laneSerWindow 8 0 0 0 false,
     .laneSerWindow 0 18 0 0 false, .laneSwap 8 0 0 0, .laneSwap 0 18 0 0, .laneSwap 0 0 18 0, .linkDown 6, .portSwap 6 0,
     .portSwap 0 8, .probe 8 0 0 0 0, .delayProbe 8 0, .presetReq 8 0 0 0, .presetReq 0 18 0 0, .presetReq 0 0 16 0,
     .retrain 8, .rehearsalSwapReturn 8, .egressSelect 12, .gateEntry 12, .shaperRelease 1048576] = true := by
  decide +kernel
theorem test_wf_messages : refusedAll
    [.put badMsg, .put ⟨0, 17, 0, []⟩, .put ⟨0, 0, 2 ^ 256, []⟩, .a2aSlot badMsg, .done badMsg, .token badMsg, .lease badMsg,
     .barrier badMsg, .mgmtReq badMsg, .mgmtRsp badMsg, .event badMsg] = true := by decide +kernel
theorem test_wf_host : refusedAll
    [.sqTail 16 0 0, .sqTail 0 4 0, .queueConfig 16 0 0 0, .queueConfig 0 4 0 0, .queueConfig 0 0 6 0,
     .cxlMemWrite 0 [] 0 false, .cxlMemWrite 0 (zeros 64) (2 ^ 64) false, .controlCoreAccess ⟨16, 0, 1, none, false⟩,
     .hdmCommit 4 0 0 1, .getSupportedLogs 16, .getLog 16 (zeros 16) 0 0, .getLog 0 [] 0 0, .getTimestamp 16,
     .setTimestamp 16 0, .mailboxUnsupported 16 0] = true := by decide +kernel
theorem test_wf_requests : refusedAll
    [.read badPath, .read ⟨.field (2 ^ 48), 0, []⟩, .read ⟨.torus 4096 0, 0, []⟩, .read ⟨.torus 0 65536, 0, []⟩,
     .read ⟨.mailbox 0, 2 ^ 256, []⟩, .read ⟨.mailbox 0, 0, zeros 1025⟩, .write badPath, .readStaged badPath, .check badPath,
     .apply badPath, .discard badPath, .setState badPath, .flashFormat badPath, .ckptRestore badPath, .preempt badPath,
     .insetReset badPath, .bindRelease badPath, .roleChange badPath, .suspectClear badPath, .counterClear badPath,
     .sampleReset badPath, .attestNonce badPath, .floorCert badPath, .ownerKey badPath, .imageWrite badPath,
     .measureExtend badPath, .debugToken badPath, .insetStart badPath] = true := by decide +kernel
theorem test_wf_node : refusedAll
    [.scrubRead 0 256 .asStored, .scrubRead 4 0 .asStored, .remapApplied 3 0 0, .remapApplied 0 256 0, .pwrGoodRise [],
     .resetN 4, .startPhaseEnd ⟨0, true, [[], [], []], [], [], [], []⟩, .startPhaseEnd ⟨0, true, [], [[], [], [], []], [], [], []⟩,
     .startPhaseEnd ⟨0, true, [], [], [], [], List.replicate 42 0⟩, .vrPoll [], .vrAlert [], .thermalSample [],
     .dynamicAddressAssignment 128] = true := by decide +kernel
/-- Commands that every check accepts. -/
theorem test_wf_accepts : (.matmul ⟨15, 65535⟩ .ok : Instr).wf = true ∧ (.linkDown 5 : Instr).wf = true
    ∧ (.shaperRelease 1048575 : Instr).wf = true ∧ (.leaseRevoked 16383 : Instr).wf = true := by decide +kernel
/-! ### Engine rows: a running command whose work ends with results -/

/-- A parameter block of 64 bytes from its fields: value and lowest bit. -/
def prm (l : List (Nat × Nat)) : Bytes := toLe 64 ((l.map (fun e => e.1 * 2 ^ e.2)).sum)

/-- A command of engine `e` and opcode `o`, running. -/
def mkCmd (e o : Nat) (ps : Bytes) : Cmd :=
  ⟨e + o * 2 ^ 16, [], ps, .running, 0, 0, 0, false, 0, false, false, 0, [], [], [], [], 0, [], 0⟩

/-- A Sheet with SHEET_SEQ 1 that started at cycle 0. -/
def mkSheet (l : List Cmd) : Sheet := ⟨0, 1, 0, 0, false, l, false⟩

/-- Inset 0 runs these commands. -/
def withSheet (s : State) (l : List Cmd) : State := s.modInset 0 (fun t => { t with sheet := some (mkSheet l) })

/-- Bytes put into memory at a storage address. -/
def put (s : State) (a : Nat) (bs : Bytes) : State :=
  { s with mem := s.mem.setBytes (mapIdxFrom (fun k b => (a + k, b)) 0 bs) }

/-- Command 0 of Inset 0. -/
def R0 : CmdRef := ⟨0, 0⟩

/-- The next state, where there is one; else the state after reset. -/
def after : Host.Outcome State Fault Refusal → State
  | .next t => t
  | _ => State.reset

def isNext : Host.Outcome State Fault Refusal → Bool
  | .next _ => true
  | _ => false

def isDone (x : State × Res) : Bool := match x with | (_, .done _) => true | _ => false

/-- The hypotheses of `RowFinishes` on a state whose first command is `c`. -/
def ready (s : State) (c : Cmd) (data : Cmd → Bool) (work : State → Cmd → State × Res) : Bool :=
  let s := withSheet s [c]
  match s.running R0 c.engine c.opcode with
  | some c => (s.hwFault R0 c .ok).isNone && (forcedKill c (data c)).isNone && isDone (work s c)
  | none => false

/-- MATMUL of a 1 by 1 by 1 int8 product. -/
def matCmd : Cmd := mkCmd 1 1 (prm [(1, 0), (1, 16), (1, 32), (64, 88), (128, 112), (192, 160)])
/-- A command with all parameters 0. -/
def zCmd (e o : Nat) : Cmd := mkCmd e o []

theorem test_wit_matmul : ready State.reset matCmd (fun x => MatP.m (leNat x.params) * MatP.n (leNat x.params) != 0)
    (fun s x => s.matWork R0 x) = true ∧ MatP.outProj (leNat matCmd.params) = false
    ∧ State.reset.firstBad (matReads (tileAddr matCmd.index) (leNat matCmd.params) 0) = none := by decide +kernel
theorem test_wit_projection : ready State.reset (zCmd 3 1) projData (fun s x => s.projWork 1 R0 x) = true
    ∧ ready State.reset (zCmd 3 2) projData (fun s x => s.projWork 2 R0 x) = true
    ∧ ready State.reset (zCmd 3 3) projData (fun s x => s.projWork 3 R0 x) = true := by decide +kernel
theorem test_wit_select : ready State.reset (zCmd 5 1) selectData (fun s x => s.rowSelect 1 R0 x) = true
    ∧ ready State.reset (zCmd 5 2) selectData (fun s x => s.rowSelect 2 R0 x) = true
    ∧ ready State.reset (zCmd 5 3) selectData (fun s x => s.mergeSelect R0 x) = true
    ∧ ready State.reset (zCmd 5 4) selectData (fun s x => s.rowSelect 4 R0 x) = true := by decide +kernel
theorem test_wit_search : ready State.reset (zCmd 4 1) slotData (fun s x => s.startWork R0 x) = true
    ∧ ready State.reset (zCmd 4 2) slotData (fun s x => s.expandWork R0 x) = true
    ∧ ready State.reset (zCmd 4 3) slotData (fun s x => s.fetchWork x) = true
    ∧ ready State.reset (zCmd 4 4) slotData (fun s x => s.finishWork R0 x) = true := by decide +kernel

/-- A maintenance table with one index whose repair queue has 8 entries, and its header in memory: magic, no vertex. -/
def maintState : State :=
  put (State.reset.setReg 0 G.MAINT_TABLE (.blob (zeros 4 ++ toLe 2 1 ++ zeros 10 ++ toLe 64 (8 * 2 ^ 96 + 4096 * 2 ^ 128))))
    4096 (toLe 4 mhMagic ++ toLe 4 0 ++ toLe 4 (2 ^ 32 - 1) ++ toLe 4 0 ++ List.replicate 32 255)

theorem test_wit_maintenance : ready maintState (zCmd 4 0x10) slotData (fun s x => s.linkWork R0 x) = true
    ∧ ready maintState (zCmd 4 0x11) slotData (fun s x => s.deleteWork R0 x) = true
    ∧ ready maintState (zCmd 4 0x12) slotData (fun s x => s.consolidateWork R0 x) = true := by decide +kernel

/-- A lookup batch header with no entry at address 4096. -/
def lookupState : State := put State.reset 4096 (toLe 64 0x454C4B42)

theorem test_wit_embedding : ready lookupState (mkCmd 6 1 (prm [(4096, 192)])) (fun _ => true) (fun s x => s.routeWork R0 x) = true
    ∧ ready State.reset (zCmd 6 2) (fun _ => true) (fun s x => s.fetchListWork R0 x) = true
    ∧ ready State.reset (zCmd 6 3) (fun _ => true) (fun s x => s.serveWork R0 x) = true
    ∧ ready State.reset (zCmd 6 4) (fun _ => true) (fun s x => s.poolWork R0 x) = true
    ∧ ready State.reset (zCmd 6 5) (fun _ => true) (fun s x => s.scatterWork R0 x) = true
    ∧ ready State.reset (zCmd 6 6) (fun _ => true) (fun s x => s.applyWork R0 x) = true := by decide +kernel

/-- An update batch of node 0 for itself, with no key, at address 4096, and an empty change list at 8192. -/
def chartState : State :=
  put (put State.reset 4096 (toLe 64 (0x45424154 + 4 * 2 ^ 32))) 8192 (toLe 64 changeListMagic)

/-- Two empty table images in memory, named by Atlas 0. -/
def atlasState : State :=
  let image := fun (magic : Nat) => toLe 12 magic ++ toLe 4 (crc32c (toLe 12 magic ++ zeros 4))
  put (put (State.reset.setReg 0 G.ATLAS_DIR
    (.blob (zeros 4 ++ toLe 2 1 ++ zeros 10 ++ toLe 64 (4096 * 2 ^ 128 + 8192 * 2 ^ 192)))) 4096 (image 0x454D4254)) 8192
    (image 0x52564552)

theorem test_wit_chart : ready chartState (mkCmd 11 1 (prm [(4096, 128)])) (fun _ => true) (fun s x => s.replaceWork R0 x) = true
    ∧ ready State.reset (zCmd 11 2) (fun _ => true) (fun s x => s.surveyWork R0 x) = true
    ∧ ready State.reset (zCmd 11 3) (fun _ => true) (fun s x => s.decideWork R0 x) = true
    ∧ ready chartState (mkCmd 11 4 (prm [(8192, 128)])) (fun _ => true) (fun s x => s.migFetchWork R0 x) = true
    ∧ ready chartState (mkCmd 11 5 (prm [(8192, 128)])) (fun _ => true) (fun s x => s.migSendWork R0 x) = true
    ∧ ready chartState (mkCmd 11 6 (prm [(8192, 128)])) (fun _ => true) (fun s x => s.commitWork R0 x) = true
    ∧ ready atlasState (zCmd 11 7) (fun _ => true) (fun s x => s.atlasWork R0 x) = true := by decide +kernel
theorem test_wit_scheduler_rows : ready State.reset (zCmd 8 0x40) (fun _ => true) (fun s x => s.transposeWork R0 x) = true
    ∧ ready State.reset (zCmd 12 0x20) (fun _ => true) (fun s x => s.captureWork R0 x) = true
    ∧ ready State.reset (zCmd 12 0x10) (fun _ => true) (fun s x => s.admitWork R0 x) = true
    ∧ ready State.reset (zCmd 12 0x11) (fun _ => true) (fun s x => s.completeWork R0 x) = true := by decide +kernel

/-- With no stored check field and no bad on-die word, no word is bad. -/
theorem clean_words {s : State} (h : s.mem.chk = []) (h' : s.mem.t0bad = []) (w : Nat) : (s.mem.wordState w).isBad = false := by
  unfold MemState.wordState
  split <;> simp [h, h', Tab.find, WordState.isBad]

theorem reads_good {s : State} {c : Cmd} (h : s.mem.chk = []) (h' : s.mem.t0bad = []) (hr : c.rehearsed = 0) : ReadsGood s c :=
  ⟨clean_words h h', hr⟩

theorem test_wit_reads_good : ReadsGood maintState (zCmd 4 0x10)
    ∧ headerOk (maintState.readNat (MntD.base ((Dict.maint maintState.gaz.regs 0 0).getD 0)) 128) (maintState.index 0 0)
      ((Dict.maint maintState.gaz.regs 0 0).getD 0) = true := by
  refine ⟨reads_good ?_ ?_ rfl, ?_⟩ <;> decide +kernel

/-- EMB_NODES holds node 0 alone; a request batch of one lookup with key 7 at 4096. -/
def oneNode : State :=
  put (State.reset.setReg 0 G.EMB_NODES (.blob (zeros 4 ++ toLe 2 1 ++ zeros 10 ++ toLe 2 0))) 4096
    (toLe 64 (0x45424154 + 2 ^ 32 + 2 ^ 96 + 72 * 2 ^ 416) ++ toLe 8 7)

/-- A request batch of one node with one key is what EMB_FETCH_LIST and EMB_SERVE take. -/
theorem test_wit_batches : BatchesGood oneNode 1 0 128 true (oneNode.inSlots 0 4096 128)
    ∧ ((oneNode.inSlots 0 4096 128).map (fun x => (oneNode.slotKeys x).length)).sum = 1
    ∧ oneNode.expired 0 0 0 (oneNode.stampOf 0) = false ∧ oneNode.mem.chk = [] ∧ oneNode.mem.t0bad = [] := by
  unfold BatchesGood; decide +kernel

/-- Reply, update and migration batches with no key. -/
theorem test_wit_empty_batches : ∀ e ∈ [(2, false), (3, false), (4, false), (5, false)],
    let s := put oneNode 4096 (toLe 64 (0x45424154 + e.1 * 2 ^ 32) ++ zeros 8)
    BatchesGood s e.1 0 128 e.2 (s.inSlots 0 4096 128) ∧ s.expired 0 0 0 (s.stampOf 0) = false := by
  unfold BatchesGood; decide +kernel

theorem test_wit_lists : ListsGood chartState R0 (mkCmd 11 4 (prm [(8192, 128)]))
    ∧ (match chartState.lists R0 (mkCmd 11 4 (prm [(8192, 128)])) with
      | .ok rd => rd.changes.isEmpty
      | .error _ => false) = true := by
  unfold ListsGood; decide +kernel

/-- A survey batch of node 0 for itself, of Atlas 0. -/
theorem test_wit_survey_batch : let s := put oneNode 4096 (toLe 64 (0x45424154 + 6 * 2 ^ 32) ++ zeros 8)
    ∀ x ∈ s.inSlots 0 4096 128, x.headOk 6 0 s.nodeId 128 = true ∧ BatH.tag x.hdr = s.num 0 G.ATLAS_GEN := by
  decide +kernel

theorem test_wit_atlas_images :
    let a := (Dict.atlas atlasState.gaz.regs 0 0).getD 0
    let tb := atlasState.tableImage (bf a 191 128)
    let rb := atlasState.tableImage (bf a 255 192)
    let d := Tab.set (Tab.set atlasState.gaz.regs (rkey 0 G.EMB_TABLES) (GVal.blob tb)) (rkey 0 G.ROW_VERSIONS) (GVal.blob rb)
    (atlasState.inset 0).opens.any (fun o => Sub.kind o.entry == 2) = false ∧ Dict.embTablesOk d 0 = true
    ∧ Dict.embReservedOk d 0 = true ∧ Dict.rowVersOk d 0 = true ∧ Dict.rowVersReservedOk d 0 = true := by decide +kernel

/-! ### Vector rows -/

/-- A vector command on one int32 element at 0, 64 and 128 of tile 0, for DST_OFF 256 and STAGE_OFF 320. -/
def vecCmd (op : Nat) : Cmd :=
  { mkCmd 2 op (prm [(1, 0), (1, 32), (3, 48), (3, 52), (64, 88), (128, 112), (256, 136), (320, 160)]) with
    descs := [tileBase * 2 ^ 32 + 192 * 2 ^ 96] }

/-- The elements 2^32 - 1, 2 and 7 in tile 0. -/
def vecMem : State := put (put (put State.reset tileBase (toLe 4 (2 ^ 32 - 1))) (tileBase + 64) (toLe 4 2)) (tileBase + 128) (toLe 4 7)

def vecOps : List Nat :=
  [1, 2, 3, 4, 5, 6, 7, 8, 9, 0xA, 0xB, 0xC, 0x10, 0x11, 0x12, 0x13, 0x14, 0x15, 0x16, 0x20, 0x21, 0x22]

theorem test_wit_vector_rows : (vecOps.all (fun op =>
    let s := withSheet vecMem [vecCmd op]
    (s.running R0 2 op == some (vecCmd op)) && (s.hwFault R0 (vecCmd op) .ok).isNone
      && (forcedKill (vecCmd op) true).isNone && (s.firstBad (vecReads (tileAddr 0) (leNat (vecCmd op).params) op)).isNone)) = true := by
  decide +kernel

/-- The bytes a vector row stages for DST_OFF. -/
def vecResult (op : Nat) (i : Instr) : Option Bytes :=
  ((after (exec i (withSheet vecMem [vecCmd op]))).cmd R0).bind (fun c => (c.writes.find? (fun w => w.1 == tileBase + 256)).map (·.2))

-- R79: int32 results modulo 2^32; Table 3-8: CMP_GT compares signed values, SELECT takes the second source where the first is not 0.
theorem test_add_wraps : vecResult 1 (.add R0 .ok) = some (toLe 4 1) := by decide +kernel
theorem test_sub_of_minus_one : vecResult 2 (.sub R0 .ok) = some (toLe 4 (2 ^ 32 - 3)) := by decide +kernel
theorem test_mul_wraps : vecResult 3 (.mul R0 .ok) = some (toLe 4 (2 ^ 32 - 2)) := by decide +kernel
theorem test_min_is_signed : vecResult 5 (.min R0 .ok) = some (toLe 4 (2 ^ 32 - 1)) := by decide +kernel
theorem test_max_is_signed : vecResult 6 (.max R0 .ok) = some (toLe 4 2) := by decide +kernel
theorem test_abs_of_minus_one : vecResult 7 (.abs R0 .ok) = some (toLe 4 1) := by decide +kernel
theorem test_neg_of_minus_one : vecResult 8 (.neg R0 .ok) = some (toLe 4 1) := by decide +kernel
theorem test_cmp_gt_is_signed : vecResult 0xA (.cmpGt R0 .ok) = some (toLe 4 0) := by decide +kernel
theorem test_select_takes_second : vecResult 0xB (.vectorSelect R0 .ok) = some (toLe 4 2) := by decide +kernel

/-- One reader and two readers of a bad word of tile 0. -/
theorem test_wit_tile_word :
    let bad := { vecMem with mem := { vecMem.mem with t0bad := [(tileBase / 64, 1)] } }
    let s := withSheet bad [vecCmd 1]
    let t := withSheet bad [vecCmd 1, vecCmd 2]
    s.firstBad (vecReads (tileAddr 0) (leNat (vecCmd 1).params) 1) = some tileBase
    ∧ s.tileCmds 0 (fun x => x.inInputs tileBase 64) = [R0]
    ∧ (t.tileCmds 0 (fun x => x.inInputs tileBase 64)).length = 2 := by decide +kernel

/-- R70: (-1) × 3 as int8, on top of accumulator 0, is 2^32 - 3. -/
theorem test_matmul_int8 :
    let s := put (put State.reset tileBase (toLe 1 255)) (tileBase + 64) (toLe 1 3)
    (((after (exec (.matmul R0 .ok) (withSheet s [matCmd]))).cmd R0).map (fun c => c.writes.map (fun w => (w.1, w.2.take 4))))
      = some [(tileBase + 192, toLe 4 (2 ^ 32 - 3)), (tileBase + 128, toLe 4 (2 ^ 32 - 3))] := by decide +kernel

/-! ### Movers and bank-side rows -/

def fillCmd : Cmd := mkCmd 8 2 (prm [(4096, 64), (16, 128), (0x0807060504030201, 192)])
def copyCmd : Cmd := mkCmd 8 1 (prm [(4096, 0), (8192, 64), (64, 128)])

theorem test_wit_movers : (withSheet State.reset [fillCmd]).running R0 8 2 = some fillCmd
    ∧ (withSheet State.reset [copyCmd]).running R0 8 1 = some copyCmd
    ∧ ((withSheet State.reset [copyCmd]).hwFault R0 copyCmd .ok).isNone = true := by decide +kernel
theorem test_fill_repeats_its_pattern :
    ((after (exec (.dmFill R0 .ok) (withSheet State.reset [fillCmd]))).cmd R0).map (fun c => (c.phase, c.writes))
      = some (.finished, [(4096, toLe 8 0x0807060504030201 ++ toLe 8 0x0807060504030201)]) := by decide +kernel

theorem test_wit_bank_rows : (withSheet State.reset [zCmd 7 1]).running R0 7 1 = some (zCmd 7 1)
    ∧ (withSheet State.reset [zCmd 7 3]).running R0 7 3 = some (zCmd 7 3)
    ∧ ((withSheet State.reset [zCmd 7 3]).hwFault R0 (zCmd 7 3) .ok).isNone = true
    ∧ (let c := mkCmd 7 3 (prm [(4096, 0), (1, 64), (1, 108)]);
      ((withSheet State.reset [c]).readFault c [(4096, 64)]).isNone) = true := by decide +kernel

/-- A BSU_RUN of one operation of a kind. -/
def runCmd (kind : Nat) : Cmd := mkCmd 7 2 (toLe 64 (1 + 4096 * 2 ^ 64 + kind * 2 ^ 256))

theorem test_wit_bank_operations : ([1, 2, 3, 4, 5, 0x10, 0x11].all (fun k =>
    let s := withSheet State.reset [runCmd k]
    (s.running R0 7 2 == some (runCmd k)) && (runCmd k).opReady 0 && !(runCmd k).opReady 1
      && OpD.op (RunP.op (leNat (runCmd k).params) 0) == k && (s.hwFault R0 (runCmd k) .ok).isNone)) = true := by decide +kernel

theorem test_wit_open_rows :
    (let s := withSheet State.reset [runCmd 0x10];
      (s.running R0 7 2).isSome && ((s.planOp R0 0).cmd R0).isSome && (forcedKill (runCmd 0x10) false).isNone) = true
    ∧ isDone ((withSheet State.reset [zCmd 9 1]).gatherWork R0 (zCmd 9 1) []) = true
    ∧ isDone ((withSheet State.reset [zCmd 9 2]).scribeWriteWork R0 (zCmd 9 2) ⟨[], []⟩) = true
    ∧ (withSheet State.reset [zCmd 9 1]).running R0 9 1 = some (zCmd 9 1)
    ∧ (withSheet State.reset [zCmd 9 2]).running R0 9 2 = some (zCmd 9 2)
    ∧ (withSheet State.reset [zCmd 9 3]).running R0 9 3 = some (zCmd 9 3)
    ∧ (withSheet State.reset [zCmd 9 4]).running R0 9 4 = some (zCmd 9 4) := by decide +kernel

/-- The list of a SCRIBE_WRITE with no entry: nothing to program, and its sources are good. -/
theorem test_wit_scribe_write :
    let s := withSheet State.reset [zCmd 9 2]
    let v := (s.noteReads [(ScrP.listAddr 0, ScrP.listBytes 0)]).writeEntries 0 0 (zCmd 9 2)
    v.2.any (fun e => v.1.rangeBad e.src e.len) = false
    ∧ ((nub (v.2.map (·.lpn))).foldl (Writing.page 0 (zCmd 9 2) v.2)
        ⟨v.1.noteReads (v.2.map (fun e => (e.src, e.len))), ⟨[], []⟩, [], [], none⟩).fault = none := by decide +kernel

def hostReadCmd : Cmd := mkCmd 8 3 (prm [(0x1000, 0), (4096, 64), (64, 128)])
theorem test_wit_host_read : (withSheet State.reset [hostReadCmd]).running R0 8 3 = some hostReadCmd
    ∧ (forcedKill hostReadCmd true).isNone = true ∧ MovP.len (leNat hostReadCmd.params) / 64 = 1
    ∧ State.reset.host.linkUp = true := by decide +kernel
theorem test_host_read_poison :
    ((after (exec (.dmHostRead R0 [none]) (withSheet State.reset [hostReadCmd]))).cmd R0).map (fun c => (c.writes, c.poison))
      = some ([(4096, zeros 64)], [4096]) := by decide +kernel

/-- Channel 0 with a change to a mode waiting, at cycle 0, from a mode. -/
def changing (was goal : Nat) : State := State.reset.setUnit 0 { StackUnit.reset with mode := was, change := some goal }

theorem test_wit_mode_change : ((changing 0 1).unit 0).change = some 1 ∧ (changing 0 1).clk.cycle / 2400 % 4 = 0 % 4
    ∧ (changing 0 1).host.held = [] ∧ bit 1 0 = true ∧ bit ((changing 0 1).unit 0).mode 0 = false
    ∧ ((changing 1 0).unit 0).change = some 0 ∧ bit 0 0 = false ∧ bit ((changing 1 0).unit 0).mode 0 = true := by
  decide +kernel
theorem test_mode_change_to_proc : ((after (exec (.modeChangeSequence 0) (changing 0 1))).unit 0).epoch = 1
    ∧ ((after (exec (.modeChangeSequence 0) (changing 0 1))).unit 0).mode = 1
    ∧ ((after (exec (.modeChangeSequence 1) (changing 0 1))).unit 0).mode = 0 := by decide +kernel

/-- Channel 0, of Inset 0, in PROC with one FILL queued; and with none. -/
def procUnit : StackUnit := { StackUnit.reset with mode := 1, queue := [(0x10 + 2 ^ 96, 1)], apSeq := 1 }
def procState : State := ((State.reset.setReg 0 G.T1_CHANNELS (.blob (toLe 32 1))).setReg 0 G.BSU_RES_SPLIT (.num 0)).setUnit 0 procUnit
def procIdle : State := ((State.reset.setReg 0 G.T1_CHANNELS (.blob (toLe 32 1))).setReg 0 G.BSU_RES_SPLIT (.num 0)).setUnit 0 { procUnit with queue := [] }
/-- A load of channel 0 held since cycle 0. -/
def heldLoad : Held := ⟨some 0, 0, 0, 0, 8, none, 0⟩
def holding : State := { procIdle with host := { procIdle.host with held := [heldLoad] } }

theorem test_wit_aperture : bit (State.reset.unit 0).mode 0 = false ∧ bit (procState.unit 0).mode 0 = true
    ∧ (procState.unit 0).queue.length < 64 ∧ procState.apAllowed 0 (0x10 + 2 ^ 96) = true
    ∧ (procIdle.unit 0).queue = [] ∧ procState.planQueued 0 = false
    ∧ ((procState.apRows 0 (0x10 + 2 ^ 96)).all (fun e =>
        Dict.apStorage procState.gaz.regs ((Dict.channelOwner procState.gaz.regs 0).getD 0) 0 e.1 e.2)) = true
    ∧ (let v := procState.setUnit 0 { procUnit with queue := [] }.settled;
      (v.runOp 0 0x04 false).writes = [] ∧ (v.runOp 0 0x04 false).poison = []
      ∧ (v.apRows 0 0x04).all (fun e => Dict.apStorage v.gaz.regs ((Dict.channelOwner v.gaz.regs 0).getD 0) 0 e.1 e.2) = true)
    ∧ holding.host.held.find? (fun h => touches h.addr h.len 0 && holding.inProc h.addr h.len) = some heldLoad := by
  decide +kernel

/-! ### Sheets -/

/-- A pending command with no operand, of a scheduler operation with no work, open from cycle 0 to 1000. -/
def waiting : Cmd := { mkCmd 12 0x30 [] with phase := .pending, word := 12 + 0x30 * 2 ^ 16 + 1000 * 2 ^ 64 }

theorem test_wit_issue : MayIssue (withSheet State.reset [waiting]) R0 (mkSheet [waiting]) waiting := by
  constructor <;> decide +kernel
theorem test_issue_runs_it : ((after (exec (.commandIssue R0) (withSheet State.reset [waiting]))).cmd R0).isSome = true
    ∧ (mkSheet [waiting]).atHead 0 waiting = true
    ∧ (withSheet State.reset [waiting]).sheetTime (mkSheet [waiting]) ≤ CmdW.winClose waiting.word := by decide +kernel
/-- After WIN_CLOSE, with its lateness counted. -/
theorem test_wit_issue_late :
    let s := { withSheet State.reset [{ waiting with lateDone := true }] with clk := { State.reset.clk with cycle := 2000 } }
    MayIssue s R0 (mkSheet [{ waiting with lateDone := true }]) { waiting with lateDone := true }
    ∧ CmdW.winClose waiting.word < s.sheetTime (mkSheet []) := by
  refine ⟨?_, ?_⟩
  · constructor <;> decide +kernel
  · decide +kernel

/-- Each reason to wait: before the window, an input not resident, a wait not met, a pending mode change, a busy engine. -/
theorem test_wit_waits :
    (let x := { waiting with word := waiting.word + 5 * 2 ^ 32 };
      (withSheet State.reset [x]).sheetTime (mkSheet [x]) < CmdW.winOpen x.word)
    ∧ (let x := { waiting with word := 2 + 2 ^ 16 + 1000 * 2 ^ 64, descs := [0] }; (mkSheet [waiting, x]).resident x = false)
    ∧ (let x := { waiting with word := waiting.word + 1 * 2 ^ 142 + 7 * 2 ^ 144 };
      (withSheet State.reset [x]).waitMet x = false ∧ (withSheet State.reset [x]).badSync x = none)
    ∧ (let x := { waiting with word := 2 + 2 ^ 16 + 1000 * 2 ^ 64 };
      (withSheet State.reset [vecCmd 1, x]).engineIdle ⟨0, 1⟩ x = false
      ∧ (withSheet State.reset [vecCmd 1, x]).scribeHeld x = false ∧ CmdW.waitCond x.word ≠ 3
      ∧ (withSheet State.reset [vecCmd 1, x]).namesRetired x = false) := by decide +kernel
/-- A command of a traverse engine that is retired. -/
theorem test_wit_retired :
    let x := { waiting with word := 4 + 2 * 2 ^ 16 + 1000 * 2 ^ 64 }
    let s := withSheet { State.reset with rel := { State.reset.rel with retired := [(2, 0), (1, 0)] } } [x]
    s.namesRetired x = true ∧ (mkSheet [x]).atHead 0 x = true ∧ (mkSheet [x]).resident x = true ∧ s.waitMet x = true
    ∧ s.stagingFree 0 (mkSheet [x]) x = true ∧ s.locked x = false ∧ s.modePending x = false ∧ s.scribeHeld x = false := by
  decide +kernel

/-- A finished command that signals object 3 with 5. -/
def finishedCmd : Cmd := { zCmd 8 2 with phase := .finished, word := 8 + 2 * 2 ^ 16 + 3 * 2 ^ 176 + 1 * 2 ^ 190 + 5 * 2 ^ 192 }

theorem test_wit_commit : (withSheet State.reset [finishedCmd]).cmd R0 = some finishedCmd
    ∧ (withSheet State.reset [finishedCmd]).badSync finishedCmd = none ∧ finishedCmd.writesTable = none
    ∧ CmdW.signalOp finishedCmd.word = 1 ∧ ((withSheet State.reset [finishedCmd]).syncObj 3).kind ≠ 3 := by decide +kernel
theorem test_commit_signals : ((after (exec (.commitPoint R0) (withSheet State.reset [finishedCmd]))).syncObj 3).value = 5 := by
  decide +kernel
/-- A token granted, denied and asked; a TORUS_PUT not yet acknowledged. -/
theorem test_wit_tokens : ∀ k ∈ [1, 2, 3],
    let x := { finishedCmd with word := 8 + 2 * 2 ^ 16 + 3 * 2 ^ 190, token := k }
    CmdW.signalOp x.word = 3 ∧ x.token = k ∧ (withSheet State.reset [x]).badSync x = none := by decide +kernel

/-- A draining command that writes 1, 2 at 100 and 3 at 101, and one that has not ended. -/
def drainingCmd : Cmd := { zCmd 8 2 with phase := .draining, writes := [(100, [1, 2]), (101, [3])] }
def drainState : State := withSheet State.reset [drainingCmd, waiting]

theorem test_wit_drain : drainState.mem.wf = true ∧ drainState.cmd R0 = some drainingCmd
    ∧ drainState.drainWaits drainingCmd = false ∧ drainState.host.held = [] ∧ drainState.cmd ⟨0, 1⟩ = some waiting
    ∧ waiting.phase.ended = false
    ∧ (∀ w ∈ (wordWrites drainingCmd.writes).map (·.1), (drainState.mem.wordState w).isBad = false) := by decide +kernel
theorem test_drain_no_capture (i : Nat) : (drainState.inset i).ckpt.left = [] := by
  unfold drainState withSheet State.inset State.modInset State.setInset
  simp only [Tab.get_set]
  split <;> rfl
theorem test_drain_later_over_earlier : let t := after (exec (.drainEnd R0 []) drainState)
    t.mem.readByte 100 = 1 ∧ t.mem.readByte 101 = 3 ∧ t.mem.readByte 102 = 0 := by decide +kernel

theorem test_wit_overrun :
    (State.reset.inset 0).sheet = none
    ∧ (let s := (withSheet State.reset [waiting]).setNum 16 G.TICK_LOCK 3;
      let sh := { mkSheet [waiting] with slips := s.num 0 G.OVERRUN_LIMIT };
      (s.modInset 0 (fun t => { t with sheet := some sh })).lock ≠ 0 ∧ s.num 0 G.OVERRUN_LIMIT ≤ sh.slips) := by decide +kernel
theorem test_overrun_kills : let s := (withSheet State.reset [waiting, { waiting with phase := .committed }]).setNum 16 G.TICK_LOCK 3
    let t := after (exec (.overrunAbandon 0) (s.modInset 0 (fun t =>
      { t with sheet := t.sheet.map (fun sh => { sh with slips := s.num 0 G.OVERRUN_LIMIT }) })))
    (t.cmd ⟨0, 0⟩).map (·.phase) = some .killed ∧ (t.cmd ⟨0, 1⟩).map (·.phase) = some .committed := by decide +kernel

/-! ### Torus commands -/

/-- A TORUS_WAIT for one message of transfer 9, of at most 64 bytes, into 4096, and the message. -/
def waitCmd : Cmd := { mkCmd 0x0A 2 (prm [(9, 32), (64, 64), (1, 96)]) with descs := [1 + 2 ^ 2 + 4096 * 2 ^ 32 + 64 * 2 ^ 96] }
def landedMsg (addr n : Nat) : Landed := ⟨0, msgHeader 0 0 0 0 1 n addr 9 0 1 (zeros n), zeros n⟩
def landing (addr n : Nat) : State :=
  let s := withSheet State.reset [waitCmd]
  { s with torus := { s.torus with landed := [landedMsg addr n] } }

theorem test_wit_torus_wait :
    (landing 4096 16).running R0 0x0A 2 = some waitCmd ∧ (landing 4096 16).landedFor 0 0 9 1 false = [landedMsg 4096 16]
    ∧ (landedMsg 4096 16).payload.length ≤ 64 ∧ TorP.count (leNat waitCmd.params) = 1
    ∧ waitCmd.inOutputs (MsgW.addr (landedMsg 4096 16).hdr) 16 = true
    ∧ waitCmd.inOutputs (MsgW.addr (landedMsg 8192 16).hdr) 16 = false
    ∧ (landing 4096 80).landedFor 0 0 9 1 false = [landedMsg 4096 80] := by decide +kernel
theorem test_torus_wait_takes : ((after (exec (.torusWait R0) (landing 4096 16))).cmd R0).map (·.writes)
    = some [(4096, zeros 16)] := by decide +kernel
theorem test_torus_wait_overflow : ((after (exec (.torusWait R0) ((landing 4096 80).setNum 16 G.TICK_LOCK 3))).cmd R0).map (·.code)
    = some Code.TORUS_OVERFLOW := by decide +kernel

/-- A TORUS_A2A over nodes 0 and 1 whose messages have left; node 1's piece. -/
def a2aCmd : Cmd := { mkCmd 0x0A 3 (prm [(9, 32), (2, 96), (64, 128), (4096, 256), (8192, 320)]) with progress := [1] }
def a2aState (n : Nat) : State :=
  let s := withSheet (put State.reset 8192 (toLe 2 0 ++ toLe 2 1)) [a2aCmd]
  { s with torus := { s.torus with landed := if n = 0 then [] else [⟨0, msgHeader 1 0 0 0 1 n 0 9 0 1 (zeros n), zeros n⟩] } }

theorem test_wit_a2a : (a2aState 16).running R0 0x0A 3 = some a2aCmd
    ∧ ((a2aState 16).landedFor 0 1 9 1 false).length = 1 ∧ (a2aState 0).landedFor 0 1 9 1 false = []
    ∧ ((a2aState 80).landedFor 0 1 9 1 false).map (fun m => decide (TorP.inStride (leNat a2aCmd.params) < m.payload.length)) = [true]
    ∧ (withSheet State.reset [zCmd 0x0A 3]).running R0 0x0A 3 = some (zCmd 0x0A 3) := by decide +kernel

def putCmd : Cmd := mkCmd 0x0A 1 (prm [(1, 8), (9, 32), (64, 64), (4096, 192), (8192, 256)])
theorem test_wit_torus_put : (withSheet State.reset [putCmd]).running R0 0x0A 1 = some putCmd
    ∧ ((withSheet State.reset [putCmd]).hwFault R0 putCmd .ok).isNone = true ∧ (forcedKill putCmd true).isNone = true
    ∧ ((withSheet State.reset [putCmd]).exportFault putCmd [(4096, 64)]).isNone = true
    ∧ (let s := { State.reset with mem := { State.reset.mem with chk := [(64, 3)] } };
      ((withSheet s [putCmd]).exportFault putCmd [(4096, 64)]).isSome) = true := by decide +kernel

/-! ### The tick -/

/-- A node in phase 6 with a LOCK, at a cycle. -/
def ticking (lock cycle : Nat) : State :=
  let s := (State.reset.setNum 16 G.START_PHASE 6).setNum 16 G.TICK_LOCK lock
  { s with clk := { s.clk with cycle := cycle } }

/-- Physical ports 0 and 1 ACTIVE. -/
def linked (s : State) : State := (s.setPort 0 { Port.reset with train := 6 }).setPort 1 { Port.reset with train := 6 }

theorem test_wit_tick_send : let s := linked (ticking 3 1000)
    6 ≤ s.node G.START_PHASE ∧ s.serves = true ∧ s.lock = 3 ∧ s.tick.nextAt ≤ s.clk.cycle + s.tickLead
    ∧ s.tick.msg.map (·.tickNo) ≠ some (s.tickNo + 1) ∧ (s.port 1).train = 6 := by decide +kernel
theorem test_tick_send_floods : ((after (exec (.tickSend []) (linked (ticking 3 1000)))).out.map (fun o =>
    match o with | .tickFlit p n .. => (p, n) | _ => (99, 0))) = [(0, 1), (1, 1)] := by decide +kernel

/-- A boundary message for tick 1 from master 5 on port 0, 10,000 ps ahead. -/
def tickMsg : TickIn := ⟨0, 1, 500, 5, 2, 10000, 0, 0, List.replicate 16 ⟨0, 0⟩⟩

theorem test_wit_boundary_message : let s := linked (ticking 1 1000)
    let s := { s with tick := { s.tick with master := some 5 } }
    s.tick.ignore = 0 ∧ s.tickSeen tickMsg = false ∧ s.lock = 1 ∧ tickMsg.periodUs = s.node G.TICK_PERIOD
    ∧ tickMsg.offsetNs.natAbs ≤ 200 ∧ tickMsg.tickNo = s.tickNo + 1 ∧ s.tick.master = some tickMsg.master
    ∧ { s with tick := { s.tick with forwarded := some 1 } }.tickSeen tickMsg = true := by decide +kernel
theorem test_boundary_message_sets_next : let s := linked (ticking 1 1000)
    let t := after (exec (.boundaryMessage tickMsg) { s with tick := { s.tick with master := some 5 } })
    t.tick.nextAt = 1024 ∧ t.out.length = 1 := by decide +kernel

theorem test_wit_lock :
    (let s := { ticking 1 0 with tick := { (ticking 1 0).tick with missed := 3 } }; s.lock = 1 ∧ 3 ≤ s.tick.missed ∧ s.serves = true)
    ∧ (let s := { ticking 2 76800000 with tick := { (ticking 2 0).tick with holdoverAt := some 0 } };
      s.tick.holdoverAt = some 0 ∧ s.lock = 2 ∧ 0 + 76800000 ≤ s.clk.cycle)
    ∧ (let s := (ticking 1 0).setNum 16 G.TICK_MASTER_LIST 0; (s.listPos s.nodeId).isSome = true)
    ∧ (let s := (ticking 0 0).setNum 16 G.TICK_MASTER_LIST 0;
      let s := { s with flash := { s.flash with rebuilt := 1 } };
      s.listPos s.nodeId = some 0 ∧ s.profiled = true ∧ s.lock = 0 ∧ s.tick.everLocked = false ∧ s.sched.halted = false
      ∧ s.tick.forwarded = none) := by decide +kernel
theorem test_holdover_sets_lock : (after (exec .holdover
    { ticking 1 0 with tick := { (ticking 1 0).tick with missed := 3 } })).lock = 2 := by decide +kernel

/-! ### Ports -/

/-- Port 0 in training on a torus of size 2 in x; its neighbour is node 1. -/
def trainingState : State :=
  (State.reset.setNum 16 G.TORUS_DIMS 1).setPort 0 { Port.reset with train := 1 }
def sees (n : Nat) : TrainIn := ⟨List.range 16, 0, [], n, 1⟩

theorem test_wit_training : (trainingState.port 0).train = 1 ∧ trainingState.clk.refBad = false ∧ trainingState.portUsed 0 = true
    ∧ ((sees 1).lanes.filter (fun l => decide (l < nLanes) && !(trainingState.port 0).failed.contains l)).length = 16
    ∧ trainingState.logicalOf 0 = some 0 ∧ neighbour (trainingState.node G.TORUS_DIMS) trainingState.nodeId 0 = some 1
    ∧ (trainingState.port 0).stateAt + 2400000 ≤ 2400000 := by decide +kernel
theorem test_training_ends_active : ((after (exec (.portTraining 0 (sees 1)) trainingState)).port 0).train = 6
    ∧ ((after (exec (.portTraining 0 (sees 2)) trainingState)).port 0).train = 0 := by decide +kernel

/-- A flit header of a type, SEQ and ACK 4095 with its CRC over an empty payload. -/
def goodFlit (ty seq : Nat) : Nat :=
  let h := ty + seq * 2 ^ 8 + 4095 * 2 ^ 20
  h + crc16 0xFFFF (toLe 6 h) * 2 ^ 48

theorem test_wit_flits : let s := linked (ticking 3 0)
    (s.port 0).train = 6 ∧ s.timedEntry 0x010 0 = none ∧ FlitW.crcOk 0 [] = false
    ∧ (∀ e ∈ [(1, 0), (1, 5), (2, 0), (3, 0)], FlitW.crcOk (goodFlit e.1 e.2) [] = true
      ∧ FlitW.ftype (goodFlit e.1 e.2) = e.1 ∧ FlitW.seq (goodFlit e.1 e.2) = e.2
      ∧ seqDist (s.port 0).txAcked (FlitW.ack (goodFlit e.1 e.2) + 1) = 0 ∧ FlitW.crN (goodFlit e.1 e.2) = 0)
    ∧ (s.port 0).rxNext = 0 ∧ 4 < FlitW.ftype (goodFlit 5 0)
    ∧ (let p := { s.port 0 with txSeq := 3 }; seqDist p.txAcked 0 = 0 ∧ 0 < seqDist 0 p.txSeq) := by decide +kernel
theorem test_flit_in_order : ((after (exec (.flitReceive 0 ⟨some (goodFlit 1 0, [])⟩) (linked (ticking 3 0)))).port 0).rxNext = 1
    ∧ (after (exec (.flitReceive 0 ⟨some (goodFlit 1 5, [])⟩) (linked (ticking 3 0)))).out = [.ctrlFlit 0 1 [0]] := by
  decide +kernel

theorem test_wit_lanes : let s := linked (ticking 3 0)
    (s.port 0).lanes.contains 3 = true ∧ (s.port 0).lanes.contains 16 = false ∧ (s.port 0).failed.contains 16 = false
    ∧ s.timedEntry 0x011 3 = none ∧ (s.port 0).spareLane = some 16
    ∧ ({ s.port 0 with failed := [16, 17] } : Port).spareLane = none
    ∧ ((f32 (s.node G.LANE_SER_LIMIT)).mul (Fl.ofNat 1000000)).lt (Fl.ofNat 1000000) = true
    ∧ ((f32 (s.node G.LANE_SER_LIMIT)).mul (Fl.ofNat 1000000)).lt (Fl.ofNat 0) = false := by decide +kernel
theorem test_lane_swap : ((after (exec (.laneSwap 0 3 16 0) (linked (ticking 3 0)))).port 0).lanes
    = [0, 1, 2, 16, 4, 5, 6, 7, 8, 9, 10, 11, 12, 13, 14, 15] := by decide +kernel
theorem test_probe_delay : let s := linked (ticking 3 0)
    ((after (exec (.probe 0 10 30 40 70) (s.setPort 0 { s.port 0 with probe := some 10 }))).port 0).delays = [25] := by
  decide +kernel
theorem test_wit_port_swap : let s := linked (ticking 3 0)
    let s := (s.setPort 6 { Port.reset with train := 6 }).setPort 2 { Port.reset with train := 1 }
    s.timedEntry 0x012 (s.physical 2) = none ∧ (s.port (s.physical 2)).train = 1 ∧ (s.port (s.physical 3)).train = 0
    ∧ s.replacement 0 ≠ some 7 := by decide +kernel

/-! ### Messages -/

/-- A message of a type on port 0 and tag 0 for node 0, which maps tag 0 to Inset 0. -/
def msgOf (ty dest xfer : Nat) (b : Bytes) : Msg := ⟨0, 0, msgHeader ty 0 0 dest 1 b.length 0 xfer 0 1 b, b⟩
def domained : State := (linked (ticking 3 0)).setReg 16 G.DOMAIN_MAP (.blob (0 :: List.replicate 15 255))

theorem test_wit_messages : domained.portActive 0 = true ∧ (∀ k ∈ [0, 1, 2, 3, 4, 5, 6, 7, 8],
      MsgW.mtype (msgOf k 0 0 (zeros 64)).hdr = k ∧ MsgW.dest (msgOf k 0 0 (zeros 64)).hdr = domained.nodeId
      ∧ MsgW.crcOk (msgOf k 0 0 (zeros 64)).hdr (zeros 64) = true)
    ∧ domained.msgInset (msgOf 0 0 0 []) = some 0 ∧ MsgW.dest (msgOf 0 7 0 []).hdr ≠ domained.nodeId
    ∧ MsgW.mtype (msgOf 9 0 0 []).hdr = 9 ∧ MsgW.crcOk (msgOf 2 0 0 []).hdr (zeros 1) = false := by decide +kernel
theorem test_wit_arrives : ∀ k ∈ [0, 1, 2, 3, 4, 5, 6, 7, 8], Arrives domained (msgOf k 0 0 (zeros 64)) k 0 := by
  have h : ∀ k ∈ [0, 1, 2, 3, 4, 5, 6, 7, 8], (msgOf k 0 0 (zeros 64)).port < 6
      ∧ domained.portActive (msgOf k 0 0 (zeros 64)).port = true
      ∧ MsgW.mtype (msgOf k 0 0 (zeros 64)).hdr = k ∧ MsgW.dest (msgOf k 0 0 (zeros 64)).hdr = domained.nodeId
      ∧ domained.msgInset (msgOf k 0 0 (zeros 64)) = some 0
      ∧ MsgW.crcOk (msgOf k 0 0 (zeros 64)).hdr (msgOf k 0 0 (zeros 64)).payload = true := by decide +kernel
  intro k hk
  have h := h k hk
  exact ⟨h.1, h.2.1, h.2.2.1, h.2.2.2.1, .inr (.inr h.2.2.2.2.1), h.2.2.2.2.2⟩
theorem test_wit_message_effects : domained.lock = 3 ∧ (linked (ticking 1 0)).lock ≠ 3
    ∧ domained.torus.seen.contains (msgKey 0 (msgOf 0 0 0 []).hdr) = false
    ∧ domained.landUsed 0 + 64 ≤ (domained.setNum 0 G.TORUS_LAND_BYTES 4096).num 0 G.TORUS_LAND_BYTES
    ∧ (domained.syncObj 5).home = domained.nodeId ∧ (domained.syncObj 5).held = false
    ∧ syncOp (zeros 64) = 0 ∧ syncOp (toLe 64 2) = 2 ∧ (domained.syncObj 5).holder = 0 := by decide +kernel
theorem test_wit_mgmt : (domained.setReg 16 G.TORUS_MGMT_ALLOW (.blob [])).mgmtAllowed 1 = false
    ∧ (domained.setReg 16 G.TORUS_MGMT_ALLOW (.blob [1#8, 0#8])).mgmtAllowed 1 = true := by
  unfold State.mgmtAllowed
  rw [show (domained.setReg 16 G.TORUS_MGMT_ALLOW (.blob [])).blob 16 G.TORUS_MGMT_ALLOW = [] by decide +kernel,
    show (domained.setReg 16 G.TORUS_MGMT_ALLOW (.blob [1#8, 0#8])).blob 16 G.TORUS_MGMT_ALLOW = [1#8, 0#8] by decide +kernel]
  exact ⟨rfl, rfl⟩
theorem test_put_lands : (after (exec (.put (msgOf 0 0 9 (zeros 64))) (domained.setNum 0 G.TORUS_LAND_BYTES 4096))).torus.landed.length
    = 1 := by decide +kernel
theorem test_done_reaches_the_master : ((after (exec (.done (msgOf 2 0 0 (toLe 16 6))) domained)).tick.done.map
    (fun d => (d.tag, d.node, d.seq))) = [(0, 1, 6)] := by decide +kernel
/-! ### Host -/

/-- HDM decoder 0 gives 256 MiB at host address 0 to Inset 0, which owns channel 0. -/
def hostState : State :=
  let s := ((State.reset.setReg 0 G.T1_CHANNELS (.blob (toLe 32 1))).setNum 16 G.HDM_OWNER 0).setNum 16 G.START_PHASE 6
  { s with host := { s.host with hdm := [(0, ⟨0, 268435456, true, false⟩)] } }

theorem test_wit_host_queues : State.reset.alive = true ∧ { State.reset with clk := { State.reset.clk with pwrGood := false } }.alive = false
    ∧ (State.reset.queue 0 0).sqLog = 0 ∧ ((State.reset.setQueue 0 0 { QueuePair.reset with sqLog := 4 }).queue 0 0).sqLog ≠ 0
    ∧ (State.reset.setNum 0 G.XLOG_BYTES 65536).ringEntries 0 ≤ (State.reset.setNum 0 G.XLOG_BYTES 65536).num 0 G.XLOG_BYTES / 64
    ∧ mailboxListed.contains 0x0100 = false ∧ mailboxListed.contains 0xC000 = true := by decide +kernel
theorem test_cq_head_at_once : ((after (exec (.queueConfig 0 0 4 7) State.reset)).queue 0 0).cqHead = 7 := by decide +kernel
theorem test_hdm_commit : (after (exec (.hdmCommit 0 0 268435456 1) hostState)).out = [.hdmResult 0 true]
    ∧ (after (exec (.hdmCommit 0 4096 268435456 1) hostState)).out = [.hdmResult 0 false] := by decide +kernel

theorem test_wit_cxl : hostState.serves = true ∧ hostState.hdmTarget 64 = some (0, 64) ∧ hostState.hdmTarget 268435456 = none
    ∧ (hostState.host.waiting.any (fun w => w.inset == 0)) = false ∧ (hostState.release 1024 1).isSome = true
    ∧ hostState.inProc 64 64 = false ∧ Dict.barred hostState.gaz.regs 0 64 64 = false ∧ hostState.rangeBad 64 64 = false
    ∧ hostState.behindDrain 64 64 = false ∧ hostState.mem.wf = true ∧ storageOf 64 = some 64 ∧ (zeros 64).length = 64 := by
  decide +kernel
theorem test_wit_cxl_no_capture (j : Nat) : (hostState.inset j).ckpt.left = [] := rfl
theorem test_cxl_write_under_mask :
    let t := after (exec (.cxlMemWrite 64 (List.replicate 64 7) 2 false) hostState)
    t.mem.readByte 65 = 7 ∧ t.mem.readByte 64 = 0 ∧ t.mem.readByte 66 = 0 := by decide +kernel

/-- Control core 2 belongs to Inset 0. -/
def coreState : State := hostState.setNum 0 G.INSET_CORES 4
theorem test_wit_core : coreState.coreInset 2 = some 0 ∧ rangeExists 64 8 = true ∧ Dict.barred coreState.gaz.regs 0 64 8 = false
    ∧ Dict.rangeOwned coreState.gaz.regs 0 64 8 = true ∧ Dict.rangeOwned coreState.gaz.regs 0 channelBytes 8 = false
    ∧ coreState.inProc 64 8 = false ∧ coreState.behindDrain 64 8 = false ∧ coreState.rangeBad 64 8 = false
    ∧ ¬ (apertureBase ≤ 64) := by decide +kernel
theorem test_core_load : (after (exec (.controlCoreAccess ⟨2, 64, 8, none, false⟩) (put coreState 64 [9]))).out
    = [.coreData 2 64 (some (9 :: zeros 7))] := by decide +kernel
theorem test_core_bad_flit : (after (exec (.controlCoreAccess ⟨2, 64, 8, none, true⟩) coreState)).out = [.coreData 2 64 none] := by
  decide +kernel
/-- R412: with channel 0 owned, an image waits until the channel is free. -/
theorem test_image_waits :
    let s := { (State.reset.setNum 0 G.INSET_FLASH_CH 1) with sec := { State.reset.sec with image := some [7] } }
    s.bootWritable = false ∧ s.writeImage.sec.image = none ∧ s.writeImage.boot (slotBlock (1 - s.node G.IMAGE_SLOT)) = [7] := by
  decide +kernel

/-- Inset 0 in a state with a deadline. -/
def bindingState (b : Binding) : State := State.reset.setBinding 0 b
theorem test_wit_bindings :
    (let s := bindingState { Binding.reset with oldBound := true, deadline := some 0 };
      (s.binding 0).oldBound = true ∧ (s.binding 0).deadline = some 0 ∧ 0 ≤ s.clk.cycle)
    ∧ (let s := bindingState { Binding.reset with state := 3, deadline := some 0 };
      (s.binding 0).deadline = some 0 ∧ (s.binding 0).state = 3 ∧ (s.binding 0).request = none ∧ 0 ≤ s.tick.lastAt)
    ∧ (let s := State.reset.modInset 0 (fun t => { t with gathered := [(3, 1)] });
      (Tab.find (s.inset 0).gathered 3).isSome = true ∧ (s.inset 0).masked = false ∧ s.inHoldoff 0 3 = false) := by decide +kernel
theorem test_orphan_abort_unbinds : ((after (exec (.orphanAbort 0)
    (bindingState { Binding.reset with state := 3, deadline := some 0 }))).binding 0).state = 0 := by decide +kernel

/-! ### Traffic -/

def itemAt (w : Out) : Item := ⟨1, 0, false, false, w⟩
/-- A host write waits, released, in Inset 0's port-9 flow; and the same not yet released. -/
def egressState (rel : Bool) : State :=
  State.reset.setFlow 1040 { Flow.reset with queue := [{ itemAt (.hostWrite 64 (zeros 64)) with released := rel }] }

theorem test_wit_shapers :
    (let m : SubMark := ⟨0, 0, 0, 5000, 0, 0, false⟩; let s := { State.reset with host := { State.reset.host with subs := [m] } };
      s.host.subs.any (fun m => m.flow == 5000 && !m.released) = true ∧ (s.release 5000 1).isSome = true)
    ∧ (let s := { State.reset with host := { State.reset.host with waiting := [⟨none, 0, 0, 0, 64, none, 0⟩] } };
      s.host.waiting.find? (fun h => h.inset == 0) = some ⟨none, 0, 0, 0, 64, none, 0⟩ ∧ (s.release 1024 1).isSome = true)
    ∧ ((egressState false).flow 1040).queue.find? (fun it => !it.released) = some (itemAt (.hostWrite 64 (zeros 64)))
    ∧ ((egressState false).release 1040 1).isSome = true
    ∧ (let s := State.reset.setFlow 1056 { Flow.reset with queue := [itemAt (.fieldFrame 5 [])] };
      (s.flow 1056).queue.find? (fun it => !it.released) = some (itemAt (.fieldFrame 5 [])) ∧ (s.release 1056 1).isSome = true)
    ∧ (let s := State.reset.setFlow 5000 { Flow.reset with word := 2 ^ 12 + 2 ^ 14 + 256 * 2 ^ 104 }; s.release 5000 1 = none) := by
  decide +kernel
theorem test_wit_egress : ((egressState true).cands 9).map Cand.go = [true] ∧ ((egressState false).cands 9) = []
    ∧ ((egressState true).gate 9).busyTo ≤ (egressState true).clk.cycle := by decide +kernel
theorem test_egress_sends : (after (exec (.egressSelect 9) (egressState true))).out = [.hostWrite 64 (zeros 64)] := by decide +kernel

/-- Port 3 with a gate list of two entries of 0 and 1000 ns. -/
def gateState : State :=
  State.reset.setGate 3 { Gate.reset with cur := zeros 4 ++ toLe 2 2 ++ zeros 18 ++ toLe 8 0 ++ toLe 8 1000 }
theorem test_wit_gates : (GateL.entries (gateState.gate 3).cur).length = 2
    ∧ 3000 * (((GateL.entries (gateState.gate 3).cur).take 1).map (·.1)).sum ≤ gateState.sinceTick := by decide +kernel
theorem test_gate_entry_moves : ((after (exec (.gateEntry 3) gateState)).gate 3).entry = 1 := by decide +kernel

/-- A frame of the field port for this node, with an empty request. -/
def frameTo (dst : Nat) : Bytes := ((toLe 6 dst).reverse ++ zeros 6) ++ (toLe 2 34997).reverse ++ zeros 46
theorem test_wit_samples :
    State.reset.tm.depthAt + 1024 ≤ (ticking 3 1024).clk.cycle
    ∧ (ticking 3 1000000).tm.sampleAt.get 0 0 + usCycles ((ticking 3 1000000).num 0 G.SAMPLE_INTERVAL) ≤ 1000000
    ∧ (ticking 3 0).num 0 G.SAMPLE_RING_BYTES < 32 := by decide +kernel
theorem test_wit_frames : beNat (slice (frameTo State.reset.mac) 0 6) = State.reset.mac
    ∧ beNat (slice (frameTo 0) 12 2) = State.reset.node G.FIELD_ETHERTYPE ∧ 14 ≤ (frameTo 0).length
    ∧ State.reset.node G.RACK_CONTROLLER_MAC = 0 ∧ (State.reset.setNum 16 G.RACK_CONTROLLER_MAC 7).node G.RACK_CONTROLLER_MAC ≠ 0
    ∧ (State.reset.flow 1056).queue = [] ∧ beNat (slice (frameTo broadcastMac) 0 6) = broadcastMac
    ∧ 6 ≤ (ticking 3 0).node G.START_PHASE ∧ (Tab.find (ticking 3 0).gaz.regs (rkey 16 G.NODE_ID)).isSome = false
    ∧ (ticking 3 0).gaz.announceAt ≤ (ticking 3 0).clk.cycle := by decide +kernel
theorem test_depth_sample_time : (after (exec .depthSample (ticking 3 1024))).tm.depthAt = 1024 := by decide +kernel
theorem test_frame_for_another_is_dropped : (after (exec (.fieldFrame (frameTo 1) true) State.reset)).node G.FIELD_DROPPED = 1 := by
  decide +kernel

/-! ### The Gazetteer -/

/-- A request on the field port: operation, node scope, Inset, key, type, ARG, data. -/
def req (op : Nat) (node : Bool) (i key ty arg : Nat) (b : Bytes) : GazReq :=
  ⟨.field 5, 1 + op * 2 ^ 8 + (if node then 2 ^ 14 else 0) + i * 2 ^ 16 + key / 256 * 2 ^ 32 + key % 256 * 2 ^ 48 + ty * 2 ^ 56
    + b.length * 2 ^ 112 + arg * 2 ^ 192, b⟩

def isOk {α β : Type} : Except α β → Bool
  | .ok _ => true
  | .error _ => false
def isErr {α β : Type} (x : Except α β) : Bool := !isOk x

/-- A good SUSPECT_CLEAR, one of no such entry, one out of range, one with a reserved bit. -/
theorem test_wit_write_only :
    (let r := req 2 false 0 G.SUSPECT_CLEAR 1 0 [1];
      r.op = 2 ∧ r.key = G.SUSPECT_CLEAR ∧ State.reset.serves = true ∧ isOk ((State.reset.unqueue r).entryFor r true) = true)
    ∧ (let r := req 2 true 0 G.SUSPECT_CLEAR 1 0 [1]; isErr ((State.reset.unqueue r).entryFor r true) = true)
    ∧ (match entryOf G.INSET_START with
      | some e => e.inRange (leNat (toLe 8 9)) && !({ e with hi := 1 }).inRange (leNat [9])
        && isOk (State.reset.value (req 2 false 0 G.INSET_START 5 0 (toLe 8 9)) e).2
        && isErr (State.reset.value (req 2 false 0 G.INSET_START 5 0 [9]) e).2
      | none => false) = true
    ∧ GazH.reservedOk (req 2 false 0 G.SUSPECT_CLEAR 1 0 [1]).hdr = true
    ∧ GazH.reservedOk ((req 2 false 0 G.SUSPECT_CLEAR 1 0 [1]).hdr + 2 ^ 20) = false := by decide +kernel

/-- Set 0 in a state. -/
def staging (n : Nat) : State := State.reset.putSet 0 { StageSet.empty with state := n, bound := if n = 3 then 5 else 0 }

theorem test_wit_set_requests : (∀ e ∈ [(4, true), (5, true), (6, true)], SetRequest State.reset (req e.1 false 0 0 1 9 []) e.1 e.2)
    ∧ SetRequest State.reset (req 7 false 0 0 1 0 []) 7 false := by
  have h : ∀ e ∈ [(4, true), (5, true), (6, true), (7, false)], let r := req e.1 false 0 0 1 9 []
      State.reset.serves = true ∧ r.op = e.1 ∧ GazH.formed r.hdr r.data = true
      ∧ (State.reset.unqueue r).mayReach r none e.2 = true ∧ GazH.reservedOk r.hdr = true := by decide +kernel
  refine ⟨fun e he => ?_, ?_⟩
  · have := h e (by simp only [List.mem_cons] at he ⊢; tauto)
    exact ⟨this.1, this.2.1, this.2.2.1, this.2.2.2.1, this.2.2.2.2⟩
  · constructor <;> decide +kernel
theorem test_wit_set_states : ((staging 1).stageSet 0).state = 1 ∧ ((staging 2).stageSet 0).state = 2
    ∧ ((staging 2).stageSet 0).stale = false ∧ (staging 2).tooLate 9 = false ∧ (staging 2).tooLate 0 = true
    ∧ (staging 2).floorHolds 0 = false ∧ (staging 2).gatePast 0 9 = false ∧ ((staging 3).stageSet 0).state = 3
    ∧ ((staging 3).setNum 16 G.TICK_NO 5).tooLate 5 = true ∧ (staging 3).tooLate 5 = false := by decide +kernel
theorem test_wit_reads : isOk (State.reset.entryFor (req 1 true 0 G.TICK_PERIOD 4 0 []) false) = true
    ∧ isErr (State.reset.entryFor (req 1 false 0 G.TICK_PERIOD 4 0 []) false) = true
    ∧ isOk (State.reset.entryFor (req 2 true 0 G.TICK_PERIOD 4 0 (toLe 4 500)) true) = true
    ∧ (entryOf G.TICK_PERIOD).map (·.acc) = some .rws := by decide +kernel
theorem test_apply_makes_it_pending : ((after (exec (.apply (req 5 false 0 0 1 9 [])) (staging 2))).stageSet 0).state = 3
    ∧ ((after (exec (.apply (req 5 false 0 0 1 9 [])) (staging 2))).stageSet 0).bound = 9 := by decide +kernel
theorem test_discard_empties : ((after (exec (.discard (req 6 false 0 0 1 0 [])) (staging 1))).stageSet 0).state = 0 := by
  decide +kernel

/-! ### Power and start-up -/

theorem test_wit_power : State.reset.clk.pwrGood = true ∧ State.reset.clk.resetN = true
    ∧ (let s := after (exec .pwrGoodFall State.reset); s.clk.pwrGood = false ∧ s.alive = false)
    ∧ (let s := after (exec .resetNAssert State.reset); s.clk.resetN = false ∧ s.alive = false)
    ∧ railsOk (railWindows.map (fun w => some (w.1, 0, 0, 0))) = true
    ∧ railsOk (railWindows.map (fun w => some (w.2 + 1, 0, 0, 0))) = false
    ∧ (∀ n ∈ [0, 3, 4, 5], (State.reset.setNum 16 G.START_PHASE n).node G.START_PHASE = n) := by decide +kernel
theorem test_phase_five_starts_ticks : let t := after (exec (.startPhaseEnd ⟨0, true, [], [], [], [], []⟩)
      (State.reset.setNum 16 G.START_PHASE 5))
    t.node G.START_PHASE = 6 ∧ t.tick.nextAt = 1200000 := by decide +kernel

theorem test_wit_sensors : 0 < State.reset.node G.VMARGIN_FLOOR_PS ∧ State.reset.vcoreAtTop = false
    ∧ { State.reset with clk := { State.reset.clk with setpointMv := 820 } }.vcoreAtTop = true
    ∧ State.reset.timedEntry 0x103 0 = none ∧ State.reset.clk.thermTripN = false ∧ State.reset.clk.refBad = false := by decide +kernel
theorem test_emergency_steps_up : (after (exec (.vcoreEmergency 0) State.reset)).clk.setpointMv = 755 := by decide +kernel
theorem test_reference_out_holds_ports : (after (exec (.refclkCheck 100001 0 0) (linked State.reset))).clk.refBad = true
    ∧ ((after (exec (.refclkCheck 100001 0 0) (linked State.reset))).port 0).train = 0 := by decide +kernel

/-! ### Reliability and flash -/

theorem test_wit_scrub : let s := ticking 3 100000
    s.scrubReady 1 0 Scrub.reset = true ∧ State.reset.scrubReady 1 0 Scrub.reset = false ∧ s.timedEntry 0x015 256 = none
    ∧ findOf (s.storedAt 1 0 0) .asStored = .clean ∧ s.clk.cycle ≤ 0 + s.node G.SCRUB_LAP_LIMIT_S * 2400000000 := by decide +kernel
theorem test_scrub_moves : ((after (exec (.scrubRead 1 0 .asStored) (ticking 3 100000))).rel.scrubs.get Scrub.reset
    (scrubKey 1 0)).next = 1 := by decide +kernel
theorem test_wit_repairs :
    (let s := { State.reset with rel := { State.reset.rel with remapping := [(1, 0, 7)], pendingRepairs := [5] } };
      s.rel.remapping.contains (1, 0, 7) = true ∧ s.rel.pendingRepairs ≠ [] ∧ s.bootWritable = true ∧ s.serves = true)
    ∧ (let s := State.reset.setUnit 4 { StackUnit.reset with sparing := true, filling := true };
      (s.unit 4).sparing = true ∧ bit (s.unit 4).mode 0 = false ∧ (s.unit 4).filling = true) := by decide +kernel
theorem test_repair_record_taken : (after (exec (.repairRecordWrite true)
    { State.reset with rel := { State.reset.rel with pendingRepairs := [5] } })).rel.pendingRepairs = [] := by decide +kernel
theorem test_channel_fill_clears : (after (exec (.channelFill 0)
    (put (State.reset.setUnit 0 { StackUnit.reset with filling := true }) 100 [7]))).mem.byte 100 = 0 := by decide +kernel

/-- A dump record of 64 bytes staged for a ring of 4096 bytes in Inset 0. -/
def dumpState : State :=
  let s := (State.reset.setNum 16 G.DUMP_RING_INSET 0).setNum 16 G.DUMP_RING_BYTES 4096
  { s with ctr := { s.ctr with stages := [⟨0, zeros 64⟩] } }
theorem test_wit_dumps : dumpState.node G.DUMP_RING_INSET < 16 ∧ 0 + 64 ≤ dumpState.node G.DUMP_RING_BYTES
    ∧ dumpState.node G.DUMP_WRITE_PTR = 0 ∧ dumpState.ctr.stages = [⟨0, zeros 64⟩] := by decide +kernel
theorem test_wit_leases : (let s := { State.reset with sec := { State.reset.sec with signing := [(0, [])] } };
      s.sec.signing = [(0, [])] ∧ s.timedEntry 0x101 0 = none)
    ∧ (let s := { State.reset.setSync 9 { SyncObj.zero with kind := 1, held := true, holder := 5 } with
        clk := { State.reset.clk with cycle := 24000000 } };
      (s.syncObj 9).kind = 1 ∧ (s.syncObj 9).held = true ∧ (s.syncObj 9).home = s.nodeId ∧ (s.syncObj 9).holder ≠ s.nodeId
      ∧ (Dict.syncOwner s.gaz.regs 9 = none) ∧ (s.syncObj 9).renewAt + usCycles 10000 ≤ s.clk.cycle) := by decide +kernel
theorem test_wit_lease_users (i : Nat) : State.reset.leaseUsers 9 i = [] := rfl

/-- A background window on channel 0, whose mode is 0, once its calibration is due. -/
def bgState : State :=
  let s := withSheet (ticking 3 2400000000) [mkCmd 9 4 (prm [(2 ^ 32 - 1, 0), (2 ^ 32 - 1, 32), (2 ^ 64 - 1, 64)])]
  { s with flash := { s.flash with modes := [(0, 0)] } }
theorem test_wit_flash : (bgState.flashUp 0 = true ∧ bgState.inBgWindow 0 = true
      ∧ bgState.flash.zqAt.get 0 0 + bgState.node G.ZQ_INTERVAL * 2400000 ≤ bgState.clk.cycle)
    ∧ (∀ m, m ≤ 5 → trainMode [0, 1, 2, 3, 4, 5] m 0 = (some m, 0)) ∧ trainMode [] 0 0 = (none, 0)
    ∧ State.reset.flash.rebuilt ≠ 2
    ∧ (let s := State.reset.modInset 0 (fun t => { t with ckpt := { t.ckpt with restoring := some 1 } });
      (s.inset 0).ckpt.restoring = some 1)
    ∧ (let s := State.reset.modInset 0 (fun t => { t with switch := some ⟨1, 0, false⟩ });
      (s.inset 0).switch = some ⟨1, 0, false⟩)
    ∧ (State.reset.setNum 0 G.CKPT_STATE 1).num 0 G.CKPT_STATE = 1 := by decide +kernel
theorem test_zq_calibrates : (after (exec (.zqCal 0) bgState)).flash.zqAt = [(0, 2400000000)] := by decide +kernel

/-! ### Queue, memory and formats -/

theorem test_wit_general : State.reset.pending = [] ∧ (Instr.holdover).wf = true ∧ isNext (exec .holdover State.reset) = true
    ∧ State.reset.mem.wf = true ∧ isNext (step State.reset) = true ∧ (put State.reset 5 [1]).mem.wf = true ∧ 16 ≤ noRef.inset := by
  decide +kernel
theorem test_wit_addresses : storageOf (stackTop - 1) = some (stackTop - 1)
    ∧ (storageOf (interBase + (stackTop - 1))).isSome = true ∧ storageOf (interBase + 256) = some channelBytes
    ∧ storageOf (interBase + 255) = some 255 := by decide +kernel
theorem test_wit_neighbours : dimSize 0x003 0 = 4 ∧ dimSize 0x003 1 = 1
    ∧ neighbour 0x003 3 0 = some 0 ∧ neighbour 0x003 0 1 = some 3 ∧ neighbour 0x003 0 2 = none
    ∧ (∀ k ∈ [0, 1, 2], coord 3 k < dimSize 0x003 k) := by decide +kernel
-- R230: a single flipped bit is corrected, two are detected.
theorem test_word_code : decodeWord 0 (checkField 0) = .clean ∧ decodeWord (2 ^ 511) (checkField 0) = .corrected 0
    ∧ decodeWord 3 (checkField 0) = .uncorrectable ∧ decodeWord 0 (poisonField 0) = .poisoned := by decide +kernel
-- R392: a counter at 2^48 - 1 wraps.
theorem test_counter_wraps : let t := (CtrState.reset.add 7 (2 ^ 48 - 1)).add 7 2
    t.values.get 0 7 = 1 ∧ t.wrapped.get 0 7 = 1 := by decide +kernel
/-- The idle step counts one cycle; the front command is taken. -/
theorem test_idle : (after (step State.reset)).clk.cycle = 1
    ∧ (after (step { State.reset with pending := [.holdover, .announce] })).pending = [.announce] := by decide +kernel
/-- A range locked by a drain, and a channel whose mode is to change. -/
theorem test_wit_locked : (let x := { waiting with descs := [1 + 64 * 2 ^ 32 + 64 * 2 ^ 96] };
      (withSheet State.reset [drainingCmd, x]).locked x = true)
    ∧ (let x := { waiting with word := 7 + 3 * 2 ^ 16 + 1000 * 2 ^ 64, params := prm [(1, 64)] };
      (withSheet (changing 0 1) [x]).modePending x = true) := by decide +kernel
/-- A set with nothing staged passes CHECK; one whose EMB_NODES is malformed does not. -/
theorem test_wit_check : ((staging 1).candidate 0).run = none
    ∧ (((State.reset.putSet 0 { StageSet.empty with state := 1, staged := [(rkey 0 G.EMB_NODES, .blob [1])] }).candidate 0).run).isSome
      = true := by decide +kernel

end Sys2Proof.Tests
end

section
/-!
PROOFS. Node ids, neighbours and global ids: the digits of an id, and what moving along one coordinate changes;
and what one step of the block is.
-/

namespace Sys2Proof.Machine

theorem dimX_eq (n : Nat) : dimX n = n % 16 := by simp [dimX, bf]
theorem dimY_eq (n : Nat) : dimY n = n / 16 % 16 := by simp [dimY, bf, Nat.shiftRight_eq_div_pow]
theorem dimZ_eq (n : Nat) : dimZ n = n / 256 % 16 := by simp [dimZ, bf, Nat.shiftRight_eq_div_pow]

theorem gidShard_eq (g : Nat) : gidShard g = g / 2 ^ 40 % 2 ^ 24 := by simp [gidShard, bf, Nat.shiftRight_eq_div_pow]
theorem gidLocal_eq (g : Nat) : gidLocal g = g % 2 ^ 40 := by simp [gidLocal, bf]

theorem coord_eq (id k : Nat) : coord id k = id / 16 ^ k % 16 := by
  rw [coord, Nat.shiftRight_eq_div_pow, Nat.pow_mul]

theorem dimSize_pos (dims k : Nat) : 0 < dimSize dims k := Nat.succ_pos _
theorem dimSize_le (dims k : Nat) : dimSize dims k ≤ 16 := Nat.mod_lt _ (by decide)

/-- The id whose coordinate `k` is `c` and whose other coordinates are those of `id`. -/
def setCoord (id k c : Nat) : Nat := id - coord id k * 16 ^ k + c * 16 ^ k

theorem setCoord_lt {id k c : Nat} (hid : id < 4096) (hk : k < 3) (hc : c < 16) : setCoord id k c < 4096 := by
  rw [setCoord, coord_eq]
  interval_cases k <;> omega

theorem coord_setCoord_same {id k c : Nat} (hk : k < 3) (hc : c < 16) : coord (setCoord id k c) k = c := by
  rw [setCoord, coord_eq, coord_eq]
  interval_cases k <;> omega

theorem coord_setCoord_ne {id k j c : Nat} (hk : k < 3) (hj : j < 3) (hne : j ≠ k) (hc : c < 16) :
    coord (setCoord id k c) j = coord id j := by
  rw [setCoord, coord_eq, coord_eq, coord_eq]
  interval_cases k <;> interval_cases j <;> omega

/-- Setting a coordinate again undoes the first setting. -/
theorem setCoord_setCoord_coord {id k c : Nat} (hk : k < 3) (hc : c < 16) :
    setCoord (setCoord id k c) k (coord id k) = id := by
  rw [setCoord, coord_setCoord_same hk hc, setCoord, coord_eq]
  interval_cases k <;> omega

/-- The coordinate one step from `c` on a ring of `n` nodes, in direction + for an even port (Table 13-1). -/
def ringStep (n p c : Nat) : Nat := if p % 2 = 0 then (c + 1) % n else (c + n - 1) % n

theorem ringStep_lt {n : Nat} (p c : Nat) (hn : 0 < n) : ringStep n p c < n := by
  rw [ringStep]
  split <;> exact Nat.mod_lt _ hn

/-- A step and then a step the other way lead back. -/
theorem ringStep_ringStep_opposite {n p q c : Nat} (hc : c < n) (hq : q % 2 = 1 - p % 2) :
    ringStep n q (ringStep n p c) = c := by
  have round : (c + n) % n = c := by rw [Nat.add_mod_right, Nat.mod_eq_of_lt hc]
  rcases Nat.mod_two_eq_zero_or_one p with hp | hp
  · calc ringStep n q (ringStep n p c) = ((c + 1) % n + (n - 1)) % n := by
          simp [ringStep, hp, hq, Nat.add_sub_assoc (show 1 ≤ n by omega)]
      _ = (c + n) % n := by rw [Nat.mod_add_mod, show c + 1 + (n - 1) = c + n by omega]
      _ = c := round
  · calc ringStep n q (ringStep n p c) = ((c + n - 1) % n + 1) % n := by simp [ringStep, hp, hq]
      _ = (c + n) % n := by rw [Nat.mod_add_mod, show c + n - 1 + 1 = c + n by omega]
      _ = c := round

theorem neighbour_of_size_one {dims id p : Nat} (h : dimSize dims (p / 2) = 1) : neighbour dims id p = none := by
  simp [neighbour, h]

theorem neighbour_eq {dims id p : Nat} (h : dimSize dims (p / 2) ≠ 1) :
    neighbour dims id p = some (setCoord id (p / 2) (ringStep (dimSize dims (p / 2)) p (coord id (p / 2)))) := by
  simp [neighbour, h, setCoord, ringStep]

/-- The neighbour on the opposite port of a node's neighbour is the node. -/
theorem neighbour_opposite {dims id p : Nat} (hp : p < 6) (h : dimSize dims (p / 2) ≠ 1)
    (hc : coord id (p / 2) < dimSize dims (p / 2)) :
    neighbour dims (setCoord id (p / 2) (ringStep (dimSize dims (p / 2)) p (coord id (p / 2)))) (p / 2 * 2 + (1 - p % 2))
      = some id := by
  have hk : p / 2 < 3 := by omega
  have hs := ringStep_lt p (coord id (p / 2)) (dimSize_pos dims (p / 2))
  have hs16 := hs.trans_le (dimSize_le dims (p / 2))
  have hdim : (p / 2 * 2 + (1 - p % 2)) / 2 = p / 2 := by omega
  rw [neighbour_eq (by rwa [hdim]), hdim, coord_setCoord_same hk hs16, ringStep_ringStep_opposite hc (by omega),
    setCoord_setCoord_coord hk hs16]

/-- An idle cycle moves the cycle count by one and touches only the counter block besides (R2, R391). -/
theorem State.idleCycle_eq (s : State) :
    s.idleCycle = { s with clk := { s.clk with cycle := s.clk.cycle + 1 }, ctr := s.idleCycle.ctr } := by
  cases h : Tab.find s.gaz.regs (rkey 16 G.COUNTER_CONFIG) with
  | none => simp [State.idleCycle, h]
  | some v => simp [State.idleCycle, h]

end Sys2Proof.Machine

open Sys2Proof Sys2Proof.Machine

/-- Settles O1: the step takes the front of the queue. -/
theorem stepRunsTheFrontCommand : Obligations.StepRunsTheFrontCommand := by
  intro c rest s
  exact step_cons rfl

/-- Settles O2: on an empty queue the step is `State.idleCycle`. -/
theorem idleStepCountsOneCycle : Obligations.IdleStepCountsOneCycle := by
  intro s h
  exact ⟨s.idleCycle, step_nil h, s.idleCycle_eq⟩

/-- Settles O10: the coordinates are the base-16 digits of the linear id. -/
theorem nodeIdFormsNameTheSameNode : Obligations.NodeIdFormsNameTheSameNode := by
  simp only [Obligations.NodeIdFormsNameTheSameNode, dimX_eq, dimY_eq, dimZ_eq, coord_eq]
  refine ⟨fun x y z hx hy hz => ?_, fun n hn => ?_, fun n => ?_⟩
  · omega
  · omega
  · norm_num

/-- Settles O11: shard number and local id are quotient and remainder by 2^40. -/
theorem globalIdHoldsShardAndLocalId : Obligations.GlobalIdHoldsShardAndLocalId := by
  simp only [Obligations.GlobalIdHoldsShardAndLocalId, gidShard_eq, gidLocal_eq]
  refine ⟨fun shard loc hs hl => ?_, fun g hg => ?_⟩
  · omega
  · omega

/-- Settles O12: a neighbour's id is the node's own with one coordinate moved by a step on its ring. -/
theorem neighbourStepsOneCoordinate : Obligations.NeighbourStepsOneCoordinate := by
  intro dims id p hp hid hin
  have hk : p / 2 < 3 := by omega
  have hs := (ringStep_lt p (coord id (p / 2)) (dimSize_pos dims (p / 2))).trans_le (dimSize_le dims (p / 2))
  refine ⟨neighbour_of_size_one, fun h => ⟨_, neighbour_eq h, setCoord_lt hid hk hs, ?_, ?_, ?_⟩⟩
  · exact coord_setCoord_same hk hs
  · exact fun k hk3 hne => coord_setCoord_ne hk hk3 hne hs
  · exact neighbour_opposite hp h (hin _ hk)
end

section
/-!
PROOFS. The frame of every command: whatever the row, the state it answers has evolved from the one it ran on.
-/

namespace Sys2Proof.Machine

/-- Row by row, from the frame of each row's meaning. -/
theorem exec_ev {a s : State} (i : Instr) (h : Evolves a s) : EvolvesO a (exec i s) := by
  cases i with
  | tickBoundary _ => rw [exec_tickBoundary]; exact execTickBoundary_ev h
  | boundaryMessage _ => rw [exec_boundaryMessage]; exact execBoundaryMessage_ev h
  | holdover => rw [exec_holdover]; exact execHoldover_ev h
  | tickUnlock => rw [exec_tickUnlock]; exact execTickUnlock_ev h
  | masterFailover => rw [exec_masterFailover]; exact execMasterFailover_ev h
  | masterWait => rw [exec_masterWait]; exact execMasterWait_ev h
  | tickSend _ => rw [exec_tickSend]; exact execTickSend_ev h
  | commandIssue _ => rw [exec_commandIssue]; exact execCommandIssue_ev h
  | commitPoint _ => rw [exec_commitPoint]; exact execCommitPoint_ev h
  | drainEnd _ _ => rw [exec_drainEnd]; exact execDrainEnd_ev h
  | overrunAbandon _ => rw [exec_overrunAbandon]; exact execOverrunAbandon_ev h
  | matmul _ _ => rw [exec_matmul]; exact execMatmul_ev h
  | add _ _ => rw [exec_add]; exact execAdd_ev h
  | sub _ _ => rw [exec_sub]; exact execSub_ev h
  | mul _ _ => rw [exec_mul]; exact execMul_ev h
  | fma _ _ => rw [exec_fma]; exact execFma_ev h
  | min _ _ => rw [exec_min]; exact execMin_ev h
  | max _ _ => rw [exec_max]; exact execMax_ev h
  | abs _ _ => rw [exec_abs]; exact execAbs_ev h
  | neg _ _ => rw [exec_neg]; exact execNeg_ev h
  | relu _ _ => rw [exec_relu]; exact execRelu_ev h
  | cmpGt _ _ => rw [exec_cmpGt]; exact execCmpGt_ev h
  | vectorSelect _ _ => rw [exec_vectorSelect]; exact execVectorSelect_ev h
  | cvt _ _ => rw [exec_cvt]; exact execCvt_ev h
  | exp _ _ => rw [exec_exp]; exact execExp_ev h
  | log _ _ => rw [exec_log]; exact execLog_ev h
  | recip _ _ => rw [exec_recip]; exact execRecip_ev h
  | rsqrt _ _ => rw [exec_rsqrt]; exact execRsqrt_ev h
  | tanh _ _ => rw [exec_tanh]; exact execTanh_ev h
  | sigmoid _ _ => rw [exec_sigmoid]; exact execSigmoid_ev h
  | gelu _ _ => rw [exec_gelu]; exact execGelu_ev h
  | rowSum _ _ => rw [exec_rowSum]; exact execRowSum_ev h
  | rowMax _ _ => rw [exec_rowMax]; exact execRowMax_ev h
  | rowSumsq _ _ => rw [exec_rowSumsq]; exact execRowSumsq_ev h
  | quant _ _ => rw [exec_quant]; exact execQuant_ev h
  | dequant _ _ => rw [exec_dequant]; exact execDequant_ev h
  | range _ _ => rw [exec_range]; exact execRange_ev h
  | select _ _ => rw [exec_select]; exact execSelect_ev h
  | sort _ _ => rw [exec_sort]; exact execSort_ev h
  | merge _ _ => rw [exec_merge]; exact execMerge_ev h
  | kth _ _ => rw [exec_kth]; exact execKth_ev h
  | searchStart _ _ => rw [exec_searchStart]; exact execSearchStart_ev h
  | searchExpand _ _ => rw [exec_searchExpand]; exact execSearchExpand_ev h
  | searchFetchList _ _ => rw [exec_searchFetchList]; exact execSearchFetchList_ev h
  | searchFinish _ _ => rw [exec_searchFinish]; exact execSearchFinish_ev h
  | insertLink _ _ => rw [exec_insertLink]; exact execInsertLink_ev h
  | delete _ _ => rw [exec_delete]; exact execDelete_ev h
  | consolidate _ _ => rw [exec_consolidate]; exact execConsolidate_ev h
  | embRoute _ _ => rw [exec_embRoute]; exact execEmbRoute_ev h
  | embFetchList _ _ => rw [exec_embFetchList]; exact execEmbFetchList_ev h
  | embServe _ _ => rw [exec_embServe]; exact execEmbServe_ev h
  | embPool _ _ => rw [exec_embPool]; exact execEmbPool_ev h
  | embScatter _ _ => rw [exec_embScatter]; exact execEmbScatter_ev h
  | embApply _ _ => rw [exec_embApply]; exact execEmbApply_ev h
  | rowReplace _ _ => rw [exec_rowReplace]; exact execRowReplace_ev h
  | surveyClose _ _ => rw [exec_surveyClose]; exact execSurveyClose_ev h
  | placeDecide _ _ => rw [exec_placeDecide]; exact execPlaceDecide_ev h
  | migFetchList _ _ => rw [exec_migFetchList]; exact execMigFetchList_ev h
  | migSend _ _ => rw [exec_migSend]; exact execMigSend_ev h
  | chartCommit _ _ => rw [exec_chartCommit]; exact execChartCommit_ev h
  | atlasSwitch _ _ => rw [exec_atlasSwitch]; exact execAtlasSwitch_ev h
  | bsuMode _ => rw [exec_bsuMode]; exact execBsuMode_ev h
  | modeChangeSequence _ => rw [exec_modeChangeSequence]; exact execModeChangeSequence_ev h
  | bsuRun _ _ => rw [exec_bsuRun]; exact execBsuRun_ev h
  | bsuQload _ _ => rw [exec_bsuQload]; exact execBsuQload_ev h
  | scoreSketch _ _ _ => rw [exec_scoreSketch]; exact execScoreSketch_ev h
  | dotI8 _ _ _ => rw [exec_dotI8]; exact execDotI8_ev h
  | l2I8 _ _ _ => rw [exec_l2I8]; exact execL2I8_ev h
  | cmpSelect _ _ _ => rw [exec_cmpSelect]; exact execCmpSelect_ev h
  | poolRows _ _ _ => rw [exec_poolRows]; exact execPoolRows_ev h
  | fill _ _ _ => rw [exec_fill]; exact execFill_ev h
  | copy _ _ _ => rw [exec_copy]; exact execCopy_ev h
  | bsuHoldPoison _ => rw [exec_bsuHoldPoison]; exact execBsuHoldPoison_ev h
  | apertureEnqueue _ _ _ => rw [exec_apertureEnqueue]; exact execApertureEnqueue_ev h
  | apFlush _ => rw [exec_apFlush]; exact execApFlush_ev h
  | dmCopy _ _ => rw [exec_dmCopy]; exact execDmCopy_ev h
  | dmFill _ _ => rw [exec_dmFill]; exact execDmFill_ev h
  | dmHostRead _ _ => rw [exec_dmHostRead]; exact execDmHostRead_ev h
  | blockTranspose _ _ => rw [exec_blockTranspose]; exact execBlockTranspose_ev h
  | ckptCapture _ _ => rw [exec_ckptCapture]; exact execCkptCapture_ev h
  | hostAdmit _ _ => rw [exec_hostAdmit]; exact execHostAdmit_ev h
  | hostComplete _ _ => rw [exec_hostComplete]; exact execHostComplete_ev h
  | scribeGather _ _ => rw [exec_scribeGather]; exact execScribeGather_ev h
  | scribeWrite _ _ => rw [exec_scribeWrite]; exact execScribeWrite_ev h
  | ckptWindow _ _ => rw [exec_ckptWindow]; exact execCkptWindow_ev h
  | ckptManifest _ _ => rw [exec_ckptManifest]; exact execCkptManifest_ev h
  | bgWindow _ _ => rw [exec_bgWindow]; exact execBgWindow_ev h
  | zqCal _ => rw [exec_zqCal]; exact execZqCal_ev h
  | flashChannelReset _ _ => rw [exec_flashChannelReset]; exact execFlashChannelReset_ev h
  | rebuild _ => rw [exec_rebuild]; exact execRebuild_ev h
  | flashFormat _ => rw [exec_flashFormat]; exact execFlashFormat_ev h
  | ckptRestore _ => rw [exec_ckptRestore]; exact execCkptRestore_ev h
  | restoreEnd _ _ => rw [exec_restoreEnd]; exact execRestoreEnd_ev h
  | portTraining _ _ => rw [exec_portTraining]; exact execPortTraining_ev h
  | trainingTimeout _ => rw [exec_trainingTimeout]; exact execTrainingTimeout_ev h
  | flitReceive _ _ => rw [exec_flitReceive]; exact execFlitReceive_ev h
  | nak _ _ => rw [exec_nak]; exact execNak_ev h
  | laneSerWindow _ _ _ _ _ => rw [exec_laneSerWindow]; exact execLaneSerWindow_ev h
  | laneSwap _ _ _ _ => rw [exec_laneSwap]; exact execLaneSwap_ev h
  | linkDown _ => rw [exec_linkDown]; exact execLinkDown_ev h
  | portSwap _ _ => rw [exec_portSwap]; exact execPortSwap_ev h
  | probe _ _ _ _ _ => rw [exec_probe]; exact execProbe_ev h
  | delayProbe _ _ => rw [exec_delayProbe]; exact execDelayProbe_ev h
  | presetReq _ _ _ _ => rw [exec_presetReq]; exact execPresetReq_ev h
  | retrain _ => rw [exec_retrain]; exact execRetrain_ev h
  | put _ => rw [exec_put]; exact execPut_ev h
  | a2aSlot _ => rw [exec_a2aSlot]; exact execA2aSlot_ev h
  | done _ => rw [exec_done]; exact execDone_ev h
  | token _ => rw [exec_token]; exact execToken_ev h
  | lease _ => rw [exec_lease]; exact execLease_ev h
  | barrier _ => rw [exec_barrier]; exact execBarrier_ev h
  | mgmtReq _ => rw [exec_mgmtReq]; exact execMgmtReq_ev h
  | mgmtRsp _ => rw [exec_mgmtRsp]; exact execMgmtRsp_ev h
  | event _ => rw [exec_event]; exact execEvent_ev h
  | torusPut _ => rw [exec_torusPut]; exact execTorusPut_ev h
  | torusWait _ => rw [exec_torusWait]; exact execTorusWait_ev h
  | torusA2a _ => rw [exec_torusA2a]; exact execTorusA2a_ev h
  | sqTail _ _ _ => rw [exec_sqTail]; exact execSqTail_ev h
  | queueConfig _ _ _ _ => rw [exec_queueConfig]; exact execQueueConfig_ev h
  | shaperRelease _ => rw [exec_shaperRelease]; exact execShaperRelease_ev h
  | egressSelect _ => rw [exec_egressSelect]; exact execEgressSelect_ev h
  | gateEntry _ => rw [exec_gateEntry]; exact execGateEntry_ev h
  | tmSample _ => rw [exec_tmSample]; exact execTmSample_ev h
  | depthSample => rw [exec_depthSample]; exact execDepthSample_ev h
  | switchEnd _ => rw [exec_switchEnd]; exact execSwitchEnd_ev h
  | preempt _ => rw [exec_preempt]; exact execPreempt_ev h
  | insetReset _ => rw [exec_insetReset]; exact execInsetReset_ev h
  | leaseRevoked _ => rw [exec_leaseRevoked]; exact execLeaseRevoked_ev h
  | intHoldoff _ _ => rw [exec_intHoldoff]; exact execIntHoldoff_ev h
  | cxlMemRead _ _ => rw [exec_cxlMemRead]; exact execCxlMemRead_ev h
  | cxlMemWrite _ _ _ _ => rw [exec_cxlMemWrite]; exact execCxlMemWrite_ev h
  | controlCoreAccess _ => rw [exec_controlCoreAccess]; exact execControlCoreAccess_ev h
  | hdmCommit _ _ _ _ => rw [exec_hdmCommit]; exact execHdmCommit_ev h
  | cxlSnoop _ => rw [exec_cxlSnoop]; exact execCxlSnoop_ev h
  | cxlConfigRequest _ => rw [exec_cxlConfigRequest]; exact execCxlConfigRequest_ev h
  | getSupportedLogs _ => rw [exec_getSupportedLogs]; exact execGetSupportedLogs_ev h
  | getLog _ _ _ _ => rw [exec_getLog]; exact execGetLog_ev h
  | getTimestamp _ => rw [exec_getTimestamp]; exact execGetTimestamp_ev h
  | setTimestamp _ _ => rw [exec_setTimestamp]; exact execSetTimestamp_ev h
  | mailboxUnsupported _ _ => rw [exec_mailboxUnsupported]; exact execMailboxUnsupported_ev h
  | switchInstant _ => rw [exec_switchInstant]; exact execSwitchInstant_ev h
  | bindRelease _ => rw [exec_bindRelease]; exact execBindRelease_ev h
  | hostLinkLost => rw [exec_hostLinkLost]; exact execHostLinkLost_ev h
  | orphanAbort _ => rw [exec_orphanAbort]; exact execOrphanAbort_ev h
  | roleChange _ => rw [exec_roleChange]; exact execRoleChange_ev h
  | fieldFrame _ _ => rw [exec_fieldFrame]; exact execFieldFrame_ev h
  | announce => rw [exec_announce]; exact execAnnounce_ev h
  | read _ => rw [exec_read]; exact execRead_ev h
  | write _ => rw [exec_write]; exact execWrite_ev h
  | readStaged _ => rw [exec_readStaged]; exact execReadStaged_ev h
  | check _ => rw [exec_check]; exact execCheck_ev h
  | apply _ => rw [exec_apply]; exact execApply_ev h
  | discard _ => rw [exec_discard]; exact execDiscard_ev h
  | setState _ => rw [exec_setState]; exact execSetState_ev h
  | scrubRead _ _ _ => rw [exec_scrubRead]; exact execScrubRead_ev h
  | remapApplied _ _ _ => rw [exec_remapApplied]; exact execRemapApplied_ev h
  | channelSpared _ => rw [exec_channelSpared]; exact execChannelSpared_ev h
  | channelFill _ => rw [exec_channelFill]; exact execChannelFill_ev h
  | repairRecordWrite _ => rw [exec_repairRecordWrite]; exact execRepairRecordWrite_ev h
  | suspectClear _ => rw [exec_suspectClear]; exact execSuspectClear_ev h
  | dumpRecord => rw [exec_dumpRecord]; exact execDumpRecord_ev h
  | counterClear _ => rw [exec_counterClear]; exact execCounterClear_ev h
  | sampleReset _ => rw [exec_sampleReset]; exact execSampleReset_ev h
  | attestNonce _ => rw [exec_attestNonce]; exact execAttestNonce_ev h
  | attestReport _ _ => rw [exec_attestReport]; exact execAttestReport_ev h
  | floorCert _ => rw [exec_floorCert]; exact execFloorCert_ev h
  | ownerKey _ => rw [exec_ownerKey]; exact execOwnerKey_ev h
  | imageWrite _ => rw [exec_imageWrite]; exact execImageWrite_ev h
  | measureExtend _ => rw [exec_measureExtend]; exact execMeasureExtend_ev h
  | debugToken _ => rw [exec_debugToken]; exact execDebugToken_ev h
  | pwrGoodRise _ => rw [exec_pwrGoodRise]; exact execPwrGoodRise_ev h
  | pwrGoodFall => rw [exec_pwrGoodFall]; exact execPwrGoodFall_ev h
  | resetN _ => rw [exec_resetN]; exact execResetN_ev h
  | startPhaseEnd _ => rw [exec_startPhaseEnd]; exact execStartPhaseEnd_ev h
  | vrPoll _ => rw [exec_vrPoll]; exact execVrPoll_ev h
  | vrAlert _ => rw [exec_vrAlert]; exact execVrAlert_ev h
  | vcoreEmergency _ => rw [exec_vcoreEmergency]; exact execVcoreEmergency_ev h
  | vcoreMargin _ => rw [exec_vcoreMargin]; exact execVcoreMargin_ev h
  | thermalSample _ => rw [exec_thermalSample]; exact execThermalSample_ev h
  | refclkCheck _ _ _ => rw [exec_refclkCheck]; exact execRefclkCheck_ev h
  | insetStart _ => rw [exec_insetStart]; exact execInsetStart_ev h
  | apertureOperation _ _ => rw [exec_apertureOperation]; exact execApertureOperation_ev h
  | rehearsalSwapReturn _ => rw [exec_rehearsalSwapReturn]; exact execRehearsalSwapReturn_ev h
  | resetNAssert => rw [exec_resetNAssert]; exact execResetNAssert_ev h
  | dynamicAddressAssignment _ => rw [exec_dynamicAddressAssignment]; exact execDynamicAddressAssignment_ev h

/-- What a command answers has evolved from the state it ran on. -/
theorem evolves_of_exec {i : Instr} {s t : State} (h : exec i s = .next t) : Evolves s t :=
  exec_ev i (.refl s) t h

end Sys2Proof.Machine

open Sys2Proof.Machine

/-- Settles O5: the clauses are four of the five that `Evolves` names. -/
theorem commandKeepsQueueAndClock : Obligations.CommandKeepsQueueAndClock := by
  intro i s t h
  obtain ⟨hpending, hcycle, hout, hdraws, -⟩ := evolves_of_exec h
  exact ⟨hpending, hcycle, hout, hdraws⟩
end

section
/-!
PROOFS. Every well-formed command answers a next state: one lemma per row that no shared row function covers. A row's only
stop is the guard on its operand at the front; behind it every branch answers.
-/

namespace Sys2Proof

theorem CmdRef.inset_lt_of_wf {r : CmdRef} (h : r.wf = true) : r.inset < 16 := by
  simp only [CmdRef.wf, Bool.and_eq_true, decide_eq_true_eq] at h
  obtain ⟨hinset, -⟩ := h
  exact hinset

theorem Msg.port_lt_of_wf {m : Msg} (h : m.wf = true) : m.port < 6 := by
  simp only [Msg.wf, Bool.and_eq_true, decide_eq_true_eq] at h
  obtain ⟨⟨hport, -⟩, -⟩ := h
  exact hport

theorem TickIn.port_lt_of_wf {m : TickIn} (h : m.wf = true) : m.port < 8 := by
  simp only [TickIn.wf, Bool.and_eq_true, decide_eq_true_eq] at h
  obtain ⟨⟨⟨hport, -⟩, -⟩, -⟩ := h
  exact hport

end Sys2Proof

namespace Sys2Proof.Machine

/-- The outcome is a next state: neither a fault nor a refusal. -/
def AnswersNext (o : Host.Outcome State Fault Refusal) : Prop := ∃ t, o = .next t

namespace AnswersNext

theorem next (t : State) : AnswersNext (.next t) := ⟨t, rfl⟩

theorem ite {x y : Host.Outcome State Fault Refusal} {c : Prop} [Decidable c] (hx : AnswersNext x) (hy : AnswersNext y) :
    AnswersNext (if c then x else y) := by
  split
  · exact hx
  · exact hy

/-- Behind a guard that the operand passes, what follows answers. -/
theorem guard {x y : Host.Outcome State Fault Refusal} {c : Prop} [Decidable c] (hc : ¬c) (hy : AnswersNext y) :
    AnswersNext (if c then x else y) := by
  rwa [if_neg hc]

end AnswersNext

section Shared
variable {s : State} {r : CmdRef}

theorem refOk_of_wf (h : r.wf = true) : ¬((!refOk r) = true) := by
  simp [refOk, CmdRef.inset_lt_of_wf h]

theorem State.engineStep_next {hw : Hw} {e o : Nat} {data : Cmd → Bool} {run : Cmd → State} (h : r.wf = true) :
    AnswersNext (s.engineStep r hw e o data run) := by
  refine .guard (refOk_of_wf h) ?_
  split
  · exact .next _
  · split
    · exact .next _
    · split
      · exact .next _
      · exact .next _

theorem State.engineRow_next {hw : Hw} {e o : Nat} {data : Cmd → Bool} {work : State → Cmd → State × Res}
    (h : r.wf = true) : AnswersNext (s.engineRow r hw e o data work) := State.engineStep_next h

theorem State.engineRowOpen_next {hw : Hw} {e o : Nat} {data : Cmd → Bool} {work : State → Cmd → State × Res}
    (h : r.wf = true) : AnswersNext (s.engineRowOpen r hw e o data work) := State.engineStep_next h

theorem State.vecRow_next {hw : Hw} {op : Nat} (h : r.wf = true) : AnswersNext (s.vecRow r hw op) :=
  State.engineRow_next h

theorem State.opRow_next {k kind : Nat} {hw : Hw} (h : r.wf = true) : AnswersNext (s.opRow r k hw kind) := by
  refine .guard (refOk_of_wf h) ?_
  split
  · exact .next _
  · refine .ite (.next _) ?_
    split
    · exact .next _
    · exact .next _

theorem State.woRow_next {q : GazReq} {key : Nat} {act : State → Nat → Bytes → State × Nat} :
    AnswersNext (s.woRow q key act) := .ite (.next _) (.next _)

theorem State.setRow_next {q : GazReq} {op : Nat} {write : Bool} {act : State → Nat → State} :
    AnswersNext (s.setRow q op write act) := .ite (.next _) (.next _)

theorem State.mailbox_next {fn code : Nat} {data : Bytes} (h : fn < 16) : AnswersNext (s.mailbox fn code data) :=
  .guard (by omega) (.next _)

theorem State.arriveMsg_next {mtype : Nat} {m : Msg} {act : State → State} (h : m.wf = true) :
    AnswersNext (s.arriveMsg mtype m act) :=
  have hport := Msg.port_lt_of_wf h
  .guard (by omega) (.ite (.next _) (.ite (.next _) (.ite (.next _) (.ite (.next _) (.ite (.next _) (.next _))))))

end Shared

/-! ### Ticks and boundaries (chapter 2) -/

section Ticks
variable {s : State}

theorem execTickBoundary_next (b : BoundaryIn) : AnswersNext (execTickBoundary b s) := .ite (.next _) (.next _)

theorem execBoundaryMessage_next {m : TickIn} (h : m.port < 8) : AnswersNext (execBoundaryMessage m s) :=
  .guard (Nat.not_le.2 h) (.ite (.next _) (.ite (.next _) (.ite (.next _) (.next _))))

theorem execHoldover_next : AnswersNext (execHoldover s) := .ite (.next _) (.next _)

theorem execTickUnlock_next : AnswersNext (execTickUnlock s) := by
  unfold execTickUnlock
  split
  · exact .next _
  · exact .ite (.next _) (.next _)

theorem execMasterFailover_next : AnswersNext (execMasterFailover s) := .ite (.next _) (.next _)

theorem execMasterWait_next : AnswersNext (execMasterWait s) := by
  unfold execMasterWait
  split
  · exact .next _
  · exact .ite (.next _) (.next _)

theorem execTickSend_next (members : List (Nat × List Nat)) : AnswersNext (execTickSend members s) := by
  unfold execTickSend
  extract_lets
  refine .ite (.next _) ?_
  split
  exact .next _

end Ticks

/-! ### Issue, commit and drain (chapter 2) -/

section Commands
variable {s : State} {c : CmdRef}

theorem execCommandIssue_next (h : c.wf = true) : AnswersNext (execCommandIssue c s) := by
  refine .guard (refOk_of_wf h) ?_
  split
  · refine .ite (.next _) ?_
    extract_lets
    split
    · exact .next _
    · refine .ite (.next _) (.ite (.next _) ?_)
      split
      · exact .next _
      · exact .next _
      · refine .ite (.next _) (.ite (.next _) ?_)
        split
        · exact .next _
        · exact .next _
  · exact .next _

theorem execCommitPoint_next (h : c.wf = true) : AnswersNext (execCommitPoint c s) := by
  refine .guard (refOk_of_wf h) ?_
  split
  · refine .ite (.next _) ?_
    split
    · exact .next _
    · refine .ite (.next _) ?_
      extract_lets
      split
      · exact .next _
      · exact .next _
      · exact .next _
  · exact .next _

theorem execDrainEnd_next {badStage : List Nat} (h : c.wf = true) : AnswersNext (execDrainEnd c badStage s) := by
  refine .guard (refOk_of_wf h) ?_
  split
  · exact .ite (.next _) (.next _)
  · exact .next _

theorem execOverrunAbandon_next {inset : Nat} (h : inset < 16) : AnswersNext (execOverrunAbandon inset s) := by
  refine .guard (Nat.not_le.2 h) ?_
  split
  · exact .next _
  · exact .ite (.next _) (.next _)

theorem execTorusWait_next (h : c.wf = true) : AnswersNext (execTorusWait c s) := by
  refine .guard (refOk_of_wf h) ?_
  split
  · exact .ite (.next _) (.ite (.next _) (.ite (.next _) (.ite (.next _) (.next _))))
  · exact .next _

theorem execTorusA2a_next (h : c.wf = true) : AnswersNext (execTorusA2a c s) := by
  refine .guard (refOk_of_wf h) ?_
  split
  · exact .ite (.next _) (.ite (.next _) (.ite (.next _) (.ite (.next _) (.next _))))
  · exact .next _

end Commands

/-! ### Stack channels and their bank-side units (chapter 10) -/

section Channels
variable {s : State} {channel : Nat}

theorem execModeChangeSequence_next (h : channel < 256) : AnswersNext (execModeChangeSequence channel s) := by
  refine .guard (Nat.not_le.2 h) ?_
  split
  · exact .next _
  · exact .ite (.next _) (.next _)

theorem execBsuHoldPoison_next (h : channel < 256) : AnswersNext (execBsuHoldPoison channel s) := by
  refine .guard (Nat.not_le.2 h) ?_
  split
  · exact .next _
  · exact .ite (.next _) (.next _)

theorem execApertureEnqueue_next {slot : Nat} {data : Bytes} (h : channel < 256) (hslot : slot < 2048) :
    AnswersNext (execApertureEnqueue channel slot data s) := .guard (by omega) (.next _)

theorem execApFlush_next (h : channel < 256) : AnswersNext (execApFlush channel s) :=
  .guard (Nat.not_le.2 h) (.ite (.next _) (.next _))

theorem execApertureOperation_next {hw : Hw} (h : channel < 256) : AnswersNext (execApertureOperation channel hw s) := by
  refine .guard (Nat.not_le.2 h) ?_
  dsimp only
  split
  · exact .next _
  · exact .ite (.next _) (.ite (.next _) (.next _))

theorem execChannelSpared_next (h : channel < 256) : AnswersNext (execChannelSpared channel s) :=
  .guard (Nat.not_le.2 h) (.ite (.next _) (.next _))

theorem execChannelFill_next (h : channel < 256) : AnswersNext (execChannelFill channel s) :=
  .guard (Nat.not_le.2 h) (.ite (.next _) (.next _))

end Channels

/-! ### Flash (chapter 12) -/

section Flash
variable {s : State} {channel inset : Nat}

theorem execCkptManifest_next {programmed : Bool} (h : inset < 16) : AnswersNext (execCkptManifest inset programmed s) := by
  refine .guard (Nat.not_le.2 h) (.ite (.next _) (.ite (.next _) ?_))
  extract_lets
  split
  · exact .next _
  · exact .next _

theorem execZqCal_next (h : channel < 32) : AnswersNext (execZqCal channel s) :=
  .guard (Nat.not_le.2 h) (.ite (.next _) (.next _))

theorem execFlashChannelReset_next {trained : List Nat} (h : channel < 32) :
    AnswersNext (execFlashChannelReset channel trained s) := by
  refine .guard (Nat.not_le.2 h) ?_
  dsimp only
  split
  · exact .next _
  · exact .next _

theorem execRebuild_next (phys : List FlashRead) : AnswersNext (execRebuild phys s) := .ite (.next _) (.next _)

theorem execRestoreEnd_next {phys : List FlashRead} (h : inset < 16) : AnswersNext (execRestoreEnd inset phys s) := by
  refine .guard (Nat.not_le.2 h) ?_
  split
  · exact .next _
  · exact .next _

end Flash

/-! ### Torus ports (chapter 13) -/

section Ports
variable {s : State} {port : Nat}

theorem execPortTraining_next {t : TrainIn} (h : port < 8) : AnswersNext (execPortTraining port t s) :=
  .guard (Nat.not_le.2 h) (.ite (.next _) (.ite (.next _) (.next _)))

theorem execTrainingTimeout_next (h : port < 8) : AnswersNext (execTrainingTimeout port s) :=
  .guard (Nat.not_le.2 h) (.ite (.next _) (.ite (.next _) (.next _)))

theorem execRetrain_next (h : port < 8) : AnswersNext (execRetrain port s) :=
  .guard (Nat.not_le.2 h) (.ite (.next _) (.next _))

theorem execPresetReq_next {lane preset codeword : Nat} (h : port < 8) (hlane : lane < 18) (hpreset : preset < 16) :
    AnswersNext (execPresetReq port lane preset codeword s) :=
  .guard (by simp only [nPorts, nLanes]; omega) (.ite (.next _) (.next _))

theorem execFlitReceive_next {flit : FlitIn} (h : port < 8) : AnswersNext (execFlitReceive port flit s) := by
  refine .guard (Nat.not_le.2 h) (.ite (.next _) ?_)
  split
  · exact .next _
  · exact .ite (.next _) (.next _)
  · exact .ite (.next _) (.ite (.next _) (.ite (.next _) (.next _)))

theorem execNak_next {seq : Nat} (h : port < 8) : AnswersNext (execNak port seq s) :=
  .guard (Nat.not_le.2 h) (.ite (.next _) (.ite (.next _) (.next _)))

theorem execLaneSerWindow_next {lane errors symbols : Nat} {lockLost : Bool} (h : port < 8) (hlane : lane < 18) :
    AnswersNext (execLaneSerWindow port lane errors symbols lockLost s) := by
  refine .guard (by simp only [nPorts, nLanes]; omega) (.ite (.next _) ?_)
  split
  · exact .next _
  · exact .ite (.next _) (.next _)

theorem execLaneSwap_next {lane spare codeword : Nat} (h : port < 8) (hlane : lane < 18) (hspare : spare < 18) :
    AnswersNext (execLaneSwap port lane spare codeword s) := by
  refine .guard (by simp only [nPorts, nLanes]; omega) (.ite (.next _) ?_)
  split
  · exact .next _
  · exact .next _

theorem execLinkDown_next (h : port < 6) : AnswersNext (execLinkDown port s) := by
  refine .guard (Nat.not_le.2 h) ?_
  dsimp only
  split
  · exact .next _
  · exact .ite (.next _) (.next _)

theorem execPortSwap_next {spare : Nat} (h : port < 6) (hspare : spare < 8) : AnswersNext (execPortSwap port spare s) := by
  refine .guard (by simp only [nPorts]; omega) (.ite (.next _) ?_)
  split
  · exact .next _
  · exact .ite (.next _) (.next _)

theorem execRehearsalSwapReturn_next (h : port < 8) : AnswersNext (execRehearsalSwapReturn port s) := by
  refine .guard (Nat.not_le.2 h) ?_
  dsimp only
  split
  · exact .next _
  · exact .ite (.next _) (.ite (.ite (.next _) (.next _)) (.next _))

theorem execDelayProbe_next {t1 : Nat} (h : port < 8) : AnswersNext (execDelayProbe port t1 s) :=
  .guard (Nat.not_le.2 h) (.ite (.next _) (.next _))

theorem execProbe_next {t1 t2 t3 t4 : Nat} (h : port < 8) : AnswersNext (execProbe port t1 t2 t3 t4 s) :=
  .guard (Nat.not_le.2 h) (.ite (.next _) (.ite (.next _) (.next _)))

end Ports

/-! ### The traffic manager (chapter 14) -/

section Traffic
variable {s : State}

theorem execShaperRelease_next {flow : Nat} (h : flow < 1048576) : AnswersNext (execShaperRelease flow s) := by
  refine .guard (Nat.not_le.2 h) (.ite (.ite ?_ (.next _)) (.ite ?_ ?_))
  · split
    · exact .next _
    · exact .next _
  · split
    · exact .next _
    · split
      · exact .next _
      · exact .next _
  · split
    · exact .next _
    · split
      · exact .next _
      · split
        · exact .next _
        · exact .next _

theorem execEgressSelect_next {port : Nat} (h : port < 12) : AnswersNext (execEgressSelect port s) := by
  refine .guard (Nat.not_le.2 h) (.ite (.next _) ?_)
  dsimp only
  split
  · exact .next _
  · split
    · exact .next _
    · split
      · exact .next _
      · exact .next _

theorem execGateEntry_next {port : Nat} (h : port < 12) : AnswersNext (execGateEntry port s) :=
  .guard (Nat.not_le.2 h) (.ite (.next _) (.next _))

theorem execTmSample_next {inset : Nat} (h : inset < 16) : AnswersNext (execTmSample inset s) :=
  .guard (Nat.not_le.2 h) (.ite (.next _) (.next _))

theorem execDepthSample_next : AnswersNext (execDepthSample s) := .ite (.next _) (.next _)

end Traffic

/-! ### Insets and sync objects (chapter 15) -/

section Insets
variable {s : State} {inset : Nat}

theorem execSwitchEnd_next (h : inset < 16) : AnswersNext (execSwitchEnd inset s) := by
  refine .guard (Nat.not_le.2 h) ?_
  split
  · exact .next _
  · exact .ite (.next _) (.next _)

theorem execLeaseRevoked_next {sync : Nat} (h : sync < 16384) : AnswersNext (execLeaseRevoked sync s) := by
  refine .guard (Nat.not_le.2 h) ?_
  dsimp only
  split
  · exact .next _
  · exact .ite (.next _) (.ite (.next _) (.ite (.next _) (.next _)))

theorem execIntHoldoff_next {vector : Nat} (h : inset < 16) (hvector : vector < 128) :
    AnswersNext (execIntHoldoff inset vector s) := .guard (by omega) (.ite (.next _) (.next _))

end Insets

/-! ### The host port (chapter 16) -/

section HostPort
variable {s : State} {fn inset : Nat}

theorem execSqTail_next {queue value : Nat} (h : fn < 16) (hqueue : queue < 4) :
    AnswersNext (execSqTail fn queue value s) := .guard (by omega) (.ite (.next _) (.next _))

theorem execQueueConfig_next {queue field value : Nat} (h : fn < 16) (hqueue : queue < 4) (hfield : field < 6) :
    AnswersNext (execQueueConfig fn queue field value s) :=
  .guard (by omega) (.ite (.next _) (.ite (.next _) (.ite (.next _) (.ite (.next _) (.next _)))))

theorem execCxlMemRead_next (hpa : Nat) (noc : Bool) : AnswersNext (execCxlMemRead hpa noc s) := .next _

theorem execCxlMemWrite_next (hpa : Nat) (data : Bytes) (mask : Nat) (poison : Bool) :
    AnswersNext (execCxlMemWrite hpa data mask poison s) := .next _

theorem execControlCoreAccess_next {a : CoreAccess} (h : a.core < 16) : AnswersNext (execControlCoreAccess a s) :=
  .guard (Nat.not_le.2 h) (.ite (.next _) (.ite (.next _) (.ite (.next _) (.ite (.next _) (.next _)))))

theorem execHdmCommit_next {decoder base size ways : Nat} (h : decoder < 4) :
    AnswersNext (execHdmCommit decoder base size ways s) := .guard (Nat.not_le.2 h) (.ite (.next _) (.next _))

theorem execCxlSnoop_next (addr : Nat) : AnswersNext (execCxlSnoop addr s) := .next _

theorem execCxlConfigRequest_next (addr : Nat) : AnswersNext (execCxlConfigRequest addr s) := .ite (.next _) (.next _)

theorem execGetLog_next {uuid : Bytes} {offset length : Nat} (h : fn < 16) :
    AnswersNext (execGetLog fn uuid offset length s) := .ite (State.mailbox_next h) (State.mailbox_next h)

theorem execMailboxUnsupported_next {opcode : Nat} (h : fn < 16) : AnswersNext (execMailboxUnsupported fn opcode s) :=
  .ite (.next _) (State.mailbox_next h)

theorem execSwitchInstant_next (h : inset < 16) : AnswersNext (execSwitchInstant inset s) := by
  refine .guard (Nat.not_le.2 h) ?_
  dsimp only
  split
  · exact .ite (.next _) (.next _)
  · exact .next _

theorem execHostLinkLost_next : AnswersNext (execHostLinkLost s) := .next _

theorem execOrphanAbort_next (h : inset < 16) : AnswersNext (execOrphanAbort inset s) := by
  refine .guard (Nat.not_le.2 h) ?_
  dsimp only
  split
  · exact .next _
  · exact .ite (.next _) (.next _)

end HostPort

/-! ### The Gazetteer and the field port (chapter 17) -/

section Gazetteer
variable {s : State}

theorem execFieldFrame_next (frame : Bytes) (fcsOk : Bool) : AnswersNext (execFieldFrame frame fcsOk s) := by
  refine .ite (.next _) (.ite (.next _) (.ite (.next _) (.ite (.next _) (.ite (.next _) ?_))))
  split
  · exact .next _
  · exact .next _

theorem execAnnounce_next : AnswersNext (execAnnounce s) := .ite (.next _) (.next _)

theorem execRead_next (q : GazReq) : AnswersNext (execRead q s) :=
  .ite (.next _) (.ite (.next _) (.ite (.next _) (.next _)))

theorem execReadStaged_next (q : GazReq) : AnswersNext (execReadStaged q s) := .ite (.next _) (.next _)

theorem execWrite_next (q : GazReq) : AnswersNext (execWrite q s) := by
  refine .ite (.next _) ?_
  split
  · exact .ite (.next _) (.ite (.next _) (.next _))
  · exact .next _

end Gazetteer

/-! ### Reliability, counters and attestation (chapters 18 to 20) -/

section Reliability
variable {s : State} {mc inst : Nat}

theorem execScrubRead_next {found : ScrubFound} (h : inst < scrubInstances mc) :
    AnswersNext (execScrubRead mc inst found s) :=
  .guard (Nat.not_le.2 h) (.ite (.next _) (.ite (.next _) (.next _)))

theorem execRemapApplied_next {row : Nat} (hmc : mc < 3) (h : inst < scrubInstances mc) :
    AnswersNext (execRemapApplied mc inst row s) :=
  .guard (not_or.2 ⟨Nat.not_le.2 h, Nat.not_le.2 hmc⟩) (.ite (.next _) (.next _))

theorem execRepairRecordWrite_next (ok : Bool) : AnswersNext (execRepairRecordWrite ok s) :=
  .ite (.next _) (.ite (.next _) (.next _))

theorem execDumpRecord_next : AnswersNext (execDumpRecord s) := by
  unfold execDumpRecord
  split
  · exact .next _
  · exact .ite (.next _) (.next _)

theorem execAttestReport_next {inset : Nat} {ok : Bool} (h : inset < 16) : AnswersNext (execAttestReport inset ok s) := by
  refine .guard (Nat.not_le.2 h) ?_
  split
  · exact .next _
  · exact .ite (.next _) (.next _)

end Reliability

/-! ### Power, clocks and start-up (chapters 21 and 22) -/

section Power
variable {s : State}

theorem execPwrGoodRise_next (rails : RailIn) : AnswersNext (execPwrGoodRise rails s) :=
  .ite (.next _) (.ite (.next _) (.next _))

theorem execPwrGoodFall_next : AnswersNext (execPwrGoodFall s) := .ite (.next _) (.next _)

theorem execResetN_next (bootSrc : Nat) : AnswersNext (execResetN bootSrc s) := .ite (.next _) (.next _)

theorem execResetNAssert_next : AnswersNext (execResetNAssert s) := .ite (.next _) (.next _)

theorem execStartPhaseEnd_next (p : PhaseIn) : AnswersNext (execStartPhaseEnd p s) :=
  .ite (.next _) (.ite (.next _) (.next _))

theorem execVrPoll_next (rails : RailIn) : AnswersNext (execVrPoll rails s) := .ite (.next _) (.next _)

theorem execVrAlert_next (rails : RailIn) : AnswersNext (execVrAlert rails s) := .ite (.next _) (.next _)

theorem execVcoreEmergency_next (marginPs : Nat) : AnswersNext (execVcoreEmergency marginPs s) := .ite (.next _) (.next _)

theorem execVcoreMargin_next (marginPs : Nat) : AnswersNext (execVcoreMargin marginPs s) := .ite (.next _) (.next _)

theorem execThermalSample_next (temps : TempIn) : AnswersNext (execThermalSample temps s) :=
  .ite (.next _) (.ite (.next _) (.next _))

theorem execRefclkCheck_next (ppb : Int) (spreadPpb : Nat) (cxlPpb : Int) :
    AnswersNext (execRefclkCheck ppb spreadPpb cxlPpb s) :=
  .ite (.next _) (.ite (.next _) (.ite (.ite (.next _) (.next _)) (.next _)))

theorem execDynamicAddressAssignment_next {addr : Nat} (h : addr < 128) :
    AnswersNext (execDynamicAddressAssignment addr s) := .guard (Nat.not_le.2 h) (.ite (.next _) (.next _))

end Power

/-! ### Every row -/

/-- Row by row: the operands of a well-formed command pass the guard at the row's front. -/
theorem exec_next {i : Instr} {s : State} (h : i.wf = true) : AnswersNext (exec i s) := by
  cases i with
  | tickBoundary _ => rw [exec_tickBoundary]; exact execTickBoundary_next _
  | boundaryMessage _ => rw [exec_boundaryMessage]; exact execBoundaryMessage_next (TickIn.port_lt_of_wf h)
  | holdover => rw [exec_holdover]; exact execHoldover_next
  | tickUnlock => rw [exec_tickUnlock]; exact execTickUnlock_next
  | masterFailover => rw [exec_masterFailover]; exact execMasterFailover_next
  | masterWait => rw [exec_masterWait]; exact execMasterWait_next
  | tickSend _ => rw [exec_tickSend]; exact execTickSend_next _
  | commandIssue _ => rw [exec_commandIssue]; exact execCommandIssue_next h
  | commitPoint _ => rw [exec_commitPoint]; exact execCommitPoint_next h
  | drainEnd _ _ => rw [exec_drainEnd]; exact execDrainEnd_next h
  | overrunAbandon _ => rw [exec_overrunAbandon]; exact execOverrunAbandon_next (of_decide_eq_true h)
  | matmul _ _ => rw [exec_matmul]; exact State.engineRow_next h
  | add _ _ => rw [exec_add]; exact State.vecRow_next h
  | sub _ _ => rw [exec_sub]; exact State.vecRow_next h
  | mul _ _ => rw [exec_mul]; exact State.vecRow_next h
  | fma _ _ => rw [exec_fma]; exact State.vecRow_next h
  | min _ _ => rw [exec_min]; exact State.vecRow_next h
  | max _ _ => rw [exec_max]; exact State.vecRow_next h
  | abs _ _ => rw [exec_abs]; exact State.vecRow_next h
  | neg _ _ => rw [exec_neg]; exact State.vecRow_next h
  | relu _ _ => rw [exec_relu]; exact State.vecRow_next h
  | cmpGt _ _ => rw [exec_cmpGt]; exact State.vecRow_next h
  | vectorSelect _ _ => rw [exec_vectorSelect]; exact State.vecRow_next h
  | cvt _ _ => rw [exec_cvt]; exact State.vecRow_next h
  | exp _ _ => rw [exec_exp]; exact State.vecRow_next h
  | log _ _ => rw [exec_log]; exact State.vecRow_next h
  | recip _ _ => rw [exec_recip]; exact State.vecRow_next h
  | rsqrt _ _ => rw [exec_rsqrt]; exact State.vecRow_next h
  | tanh _ _ => rw [exec_tanh]; exact State.vecRow_next h
  | sigmoid _ _ => rw [exec_sigmoid]; exact State.vecRow_next h
  | gelu _ _ => rw [exec_gelu]; exact State.vecRow_next h
  | rowSum _ _ => rw [exec_rowSum]; exact State.vecRow_next h
  | rowMax _ _ => rw [exec_rowMax]; exact State.vecRow_next h
  | rowSumsq _ _ => rw [exec_rowSumsq]; exact State.vecRow_next h
  | quant _ _ => rw [exec_quant]; exact State.engineRow_next h
  | dequant _ _ => rw [exec_dequant]; exact State.engineRow_next h
  | range _ _ => rw [exec_range]; exact State.engineRow_next h
  | select _ _ => rw [exec_select]; exact State.engineRow_next h
  | sort _ _ => rw [exec_sort]; exact State.engineRow_next h
  | merge _ _ => rw [exec_merge]; exact State.engineRow_next h
  | kth _ _ => rw [exec_kth]; exact State.engineRow_next h
  | searchStart _ _ => rw [exec_searchStart]; exact State.engineRow_next h
  | searchExpand _ _ => rw [exec_searchExpand]; exact State.engineRow_next h
  | searchFetchList _ _ => rw [exec_searchFetchList]; exact State.engineRow_next h
  | searchFinish _ _ => rw [exec_searchFinish]; exact State.engineRow_next h
  | insertLink _ _ => rw [exec_insertLink]; exact State.engineRow_next h
  | delete _ _ => rw [exec_delete]; exact State.engineRow_next h
  | consolidate _ _ => rw [exec_consolidate]; exact State.engineRow_next h
  | embRoute _ _ => rw [exec_embRoute]; exact State.engineRow_next h
  | embFetchList _ _ => rw [exec_embFetchList]; exact State.engineRow_next h
  | embServe _ _ => rw [exec_embServe]; exact State.engineRow_next h
  | embPool _ _ => rw [exec_embPool]; exact State.engineRow_next h
  | embScatter _ _ => rw [exec_embScatter]; exact State.engineRow_next h
  | embApply _ _ => rw [exec_embApply]; exact State.engineRow_next h
  | rowReplace _ _ => rw [exec_rowReplace]; exact State.engineRow_next h
  | surveyClose _ _ => rw [exec_surveyClose]; exact State.engineRow_next h
  | placeDecide _ _ => rw [exec_placeDecide]; exact State.engineRow_next h
  | migFetchList _ _ => rw [exec_migFetchList]; exact State.engineRow_next h
  | migSend _ _ => rw [exec_migSend]; exact State.engineRow_next h
  | chartCommit _ _ => rw [exec_chartCommit]; exact State.engineRow_next h
  | atlasSwitch _ _ => rw [exec_atlasSwitch]; exact State.engineRow_next h
  | bsuMode _ => rw [exec_bsuMode]; exact State.engineRow_next h
  | modeChangeSequence _ => rw [exec_modeChangeSequence]; exact execModeChangeSequence_next (of_decide_eq_true h)
  | bsuRun _ _ => rw [exec_bsuRun]; exact State.engineRowOpen_next h
  | bsuQload _ _ => rw [exec_bsuQload]; exact State.engineRow_next h
  | scoreSketch _ _ _ => rw [exec_scoreSketch]; exact State.opRow_next h
  | dotI8 _ _ _ => rw [exec_dotI8]; exact State.opRow_next h
  | l2I8 _ _ _ => rw [exec_l2I8]; exact State.opRow_next h
  | cmpSelect _ _ _ => rw [exec_cmpSelect]; exact State.opRow_next h
  | poolRows _ _ _ => rw [exec_poolRows]; exact State.opRow_next h
  | fill _ _ _ => rw [exec_fill]; exact State.opRow_next h
  | copy _ _ _ => rw [exec_copy]; exact State.opRow_next h
  | bsuHoldPoison _ => rw [exec_bsuHoldPoison]; exact execBsuHoldPoison_next (of_decide_eq_true h)
  | apertureEnqueue channel slot _ =>
    obtain ⟨hchannel, hslot, -⟩ : channel < 256 ∧ slot < 2048 ∧ _ := by simpa [Instr.wf, and_assoc] using h
    rw [exec_apertureEnqueue]
    exact execApertureEnqueue_next hchannel hslot
  | apFlush _ => rw [exec_apFlush]; exact execApFlush_next (of_decide_eq_true h)
  | dmCopy _ _ => rw [exec_dmCopy]; exact State.engineRow_next h
  | dmFill _ _ => rw [exec_dmFill]; exact State.engineRow_next h
  | dmHostRead _ _ => rw [exec_dmHostRead]; exact State.engineRowOpen_next h
  | blockTranspose _ _ => rw [exec_blockTranspose]; exact State.engineRow_next h
  | ckptCapture _ _ => rw [exec_ckptCapture]; exact State.engineRow_next h
  | hostAdmit _ _ => rw [exec_hostAdmit]; exact State.engineRow_next h
  | hostComplete _ _ => rw [exec_hostComplete]; exact State.engineRow_next h
  | scribeGather _ _ => rw [exec_scribeGather]; exact State.engineRowOpen_next h
  | scribeWrite _ _ => rw [exec_scribeWrite]; exact State.engineRowOpen_next h
  | ckptWindow _ _ => rw [exec_ckptWindow]; exact State.engineRowOpen_next h
  | ckptManifest _ _ => rw [exec_ckptManifest]; exact execCkptManifest_next (of_decide_eq_true h)
  | bgWindow _ _ => rw [exec_bgWindow]; exact State.engineRowOpen_next h
  | zqCal _ => rw [exec_zqCal]; exact execZqCal_next (of_decide_eq_true h)
  | flashChannelReset _ _ => rw [exec_flashChannelReset]; exact execFlashChannelReset_next (of_decide_eq_true h)
  | rebuild _ => rw [exec_rebuild]; exact execRebuild_next _
  | flashFormat _ => rw [exec_flashFormat]; exact State.woRow_next
  | ckptRestore _ => rw [exec_ckptRestore]; exact State.woRow_next
  | restoreEnd _ _ => rw [exec_restoreEnd]; exact execRestoreEnd_next (of_decide_eq_true h)
  | portTraining port _ =>
    obtain ⟨hport, -⟩ : port < 8 ∧ _ := by simpa [Instr.wf, and_assoc] using h
    rw [exec_portTraining]
    exact execPortTraining_next hport
  | trainingTimeout _ => rw [exec_trainingTimeout]; exact execTrainingTimeout_next (of_decide_eq_true h)
  | flitReceive port _ =>
    obtain ⟨hport, -⟩ : port < 8 ∧ _ := by simpa [Instr.wf, and_assoc] using h
    rw [exec_flitReceive]
    exact execFlitReceive_next hport
  | nak port _ =>
    obtain ⟨hport, -⟩ : port < 8 ∧ _ := by simpa [Instr.wf, and_assoc] using h
    rw [exec_nak]
    exact execNak_next hport
  | laneSerWindow port lane _ _ _ =>
    obtain ⟨hport, hlane⟩ : port < 8 ∧ lane < 18 := by simpa [Instr.wf, and_assoc] using h
    rw [exec_laneSerWindow]
    exact execLaneSerWindow_next hport hlane
  | laneSwap port lane spare _ =>
    obtain ⟨hport, hlane, hspare⟩ : port < 8 ∧ lane < 18 ∧ spare < 18 := by simpa [Instr.wf, and_assoc] using h
    rw [exec_laneSwap]
    exact execLaneSwap_next hport hlane hspare
  | linkDown _ => rw [exec_linkDown]; exact execLinkDown_next (of_decide_eq_true h)
  | portSwap port spare =>
    obtain ⟨hport, hspare⟩ : port < 6 ∧ spare < 8 := by simpa [Instr.wf, and_assoc] using h
    rw [exec_portSwap]
    exact execPortSwap_next hport hspare
  | probe _ _ _ _ _ => rw [exec_probe]; exact execProbe_next (of_decide_eq_true h)
  | delayProbe _ _ => rw [exec_delayProbe]; exact execDelayProbe_next (of_decide_eq_true h)
  | presetReq port lane preset _ =>
    obtain ⟨hport, hlane, hpreset⟩ : port < 8 ∧ lane < 18 ∧ preset < 16 := by simpa [Instr.wf, and_assoc] using h
    rw [exec_presetReq]
    exact execPresetReq_next hport hlane hpreset
  | retrain _ => rw [exec_retrain]; exact execRetrain_next (of_decide_eq_true h)
  | put _ => rw [exec_put]; exact State.arriveMsg_next h
  | a2aSlot _ => rw [exec_a2aSlot]; exact State.arriveMsg_next h
  | done _ => rw [exec_done]; exact State.arriveMsg_next h
  | token _ => rw [exec_token]; exact State.arriveMsg_next h
  | lease _ => rw [exec_lease]; exact State.arriveMsg_next h
  | barrier _ => rw [exec_barrier]; exact State.arriveMsg_next h
  | mgmtReq _ => rw [exec_mgmtReq]; exact State.arriveMsg_next h
  | mgmtRsp _ => rw [exec_mgmtRsp]; exact State.arriveMsg_next h
  | event _ => rw [exec_event]; exact State.arriveMsg_next h
  | torusPut _ => rw [exec_torusPut]; exact State.engineRowOpen_next h
  | torusWait _ => rw [exec_torusWait]; exact execTorusWait_next h
  | torusA2a _ => rw [exec_torusA2a]; exact execTorusA2a_next h
  | sqTail fn queue _ =>
    obtain ⟨hfn, hqueue⟩ : fn < 16 ∧ queue < 4 := by simpa [Instr.wf, and_assoc] using h
    rw [exec_sqTail]
    exact execSqTail_next hfn hqueue
  | queueConfig fn queue field _ =>
    obtain ⟨hfn, hqueue, hfield⟩ : fn < 16 ∧ queue < 4 ∧ field < 6 := by simpa [Instr.wf, and_assoc] using h
    rw [exec_queueConfig]
    exact execQueueConfig_next hfn hqueue hfield
  | shaperRelease _ => rw [exec_shaperRelease]; exact execShaperRelease_next (of_decide_eq_true h)
  | egressSelect _ => rw [exec_egressSelect]; exact execEgressSelect_next (of_decide_eq_true h)
  | gateEntry _ => rw [exec_gateEntry]; exact execGateEntry_next (of_decide_eq_true h)
  | tmSample _ => rw [exec_tmSample]; exact execTmSample_next (of_decide_eq_true h)
  | depthSample => rw [exec_depthSample]; exact execDepthSample_next
  | switchEnd _ => rw [exec_switchEnd]; exact execSwitchEnd_next (of_decide_eq_true h)
  | preempt _ => rw [exec_preempt]; exact State.woRow_next
  | insetReset _ => rw [exec_insetReset]; exact State.woRow_next
  | leaseRevoked _ => rw [exec_leaseRevoked]; exact execLeaseRevoked_next (of_decide_eq_true h)
  | intHoldoff inset vector =>
    obtain ⟨hinset, hvector⟩ : inset < 16 ∧ vector < 128 := by simpa [Instr.wf, and_assoc] using h
    rw [exec_intHoldoff]
    exact execIntHoldoff_next hinset hvector
  | cxlMemRead _ _ => rw [exec_cxlMemRead]; exact execCxlMemRead_next _ _
  | cxlMemWrite _ _ _ _ => rw [exec_cxlMemWrite]; exact execCxlMemWrite_next _ _ _ _
  | controlCoreAccess _ => rw [exec_controlCoreAccess]; exact execControlCoreAccess_next (of_decide_eq_true h)
  | hdmCommit _ _ _ _ => rw [exec_hdmCommit]; exact execHdmCommit_next (of_decide_eq_true h)
  | cxlSnoop _ => rw [exec_cxlSnoop]; exact execCxlSnoop_next _
  | cxlConfigRequest _ => rw [exec_cxlConfigRequest]; exact execCxlConfigRequest_next _
  | getSupportedLogs _ => rw [exec_getSupportedLogs]; exact State.mailbox_next (of_decide_eq_true h)
  | getLog fn _ _ _ =>
    obtain ⟨hfn, -⟩ : fn < 16 ∧ _ := by simpa [Instr.wf, and_assoc] using h
    rw [exec_getLog]
    exact execGetLog_next hfn
  | getTimestamp _ => rw [exec_getTimestamp]; exact State.mailbox_next (of_decide_eq_true h)
  | setTimestamp _ _ => rw [exec_setTimestamp]; exact State.mailbox_next (of_decide_eq_true h)
  | mailboxUnsupported _ _ => rw [exec_mailboxUnsupported]; exact execMailboxUnsupported_next (of_decide_eq_true h)
  | switchInstant _ => rw [exec_switchInstant]; exact execSwitchInstant_next (of_decide_eq_true h)
  | bindRelease _ => rw [exec_bindRelease]; exact State.woRow_next
  | hostLinkLost => rw [exec_hostLinkLost]; exact execHostLinkLost_next
  | orphanAbort _ => rw [exec_orphanAbort]; exact execOrphanAbort_next (of_decide_eq_true h)
  | roleChange _ => rw [exec_roleChange]; exact State.woRow_next
  | fieldFrame _ _ => rw [exec_fieldFrame]; exact execFieldFrame_next _ _
  | announce => rw [exec_announce]; exact execAnnounce_next
  | read _ => rw [exec_read]; exact execRead_next _
  | write _ => rw [exec_write]; exact execWrite_next _
  | readStaged _ => rw [exec_readStaged]; exact execReadStaged_next _
  | check _ => rw [exec_check]; exact State.setRow_next
  | apply _ => rw [exec_apply]; exact State.setRow_next
  | discard _ => rw [exec_discard]; exact State.setRow_next
  | setState _ => rw [exec_setState]; exact State.setRow_next
  | scrubRead _ _ _ => rw [exec_scrubRead]; exact execScrubRead_next (of_decide_eq_true h)
  | remapApplied mc inst _ =>
    obtain ⟨hmc, hinst⟩ : mc < 3 ∧ inst < scrubInstances mc := by simpa [Instr.wf, and_assoc] using h
    rw [exec_remapApplied]
    exact execRemapApplied_next hmc hinst
  | channelSpared _ => rw [exec_channelSpared]; exact execChannelSpared_next (of_decide_eq_true h)
  | channelFill _ => rw [exec_channelFill]; exact execChannelFill_next (of_decide_eq_true h)
  | repairRecordWrite _ => rw [exec_repairRecordWrite]; exact execRepairRecordWrite_next _
  | suspectClear _ => rw [exec_suspectClear]; exact State.woRow_next
  | dumpRecord => rw [exec_dumpRecord]; exact execDumpRecord_next
  | counterClear _ => rw [exec_counterClear]; exact State.woRow_next
  | sampleReset _ => rw [exec_sampleReset]; exact State.woRow_next
  | attestNonce _ => rw [exec_attestNonce]; exact State.woRow_next
  | attestReport _ _ => rw [exec_attestReport]; exact execAttestReport_next (of_decide_eq_true h)
  | floorCert _ => rw [exec_floorCert]; exact State.woRow_next
  | ownerKey _ => rw [exec_ownerKey]; exact State.woRow_next
  | imageWrite _ => rw [exec_imageWrite]; exact State.woRow_next
  | measureExtend _ => rw [exec_measureExtend]; exact State.woRow_next
  | debugToken _ => rw [exec_debugToken]; exact State.woRow_next
  | pwrGoodRise _ => rw [exec_pwrGoodRise]; exact execPwrGoodRise_next _
  | pwrGoodFall => rw [exec_pwrGoodFall]; exact execPwrGoodFall_next
  | resetN _ => rw [exec_resetN]; exact execResetN_next _
  | startPhaseEnd _ => rw [exec_startPhaseEnd]; exact execStartPhaseEnd_next _
  | vrPoll _ => rw [exec_vrPoll]; exact execVrPoll_next _
  | vrAlert _ => rw [exec_vrAlert]; exact execVrAlert_next _
  | vcoreEmergency _ => rw [exec_vcoreEmergency]; exact execVcoreEmergency_next _
  | vcoreMargin _ => rw [exec_vcoreMargin]; exact execVcoreMargin_next _
  | thermalSample _ => rw [exec_thermalSample]; exact execThermalSample_next _
  | refclkCheck _ _ _ => rw [exec_refclkCheck]; exact execRefclkCheck_next _ _ _
  | insetStart _ => rw [exec_insetStart]; exact State.woRow_next
  | apertureOperation _ _ => rw [exec_apertureOperation]; exact execApertureOperation_next (of_decide_eq_true h)
  | rehearsalSwapReturn _ => rw [exec_rehearsalSwapReturn]; exact execRehearsalSwapReturn_next (of_decide_eq_true h)
  | resetNAssert => rw [exec_resetNAssert]; exact execResetNAssert_next
  | dynamicAddressAssignment _ =>
    rw [exec_dynamicAddressAssignment]
    exact execDynamicAddressAssignment_next (of_decide_eq_true h)

end Sys2Proof.Machine

open Sys2Proof.Machine

/-- Settles O3: the operands of a well-formed command pass every guard. -/
theorem wellFormedCommandAnswersNext : Obligations.WellFormedCommandAnswersNext := by
  intro i s h
  exact exec_next h
end

section
/-!
PROOFS. Memory byte by byte: what a byte reads after bytes are set and after a good storage word is written, and which
storage words a write of single bytes of one line changes.
-/

namespace Sys2Proof

theorem nth_eq_getD {α : Type} (d : α) (l : List α) (i : Nat) : nth d l i = (l[i]?).getD d := by
  induction l generalizing i with
  | nil => simp [nth]
  | cons a l ih =>
    cases i with
    | zero => simp [nth]
    | succ i => simp [nth, ih]

theorem mem_rangeFrom {a n x : Nat} : x ∈ rangeFrom a n ↔ a ≤ x ∧ x < a + n := by
  induction n generalizing a with
  | zero => simp [rangeFrom]
  | succ n ih =>
    simp only [rangeFrom, List.mem_cons, ih]
    omega

@[simp] theorem mem_upto {n x : Nat} : x ∈ upto n ↔ x < n := by
  simp [upto, mem_rangeFrom]

/-- Byte `k` of a little-endian number (R6). -/
theorem getElem?_toLe {n k : Nat} (x : Nat) (h : k < n) : (toLe n x)[k]? = some (BitVec.ofNat 8 (x >>> (8 * k))) := by
  induction n generalizing k x with
  | zero => omega
  | succ n ih =>
    cases k with
    | zero => simp [toLe]
    | succ k =>
      have hshift : (x / 256) >>> (8 * k) = x >>> (8 * (k + 1)) := by
        rw [show x / 256 = x >>> 8 from (Nat.shiftRight_eq_div_pow x 8).symm, ← Nat.shiftRight_add]
        congr 1
        omega
      rw [toLe, List.getElem?_cons_succ, ih _ (by omega), hshift]

theorem length_toLe (n x : Nat) : (toLe n x).length = n := by
  induction n generalizing x with
  | zero => rfl
  | succ n ih => simp [toLe, ih]

/-! ### The bytes of a run as a table of cells -/

/-- The cells of a word rise strictly by offset. -/
def Rising {α : Type} (t : Tab α) : Prop := t.Pairwise (fun c d => c.1 < d.1)

/-- The bytes of a run as cells: offset and byte. -/
abbrev cellsFrom (i : Nat) (bs : Bytes) : Tab Byte := mapIdxFrom (fun k b => (k, b)) i bs

theorem bounds_of_mem_cellsFrom {i : Nat} {bs : Bytes} {c : Nat × Byte} (h : c ∈ cellsFrom i bs) :
    i ≤ c.1 ∧ c.1 < i + bs.length := by
  induction bs generalizing i with
  | nil => simp [mapIdxFrom] at h
  | cons b bs ih =>
    rcases List.mem_cons.1 h with rfl | h
    · simp
    · have := ih h
      simp only [List.length_cons]
      omega

theorem rising_cellsFrom (i : Nat) (bs : Bytes) : Rising (cellsFrom i bs) := by
  induction bs generalizing i with
  | nil => exact .nil
  | cons b bs ih => exact .cons (fun _ hc => (bounds_of_mem_cellsFrom hc).1) (ih (i + 1))

theorem find_cellsFrom {i k : Nat} (bs : Bytes) (h : i ≤ k) : Tab.find (cellsFrom i bs) k = bs[k - i]? := by
  induction bs generalizing i with
  | nil => simp [mapIdxFrom]
  | cons b bs ih =>
    simp only [cellsFrom, mapIdxFrom, Tab.find]
    split
    · simp [*]
    · obtain ⟨j, rfl⟩ : ∃ j, k = i + 1 + j := ⟨k - (i + 1), by omega⟩
      rw [ih (by omega), show i + 1 + j - i = i + 1 + j - (i + 1) + 1 by omega, List.getElem?_cons_succ]

theorem mapIdxFrom_add (w i : Nat) (bs : Bytes) :
    mapIdxFrom (fun k b => (w + k, b)) i bs = (cellsFrom i bs).map (fun c => (w + c.1, c.2)) := by
  induction bs generalizing i with
  | nil => rfl
  | cons b bs ih => simp [mapIdxFrom, ih]

theorem Tab.find_eq_none {α : Type} {t : Tab α} {k : Nat} (h : ∀ c ∈ t, c.1 ≠ k) : Tab.find t k = none := by
  induction t with
  | nil => rfl
  | cons c t ih =>
    rw [List.forall_mem_cons] at h
    rw [Tab.find, if_neg (Ne.symm h.1), ih h.2]

/-- A key above all the others goes to the end. -/
theorem Tab.set_eq_append {α : Type} {t : Tab α} {k : Nat} (v : α) (h : ∀ c ∈ t, c.1 < k) : Tab.set t k v = t ++ [(k, v)] := by
  induction t with
  | nil => rfl
  | cons c t ih =>
    rw [List.forall_mem_cons] at h
    obtain ⟨hc, ht⟩ := h
    rw [Tab.set, if_neg (by omega), if_neg (by omega), ih ht, List.cons_append]

namespace Machine

/-! ### Single bytes -/

theorem MemState.byte_setByte (m : MemState) (a x : Nat) (b : Byte) :
    (m.setByte a b).byte x = if x = a then b else m.byte x := by
  unfold MemState.setByte MemState.byte
  by_cases hx : x = a
  · subst hx
    split <;> simp [Tab.get, *]
  · split <;> simp [Tab.get, Tab.find_set_ne, Tab.find_del_ne, hx]

@[simp] theorem MemState.setBytes_chk (m : MemState) (l : List (Nat × Byte)) : (m.setBytes l).chk = m.chk := by
  induction l generalizing m with
  | nil => rfl
  | cons c l ih => exact ih (m.setByte c.1 c.2)

@[simp] theorem MemState.setBytes_t0bad (m : MemState) (l : List (Nat × Byte)) : (m.setBytes l).t0bad = m.t0bad := by
  induction l generalizing m with
  | nil => rfl
  | cons c l ih => exact ih (m.setByte c.1 c.2)

/-- Cells put at a base: a byte below the base, or that no cell names, is as before. -/
theorem MemState.byte_setBytes {cells : Tab Byte} (h : Rising cells) (m : MemState) (base x : Nat) :
    (m.setBytes (cells.map (fun c => (base + c.1, c.2)))).byte x =
      if base ≤ x then (Tab.find cells (x - base)).getD (m.byte x) else m.byte x := by
  induction cells generalizing m with
  | nil => simp [MemState.setBytes]
  | cons c cells ih =>
    obtain ⟨hc, hcells⟩ := List.pairwise_cons.1 h
    have step := ih hcells (m.setByte (base + c.1) c.2)
    rw [MemState.byte_setByte] at step
    refine step.trans ?_
    by_cases hx : x = base + c.1
    · have hlast : Tab.find cells c.1 = none := Tab.find_eq_none (fun d hd => (hc d hd).ne')
      simp [hx, Tab.find, hlast]
    · by_cases hle : base ≤ x
      · simp [hx, hle, Tab.find, show x - base ≠ c.1 by omega]
      · simp [hx, hle]

/-! ### Storage words -/

/-- How a word decodes depends on its own bytes, check field and mark alone. -/
theorem MemState.wordState_congr {m n : MemState} {w : Nat} (hchk : Tab.find n.chk w = Tab.find m.chk w)
    (hbad : n.t0bad = m.t0bad) (hbyte : ∀ x, x / 64 = w → n.byte x = m.byte x) : n.wordState w = m.wordState w := by
  have hraw : n.rawWord w = m.rawWord w := by
    unfold MemState.rawWord
    refine congrArg leNat (List.map_congr_left fun i hi => hbyte _ ?_)
    rw [mem_upto] at hi
    omega
  simp only [MemState.wordState, hchk, hbad, hraw]

/-- A word with no check field and no mark is clean; a good word carries no mark. -/
theorem MemState.wordState_clean {m n : MemState} {w : Nat} (hgood : (m.wordState w).isBad = false)
    (hchk : Tab.find n.chk w = none) (hbad : n.t0bad = m.t0bad) : n.wordState w = .clean := by
  unfold MemState.wordState at hgood ⊢
  split
  · rw [hchk]
  · rename_i hdie
    rw [if_neg hdie] at hgood
    rw [hbad]
    cases hfind : Tab.find m.t0bad w with
    | none => rfl
    | some _ => simp [hfind, WordState.isBad] at hgood

theorem MemState.readByte_congr {m n : MemState} {x : Nat} (hstate : n.wordState (x / 64) = m.wordState (x / 64))
    (hbyte : n.byte x = m.byte x) : n.readByte x = m.readByte x := by
  simp only [MemState.readByte, hstate, hbyte]

theorem MemState.readByte_clean {m : MemState} {x : Nat} (h : m.wordState (x / 64) = .clean) : m.readByte x = m.byte x := by
  simp only [MemState.readByte, h]

/-- Cells of a good word are put over what the word reads as, and the word's check field goes (R371). -/
theorem MemState.writeWord_good {m : MemState} {w : Nat} (cells : Tab Byte) (h : (m.wordState w).isBad = false) :
    ∃ n : MemState, m.writeWord w cells
        = ({ n.setBytes (cells.map (fun c => (w * 64 + c.1, c.2))) with chk := m.chk.del w }, false)
      ∧ n.t0bad = m.t0bad ∧ ∀ x, n.byte x = if x / 64 = w then m.readByte x else m.byte x := by
  unfold MemState.writeWord
  cases hstate : m.wordState w with
  | clean =>
    refine ⟨m, rfl, rfl, fun x => ?_⟩
    split
    · subst_vars
      exact (MemState.readByte_clean hstate).symm
    · rfl
  | corrected d =>
    refine ⟨_, rfl, MemState.setBytes_t0bad _ _, fun x => ?_⟩
    rw [mapIdxFrom_add, MemState.byte_setBytes (rising_cellsFrom _ _), find_cellsFrom _ (Nat.zero_le _), Nat.sub_zero]
    by_cases hx : x / 64 = w
    · rw [if_pos (by omega), if_pos hx, show x - w * 64 = x % 64 by omega, getElem?_toLe d (Nat.mod_lt x (by decide)),
        Option.getD_some]
      simp only [MemState.readByte, hx, hstate]
    · have hout : w * 64 ≤ x → (toLe 64 d)[x - w * 64]? = none := fun _ =>
        List.getElem?_eq_none (by rw [length_toLe]; omega)
      rw [if_neg hx]
      split
      · rw [hout ‹_›, Option.getD_none]
      · rfl
  | poisoned => simp [hstate, WordState.isBad] at h
  | uncorrectable => simp [hstate, WordState.isBad] at h

/-- A good word written reads as the cells say, and where they say nothing as before; every other word is as before. -/
theorem MemState.readByte_writeWord {m : MemState} {w : Nat} {cells : Tab Byte} (hgood : (m.wordState w).isBad = false)
    (hrise : Rising cells) (hlt : ∀ c ∈ cells, c.1 < 64) (x : Nat) :
    (m.writeWord w cells).1.readByte x =
      if x / 64 = w then (Tab.find cells (x % 64)).getD (m.readByte x) else m.readByte x := by
  obtain ⟨n, hwrite, hbad, hbyte⟩ := MemState.writeWord_good cells hgood
  rw [hwrite]
  have hplaced := MemState.byte_setBytes hrise n (w * 64)
  by_cases hx : x / 64 = w
  · have hclean := MemState.wordState_clean
      (n := { n.setBytes (cells.map (fun c => (w * 64 + c.1, c.2))) with chk := m.chk.del w })
      hgood (Tab.find_del_self _ _) ((MemState.setBytes_t0bad _ _).trans hbad)
    rw [MemState.readByte_clean (hx ▸ hclean)]
    refine (hplaced x).trans ?_
    rw [if_pos (by omega), hbyte, if_pos hx, if_pos hx, show x - w * 64 = x % 64 by omega]
  · have hsame : ∀ y, y / 64 = x / 64 →
        (n.setBytes (cells.map (fun c => (w * 64 + c.1, c.2)))).byte y = m.byte y := by
      intro y hy
      have hnone : w * 64 ≤ y → Tab.find cells (y - w * 64) = none := fun _ =>
        Tab.find_eq_none (fun c hc => by have := hlt c hc; omega)
      rw [hplaced, hbyte, if_neg (show ¬y / 64 = w by rwa [hy])]
      split
      · rw [hnone ‹_›, Option.getD_none]
      · rfl
    rw [if_neg hx]
    exact MemState.readByte_congr
      (MemState.wordState_congr (Tab.find_del_ne _ hx) ((MemState.setBytes_t0bad _ _).trans hbad) hsame) (hsame x rfl)

/-! ### Lines: 64 bytes at an aligned address -/

/-- An offset inside an aligned line changes no quotient by a multiple of the line, and adds to the remainder. -/
theorem add_div_mod_line {x k : Nat} (m : Nat) (hx : x % 64 = 0) (hk : k < 64) :
    (x + k) / (64 * m) = x / (64 * m) ∧ (x + k) % (64 * m) = x % (64 * m) + k := by
  have hdiv : (x + k) / (64 * m) = x / (64 * m) := by
    rw [← Nat.div_div_eq_div_mul, ← Nat.div_div_eq_div_mul, show (x + k) / 64 = x / 64 by omega]
  have hsum := Nat.div_add_mod (x + k) (64 * m)
  have hbase := Nat.div_add_mod x (64 * m)
  rw [hdiv] at hsum
  exact ⟨hdiv, by omega⟩

/-- The storage of an aligned line is an aligned word, in either view and on-die (R210). -/
theorem storageOf_add {a st k : Nat} (ha : a % 64 = 0) (h : storageOf a = some st) (hk : k < 64) :
    storageOf (a + k) = some (st + k) ∧ st % 64 = 0 := by
  have hstack : stackTop = 0xC000000000 := rfl
  have hinter : interBase = 0x10000000000 := rfl
  have htile : tileBase = 0x30000000000 := rfl
  have hdie : onDieTop = 0x3000E000000 := rfl
  have hchannel : channelBytes = 0xC0000000 := rfl
  unfold storageOf at h ⊢
  dsimp only at h ⊢
  rw [hchannel] at h ⊢
  split at h
  case isTrue pinned =>
    rw [if_pos (by omega), Option.some.injEq]
    rw [Option.some.injEq] at h
    omega
  case isFalse notPinned =>
    split at h
    case isTrue interleaved =>
      rw [if_neg (by omega), if_pos (by omega), Option.some.injEq]
      rw [Option.some.injEq] at h
      obtain ⟨hquad, hrow⟩ := add_div_mod_line (x := a - interBase) 0x18000000 (by omega) hk
      obtain ⟨hunit, hbyte⟩ := add_div_mod_line (x := (a - interBase) % 0x600000000) 4 (by omega) hk
      rw [show a + k - interBase = a - interBase + k by omega, hquad, hrow, hunit, hbyte]
      omega
    case isFalse notInterleaved =>
      split at h
      case isTrue onDie =>
        rw [if_neg (by omega), if_neg (by omega), if_pos (by omega), Option.some.injEq]
        rw [Option.some.injEq] at h
        omega
      case isFalse => cases h

theorem storageWords_line {a st : Nat} (ha : a % 64 = 0) (h : storageOf a = some st) : storageWords a 64 = [st / 64] := by
  have hcount : (a + 64 - 1) / 64 + 1 - a / 64 = 1 := by omega
  have hstart : a / 64 * 64 = a := by omega
  simp only [storageWords, wordStarts, if_neg (show ¬(64 : Nat) = 0 by decide), hcount, rangeFrom, List.map_cons,
    List.map_nil, hstart]
  simp [h]

theorem splitWords_single (f a : Nat) (b : Byte) : splitWords (f + 2) a [b] = [(a, [b])] := by
  obtain ⟨k, hk⟩ : ∃ k, 64 - a % 64 = k + 1 := ⟨63 - a % 64, by omega⟩
  simp [splitWords, hk]

/-- Cells put one by one into the word they rise in. -/
theorem foldl_putPiece {w : Nat} (old cells : Tab Byte) (h : Rising (old ++ cells)) :
    cells.foldl (fun acc c => putPiece w [c] acc) [(w, old)] = [(w, old ++ cells)] := by
  induction cells generalizing old with
  | nil => simp
  | cons c cells ih =>
    obtain ⟨-, -, habove⟩ := List.pairwise_append.1 h
    have hlast : ∀ d ∈ old, d.1 < c.1 := fun d hd => habove d hd c List.mem_cons_self
    have hput : putPiece w [c] [(w, old)] = [(w, old ++ [c])] := by
      simp [putPiece, overlayCells, Tab.set_eq_append c.2 hlast]
    rw [List.foldl_cons, hput, ih _ (by simpa using h), List.append_assoc, List.singleton_append]

/-- Single bytes of a line are one write of its storage word (R36). -/
theorem wordWrites_line {a st : Nat} {cells : Tab Byte} (ha : a % 64 = 0) (hst : storageOf a = some st)
    (hrise : Rising cells) (hlt : ∀ c ∈ cells, c.1 < 64) :
    wordWrites (cells.map (fun c => (a + c.1, [c.2]))) = if cells = [] then [] else [(st / 64, cells)] := by
  have hpieces : (cells.map (fun c => (a + c.1, [c.2]))).flatMap (fun w => splitWords (w.2.length + 1) w.1 w.2)
      = cells.map (fun c => (a + c.1, [c.2])) := by
    rw [List.flatMap_map]
    simp [splitWords_single, ← List.map_eq_flatMap]
  unfold wordWrites
  simp only [hpieces, List.foldl_map]
  refine (congrArg List.reverse (List.foldl_ext _ (fun acc c => putPiece (st / 64) [c] acc) _ ?_)).trans ?_
  · intro acc c hc
    have hk := hlt c hc
    obtain ⟨hadd, hmod⟩ := storageOf_add ha hst hk
    simp [hadd, mapIdxFrom, show (st + c.1) / 64 = st / 64 by omega, show (st + c.1) % 64 = c.1 by omega]
  · cases cells with
    | nil => rfl
    | cons c cells =>
      have hfirst : putPiece (st / 64) [c] [] = [(st / 64, [c])] := rfl
      rw [List.foldl_cons, hfirst, foldl_putPiece _ _ hrise]
      rfl

end Machine

end Sys2Proof
end

section
/-!
PROOFS. Host and core accesses: what releasing, counting and noting a read leave alone, what a masked store of a good line
leaves in memory, and what an access does that nothing holds.
-/

namespace Sys2Proof.Machine

/-! ### What surrounds an access -/

/-- A release lowers token buckets and touches nothing else (R309). -/
theorem State.eq_of_release {s u : State} {f b : Nat} (h : s.release f b = some u) : u = { s with tm := u.tm } := by
  unfold State.release at h
  dsimp only at h
  split at h
  · cases h
    split <;> split <;> rfl
  · cases h

theorem State.mem_of_release {s u : State} {f b : Nat} (h : s.release f b = some u) : u.mem = s.mem := by
  rw [State.eq_of_release h]
theorem State.out_of_release {s u : State} {f b : Nat} (h : s.release f b = some u) : u.out = s.out := by
  rw [State.eq_of_release h]
theorem State.gaz_of_release {s u : State} {f b : Nat} (h : s.release f b = some u) : u.gaz = s.gaz := by
  rw [State.eq_of_release h]
theorem State.inset_of_release {s u : State} {f b : Nat} (h : s.release f b = some u) (j : Nat) : u.inset j = s.inset j := by
  rw [State.eq_of_release h]
  rfl
theorem State.blocked_of_release {s u : State} {f b : Nat} (h : s.release f b = some u) (a : Held) :
    u.blocked a = s.blocked a := by
  rw [State.eq_of_release h]
  rfl

theorem State.noteRead_eq (s : State) (a n : Nat) : s.noteRead a n = { s with rel := (s.noteRead a n).rel } := by
  unfold State.noteRead
  dsimp only
  split <;> rfl

@[simp] theorem State.noteRead_mem (s : State) (a n : Nat) : (s.noteRead a n).mem = s.mem := by rw [State.noteRead_eq]
@[simp] theorem State.noteRead_out (s : State) (a n : Nat) : (s.noteRead a n).out = s.out := by rw [State.noteRead_eq]

@[simp] theorem State.cxlBytes_mem (s : State) (h : Held) : (s.cxlBytes h).mem = s.mem := by
  unfold State.cxlBytes
  split <;> simp
@[simp] theorem State.cxlBytes_out (s : State) (h : Held) : (s.cxlBytes h).out = s.out := by
  unfold State.cxlBytes
  split <;> simp
@[simp] theorem State.cxlBytes_gaz (s : State) (h : Held) : (s.cxlBytes h).gaz = s.gaz := by
  unfold State.cxlBytes
  split <;> simp

theorem State.charge_ckpt (s : State) (i k n j : Nat) : ((s.charge i k n).inset j).ckpt = (s.inset j).ckpt := by
  unfold State.charge
  split
  · rfl
  · by_cases hj : j = i
    · subst hj
      rw [State.inset_modInset_self]
    · rw [State.inset_modInset_ne _ _ hj]

theorem State.inset_countBytes (s : State) (e u i p d n j : Nat) : (s.countBytes e u i p d n).inset j = s.inset j := by
  simp [State.inset]

theorem State.cxlBytes_ckpt (s : State) (h : Held) (j : Nat) : ((s.cxlBytes h).inset j).ckpt = (s.inset j).ckpt := by
  unfold State.cxlBytes
  rw [State.charge_ckpt]
  split <;> rw [State.inset_countBytes]

theorem State.readBytes_congr {s t : State} (h : t.mem = s.mem) (a n : Nat) : t.readBytes a n = s.readBytes a n := by
  unfold State.readBytes
  rw [h]

theorem State.rangeBad_congr {s t : State} (h : t.mem = s.mem) (a n : Nat) : t.rangeBad a n = s.rangeBad a n := by
  unfold State.rangeBad
  rw [h]

/-! ### Storing where no checkpoint is being captured -/

/-- No checkpoint of any Inset has groups left to capture. -/
def State.NoCapture (s : State) : Prop := ∀ j, (s.inset j).ckpt.left = []

/-- With nothing left to capture, a write saves no group first (R249). -/
theorem State.saveGroup_noCapture {s : State} (h : s.NoCapture) (st : Nat) : s.saveGroup st = (s, none) := by
  unfold State.saveGroup
  split
  · rfl
  · split
    · rfl
    · dsimp only
      split
      · rfl
      · simp [h _]

@[simp] theorem State.markDirty_out (s : State) (st : Nat) : (s.markDirty st).out = s.out := by
  unfold State.markDirty
  split <;> rfl

theorem State.readByte_markDirty (s : State) (st x : Nat) : (s.markDirty st).mem.readByte x = s.mem.readByte x := by
  unfold State.markDirty
  split <;> rfl

/-- A storage word written with no capture: the word's own write, no output, and no checkpoint aborted. -/
theorem State.storeWord_noCapture {s : State} (h : s.NoCapture) (w : Nat) (cells : Tab Byte) :
    (s.storeWord w cells).1.out = s.out ∧ (s.storeWord w cells).2.2 = none
      ∧ ∀ x, (s.storeWord w cells).1.mem.readByte x = (s.mem.writeWord w cells).1.readByte x := by
  unfold State.storeWord
  rw [State.saveGroup_noCapture h]
  dsimp only
  refine ⟨?_, rfl, fun x => ?_⟩
  · split <;> simp
  · split <;> simp [State.readByte_markDirty]

theorem State.storeAll_nil (s : State) : (s.storeAll []).1 = s := rfl

theorem State.storeAll_single_noCapture {s : State} (h : s.NoCapture) (w : Nat) (cells : Tab Byte) :
    (s.storeAll [(w, cells)]).1 = (s.storeWord w cells).1 := by
  obtain ⟨-, hnone, -⟩ := State.storeWord_noCapture h w cells
  simp [State.storeAll, State.storeWords, hnone]

/-- The bytes of a line that a mask names, as cells of its word. -/
def maskedCells (data : Bytes) (mask : Nat) : Tab Byte := Tab.keep (bit mask) (cellsFrom 0 data)

theorem rising_maskedCells (data : Bytes) (mask : Nat) : Rising (maskedCells data mask) :=
  List.Pairwise.filter _ (rising_cellsFrom 0 data)

theorem lt_of_mem_maskedCells {data : Bytes} {mask : Nat} {c : Nat × Byte} (h : c ∈ maskedCells data mask) :
    c.1 < data.length := by
  have := bounds_of_mem_cellsFrom (List.mem_filter.1 h).1
  omega

theorem find_maskedCells (data : Bytes) (mask k : Nat) :
    Tab.find (maskedCells data mask) k = if bit mask k = true then data[k]? else none := by
  rw [maskedCells, Tab.find_keep, find_cellsFrom _ (Nat.zero_le k), Nat.sub_zero]

theorem State.storeMasked_eq (s : State) (a : Nat) (data : Bytes) (mask : Nat) :
    s.storeMasked a data mask = (s.storeAll (wordWrites ((maskedCells data mask).map (fun c => (a + c.1, [c.2]))))).1 := rfl

/-- What the cells of a word under a mask say about byte `x` of memory. -/
theorem maskedCells_byte {data : Bytes} {st : Nat} (hdata : data.length = 64) (hst : st % 64 = 0) (mask x : Nat) (old : Byte) :
    (if x / 64 = st / 64 then (Tab.find (maskedCells data mask) (x % 64)).getD old else old)
      = if st ≤ x ∧ x < st + 64 ∧ bit mask (x - st) = true then nth 0 data (x - st) else old := by
  by_cases hx : x / 64 = st / 64
  · have hoff : x % 64 = x - st := by omega
    have hin : x - st < data.length := by omega
    rw [if_pos hx, hoff, find_maskedCells]
    by_cases hbit : bit mask (x - st) = true
    · rw [if_pos hbit, if_pos ⟨by omega, by omega, hbit⟩, nth_eq_getD, List.getElem?_eq_getElem hin]
      rfl
    · rw [if_neg hbit, if_neg (fun ⟨_, _, hmask⟩ => hbit hmask), Option.getD_none]
  · rw [if_neg hx, if_neg (by omega)]

/-- A masked store of a good aligned line leaves the bytes the mask names and no other change, and sends nothing (R371). -/
theorem State.storeMasked_line {s : State} {a st : Nat} {data : Bytes} (h : s.NoCapture) (ha : a % 64 = 0)
    (hst : storageOf a = some st) (hdata : data.length = 64) (hgood : s.rangeBad a 64 = false) (mask : Nat) :
    (s.storeMasked a data mask).out = s.out
      ∧ ∀ x, (s.storeMasked a data mask).mem.readByte x =
        if st ≤ x ∧ x < st + 64 ∧ bit mask (x - st) = true then nth 0 data (x - st) else s.mem.readByte x := by
  have hlt : ∀ c ∈ maskedCells data mask, c.1 < 64 := fun c hc => hdata ▸ lt_of_mem_maskedCells hc
  have hmod : st % 64 = 0 := (storageOf_add ha hst (k := 0) (by decide)).2
  have hword : (s.mem.wordState (st / 64)).isBad = false := by
    simpa [State.rangeBad, storageWords_line ha hst] using hgood
  rw [State.storeMasked_eq, wordWrites_line ha hst (rising_maskedCells data mask) hlt]
  split
  case isTrue hempty =>
    rw [State.storeAll_nil]
    refine ⟨rfl, fun x => ?_⟩
    rw [← maskedCells_byte hdata hmod, hempty, Tab.find_nil, Option.getD_none, ite_self]
  case isFalse =>
    obtain ⟨hout, -, hread⟩ := State.storeWord_noCapture h (st / 64) (maskedCells data mask)
    rw [State.storeAll_single_noCapture h]
    refine ⟨hout, fun x => ?_⟩
    rw [hread, MemState.readByte_writeWord hword (rising_maskedCells data mask) hlt, maskedCells_byte hdata hmod]

/-! ### Accesses that nothing holds -/

theorem State.arrive_free {s : State} {h : Held} (hfree : s.blocked h = false) : s.arrive h = s.performHeld h := by
  rw [State.arrive, if_neg (by simp [hfree])]

/-- A host request that a decoder gives to an Inset, that the Inset's flow releases and that nothing holds is performed in
the state the release leaves (R340, R309). -/
theorem State.cxlRequest_performed {s u : State} {hpa len i a : Nat} {write : Option (Bytes × Nat × Bool)}
    (hs : s.alive = true) (ht : s.hdmTarget hpa = some (i, a)) (hw : s.host.waiting.any (fun w => w.inset == i) = false)
    (hu : s.release (1024 + i) 1 = some u) (hfree : s.blocked ⟨none, i, hpa, a, len, write, s.clk.cycle⟩ = false) :
    s.cxlRequest hpa len write = u.performCxl ⟨none, i, hpa, a, len, write, s.clk.cycle⟩ := by
  have harrive : s.cxlRequest hpa len write = u.arrive ⟨none, i, hpa, a, len, write, s.clk.cycle⟩ := by
    simp [State.cxlRequest, hs, ht, hw, hu]
  rw [harrive, State.arrive_free ((State.blocked_of_release hu _).trans hfree)]
  rfl

theorem State.cxlRequest_unmapped {s : State} {hpa : Nat} (hs : s.alive = true) (ht : s.hdmTarget hpa = none) (len : Nat)
    (write : Option (Bytes × Nat × Bool)) : s.cxlRequest hpa len write = s.emit (.cxlUnserved hpa) := by
  simp [State.cxlRequest, hs, ht]

/-- A host read of good words answers the bytes memory reads and changes no memory. -/
theorem State.performCxl_read {s : State} {i hpa a len c : Nat} (hbar : Dict.barred s.gaz.regs i a len = false)
    (hgood : s.rangeBad a len = false) :
    (s.performCxl ⟨none, i, hpa, a, len, none, c⟩).out = s.out ++ [.cxlData hpa (s.readBytes a len) false]
      ∧ (s.performCxl ⟨none, i, hpa, a, len, none, c⟩).mem = s.mem := by
  simp [State.performCxl, hbar, hgood, State.rangeBad_congr (State.cxlBytes_mem s _), State.emit,
    State.readBytes_congr ((State.noteRead_mem _ a len).trans (State.cxlBytes_mem s _))]

/-- A host write of a good aligned line with no poison, with no capture, leaves the bytes its mask names and no other change,
and completes. -/
theorem State.performCxl_write_line {s : State} {i hpa a st c mask : Nat} {data : Bytes}
    (hbar : Dict.barred s.gaz.regs i a 64 = false) (hgood : s.rangeBad a 64 = false) (hcap : s.NoCapture)
    (ha : a % 64 = 0) (hst : storageOf a = some st) (hdata : data.length = 64) :
    (s.performCxl ⟨none, i, hpa, a, 64, some (data, mask, false), c⟩).out = s.out ++ [.cxlDone hpa]
      ∧ ∀ x, (s.performCxl ⟨none, i, hpa, a, 64, some (data, mask, false), c⟩).mem.readByte x =
        if st ≤ x ∧ x < st + 64 ∧ bit mask (x - st) = true then nth 0 data (x - st) else s.mem.readByte x := by
  generalize hh : (⟨none, i, hpa, a, 64, some (data, mask, false), c⟩ : Held) = h
  have hperform : s.performCxl h = ((s.cxlBytes h).storeMasked a data mask).emit (.cxlDone hpa) := by
    subst hh
    simp [State.performCxl, hbar]
  obtain ⟨hout, hmem⟩ := State.storeMasked_line (s := s.cxlBytes h)
    (fun j => (congrArg Ckpt.left (State.cxlBytes_ckpt s h j)).trans (hcap j)) ha hst hdata
    ((State.rangeBad_congr (State.cxlBytes_mem s h) a 64).trans hgood) mask
  rw [State.cxlBytes_out] at hout
  rw [State.cxlBytes_mem] at hmem
  rw [hperform]
  exact ⟨congrArg (· ++ [Out.cxlDone hpa]) hout, hmem⟩

/-- A core's read of good words answers the bytes memory reads and changes no memory. -/
theorem State.performCore_read {s : State} {core i a n c : Nat} (hgood : s.rangeBad a n = false) :
    (s.performCore core ⟨some core, i, a, a, n, none, c⟩).out = s.out ++ [.coreData core a (some (s.readBytes a n))]
      ∧ (s.performCore core ⟨some core, i, a, a, n, none, c⟩).mem = s.mem := by
  simp [State.performCore, hgood, State.emit, State.readBytes_congr (State.noteRead_mem s a n)]

/-- A read whose flit is lost draws one free value and ends with its poison answer (R22). -/
theorem State.cxlReadLost_mapped {s : State} {hpa i a : Nat} (hs : s.alive = true) (ht : s.hdmTarget hpa = some (i, a)) :
    (s.cxlReadLost hpa).draws = s.draws + 1
      ∧ ∃ v, (s.cxlReadLost hpa).out.getLast? = some (.cxlData hpa v true) := by
  have hlost : s.cxlReadLost hpa = ((s.draw 512).2.event i Code.NOC_UNCORRECTABLE 0 a).emit
      (.cxlData hpa (toLe 64 (s.draw 512).1) true) := by
    simp [State.cxlReadLost, hs, ht]
  rw [hlost]
  exact ⟨(EventFrame.event _ _ _ _ _).draws, _, List.getLast?_concat⟩

/-! ### Core accesses -/

/-- Bytes that a core access moves. -/
def coreLength (acc : CoreAccess) : Nat :=
  match acc.data with
  | none => acc.len
  | some b => b.length

section Core
variable {s : State} {acc : CoreAccess}

theorem execControlCoreAccess_empty (hc : acc.core < 16) (hn : coreLength acc = 0) :
    execControlCoreAccess acc s = .next s := by
  rw [execControlCoreAccess, if_neg (by omega)]
  exact if_pos (.inl hn)

theorem execControlCoreAccess_lost (hc : acc.core < 16) (hs : s.serves = true) (hn : coreLength acc ≠ 0)
    (hnoc : acc.noc = true) :
    execControlCoreAccess acc s = .next (s.coreError Code.NOC_UNCORRECTABLE (s.coreInset acc.core) acc) := by
  rw [execControlCoreAccess, if_neg (by omega)]
  exact (if_neg (not_or.2 ⟨hn, by simp [hs]⟩)).trans (if_pos hnoc)

/-- Storage that an Inset's cores reach: it exists, the Inset owns it, and nothing bars it (R239, R240). -/
def State.coreReaches (s : State) (i a n : Nat) : Bool :=
  rangeExists a n && !Dict.barred s.gaz.regs i a n && Dict.rangeOwned s.gaz.regs i a n

/-- A core access that nothing holds is performed at once. -/
theorem State.arrive_core {core i a n c : Nat} {write : Option (Bytes × Nat × Bool)} (hproc : s.inProc a n = false)
    (hdrain : (write.isNone && s.behindDrain a n) = false) :
    s.arrive ⟨some core, i, a, a, n, write, c⟩ = s.performCore core ⟨some core, i, a, a, n, write, c⟩ :=
  State.arrive_free (Bool.or_eq_false_iff.2 ⟨hproc, hdrain⟩)

section OfInset
variable {i : Nat} (hc : acc.core < 16) (hs : s.serves = true) (hi : s.coreInset acc.core = some i)
  (hn : coreLength acc ≠ 0) (hnoc : acc.noc = false)
  (hout : ¬ (apertureBase ≤ acc.addr ∧ acc.addr + coreLength acc ≤ apertureBase + 256 * 0x100000))
include hc hs hi hn hnoc hout

/-- A core access of an Inset outside the apertures arrives at memory where the Inset reaches it, and is refused else. -/
theorem execControlCoreAccess_memory :
    execControlCoreAccess acc s = .next (if s.coreReaches i acc.addr (coreLength acc) = true then
      s.arrive ⟨some acc.core, i, acc.addr, acc.addr, coreLength acc,
        acc.data.map (fun b => (b, 2 ^ coreLength acc - 1, false)), s.clk.cycle⟩
      else s.refuseCore (some i) acc) := by
  rw [execControlCoreAccess, if_neg (by omega)]
  refine (if_neg (not_or.2 ⟨hn, by simp [hs]⟩)).trans ((if_neg (by simp [hnoc])).trans ((if_neg hout).trans ?_))
  simp only [hi]
  exact (apply_ite _ _ _ _).symm

theorem execControlCoreAccess_load (hreach : s.coreReaches i acc.addr (coreLength acc) = true) (hdata : acc.data = none)
    (hproc : s.inProc acc.addr (coreLength acc) = false) (hdrain : s.behindDrain acc.addr (coreLength acc) = false) :
    execControlCoreAccess acc s = .next (s.performCore acc.core
      ⟨some acc.core, i, acc.addr, acc.addr, coreLength acc, none, s.clk.cycle⟩) := by
  rw [execControlCoreAccess_memory hc hs hi hn hnoc hout, if_pos hreach, hdata, Option.map_none,
    State.arrive_core (write := none) hproc hdrain]

theorem execControlCoreAccess_store {b : Bytes} (hreach : s.coreReaches i acc.addr (coreLength acc) = true)
    (hdata : acc.data = some b) (hproc : s.inProc acc.addr (coreLength acc) = false) :
    execControlCoreAccess acc s = .next (s.storeBytes acc.addr b) := by
  rw [execControlCoreAccess_memory hc hs hi hn hnoc hout, if_pos hreach, hdata, Option.map_some,
    State.arrive_core hproc rfl]
  rfl

end OfInset

end Core

end Sys2Proof.Machine

open Sys2Proof Sys2Proof.Machine

/-- Settles O50: an access that nothing holds is performed at once, a host's in the state that its flow's release leaves.
The operands of R22, the cores' errors and the barred ranges are the choice of log entry 78, the unserved answer that of 120. -/
theorem hostAndCoreAccessesReadAndWriteMemory : Obligations.HostAndCoreAccessesReadAndWriteMemory := by
  intro s hs
  have halive : s.alive = true := (Bool.and_eq_true_iff.1 hs).1
  refine ⟨fun hpa ht => ?_, fun hpa i a u ht hw hu hproc hbar hgood => ?_, fun hpa i a ht => ?_, fun acc hc => ?_⟩
  · have hunserved := State.cxlRequest_unmapped halive ht 64
    exact ⟨congrArg Host.Outcome.next (hunserved _), fun _ _ _ => congrArg Host.Outcome.next (hunserved _)⟩
  · have hmem := State.mem_of_release hu
    have hbar' : Dict.barred u.gaz.regs i a 64 = false := by rwa [State.gaz_of_release hu]
    have hgood' : u.rangeBad a 64 = false := by rwa [State.rangeBad_congr hmem]
    have held : ∀ write, (write.isNone && s.behindDrain a 64) = false →
        s.cxlRequest (hpa / 64 * 64) 64 write = u.performCxl ⟨none, i, hpa / 64 * 64, a, 64, write, s.clk.cycle⟩ :=
      fun write hdrain => State.cxlRequest_performed halive ht hw hu (Bool.or_eq_false_iff.2 ⟨hproc, hdrain⟩)
    rw [exec_cxlMemRead]
    refine ⟨fun hdrain => ⟨_, congrArg Host.Outcome.next (held none hdrain), ?_⟩, fun st data mask _ ha hst hdata hckpt => ?_⟩
    · rw [← hmem, ← State.out_of_release hu, ← State.readBytes_congr hmem]
      exact State.performCxl_read hbar' hgood'
    · have hline : (data ++ zeros 64).take 64 = data := List.take_left' hdata
      have hcap : u.NoCapture := fun j => by rw [State.inset_of_release hu, hckpt]
      rw [exec_cxlMemWrite, execCxlMemWrite, hline]
      refine ⟨_, congrArg Host.Outcome.next (held _ rfl), ?_⟩
      rw [← hmem, ← State.out_of_release hu]
      exact State.performCxl_write_line hbar' hgood' hcap ha hst hdata
  · obtain ⟨hdraws, v, hout⟩ := State.cxlReadLost_mapped halive ht
    exact ⟨_, v, exec_cxlMemRead _ _ _, hdraws, hout⟩
  · rw [exec_controlCoreAccess]
    refine ⟨execControlCoreAccess_empty hc, execControlCoreAccess_lost hc hs, fun i hi hn hnoc hout => ?_⟩
    refine ⟨fun hrefused => ?_, fun hreach hload hproc hdrain hgood => ?_, fun b hreach hstore hproc => ?_⟩
    · exact (execControlCoreAccess_memory hc hs hi hn hnoc hout).trans
        (congrArg Host.Outcome.next (if_neg (ne_true_of_eq_false hrefused)))
    · exact ⟨_, execControlCoreAccess_load hc hs hi hn hnoc hout hreach hload hproc hdrain, State.performCore_read hgood⟩
    · exact execControlCoreAccess_store hc hs hi hn hnoc hout hreach hstore hproc
end

section
/-!
PROOFS. The writes of a drain, byte by byte: the pieces that its writes are cut into, the storage words they are merged into
(R36, log entry 112), and what memory reads once every word is written.
-/

namespace Sys2Proof

theorem mapIdxFrom_append {α β : Type} (f : Nat → α → β) (i : Nat) (l m : List α) :
    mapIdxFrom f i (l ++ m) = mapIdxFrom f i l ++ mapIdxFrom f (i + l.length) m := by
  induction l generalizing i with
  | nil => rfl
  | cons a l ih =>
    simp only [List.cons_append, mapIdxFrom, ih, List.length_cons]
    rw [show i + 1 + l.length = i + (l.length + 1) by omega]

theorem mapIdxFrom_shift {α β : Type} (f : Nat → α → β) (n i : Nat) (l : List α) :
    mapIdxFrom (fun k a => f (n + k) a) i l = mapIdxFrom f (n + i) l := by
  induction l generalizing i with
  | nil => rfl
  | cons a l ih => rw [mapIdxFrom, mapIdxFrom, ih, Nat.add_assoc]

theorem length_mapIdxFrom {α β : Type} (f : Nat → α → β) (i : Nat) (l : List α) : (mapIdxFrom f i l).length = l.length := by
  induction l generalizing i with
  | nil => rfl
  | cons a l ih => rw [mapIdxFrom, List.length_cons, List.length_cons, ih]

/-! ### Tables with distinct keys -/

theorem Tab.find_eq_some_iff {α : Type} {t : Tab α} (h : t.Pairwise (fun c d => c.1 ≠ d.1)) {k : Nat} {v : α} :
    Tab.find t k = some v ↔ (k, v) ∈ t := by
  induction t with
  | nil => simp
  | cons c t ih =>
    obtain ⟨hc, ht⟩ := List.pairwise_cons.1 h
    rw [Tab.find, List.mem_cons]
    by_cases hk : k = c.1
    · have habsent : (k, v) ∉ t := fun hv => hc _ hv hk.symm
      simp [hk, hk ▸ habsent, Prod.ext_iff, eq_comm]
    · rw [if_neg hk, ih ht]
      simp [Prod.ext_iff, hk]

theorem Tab.find_reverse {α : Type} {t : Tab α} (h : t.Pairwise (fun c d => c.1 ≠ d.1)) (k : Nat) :
    Tab.find t.reverse k = Tab.find t k := by
  have hrev : t.reverse.Pairwise (fun c d => c.1 ≠ d.1) := List.pairwise_reverse.2 (h.imp Ne.symm)
  refine Option.ext fun v => ?_
  rw [Tab.find_eq_some_iff hrev, Tab.find_eq_some_iff h, List.mem_reverse]

theorem Tab.find_isSome_iff {α : Type} {t : Tab α} {k : Nat} : (Tab.find t k).isSome = true ↔ k ∈ t.map (·.1) := by
  induction t with
  | nil => simp
  | cons c t ih =>
    rw [Tab.find, List.map_cons, List.mem_cons, ← ih]
    split <;> simp [*]

theorem Rising.set {α : Type} {t : Tab α} (k : Nat) (v : α) (h : Rising t) : Rising (Tab.set t k v) := by
  induction t with
  | nil => exact List.pairwise_singleton _ _
  | cons c t ih =>
    obtain ⟨hc, ht⟩ := List.pairwise_cons.1 h
    rw [Tab.set]
    split
    case isTrue heq => exact .cons (fun d hd => heq ▸ hc d hd) ht
    case isFalse hne =>
      split
      case isTrue hlt =>
        refine .cons (fun d hd => ?_) h
        rcases List.mem_cons.1 hd with rfl | hd
        · exact hlt
        · exact hlt.trans (hc d hd)
      case isFalse =>
        refine .cons (fun d hd => ?_) (ih ht)
        rcases Machine.Tab.mem_set hd with rfl | hd
        · show c.1 < k
          omega
        · exact hc d hd

end Sys2Proof

namespace Sys2Proof.Machine

/-! ### Pieces of a write -/

/-- The bytes of a write with their addresses, in order. -/
def addressed (w : Nat × Bytes) : List (Nat × Byte) := mapIdxFrom (fun k b => (w.1 + k, b)) 0 w.2

theorem mem_addressed {w : Nat × Bytes} {e : Nat × Byte} (h : e ∈ addressed w) : ∃ k, k < w.2.length ∧ e.1 = w.1 + k := by
  rw [addressed, mapIdxFrom_add, List.mem_map] at h
  obtain ⟨c, hc, rfl⟩ := h
  have := bounds_of_mem_cellsFrom hc
  exact ⟨c.1, by omega, rfl⟩

/-- The last byte of a list that names storage byte `x`, else `old`. -/
def lastByte (l : List (Nat × Byte)) (old : Byte) (x : Nat) : Byte :=
  l.foldl (fun b e => if storageOf e.1 = some x then e.2 else b) old

theorem drainedByte_eq (ws : List (Nat × Bytes)) (old : Byte) (x : Nat) :
    drainedByte ws old x = lastByte (ws.flatMap addressed) old x := rfl

theorem lastByte_append (l m : List (Nat × Byte)) (old : Byte) (x : Nat) :
    lastByte (l ++ m) old x = lastByte m (lastByte l old x) x := List.foldl_append

theorem addressed_append (a : Nat) (l m : Bytes) : addressed (a, l ++ m) = addressed (a, l) ++ addressed (a + l.length, m) := by
  have shift := mapIdxFrom_shift (fun n (b : Byte) => (a + n, b)) l.length 0 m
  simp only [← Nat.add_assoc, Nat.add_zero] at shift
  simp only [addressed, mapIdxFrom_append, Nat.zero_add, shift]

theorem splitWords_of_ne_nil (f a : Nat) {bs : Bytes} (h : bs ≠ []) :
    splitWords (f + 1) a bs = (a, bs.take (64 - a % 64)) :: splitWords f (a + (64 - a % 64)) (bs.drop (64 - a % 64)) := by
  cases bs with
  | nil => exact absurd rfl h
  | cons b bs => rfl

/-- Cutting a write at word ends changes none of its bytes. -/
theorem flatMap_addressed_splitWords {f : Nat} {a : Nat} {bs : Bytes} (h : bs.length < f) :
    (splitWords f a bs).flatMap addressed = addressed (a, bs) := by
  induction f generalizing a bs with
  | zero => omega
  | succ f ih =>
    cases bs with
    | nil => rfl
    | cons b bs =>
      rw [splitWords_of_ne_nil _ _ (List.cons_ne_nil b bs), List.flatMap_cons,
        ih (by simp only [List.length_drop, List.length_cons] at h ⊢; omega)]
      by_cases hlong : 64 - a % 64 ≤ (b :: bs).length
      · have htake : ((b :: bs).take (64 - a % 64)).length = 64 - a % 64 := List.length_take_of_le hlong
        conv_rhs => rw [← List.take_append_drop (64 - a % 64) (b :: bs), addressed_append, htake]
      · rw [List.take_of_length_le (by omega), List.drop_of_length_le (by omega)]
        exact List.append_nil _

/-- A piece stays inside one word of node addresses. -/
theorem length_le_of_mem_splitWords {f a : Nat} {bs : Bytes} {p : Nat × Bytes} (h : p ∈ splitWords f a bs) :
    p.1 % 64 + p.2.length ≤ 64 := by
  induction f generalizing a bs with
  | zero => simp [splitWords] at h
  | succ f ih =>
    cases bs with
    | nil => simp [splitWords] at h
    | cons b bs =>
      rw [splitWords_of_ne_nil _ _ (List.cons_ne_nil b bs), List.mem_cons] at h
      rcases h with rfl | h
      · simp only [List.length_take]
        omega
      · exact ih h

/-- An address is storage exactly where the start of its line is: every area begins and ends at a line. -/
theorem storageOf_line_none {a k : Nat} (ha : a % 64 = 0) (h : storageOf a = none) (hk : k < 64) : storageOf (a + k) = none := by
  have hstack : stackTop = 0xC000000000 := rfl
  have hinter : interBase = 0x10000000000 := rfl
  have htile : tileBase = 0x30000000000 := rfl
  have hdie : onDieTop = 0x3000E000000 := rfl
  unfold storageOf at h ⊢
  dsimp only at h ⊢
  split at h
  case isTrue => cases h
  case isFalse =>
    split at h
    case isTrue => cases h
    case isFalse =>
      split at h
      case isTrue => cases h
      case isFalse => rw [if_neg (by omega), if_neg (by omega), if_neg (by omega)]

/-- The bytes after a byte in its line lie after it in storage; and none is storage where it is not. -/
theorem storageOf_inLine {a k : Nat} (hk : a % 64 + k < 64) : storageOf (a + k) = (storageOf a).map (· + k) := by
  have hbase : a / 64 * 64 % 64 = 0 := by omega
  have hself : a / 64 * 64 + a % 64 = a := by omega
  have hnext : a / 64 * 64 + (a % 64 + k) = a + k := by omega
  cases hst : storageOf (a / 64 * 64) with
  | none =>
    have hnone := storageOf_line_none hbase hst (k := a % 64) (by omega)
    have hnone' := storageOf_line_none hbase hst hk
    rw [hself] at hnone
    rw [hnext] at hnone'
    rw [hnone, hnone', Option.map_none]
  | some st =>
    obtain ⟨hsome, -⟩ := storageOf_add hbase hst (k := a % 64) (by omega)
    obtain ⟨hsome', -⟩ := storageOf_add hbase hst hk
    rw [hself] at hsome
    rw [hnext] at hsome'
    rw [hsome, hsome', Option.map_some, Nat.add_assoc]

theorem storageOf_mod_line {a st : Nat} (h : storageOf a = some st) : st % 64 = a % 64 := by
  have hbase : a / 64 * 64 % 64 = 0 := by omega
  have hself : a / 64 * 64 + a % 64 = a := by omega
  cases hst : storageOf (a / 64 * 64) with
  | none =>
    have hnone := storageOf_line_none hbase hst (k := a % 64) (by omega)
    rw [hself, h] at hnone
    cases hnone
  | some lo =>
    obtain ⟨hsome, hlo⟩ := storageOf_add hbase hst (k := a % 64) (by omega)
    rw [hself, h, Option.some.injEq] at hsome
    omega

theorem lastByte_of_none {l : List (Nat × Byte)} {x : Nat} (h : ∀ e ∈ l, storageOf e.1 ≠ some x) (old : Byte) :
    lastByte l old x = old := by
  induction l generalizing old with
  | nil => rfl
  | cons e l ih =>
    rw [List.forall_mem_cons] at h
    obtain ⟨he, hl⟩ := h
    rw [lastByte, List.foldl_cons, if_neg he]
    exact ih hl old

/-- What a run of bytes in one line says about a storage byte. -/
theorem lastByte_addressed {a st : Nat} {bs : Bytes} (hline : a % 64 + bs.length ≤ 64) (hst : storageOf a = some st)
    (old : Byte) (x : Nat) :
    lastByte (addressed (a, bs)) old x = if st ≤ x then (bs[x - st]?).getD old else old := by
  induction bs generalizing a st old with
  | nil => simp [addressed, lastByte, mapIdxFrom]
  | cons b bs ih =>
    have hcons : addressed (a, b :: bs) = (a, b) :: addressed (a + 1, bs) := addressed_append a [b] bs
    rw [List.length_cons] at hline
    rw [hcons, lastByte, List.foldl_cons, ← lastByte]
    simp only [hst, Option.some.injEq]
    by_cases hlast : bs = []
    · subst hlast
      by_cases hx : st = x
      · subst hx
        simp [addressed, lastByte, mapIdxFrom]
      · have hout : st ≤ x → [b][x - st]? = none := fun _ => List.getElem?_eq_none (by rw [List.length_singleton]; omega)
        rw [if_neg hx]
        split
        · rw [hout ‹_›]
          rfl
        · rfl
    · have hpos := List.length_pos_of_ne_nil hlast
      have hnext : storageOf (a + 1) = some (st + 1) := by
        rw [storageOf_inLine (by omega), hst, Option.map_some]
      rw [ih (by omega) hnext]
      by_cases hx : st = x
      · subst hx
        simp
      · by_cases hle : st ≤ x
        · rw [if_pos (by omega), if_pos hle, if_neg hx, show x - st = x - (st + 1) + 1 by omega, List.getElem?_cons_succ]
        · rw [if_neg (by omega), if_neg hle, if_neg hx]

/-! ### Words merged from pieces -/

/-- Words to be written: latest word first, and the cells of each rise inside it. -/
structure Falling (ws : List (Nat × Tab Byte)) : Prop where
  keys : ws.Pairwise (fun c d => d.1 < c.1)
  cells : ∀ c ∈ ws, Rising c.2 ∧ ∀ e ∈ c.2, e.1 < 64

theorem Falling.distinct {ws : List (Nat × Tab Byte)} (h : Falling ws) : ws.Pairwise (fun c d => c.1 ≠ d.1) :=
  h.keys.imp fun hlt => Nat.ne_of_gt hlt

/-- What words to be written say about storage byte `x`. -/
def wordsByte (ws : Tab (Tab Byte)) (x : Nat) : Option Byte := (Tab.find ws (x / 64)).bind (fun c => Tab.find c (x % 64))

theorem find_foldl_set {new : Tab Byte} (old : Tab Byte) (h : Rising new) (k : Nat) :
    Tab.find (new.foldl (fun t c => t.set c.1 c.2) old) k = (Tab.find new k).or (Tab.find old k) := by
  induction new generalizing old with
  | nil => simp
  | cons c new ih =>
    obtain ⟨hc, hnew⟩ := List.pairwise_cons.1 h
    rw [List.foldl_cons, ih _ hnew, Tab.find]
    by_cases hk : k = c.1
    · have hlast : Tab.find new k = none := Tab.find_eq_none (fun d hd => by have := hc d hd; omega)
      rw [hlast, if_pos hk, hk, Tab.find_set_self]
      rfl
    · rw [if_neg hk, Tab.find_set_ne _ _ hk]

theorem find_cellsFrom_below {i k : Nat} (bs : Bytes) (h : k < i) : Tab.find (cellsFrom i bs) k = none :=
  Tab.find_eq_none fun _ hc => by
    have := bounds_of_mem_cellsFrom hc
    omega

/-- The cells of a piece over those of its word: the piece's bytes, and elsewhere what stood there. -/
theorem find_overlayCells {o k : Nat} {bs : Bytes} {old : Tab Byte} (hline : o + bs.length ≤ 64) (hold : ∀ e ∈ old, e.1 < 64) :
    Tab.find (overlayCells old (cellsFrom o bs)) k = (Tab.find (cellsFrom o bs) k).or (Tab.find old k) := by
  rw [overlayCells]
  split
  case isTrue hfull =>
    rw [cellsFrom, length_mapIdxFrom] at hfull
    obtain rfl : o = 0 := by omega
    by_cases hk : k < 64
    · rw [find_cellsFrom _ (Nat.zero_le k), Nat.sub_zero, List.getElem?_eq_getElem (by omega)]
      rfl
    · rw [Tab.find_eq_none (t := old) (fun c hc => by have := hold c hc; omega), Option.or_none]
  case isFalse => exact find_foldl_set old (rising_cellsFrom o bs) k

theorem rising_overlayCells {o : Nat} {bs : Bytes} {old : Tab Byte} (hline : o + bs.length ≤ 64)
    (h : Rising old ∧ ∀ e ∈ old, e.1 < 64) :
    Rising (overlayCells old (cellsFrom o bs)) ∧ ∀ e ∈ overlayCells old (cellsFrom o bs), e.1 < 64 := by
  have hnew : ∀ c ∈ cellsFrom o bs, c.1 < 64 := fun c hc => by
    have := bounds_of_mem_cellsFrom hc
    omega
  rw [overlayCells]
  split
  · exact ⟨rising_cellsFrom o bs, hnew⟩
  · generalize cellsFrom o bs = new at hnew
    induction new generalizing old with
    | nil => exact h
    | cons c new ih =>
      rw [List.forall_mem_cons] at hnew
      obtain ⟨hc, hnew⟩ := hnew
      refine ih ⟨h.1.set c.1 c.2, fun e he => ?_⟩ hnew
      rcases Tab.mem_set he with rfl | he
      · exact hc
      · exact h.2 e he

theorem find_putPiece {ws : List (Nat × Tab Byte)} (h : ws.Pairwise (fun c d => d.1 < c.1)) (w : Nat) (cells : Tab Byte) (v : Nat) :
    Tab.find (putPiece w cells ws) v =
      if v = w then some (((Tab.find ws w).map (overlayCells · cells)).getD cells) else Tab.find ws v := by
  induction ws with
  | nil => simp [putPiece, Tab.find]
  | cons c ws ih =>
    obtain ⟨u, old⟩ := c
    obtain ⟨hu, hws⟩ := List.pairwise_cons.1 h
    rw [putPiece]
    split
    case isTrue hlt =>
      have habsent : Tab.find ((u, old) :: ws) w = none := Tab.find_eq_none fun c hc => by
        rcases List.mem_cons.1 hc with rfl | hc
        · exact hlt.ne
        · exact (Nat.lt_trans (hu c hc) hlt).ne
      rw [Tab.find, habsent]
      rfl
    case isFalse hle =>
      split
      case isTrue heq =>
        subst heq
        by_cases hv : v = u <;> simp [Tab.find, hv]
      case isFalse hne =>
        rw [Tab.find, Tab.find, Tab.find, if_neg (Ne.symm hne), ih hws]
        by_cases hv : v = u
        · rw [if_pos hv, if_pos hv, if_neg (by omega)]
        · rw [if_neg hv, if_neg hv]

theorem mem_putPiece {w : Nat} {cells : Tab Byte} {ws : List (Nat × Tab Byte)} {c : Nat × Tab Byte}
    (h : c ∈ putPiece w cells ws) : c ∈ ws ∨ c = (w, cells) ∨ ∃ old, (w, old) ∈ ws ∧ c = (w, overlayCells old cells) := by
  induction ws with
  | nil => exact .inr (.inl (List.mem_singleton.1 h))
  | cons d ws ih =>
    obtain ⟨u, old⟩ := d
    rw [putPiece] at h
    split at h
    · rcases List.mem_cons.1 h with rfl | h
      · exact .inr (.inl rfl)
      · exact .inl h
    · split at h
      · subst_vars
        rcases List.mem_cons.1 h with rfl | h
        · exact .inr (.inr ⟨old, List.mem_cons_self, rfl⟩)
        · exact .inl (List.mem_cons_of_mem _ h)
      · rcases List.mem_cons.1 h with rfl | h
        · exact .inl List.mem_cons_self
        · rcases ih h with h | h | ⟨o, ho, h⟩
          · exact .inl (List.mem_cons_of_mem _ h)
          · exact .inr (.inl h)
          · exact .inr (.inr ⟨o, List.mem_cons_of_mem _ ho, h⟩)

theorem pairwise_putPiece {ws : List (Nat × Tab Byte)} (h : ws.Pairwise (fun c d => d.1 < c.1)) (w : Nat) (cells : Tab Byte) :
    (putPiece w cells ws).Pairwise (fun c d => d.1 < c.1) := by
  induction ws with
  | nil => exact List.pairwise_singleton _ _
  | cons c ws ih =>
    obtain ⟨u, old⟩ := c
    obtain ⟨hu, hws⟩ := List.pairwise_cons.1 h
    rw [putPiece]
    split
    case isTrue hlt =>
      refine .cons (fun d hd => ?_) h
      rcases List.mem_cons.1 hd with rfl | hd
      · exact hlt
      · exact Nat.lt_trans (hu d hd) hlt
    case isFalse hle =>
      split
      case isTrue => exact .cons hu hws
      case isFalse hne =>
        refine .cons (fun d hd => ?_) (ih hws)
        rcases mem_putPiece hd with hd | rfl | ⟨_, -, rfl⟩
        · exact hu d hd
        · show w < u
          omega
        · show w < u
          omega

theorem Falling.putPiece {ws : List (Nat × Tab Byte)} (h : Falling ws) (w : Nat) {o : Nat} {bs : Bytes}
    (hline : o + bs.length ≤ 64) : Falling (putPiece w (cellsFrom o bs) ws) where
  keys := pairwise_putPiece h.keys w _
  cells c hc := by
    rcases mem_putPiece hc with hc | rfl | ⟨old, hold, rfl⟩
    · exact h.cells c hc
    · exact ⟨rising_cellsFrom o bs, fun e he => by have := bounds_of_mem_cellsFrom he; omega⟩
    · exact rising_overlayCells hline (h.cells _ hold)

theorem wordsByte_putPiece {ws : List (Nat × Tab Byte)} (h : Falling ws) (w : Nat) {o : Nat} {bs : Bytes}
    (hline : o + bs.length ≤ 64) (x : Nat) :
    wordsByte (putPiece w (cellsFrom o bs) ws) x =
      if x / 64 = w then (Tab.find (cellsFrom o bs) (x % 64)).or (wordsByte ws x) else wordsByte ws x := by
  unfold wordsByte
  rw [find_putPiece h.keys]
  split
  case isFalse => rfl
  case isTrue hw =>
    subst hw
    cases hold : Tab.find ws (x / 64) with
    | none => simp
    | some old =>
      have hmem : (x / 64, old) ∈ ws := (Tab.find_eq_some_iff h.distinct).1 hold
      exact find_overlayCells hline (h.cells _ hmem).2

/-- A piece of a write put into the words to be written; a piece that is no storage is dropped. -/
def putBytes (acc : List (Nat × Tab Byte)) (p : Nat × Bytes) : List (Nat × Tab Byte) :=
  match storageOf p.1 with
  | none => acc
  | some st => putPiece (st / 64) (cellsFrom (st % 64) p.2) acc

theorem putBytes_none {acc : List (Nat × Tab Byte)} {p : Nat × Bytes} (h : storageOf p.1 = none) : putBytes acc p = acc := by
  rw [putBytes, h]

theorem putBytes_some {acc : List (Nat × Tab Byte)} {p : Nat × Bytes} {st : Nat} (h : storageOf p.1 = some st) :
    putBytes acc p = putPiece (st / 64) (cellsFrom (st % 64) p.2) acc := by
  rw [putBytes, h]

theorem wordWrites_eq (ws : List (Nat × Bytes)) :
    wordWrites ws = ((ws.flatMap (fun w => splitWords (w.2.length + 1) w.1 w.2)).foldl putBytes []).reverse := rfl

theorem Falling.putBytes {acc : List (Nat × Tab Byte)} (h : Falling acc) {p : Nat × Bytes} (hline : p.1 % 64 + p.2.length ≤ 64) :
    Falling (putBytes acc p) := by
  cases hst : storageOf p.1 with
  | none => rwa [putBytes_none hst]
  | some st =>
    rw [putBytes_some hst]
    exact h.putPiece _ (by rwa [storageOf_mod_line hst])

/-- A piece put into the words names its bytes, over what the words said. -/
theorem wordsByte_putBytes {acc : List (Nat × Tab Byte)} (h : Falling acc) {p : Nat × Bytes}
    (hline : p.1 % 64 + p.2.length ≤ 64) (old : Byte) (x : Nat) :
    (wordsByte (putBytes acc p) x).getD old = lastByte (addressed p) ((wordsByte acc x).getD old) x := by
  cases hst : storageOf p.1 with
  | none =>
    rw [putBytes_none hst, lastByte_of_none]
    intro e he
    obtain ⟨k, hk, hek⟩ := mem_addressed he
    rw [hek, storageOf_inLine (by omega), hst]
    exact Option.some_ne_none _ ∘ Eq.symm
  | some st =>
    have hmod := storageOf_mod_line hst
    rw [putBytes_some hst, wordsByte_putPiece h _ (by omega), lastByte_addressed (a := p.1) hline hst]
    by_cases hw : x / 64 = st / 64
    · rw [if_pos hw]
      by_cases hx : st ≤ x
      · rw [if_pos hx, find_cellsFrom _ (by omega), show x % 64 - st % 64 = x - st by omega]
        cases p.2[x - st]? <;> rfl
      · rw [if_neg hx, find_cellsFrom_below _ (by omega), Option.none_or]
    · have hout : st ≤ x → p.2[x - st]? = none := fun _ => List.getElem?_eq_none (by omega)
      rw [if_neg hw]
      split
      · rw [hout ‹_›, Option.getD_none]
      · rfl

theorem Falling.foldl_putBytes {ps : List (Nat × Bytes)} (hline : ∀ p ∈ ps, p.1 % 64 + p.2.length ≤ 64)
    {acc : List (Nat × Tab Byte)} (h : Falling acc) : Falling (ps.foldl Machine.putBytes acc) := by
  induction ps generalizing acc with
  | nil => exact h
  | cons p ps ih =>
    rw [List.forall_mem_cons] at hline
    exact ih hline.2 (h.putBytes hline.1)

theorem wordsByte_foldl_putBytes {ps : List (Nat × Bytes)} (hline : ∀ p ∈ ps, p.1 % 64 + p.2.length ≤ 64)
    {acc : List (Nat × Tab Byte)} (h : Falling acc) (old : Byte) (x : Nat) :
    (wordsByte (ps.foldl putBytes acc) x).getD old = lastByte (ps.flatMap addressed) ((wordsByte acc x).getD old) x := by
  induction ps generalizing acc with
  | nil => rfl
  | cons p ps ih =>
    rw [List.forall_mem_cons] at hline
    obtain ⟨hp, hps⟩ := hline
    rw [List.foldl_cons, ih hps (h.putBytes hp), wordsByte_putBytes h hp, List.flatMap_cons, lastByte_append]

/-- Words to be written, each once: the keys differ and the cells of each rise inside it. -/
structure WordsOnce (ws : List (Nat × Tab Byte)) : Prop where
  distinct : ws.Pairwise (fun c d => c.1 ≠ d.1)
  cells : ∀ c ∈ ws, Rising c.2 ∧ ∀ e ∈ c.2, e.1 < 64

/-- Every piece of writes stays inside one word of node addresses. -/
theorem pieces_inLine {ws : List (Nat × Bytes)} {p : Nat × Bytes}
    (h : p ∈ ws.flatMap (fun w => splitWords (w.2.length + 1) w.1 w.2)) : p.1 % 64 + p.2.length ≤ 64 := by
  obtain ⟨w, -, hp⟩ := List.mem_flatMap.1 h
  exact length_le_of_mem_splitWords hp

theorem falling_pieces (ws : List (Nat × Bytes)) :
    Falling ((ws.flatMap (fun w => splitWords (w.2.length + 1) w.1 w.2)).foldl putBytes []) :=
  Falling.foldl_putBytes (fun _ => pieces_inLine) ⟨.nil, by simp⟩

/-- Writes to one word are one write of it (R36). -/
theorem wordsOnce_wordWrites (ws : List (Nat × Bytes)) : WordsOnce (wordWrites ws) where
  distinct := List.pairwise_reverse.2 ((falling_pieces ws).distinct.imp Ne.symm)
  cells c hc := (falling_pieces ws).cells c (List.mem_reverse.1 hc)

/-- The words of writes name, of every byte, the last that the writes name. -/
theorem wordsByte_wordWrites (ws : List (Nat × Bytes)) (old : Byte) (x : Nat) :
    (wordsByte (wordWrites ws) x).getD old = drainedByte ws old x := by
  have hpieces : (ws.flatMap (fun w => splitWords (w.2.length + 1) w.1 w.2)).flatMap addressed = ws.flatMap addressed := by
    rw [List.flatMap_assoc]
    exact congrArg (List.flatMap · ws) (funext fun w => flatMap_addressed_splitWords (Nat.lt_succ_self _))
  have hrev : wordsByte (wordWrites ws) x
      = wordsByte ((ws.flatMap (fun w => splitWords (w.2.length + 1) w.1 w.2)).foldl putBytes []) x := by
    rw [wordWrites_eq, wordsByte, Tab.find_reverse (falling_pieces ws).distinct, ← wordsByte]
  rw [hrev, wordsByte_foldl_putBytes (fun _ => pieces_inLine) ⟨.nil, by simp⟩, hpieces, drainedByte_eq]
  rfl

/-! ### Words written one after the other -/

/-- A good word written is clean, and no other word decodes differently. -/
theorem MemState.wordState_writeWord {m : MemState} {w : Nat} {cells : Tab Byte} (hgood : (m.wordState w).isBad = false)
    (hrise : Rising cells) (hlt : ∀ c ∈ cells, c.1 < 64) (v : Nat) :
    (m.writeWord w cells).1.wordState v = if v = w then .clean else m.wordState v := by
  obtain ⟨n, hwrite, hbad, hbyte⟩ := MemState.writeWord_good cells hgood
  rw [hwrite]
  split
  case isTrue hv =>
    subst hv
    exact MemState.wordState_clean hgood (Tab.find_del_self _ _) ((MemState.setBytes_t0bad _ _).trans hbad)
  case isFalse hv =>
    refine MemState.wordState_congr (Tab.find_del_ne _ hv) ((MemState.setBytes_t0bad _ _).trans hbad) fun x hx => ?_
    have hnone : w * 64 ≤ x → Tab.find cells (x - w * 64) = none := fun _ =>
      Tab.find_eq_none (fun c hc => by have := hlt c hc; omega)
    refine (MemState.byte_setBytes hrise n (w * 64) x).trans ?_
    rw [hbyte, if_neg (show ¬x / 64 = w by omega)]
    split
    · rw [hnone ‹_›, Option.getD_none]
    · rfl

theorem MemState.writeWord_merged {m : MemState} {w : Nat} (cells : Tab Byte) (hgood : (m.wordState w).isBad = false) :
    (m.writeWord w cells).2 = false := by
  obtain ⟨n, hwrite, -, -⟩ := MemState.writeWord_good cells hgood
  rw [hwrite]

theorem State.wordState_markDirty (s : State) (st v : Nat) : (s.markDirty st).mem.wordState v = s.mem.wordState v := by
  unfold State.markDirty
  split <;> rfl

theorem State.NoCapture.of_sched {s t : State} (h : s.NoCapture) (hs : t.sched = s.sched) : t.NoCapture := fun j => by
  rw [State.inset, hs]
  exact h j

theorem State.markDirty_sched (s : State) (st : Nat) : (s.markDirty st).sched = s.sched := by
  unfold State.markDirty
  split <;> rfl

/-- A good word stored while no checkpoint is captured: the schedule stays, nothing is lost, and the word is written. -/
structure StoredGood (s t : State) (ws : List (Nat × Tab Byte)) : Prop where
  sched : t.sched = s.sched
  word : ∀ v, t.mem.wordState v = if v ∈ ws.map (·.1) then .clean else s.mem.wordState v
  byte : ∀ x, t.mem.readByte x = (wordsByte ws x).getD (s.mem.readByte x)

theorem State.storeWord_good {s : State} (h : s.NoCapture) {c : Nat × Tab Byte} (hgood : (s.mem.wordState c.1).isBad = false)
    (hc : Rising c.2 ∧ ∀ e ∈ c.2, e.1 < 64) :
    (s.storeWord c.1 c.2).2 = (false, none) ∧ StoredGood s (s.storeWord c.1 c.2).1 [c] := by
  obtain ⟨-, hab, hbyte⟩ := State.storeWord_noCapture h c.1 c.2
  refine ⟨Prod.ext ?_ hab, ?_, fun v => ?_, fun x => ?_⟩
  · unfold State.storeWord
    rw [State.saveGroup_noCapture h]
    exact MemState.writeWord_merged c.2 hgood
  · unfold State.storeWord
    rw [State.saveGroup_noCapture h]
    dsimp only
    split <;> simp [State.markDirty_sched]
  · have hword : (s.storeWord c.1 c.2).1.mem.wordState v = (s.mem.writeWord c.1 c.2).1.wordState v := by
      unfold State.storeWord
      rw [State.saveGroup_noCapture h]
      dsimp only
      split <;> simp [State.wordState_markDirty]
    rw [hword, MemState.wordState_writeWord hgood hc.1 hc.2]
    simp
  · rw [hbyte, MemState.readByte_writeWord hgood hc.1 hc.2, wordsByte, Tab.find]
    split <;> rfl

/-- Good words stored while no checkpoint is captured, each once. -/
theorem State.storeWords_good {s : State} {ws : List (Nat × Tab Byte)} (h : s.NoCapture) (hws : WordsOnce ws)
    (hgood : ∀ w ∈ ws.map (·.1), (s.mem.wordState w).isBad = false) :
    (s.storeWords ws).2 = (false, []) ∧ StoredGood s (s.storeWords ws).1 ws := by
  unfold State.storeWords
  induction ws generalizing s with
  | nil => exact ⟨rfl, rfl, fun v => by simp, fun x => rfl⟩
  | cons c ws ih =>
    obtain ⟨hne, hdistinct⟩ := List.pairwise_cons.1 hws.distinct
    obtain ⟨hc, hcells⟩ := List.forall_mem_cons.1 hws.cells
    rw [List.map_cons, List.forall_mem_cons] at hgood
    obtain ⟨hflags, hone⟩ := State.storeWord_good h hgood.1 hc
    have hfresh : ∀ w ∈ ws.map (·.1), w ≠ c.1 := fun w hw => by
      obtain ⟨d, hd, rfl⟩ := List.mem_map.1 hw
      exact (hne d hd).symm
    have hstill : ∀ w ∈ ws.map (·.1), ((s.storeWord c.1 c.2).1.mem.wordState w).isBad = false := fun w hw => by
      rw [hone.word, List.map_singleton, if_neg (by simpa using hfresh w hw)]
      exact hgood.2 w hw
    obtain ⟨hflags', hrest⟩ := ih (h.of_sched hone.sched) ⟨hdistinct, hcells⟩ hstill
    rw [List.foldl_cons]
    simp only [hflags, Bool.or_self, Option.toList_none, List.append_nil]
    refine ⟨hflags', hrest.sched.trans hone.sched, fun v => ?_, fun x => ?_⟩
    · rw [hrest.word, hone.word]
      simp only [List.map_cons, List.map_nil, List.mem_cons, List.not_mem_nil, or_false]
      by_cases hv : v = c.1
      · simp [hv]
      · rw [if_neg hv]
        exact (if_congr (or_iff_right hv) rfl rfl).symm
    · rw [hrest.byte, hone.byte]
      by_cases hx : x / 64 = c.1
      · have habsent : Tab.find ws (x / 64) = none := Tab.find_eq_none fun d hd => by
          rw [hx]
          exact (hne d hd).symm
        simp [wordsByte, Tab.find, hx ▸ habsent, hx]
      · simp [wordsByte, Tab.find, hx]

end Sys2Proof.Machine
end

section
/-!
PROOFS. The end of a drain (R36, R38): what its counts, samples and charges leave alone, and the state it answers.
-/

namespace Sys2Proof.Machine

/-! ### Counts, samples and charges -/

/-- An update of counts: an event frame that leaves memory alone. -/
structure CountFrame (s t : State) : Prop extends EventFrame s t where
  mem : t.mem = s.mem

theorem CountFrame.refl (s : State) : CountFrame s s := ⟨.refl s, rfl⟩

theorem CountFrame.trans {a b c : State} (h : CountFrame a b) (k : CountFrame b c) : CountFrame a c :=
  ⟨h.toEventFrame.trans k.toEventFrame, k.mem.trans h.mem⟩

theorem CountFrame.ite {s t u : State} {p : Prop} [Decidable p] (h : CountFrame s t) (k : CountFrame s u) :
    CountFrame s (if p then t else u) := by
  split <;> assumption

theorem CountFrame.bump (s : State) (i k n : Nat) : CountFrame s (s.bump i k n) := ⟨.bump s i k n, State.bump_mem s i k n⟩

theorem CountFrame.setNum (s : State) (i k n : Nat) : CountFrame s (s.setNum i k n) := ⟨.setNum s i k n, rfl⟩

theorem CountFrame.ctr (s : State) (t : CtrState) : CountFrame s { s with ctr := t } :=
  ⟨⟨rfl, rfl, rfl, rfl, fun _ => rfl, rfl, rfl, rfl, rfl, rfl, rfl, rfl, rfl, rfl, rfl, rfl, rfl⟩, rfl⟩

theorem CountFrame.charge (s : State) (i k n : Nat) : CountFrame s (s.charge i k n) :=
  .ite (.refl s) ⟨.modInset s i _ fun _ => rfl, rfl⟩

theorem CountFrame.chargeCmd (s : State) (i : Nat) (c : Cmd) (now : Nat) : CountFrame s (s.chargeCmd i c now) :=
  .ite (.charge ..) (.ite (.charge ..) (.ite (.charge ..) (.ite (.charge ..) (.ite (.charge ..) (.refl s)))))

theorem CountFrame.pushSample (s : State) (rec : Nat) : CountFrame s (s.pushSample rec) := by
  refine .ite (.bump ..) ?_
  dsimp only
  refine CountFrame.trans ?_ (.setNum ..)
  refine CountFrame.trans ?_ (.ctr _ _)
  exact .ite (.bump ..) (.refl s)

theorem CountFrame.push {s t : State} (h : CountFrame s t) {rec : Nat} : CountFrame s (t.pushSample rec) :=
  h.trans (.pushSample t rec)

theorem CountFrame.sampleCmd (s : State) (r : CmdRef) (sh : Sheet) (c : Cmd) (drain : Nat) :
    CountFrame s (s.sampleCmd r sh c drain) := by
  unfold State.sampleCmd
  dsimp only
  exact .ite (.push (.ctr ..)) (.ite (.push (.ctr ..)) (.ite (.push (.ctr ..)) (.ite (.push (.ctr ..)) (.ctr ..))))

/-- The other commands that have not ended keep the Sheet from being done (R43). -/
theorem State.checkDone_of_live {s : State} {q : CmdRef} {y : Cmd} (hq : s.cmd q = some y) (hy : y.phase.ended = false) :
    s.checkDone q.inset = s := by
  obtain ⟨sh, hsh, hget⟩ := State.sheet_of_cmd hq
  have hall : sh.cmds.all (fun c => c.phase.ended) = false :=
    List.all_eq_false.2 ⟨y, List.mem_of_getElem? hget, by simp [hy]⟩
  simp [State.checkDone, hsh, hall]

theorem State.serveHeld_of_none {s : State} (h : s.host.held = []) : s.serveHeld = s := by
  have hhost : { s.host with held := [] } = s.host := by rw [← h]
  simp [State.serveHeld, h, hhost]

/-- A command ended with its record `c`: what its counts, its sample and its charges touch besides (R36, R397, Table 15-5). -/
theorem CountFrame.ended (s : State) (r : CmdRef) (sh : Sheet) (c d : Cmd) (p : Prop) [Decidable p] (n m now k : Nat) :
    CountFrame s ((((if p then s.bump r.inset G.EST_EXCEEDED n else s).sampleCmd r sh d m).chargeCmd r.inset c now).charge
      r.inset 6 k) :=
  (((CountFrame.ite (.bump ..) (.refl s)).trans (.sampleCmd ..)).trans (.chargeCmd ..)).trans (.charge ..)

/-- The drain of a command with no poison of its own and no bad staging word: its words, each once. -/
theorem State.drain_good {s : State} {x : Cmd} (hpoison : x.poison = []) (hcap : s.NoCapture)
    (hgood : ∀ w ∈ (wordWrites x.writes).map (·.1), (s.mem.wordState w).isBad = false) :
    (s.drain x []).2 = false ∧ StoredGood s (s.drain x []).1 (wordWrites x.writes)
      ∧ EventFrame s (s.drain x []).1 := by
  obtain ⟨hflags, hstored⟩ := State.storeWords_good hcap (wordsOnce_wordWrites x.writes) hgood
  have hdrain : s.drain x [] = ((s.storeWords (wordWrites x.writes)).1, false) := by
    simp [State.drain, State.storeAll, hpoison, hflags]
  rw [hdrain]
  exact ⟨rfl, hstored, .storeWords s _⟩

/-- The record of a command whose drain has ended. -/
def Cmd.drained (x : Cmd) (now : Nat) : Cmd :=
  { x with phase := .committed, endAt := now, writes := [], poison := [], onCommit := [], onDrain := [] }

/-- The end of a drain with no effect and no poison, while no access is held and a command of the Sheet has not ended: the
drain's writes, the command's record, and counts. -/
theorem State.endDrain_writes {s : State} {r : CmdRef} {sh : Sheet} {x : Cmd} (hflag : (s.drain x []).2 = false)
    (hframe : EventFrame s (s.drain x []).1) (heffects : x.onDrain = []) (hforced : x.rehearsed ≠ 0x006)
    (hheld : s.host.held = []) (hlive : ∃ q y, q ≠ r ∧ q.inset = r.inset ∧ s.cmd q = some y ∧ y.phase.ended = false) :
    CountFrame ((s.drain x []).1.modCmd r (fun _ => x.drained s.clk.cycle)) (s.endDrain r sh x []) := by
  obtain ⟨q, y, hqr, hqi, hq, hy⟩ := hlive
  generalize hdrain : s.drain x [] = p at hflag hframe ⊢
  obtain ⟨u, poisoned⟩ := p
  obtain rfl : poisoned = false := hflag
  have hended := CountFrame.ended (u.modCmd r (fun _ => x.drained s.clk.cycle)) r sh x (x.drained s.clk.cycle)
    (CmdW.est x.word < s.clk.cycle - x.issueAt) 1 (s.clk.cycle - x.commitAt) s.clk.cycle x.t1Bytes
  generalize hv : State.charge _ r.inset 6 x.t1Bytes = v at hended
  have hvheld : v.host.held = [] := by rw [hended.host, State.modCmd_host, hframe.host, hheld]
  have hvq : v.cmd q = some y := by rw [hended.cmd, State.cmd_modCmd, if_neg hqr, hframe.cmd, hq]
  have hend : s.endDrain r sh x [] = v.serveHeld.checkDone r.inset := by
    rw [← hv]
    simp [State.endDrain, hdrain, hforced, heffects, State.applyEffs, Cmd.drained]
  rwa [hend, State.serveHeld_of_none hvheld, ← hqi, State.checkDone_of_live hvq hy]

end Sys2Proof.Machine

open Sys2Proof Sys2Proof.Machine

/-- Settles O31: the words that the writes are merged into say, of every byte, the last that the writes name. Merging per word,
later over earlier, is log entry 112. -/
theorem drainWritesEveryByteOnce : Obligations.DrainWritesEveryByteOnce := by
  intro s r sh x hr _ hcmd hsheet hphase hwaits heffects hpoison hforced hheld hcap ⟨q, y, hqr, hqi, hq, hy⟩ hgood
  obtain ⟨hflag, hstored, hframe⟩ := State.drain_good hpoison hcap hgood
  have hcount := State.endDrain_writes (sh := sh) hflag hframe heffects hforced hheld ⟨q, y, hqr, hqi, hq, hy⟩
  have hexec : exec (.drainEnd r []) s = .next (s.endDrain r sh x []) := by
    rw [exec_drainEnd, execDrainEnd, if_neg (by simp [refOk, hr]), hcmd, hsheet]
    exact if_neg (by simp [hphase, hwaits])
  refine ⟨_, hexec, ?_, fun p hp => ?_, fun st => ⟨?_, ?_⟩⟩
  · rw [hcount.cmd, State.cmd_modCmd, if_pos rfl, hframe.cmd, hcmd, hpoison, heffects]
    rfl
  · rw [hcount.cmd, State.cmd_modCmd, if_neg hp, hframe.cmd]
  · rw [hcount.mem, State.modCmd_mem, hstored.byte, wordsByte_wordWrites]
  · rw [hcount.mem, State.modCmd_mem, hstored.word]
    simp only [List.contains_iff_mem]
end

section
/-!
PROOFS. The vector rows and the data movers: the work that each ends with (Table 3-8, Table 10-17).
-/

namespace Sys2Proof.Machine

/-! ### Vector rows -/

/-- Every vector row is the one row of the vector unit with its opcode. -/
theorem exec_vectorRows (r : CmdRef) (hw : Hw) (s : State) : ∀ e ∈ vectorRows r hw, exec e.2 s = s.vecRow r hw e.1 := by
  simp only [vectorRows, List.forall_mem_cons]
  exact ⟨exec_add .., exec_sub .., exec_mul .., exec_fma .., exec_min .., exec_max .., exec_abs .., exec_neg ..,
    exec_relu .., exec_cmpGt .., exec_vectorSelect .., exec_cvt .., exec_exp .., exec_log .., exec_recip ..,
    exec_rsqrt .., exec_tanh .., exec_sigmoid .., exec_gelu .., exec_rowSum .., exec_rowMax .., exec_rowSumsq ..,
    List.forall_mem_nil _⟩

/-- With good sources a vector command's work ends with its results at STAGE_OFF and DST_OFF (R78). -/
theorem State.vecWork_good {s : State} {op : Nat} {c : Cmd}
    (h : s.firstBad (vecReads (tileAddr c.index) (leNat c.params) op) = none) :
    let u := s.noteReads (vecReads (tileAddr c.index) (leNat c.params) op)
    s.vecWork op c = (u, .done (Work.ofWrites
      (vectorWrites u op c (VecP.stageOff (leNat c.params)) ++ vectorWrites u op c (VecP.dstOff (leNat c.params))))) := by
  dsimp only
  unfold State.vecWork vectorWrites
  simp only [h]
  by_cases hempty : VecP.nElem (leNat c.params) = 0
  · simp only [if_pos hempty]
    rfl
  · simp only [if_neg hempty]

/-! ### Data movers -/

/-- A run repeated: byte `k` is the run's byte at the remainder. -/
theorem getElem?_flatten_replicate {α : Type} {l : List α} {n k : Nat} (h : k < n * l.length) :
    (List.replicate n l).flatten[k]? = l[k % l.length]? := by
  induction n generalizing k with
  | zero => omega
  | succ n ih =>
    rw [List.replicate_succ, List.flatten_cons]
    by_cases hk : k < l.length
    · rw [List.getElem?_append_left hk, Nat.mod_eq_of_lt hk]
    · rw [List.getElem?_append_right (by omega), ih (by rw [Nat.succ_mul] at h; omega), ← Nat.mod_eq_sub_mod (by omega)]

/-- The detectors that kill a whole command belong to engines 1 to 6 (Table 18-11). -/
theorem forcedKill_of_engine_gt {c : Cmd} (h : 6 < c.engine) (data : Bool) : forcedKill c data = none := by
  unfold forcedKill
  repeat rw [if_neg (by omega)]

end Sys2Proof.Machine

open Sys2Proof Sys2Proof.Machine

/-- Settles O20. That staging is written with the drain, so that memory is unchanged here, is log entry 115. -/
theorem vectorRowsFinishWithTheirResults : Obligations.VectorRowsFinishWithTheirResults := by
  intro r hw op i hi s c hr hc hh hf hgood
  refine ⟨_, (exec_vectorRows r hw s _ hi).trans ?_, State.finish_workDone _ (State.running_cmd hc).1⟩
  exact State.engineRow_done hr hc hh hf (State.vecWork_good hgood)

/-- Settles O26. -/
theorem fillAndCopyStageExactBytes : Obligations.FillAndCopyStageExactBytes := by
  refine ⟨fun s r hw c hr hc hh => ?_, fun s r hw c hr hc hh => ?_⟩
  · obtain ⟨hcmd, -, hengine, -⟩ := State.running_cmd hc
    have hlen : (List.replicate (MovP.len (leNat c.params) / 8) (toLe 8 (MovP.pattern (leNat c.params)))).flatten.length
        = 8 * (MovP.len (leNat c.params) / 8) := by
      simp [length_toLe, Nat.mul_comm]
    refine ⟨_, _, (exec_dmFill r hw s).trans (State.engineRow_done hr hc hh (forcedKill_of_engine_gt (by omega) _) rfl),
      State.finish_workDone _ hcmd, hlen, fun k hk => ?_⟩
    rw [hlen] at hk
    rw [getElem?_flatten_replicate (by rw [length_toLe]; omega), length_toLe, getElem?_toLe _ (Nat.mod_lt k (by decide)),
      Nat.shiftRight_eq_div_pow, Nat.pow_mul]
  · obtain ⟨hcmd, -, hengine, -⟩ := State.running_cmd hc
    refine ⟨_, _, (exec_dmCopy r hw s).trans (State.engineRow_done hr hc hh (forcedKill_of_engine_gt (by omega) _) rfl),
      State.finish_workDone _ hcmd, ?_⟩
    unfold copyWork
    split
    case isTrue hforced => exact ⟨rfl, rfl, rfl, rfl, fun h => absurd hforced.1 h⟩
    case isFalse => exact ⟨rfl, rfl, rfl, rfl, fun _ => rfl⟩
end

section
/-!
PROOFS. The traverse rows, and the rows whose work shows before the commit point: with good reads nothing stops their work.
-/

namespace Sys2Proof.Machine

/-! ### Reads of good memory -/

theorem State.rangeBad_of_good {s : State} (h : ∀ w, (s.mem.wordState w).isBad = false) (a n : Nat) :
    s.rangeBad a n = false :=
  List.any_eq_false.2 fun w _ => by simp [h w]

theorem State.firstBad_of_good {s : State} (h : ∀ w, (s.mem.wordState w).isBad = false) (ranges : List (Nat × Nat)) :
    s.firstBad ranges = none :=
  List.findSome?_eq_none_iff.2 fun _ _ => List.find?_eq_none.2 fun a _ => by simp [State.rangeBad_of_good h a 1]

theorem State.readFault_of_good {s : State} {c : Cmd} (h : ReadsGood s c) (ranges : List (Nat × Nat)) :
    s.readFault c ranges = none := by
  simp [State.readFault, h.unforced, State.firstBad_of_good h.words]

/-! ### The traverse rows (R134 to R160) -/

/-- Every slot of the range is free, and no query header asks for filter mode 3: SEARCH_START binds them. -/
theorem State.startWork_done {s : State} {r : CmdRef} {c : Cmd}
    (h : ∀ k, k < TrvP.slotCount (leNat c.params) → s.slot c.index (TrvP.slotBase (leNat c.params) + k) = none
      ∧ QryH.filterMode (s.readNat (TrvP.inAddr (leNat c.params) + k * TrvP.inStride (leNat c.params)) 64) ≠ 3) :
    EndsDone (s.startWork r c) := by
  have hfree : (upto (TrvP.slotCount (leNat c.params))).any (fun k =>
      (s.slot c.index (TrvP.slotBase (leNat c.params) + k)).isSome) = false :=
    List.any_eq_false.2 fun k hk => by simp [(h k (mem_upto.1 hk)).1]
  have hmode : (upto (TrvP.slotCount (leNat c.params))).any (fun k =>
      !s.rangeBad (TrvP.inAddr (leNat c.params) + k * TrvP.inStride (leNat c.params)) 64
        && QryH.filterMode (s.readNat (TrvP.inAddr (leNat c.params) + k * TrvP.inStride (leNat c.params)) 64) == 3)
      = false :=
    List.any_eq_false.2 fun k hk => by simp [(h k (mem_upto.1 hk)).2]
  unfold State.startWork
  dsimp only
  rw [if_neg (ne_true_of_eq_false hfree), if_neg (ne_true_of_eq_false hmode)]
  exact ⟨_, _, rfl⟩

theorem State.finishWork_done {s : State} {c : Cmd} (r : CmdRef) (h : ReadsGood s c) : EndsDone (s.finishWork r c) := by
  unfold State.finishWork
  dsimp only
  rw [State.firstBad_of_good h.words, ite_self]
  exact ⟨_, _, rfl⟩

/-- A maintenance header that passes its checks: the command starts from it (R147). -/
theorem State.maintStart_ok {s : State} {r : CmdRef} {c : Cmd} (h : ReadsGood s c)
    (hhead : headerOk (s.readNat (MntD.base ((Dict.maint s.gaz.regs r.inset (TrvP.index (leNat c.params))).getD 0)) 128)
      (s.index r.inset (TrvP.index (leNat c.params)))
      ((Dict.maint s.gaz.regs r.inset (TrvP.index (leNat c.params))).getD 0) = true) (extra : List (Nat × Nat)) :
    ∃ m, s.maintStart r c extra = .ok m := by
  unfold State.maintStart
  simp only [State.readFault_of_good h, hhead, if_true]
  exact ⟨_, rfl⟩

section Maintenance
variable {s : State} {r : CmdRef} {c : Cmd} {m : MSt}

theorem State.linkWork_done (h : s.maintStart r c [] = .ok m) : EndsDone (s.linkWork r c) := by
  unfold State.linkWork
  simp only [h]
  exact ⟨_, _, rfl⟩

theorem State.deleteWork_done
    (h : s.maintStart r c [(TrvP.inAddr (leNat c.params), 16 * TrvP.slotCount (leNat c.params))] = .ok m) :
    EndsDone (s.deleteWork r c) := by
  unfold State.deleteWork
  simp only [h]
  exact ⟨_, _, rfl⟩

theorem State.consolidateWork_done (h : s.maintStart r c [] = .ok m) : EndsDone (s.consolidateWork r c) := by
  unfold State.consolidateWork
  simp only [h]
  exact ⟨_, _, rfl⟩

end Maintenance

/-! ### Rows whose work shows at once (R221, R248, R262, R263, R266) -/

theorem execBsuRun_done {s : State} {r : CmdRef} {hw : Hw} {c y : Cmd} (hr : r.inset < 16) (hc : s.running r 7 2 = some c)
    (hh : s.hwFault r c hw = none) (hf : forcedKill c false = none)
    (hy : (((upto (RunP.count (leNat c.params))).filter (fun k => !c.progress.contains k)).foldl
      (fun s k => s.planOp r k) s).cmd r = some y) :
    execBsuRun r hw s = .next ((((upto (RunP.count (leNat c.params))).filter (fun k => !c.progress.contains k)).foldl
      (fun s k => s.planOp r k) s).finish r { Work.none with writes := y.writes, poison := y.poison }) := by
  refine State.engineRowOpen_done hr hc hh hf ?_
  simp only [hy]

theorem State.gatherWork_done {s : State} {c : Cmd} (r : CmdRef) (h : ReadsGood s c) (reads : List FlashRead) :
    EndsDone (s.gatherWork r c reads) := by
  unfold State.gatherWork
  simp only [State.readFault_of_good h]
  exact ⟨_, _, rfl⟩

/-- With good reads and good sources, SCRIBE_WRITE ends with results where each of its pages is programmed (R263). -/
theorem State.scribeWriteWork_done {s : State} {c : Cmd} (r : CmdRef) (h : ReadsGood s c) (phys : FlashPhys)
    (v : State × List WriteEnt) (hv : (s.noteReads [(ScrP.listAddr (leNat c.params), ScrP.listBytes (leNat c.params))]).writeEntries
      r.inset (leNat c.params) c = v) (hsrc : v.2.any (fun e => v.1.rangeBad e.src e.len) = false)
    (hpages : ((nub (v.2.map (·.lpn))).foldl (Writing.page r.inset c v.2)
      ⟨v.1.noteReads (v.2.map (fun e => (e.src, e.len))), phys, [], [], none⟩).fault = none) :
    EndsDone (s.scribeWriteWork r c phys) := by
  unfold State.scribeWriteWork
  simp only [State.readFault_of_good h, hv, hsrc, h.unforced, hpages]
  exact ⟨_, _, rfl⟩

end Sys2Proof.Machine

open Sys2Proof Sys2Proof.Machine

/-- Settles O23. -/
theorem traverseRowsFinish : Obligations.TraverseRowsFinish := by
  refine ⟨fun r hw => ⟨?_, ?_, ?_, ?_, ?_, ?_, ?_⟩, fun s r c => ⟨⟨_, rfl⟩, _, rfl⟩, fun s r c => State.startWork_done,
    fun s r c hgood => ⟨State.finishWork_done r hgood, fun hhead => ?_⟩⟩
  · exact rowFinishes_of (exec_searchStart r hw)
  · exact rowFinishes_of (exec_searchExpand r hw)
  · exact rowFinishes_of (exec_searchFetchList r hw)
  · exact rowFinishes_of (exec_searchFinish r hw)
  · exact rowFinishes_of (exec_insertLink r hw)
  · exact rowFinishes_of (exec_delete r hw)
  · exact rowFinishes_of (exec_consolidate r hw)
  · obtain ⟨m, hm⟩ := State.maintStart_ok hgood hhead []
    obtain ⟨n, hn⟩ := State.maintStart_ok hgood hhead
      [(TrvP.inAddr (leNat c.params), 16 * TrvP.slotCount (leNat c.params))]
    exact ⟨State.linkWork_done hm, State.deleteWork_done hn, State.consolidateWork_done hm⟩

/-- Settles O37. What a checkpoint and a background window do is the choice of log entries 70 and 71. -/
theorem openRowsFinishWithTheirWork : Obligations.OpenRowsFinishWithTheirWork := by
  intro s r c hr
  refine ⟨fun hw hc hh hf y hy => ?_, fun reads u w hc hwork hf => ?_, fun phys u w hc hwork hf => ?_, fun phys hc => ?_,
    fun phys hc => ?_, fun hgood => ⟨State.gatherWork_done r hgood, fun phys => State.scribeWriteWork_done r hgood phys _ rfl⟩⟩
  · exact (exec_bsuRun r hw s).trans (execBsuRun_done hr hc hh hf hy)
  · exact (exec_scribeGather r reads s).trans (State.engineRowOpen_done hr hc rfl hf hwork)
  · exact (exec_scribeWrite r phys s).trans (State.engineRowOpen_done hr hc rfl hf hwork)
  · obtain ⟨-, -, hengine, -⟩ := State.running_cmd hc
    exact (exec_ckptWindow r phys s).trans
      (State.engineRowOpen_done hr hc rfl (forcedKill_of_engine_gt (by omega) _) rfl)
  · obtain ⟨-, -, hengine, -⟩ := State.running_cmd hc
    exact (exec_bgWindow r phys s).trans
      (State.engineRowOpen_done hr hc rfl (forcedKill_of_engine_gt (by omega) _) rfl)
end

section
/-!
PROOFS. Issue and commit (R32, R35): the checks of COMMAND_ISSUE passed one by one, what the issue of a command leaves, and the
commit point of a finished command.
-/

namespace Sys2Proof.Machine

theorem refOk_of_lt {r : CmdRef} (h : r.inset < 16) : ¬((!refOk r) = true) := by
  simp [refOk, h]

/-! ### One command's record -/

theorem OnlyCmd.trans {a b c : State} {r : CmdRef} (h : OnlyCmd a b r) (k : OnlyCmd b c r) : OnlyCmd a c r where
  others q hq := (k.others q hq).trans (h.others q hq)
  insets i hi := (k.insets i hi).trans (h.insets i hi)
  own := by rw [k.own, h.own]
  header := k.header.trans h.header
  sched := by rw [k.sched, h.sched]

/-- What a command's record and the other parts of the Insets are depends on the schedule alone. -/
theorem OnlyCmd.of_sched {a b c : State} {r : CmdRef} (h : OnlyCmd a b r) (hs : c.sched = b.sched) : OnlyCmd a c r := by
  have hinset : ∀ i, c.inset i = b.inset i := fun i => by rw [State.inset, hs]; rfl
  have hcmd : ∀ q, c.cmd q = b.cmd q := fun q => by rw [State.cmd, hinset]; rfl
  exact ⟨fun q hq => (hcmd q).trans (h.others q hq), fun i hi => (hinset i).trans (h.insets i hi),
    by rw [hinset]; exact h.own, by rw [hinset]; exact h.header, by rw [hs]; exact h.sched⟩

theorem State.cmd_of_sched {s t : State} (h : t.sched = s.sched) (q : CmdRef) : t.cmd q = s.cmd q := by
  rw [State.cmd, State.inset, h]
  rfl

/-- A count of a register touches the register and the counter block. -/
theorem State.bump_eq (s : State) (i k : Nat) {n : Nat} (h : n ≠ 0) :
    s.bump i k n = { s with gaz := (s.setNum i k (s.num i k + n)).gaz, ctr := (s.bump i k n).ctr } := by
  unfold State.bump State.countWith
  rw [if_neg h]
  split <;> rfl

theorem SameMemory.of_mem {s t : State} (h : t.mem = s.mem) : SameMemory s t := fun a => by
  rw [h]
  exact ⟨rfl, rfl, rfl⟩

/-! ### The checks of COMMAND_ISSUE (R32) -/

section Checks
variable {s : State} {r : CmdRef} {sh : Sheet} {x : Cmd}

/-- A command whose window has not closed, or whose lateness has been counted, counts none. -/
theorem State.tierLate_none (h : s.sheetTime sh ≤ CmdW.winClose x.word ∨ x.lateDone = true) : s.tierLate r sh x = s :=
  if_pos (h.elim (fun hopen => .inr (.inl hopen)) .inl)

theorem execCommandIssue_unready (hr : r.inset < 16) (hx : s.cmd r = some x) (hsh : s.sheetOf r = some sh)
    (h : x.phase ≠ .pending ∨ sh.atHead r.idx x = false ∨ s.sheetTime sh < CmdW.winOpen x.word) :
    execCommandIssue r s = .next s := by
  rw [execCommandIssue, if_neg (refOk_of_lt hr), hx, hsh]
  refine if_pos ?_
  rcases h with h | h | h <;> simp [h]

/-- Pending at the head of its scoreboards, in its window or with its lateness counted, and its sync objects good. -/
structure AtHead (s : State) (r : CmdRef) (sh : Sheet) (x : Cmd) : Prop where
  ref : r.inset < 16
  cmd : s.cmd r = some x
  sheet : s.sheetOf r = some sh
  pending : x.phase = .pending
  head : sh.atHead r.idx x = true
  opened : CmdW.winOpen x.word ≤ s.sheetTime sh
  late : s.sheetTime sh ≤ CmdW.winClose x.word ∨ x.lateDone = true
  sync : s.badSync x = none

/-- Its inputs, wait value and staging are there, nothing that it names is locked or changes its mode, and it waits for no
void area and no lease (R32, R37, R213, R242, R263). -/
structure Unheld (s : State) (r : CmdRef) (sh : Sheet) (x : Cmd) : Prop where
  resident : sh.resident x = true
  wait : s.waitMet x = true
  staging : s.stagingFree r.inset sh x = true
  unlocked : s.locked x = false
  modes : s.modePending x = false
  scribe : s.scribeHeld x = false
  lease : CmdW.waitCond x.word ≠ 3

/-- The guard at the front of COMMAND_ISSUE lets a command at its head through. -/
theorem AtHead.passes (h : AtHead s r sh x) :
    ¬(decide (x.phase ≠ .pending) || !sh.atHead r.idx x || decide (s.sheetTime sh < CmdW.winOpen x.word)) = true := by
  simp [h.pending, h.head, h.opened]

theorem AtHead.execCommandIssue_held (h : AtHead s r sh x)
    (hheld : sh.resident x = false ∨ s.waitMet x = false ∨ s.stagingFree r.inset sh x = false ∨ s.locked x = true
      ∨ s.modePending x = true) : execCommandIssue r s = .next s := by
  have hblocked : (!sh.resident x || !s.waitMet x || !s.stagingFree r.inset sh x || s.locked x || s.modePending x) = true := by
    rcases hheld with h | h | h | h | h <;> simp [h]
  simp only [execCommandIssue, if_neg (refOk_of_lt h.ref), h.cmd, h.sheet, if_neg h.passes, State.tierLate_none h.late, h.sync,
    hblocked, if_true]

/-- What COMMAND_ISSUE does with an unheld command: it looks at the engine and at the faults of issue. -/
theorem AtHead.execCommandIssue_unheld (h : AtHead s r sh x) (hfree : Unheld s r sh x) :
    execCommandIssue r s = .next (if s.namesRetired x = true then s.kill r Code.ENGINE_RETIRED
      else if (!s.engineIdle r x) = true then s
      else (s.issueFault r sh x).elim (s.issue r sh x) (s.kill r)) := by
  have hready : s.leaseStep r x = .ready := if_pos hfree.lease
  simp only [execCommandIssue, if_neg (refOk_of_lt h.ref), h.cmd, h.sheet, if_neg h.passes, State.tierLate_none h.late, h.sync,
    hfree.resident, hfree.wait, hfree.staging, hfree.unlocked, hfree.modes, hfree.scribe, hready, Bool.not_true, Bool.or_self,
    Bool.false_eq_true, if_false]
  split
  · rfl
  · split
    · rfl
    · cases s.issueFault r sh x <;> rfl

end Checks

/-! ### The issue itself -/

/-- The record of a command as it issues with no detector forced: a scheduler operation with no work ends at once. -/
def Cmd.issued (x : Cmd) (now : Nat) : Cmd :=
  let y := { x with phase := .running, issueAt := now, rehearsed := 0 }
  if x.instant then y.withResults Work.none else y

/-- The command runs from this cycle; after WIN_CLOSE the miss is counted (R32). -/
def State.started (s : State) (r : CmdRef) (sh : Sheet) (x : Cmd) : State :=
  let v := s.modCmd r (fun y => { y with phase := .running, issueAt := s.clk.cycle, rehearsed := 0 })
  if CmdW.winClose x.word < s.sheetTime sh then v.bump r.inset G.WINDOW_MISS 1 else v

section Issue
variable {s : State} {r : CmdRef} {sh : Sheet} {x : Cmd}

theorem State.issue_unforced (hlease : CmdW.waitCond x.word ≠ 3) (hforced : s.detector r x = 0) :
    s.issue r sh x = if x.instant = true then (s.started r sh x).finish r Work.none else s.started r sh x := by
  have hnolease : s.leaseIssue r x = s := if_pos (.inl hlease)
  simp only [State.issue, hnolease, hforced]
  rfl

theorem State.started_sched : (s.started r sh x).sched
    = (s.modCmd r (fun y => { y with phase := .running, issueAt := s.clk.cycle, rehearsed := 0 })).sched := by
  unfold State.started
  dsimp only
  split
  · exact State.bump_sched _ _ _ _
  · rfl

/-- The issue changes its own command's record and no other part of any Inset. -/
theorem State.issue_record (hx : s.cmd r = some x) (hlease : CmdW.waitCond x.word ≠ 3) (hforced : s.detector r x = 0) :
    (s.issue r sh x).cmd r = some (x.issued s.clk.cycle) ∧ OnlyCmd s (s.issue r sh x) r := by
  have hcmd : (s.started r sh x).cmd r = some { x with phase := .running, issueAt := s.clk.cycle, rehearsed := 0 } := by
    rw [State.cmd_of_sched State.started_sched, State.cmd_modCmd, if_pos rfl, hx]
    rfl
  have honly : OnlyCmd s (s.started r sh x) r := (State.modCmd_only s r _).of_sched State.started_sched
  rw [State.issue_unforced hlease hforced, Cmd.issued]
  split
  · exact ⟨State.finish_cmd _ hcmd, honly.trans (State.modCmd_only _ _ _)⟩
  · exact ⟨hcmd, honly⟩

theorem State.issue_inWindow (hlease : CmdW.waitCond x.word ≠ 3) (hforced : s.detector r x = 0)
    (hopen : s.sheetTime sh ≤ CmdW.winClose x.word) :
    s.issue r sh x = { s with sched := (s.issue r sh x).sched } := by
  have hstart : s.started r sh x = s.modCmd r (fun y => { y with phase := .running, issueAt := s.clk.cycle, rehearsed := 0 }) :=
    if_neg (Nat.not_lt.2 hopen)
  rw [State.issue_unforced hlease hforced, hstart]
  split <;> rfl

/-- After WIN_CLOSE, besides the command's record only WINDOW_MISS and the counter block differ. -/
theorem State.issue_afterWindow (hlease : CmdW.waitCond x.word ≠ 3) (hforced : s.detector r x = 0)
    (hclosed : CmdW.winClose x.word < s.sheetTime sh) :
    s.issue r sh x = { s with
      sched := (s.issue r sh x).sched, ctr := (s.issue r sh x).ctr
      gaz := (s.setNum r.inset G.WINDOW_MISS (s.num r.inset G.WINDOW_MISS + 1)).gaz } := by
  have hstart : s.started r sh x
      = (s.modCmd r (fun y => { y with phase := .running, issueAt := s.clk.cycle, rehearsed := 0 })).bump r.inset
        G.WINDOW_MISS 1 := if_pos hclosed
  rw [State.issue_unforced hlease hforced, hstart, State.bump_eq _ _ _ Nat.one_ne_zero]
  split <;> rfl

end Issue

end Sys2Proof.Machine

open Sys2Proof Sys2Proof.Machine

/-- Settles O28. -/
theorem issueStartsACommandWhoseConditionsHold : Obligations.IssueStartsACommandWhoseConditionsHold := by
  intro s r sh x h
  have hissue : s.sheetTime sh ≤ CmdW.winClose x.word ∨ x.lateDone = true →
      exec (.commandIssue r) s = .next (s.issue r sh x) := fun hlate => by
    have hhead : AtHead s r sh x := ⟨h.ref, h.cmd, h.sheet, h.pending, h.head, h.opened, hlate, h.sync⟩
    have hfree : Unheld s r sh x := ⟨h.resident, h.wait, h.staging, h.unlocked, h.modes, h.scribe, h.lease⟩
    rw [exec_commandIssue, hhead.execCommandIssue_unheld hfree]
    simp [h.present, h.idle, h.sound]
  obtain ⟨hcmd, honly⟩ := State.issue_record (sh := sh) h.cmd h.lease h.unforced
  refine ⟨fun hopen => ?_, fun hclosed hdone => ?_⟩
  · exact ⟨_, hissue (.inl hopen), hcmd, honly, State.issue_inWindow h.lease h.unforced hopen⟩
  · have hframe := State.issue_afterWindow h.lease h.unforced hclosed
    refine ⟨_, hissue (.inr hdone), hcmd, honly, .of_mem (by rw [hframe]), ?_, hframe⟩
    rw [hframe]
    exact State.num_setNum_self s _ _ _

/-- Settles O29. That an engine is busy until the end of its drain is log entry 111, and that a row whose command is not
pending does nothing is log entry 2. -/
theorem commandWaitsUntilItMayIssue : Obligations.CommandWaitsUntilItMayIssue := by
  intro s r sh x hr hx hsh
  simp only [exec_commandIssue]
  refine ⟨execCommandIssue_unready hr hx hsh, fun hopen hsync hlacks => ?_, fun hpending hhead hopened hopen hsync hres hwait
    hstage hunlocked hmodes hscribe hlease => ?_⟩
  · by_cases hready : x.phase ≠ .pending ∨ sh.atHead r.idx x = false ∨ s.sheetTime sh < CmdW.winOpen x.word
    · exact execCommandIssue_unready hr hx hsh hready
    · simp only [not_or, not_not, Bool.not_eq_false, Nat.not_lt] at hready
      obtain ⟨hpending, hhead, hopened⟩ := hready
      have hat : AtHead s r sh x := ⟨hr, hx, hsh, hpending, hhead, hopened, .inl hopen, hsync⟩
      by_cases hheld : sh.resident x = false ∨ s.waitMet x = false ∨ s.stagingFree r.inset sh x = false ∨ s.locked x = true
          ∨ s.modePending x = true
      · exact hat.execCommandIssue_held hheld
      · obtain ⟨hscribe, hlease, hpresent, hbusy⟩ : s.scribeHeld x = false ∧ CmdW.waitCond x.word ≠ 3
            ∧ s.namesRetired x = false ∧ s.engineIdle r x = false := by tauto
        simp only [not_or, Bool.not_eq_false, Bool.not_eq_true] at hheld
        obtain ⟨hres, hwait, hstage, hunlocked, hmodes⟩ := hheld
        rw [hat.execCommandIssue_unheld ⟨hres, hwait, hstage, hunlocked, hmodes, hscribe, hlease⟩]
        simp [hpresent, hbusy]
  · have hat : AtHead s r sh x := ⟨hr, hx, hsh, hpending, hhead, hopened, .inl hopen, hsync⟩
    rw [hat.execCommandIssue_unheld ⟨hres, hwait, hstage, hunlocked, hmodes, hscribe, hlease⟩]
    refine ⟨fun hretired => ?_, fun hpresent hidle code hcode => ?_⟩
    · simp [hretired]
    · simp [hpresent, hidle, hcode]
end

section
/-!
PROOFS. The commit point of a finished command (R35, R41): the commit log, the record that drains, and the signal.
-/

namespace Sys2Proof.Machine

section CommitPoint
variable {s : State} {r : CmdRef} {sh : Sheet} {x : Cmd}

theorem execCommitPoint_waits (hr : r.inset < 16) (hx : s.cmd r = some x) (hsh : s.sheetOf r = some sh)
    (h : x.phase ≠ .finished ∨ (x.engine = 0x0A ∧ x.opcode = 1 ∧ x.progress = [])) : execCommitPoint r s = .next s := by
  simp only [execCommitPoint, if_neg (refOk_of_lt hr), hx, hsh]
  exact if_pos h

/-- Finished, not a PUT that waits for its first hop (R295), and its sync objects good. -/
structure AtCommit (s : State) (r : CmdRef) (sh : Sheet) (x : Cmd) : Prop where
  ref : r.inset < 16
  cmd : s.cmd r = some x
  sheet : s.sheetOf r = some sh
  finished : x.phase = .finished
  sent : ¬(x.engine = 0x0A ∧ x.opcode = 1 ∧ x.progress = [])
  sync : s.badSync x = none

/-- The guard at the front of COMMIT_POINT lets the command through. -/
theorem AtCommit.passes (h : AtCommit s r sh x) :
    ¬(x.phase ≠ .finished ∨ (x.engine = 0x0A ∧ x.opcode = 1 ∧ x.progress = [])) :=
  not_or.2 ⟨not_not.2 h.finished, h.sent⟩

theorem AtCommit.execCommitPoint_free (h : AtCommit s r sh x) (hop : CmdW.signalOp x.word ≠ 3) :
    execCommitPoint r s = .next (s.commit r sh x) := by
  simp only [execCommitPoint, if_neg (refOk_of_lt h.ref), h.cmd, h.sheet, if_neg h.passes, h.sync]
  exact if_pos hop

section Token
variable (hop : CmdW.signalOp x.word = 3)
include hop

/-- A commit point that needs a token and has asked for it looks at the answer of HOME (R331). -/
theorem AtCommit.execCommitPoint_granted (h : AtCommit s r sh x) (ht : x.token = 2) :
    execCommitPoint r s = .next (s.commit r sh x) := by
  simp [execCommitPoint, refOk, h.ref, h.cmd, h.sheet, if_neg h.passes, h.sync, hop, ht]

theorem AtCommit.execCommitPoint_denied (h : AtCommit s r sh x) (ht : x.token = 3) :
    execCommitPoint r s = .next (s.kill r Code.BACKUP_LOST) := by
  simp [execCommitPoint, refOk, h.ref, h.cmd, h.sheet, if_neg h.passes, h.sync, hop, ht]

theorem AtCommit.execCommitPoint_asked (h : AtCommit s r sh x) (ht : x.token = 1) : execCommitPoint r s = .next s := by
  simp [execCommitPoint, refOk, h.ref, h.cmd, h.sheet, h.sync, hop, ht]

end Token

/-- The command recorded in the commit log, its drain begun. -/
def State.logged (s : State) (r : CmdRef) (sh : Sheet) : State :=
  ({ s with sched := { s.sched with commitLog := s.sched.commitLog ++ [(r.inset, sh.seq, r.idx)] } }).modCmd r
    (fun x => { x with phase := .draining, commitAt := s.clk.cycle })

theorem State.commit_plain (heffects : x.onCommit = []) (htable : x.writesTable = none) :
    s.commit r sh x = (s.logged r sh).signal r x := by
  simp only [State.commit, htable, heffects]
  rfl

theorem State.syncObj_setSync (s : State) (n m : Nat) (o : SyncObj) :
    (s.setSync n o).syncObj m = if m = n then o else s.syncObj m := by
  split
  · subst_vars
    exact State.syncObj_setSync_self s _ o
  · exact State.syncObj_setSync_ne s o ‹_›

/-- A signal that is no barrier arrival and frees no lease and no token adds to its object's VALUE or writes it, and touches
nothing else (R328). -/
theorem State.signal_plain (hbarrier : CmdW.signalOp x.word = 1 → (s.syncObj (CmdW.signalSync x.word)).kind ≠ 3)
    (hfree : CmdW.signalOp x.word = 2 → CmdW.signalValue x.word ≠ 0) :
    (∃ tab, s.signal r x = { s with sched := { s.sched with sync := tab } })
      ∧ ∀ o, (s.signal r x).syncObj o =
        if o = CmdW.signalSync x.word ∧ CmdW.signalOp x.word = 1 then
          { s.syncObj o with value := ((s.syncObj o).value + CmdW.signalValue x.word) % 2 ^ 32 }
        else if o = CmdW.signalSync x.word ∧ CmdW.signalOp x.word = 2 then
          { s.syncObj o with value := CmdW.signalValue x.word }
        else s.syncObj o := by
  by_cases h1 : CmdW.signalOp x.word = 1
  · have hsignal : s.signal r x = s.setSync (CmdW.signalSync x.word) { s.syncObj (CmdW.signalSync x.word) with
        value := ((s.syncObj (CmdW.signalSync x.word)).value + CmdW.signalValue x.word) % 2 ^ 32 } := by
      simp only [State.signal, if_pos h1, if_neg (hbarrier h1)]
    refine ⟨⟨_, hsignal⟩, fun o => ?_⟩
    rw [hsignal, State.syncObj_setSync]
    by_cases ho : o = CmdW.signalSync x.word <;> simp [h1, ho]
  · by_cases h2 : CmdW.signalOp x.word = 2
    · have hsignal : s.signal r x = s.setSync (CmdW.signalSync x.word) { s.syncObj (CmdW.signalSync x.word) with
          value := CmdW.signalValue x.word } := by
        simp only [State.signal, if_neg h1, if_pos h2, if_pos (hfree h2)]
      refine ⟨⟨_, hsignal⟩, fun o => ?_⟩
      rw [hsignal, State.syncObj_setSync]
      by_cases ho : o = CmdW.signalSync x.word <;> simp [h2, ho]
    · have hsignal : s.signal r x = s := by
        simp only [State.signal, if_neg h1, if_neg h2]
      exact ⟨⟨_, hsignal⟩, fun o => by simp [hsignal, h1, h2]⟩

/-- The command drains from this cycle, and no other command and no other Inset is touched. -/
theorem State.logged_record (hx : s.cmd r = some x) :
    (s.logged r sh).cmd r = some { x with phase := .draining, commitAt := s.clk.cycle }
      ∧ (∀ q, q ≠ r → (s.logged r sh).cmd q = s.cmd q) ∧ ∀ i, i ≠ r.inset → (s.logged r sh).inset i = s.inset i := by
  refine ⟨?_, fun q hq => ?_, fun i hi => State.inset_modCmd_ne _ _ _ hi⟩
  · rw [State.logged, State.cmd_modCmd, if_pos rfl]
    exact congrArg (Option.map _) hx
  · rw [State.logged, State.cmd_modCmd, if_neg hq]
    rfl

end CommitPoint

end Sys2Proof.Machine

open Sys2Proof Sys2Proof.Machine

/-- Settles O30. That a PUT waits for its first hop is R295, and that SIGNAL_OP 2 writes the VALUE of a barrier is log
entry 113. -/
theorem commitPointLogsAndBeginsTheDrain : Obligations.CommitPointLogsAndBeginsTheDrain := by
  intro s r sh x hr hx hsh
  simp only [exec_commitPoint]
  refine ⟨fun hphase hsent hsync heffects htable hop hfree hbarrier => ?_, fun hphase hsent hsync => ?_,
    fun hengine hopcode hprogress => execCommitPoint_waits hr hx hsh (.inr ⟨hengine, hopcode, hprogress⟩)⟩
  · have hat : AtCommit s r sh x := ⟨hr, hx, hsh, hphase, hsent, hsync⟩
    obtain ⟨hcmd, hothers, hinsets⟩ := State.logged_record (sh := sh) hx
    obtain ⟨⟨tab, hsignal⟩, hobj⟩ := State.signal_plain (s := s.logged r sh) (r := r) (x := x) hbarrier hfree
    refine ⟨_, hat.execCommitPoint_free hop, ?_⟩
    rw [State.commit_plain heffects htable]
    refine ⟨?_, ?_, ?_, fun q hq => ?_, fun i hi => ?_, hobj⟩
    · rw [hsignal]
      exact hcmd
    · rw [hsignal]
      rfl
    · rw [hsignal]
      rfl
    · rw [hsignal]
      exact hothers q hq
    · rw [hsignal]
      exact hinsets i hi
  · have hat : AtCommit s r sh x := ⟨hr, hx, hsh, hphase, hsent, hsync⟩
    refine ⟨fun h => ?_, hat.execCommitPoint_denied, hat.execCommitPoint_asked⟩
    by_cases hop : CmdW.signalOp x.word = 3
    · exact hat.execCommitPoint_granted hop (h.resolve_left (not_not.2 hop))
    · exact hat.execCommitPoint_free hop
end

section
/-!
PROOFS. What surrounds the end of a command (counts, events, messages, samples, void records and completions) changes no
command's record and leaves the lock alone.
-/

namespace Sys2Proof.Machine

/-- Every command's record is as it was, and so is the lock. -/
structure SideFrame (s t : State) : Prop where
  cmd : ∀ q, t.cmd q = s.cmd q
  lock : t.lock = s.lock

namespace SideFrame

theorem refl (s : State) : SideFrame s s := ⟨fun _ => rfl, rfl⟩

theorem trans {a b c : State} (h : SideFrame a b) (k : SideFrame b c) : SideFrame a c :=
  ⟨fun q => (k.cmd q).trans (h.cmd q), k.lock.trans h.lock⟩

/-- Commands stand in the Insets, and the lock in the registers. -/
theorem of_eq {s t : State} (hi : t.sched.insets = s.sched.insets) (hg : t.gaz = s.gaz) : SideFrame s t where
  cmd q := by
    rw [State.cmd, State.inset, hi]
    rfl
  lock := by
    rw [State.lock, State.node, State.num, hg]
    rfl

variable {s t u : State}

theorem ite {p : Prop} [Decidable p] (h : SideFrame s t) (k : SideFrame s u) : SideFrame s (if p then t else u) := by
  split <;> assumption

theorem foldl {α : Type} {f : State → α → State} (h : SideFrame s t) (hf : ∀ u a, SideFrame u (f u a)) (l : List α) :
    SideFrame s (l.foldl f t) := by
  induction l generalizing t with
  | nil => exact h
  | cons a l ih => exact ih (h.trans (hf _ a))

/-! ### The parts of the state -/

theorem clk (h : SideFrame s t) {x : ClkState} : SideFrame s { t with clk := x } := h.trans (of_eq rfl rfl)
theorem tick (h : SideFrame s t) {x : TickState} : SideFrame s { t with tick := x } := h.trans (of_eq rfl rfl)
theorem mem (h : SideFrame s t) {x : MemState} : SideFrame s { t with mem := x } := h.trans (of_eq rfl rfl)
theorem search (h : SideFrame s t) {x : SearchState} : SideFrame s { t with search := x } := h.trans (of_eq rfl rfl)
theorem flash (h : SideFrame s t) {x : FlashState} : SideFrame s { t with flash := x } := h.trans (of_eq rfl rfl)
theorem torus (h : SideFrame s t) {x : TorusState} : SideFrame s { t with torus := x } := h.trans (of_eq rfl rfl)
theorem tm (h : SideFrame s t) {x : TmState} : SideFrame s { t with tm := x } := h.trans (of_eq rfl rfl)
theorem host (h : SideFrame s t) {x : HostState} : SideFrame s { t with host := x } := h.trans (of_eq rfl rfl)
theorem ctr (h : SideFrame s t) {x : CtrState} : SideFrame s { t with ctr := x } := h.trans (of_eq rfl rfl)
theorem emit (h : SideFrame s t) {o : Out} : SideFrame s (t.emit o) := h.trans (of_eq rfl rfl)

theorem modInset (h : SideFrame s t) {i : Nat} {f : InsetSt → InsetSt}
    (hf : (f (t.inset i)).sheet.map (·.cmds) = (t.inset i).sheet.map (·.cmds)) : SideFrame s (t.modInset i f) := by
  refine h.trans ⟨fun q => ?_, rfl⟩
  have hcmds : ((t.modInset i f).inset q.inset).sheet.map (·.cmds) = (t.inset q.inset).sheet.map (·.cmds) := by
    by_cases hq : q.inset = i
    · rw [hq, State.inset_modInset_self, hf]
    · rw [State.inset_modInset_ne _ _ hq]
  have hbind : ∀ u : State, u.cmd q = ((u.inset q.inset).sheet.map (·.cmds)).bind (·[q.idx]?) := fun u => by
    unfold State.cmd
    cases (u.inset q.inset).sheet <;> rfl
  rw [hbind, hbind, hcmds]

theorem setInset (h : SideFrame s t) {i : Nat} {x : InsetSt} (hx : x.sheet = (t.inset i).sheet) :
    SideFrame s (t.setInset i x) :=
  h.trans ⟨(EventFrame.setInset t i x hx).cmd, rfl⟩

theorem rkey_ne_lock {i k : Nat} (h : k % 2 ^ 24 ≠ G.TICK_LOCK) : rkey 16 G.TICK_LOCK ≠ rkey i k := fun heq => h (by
  have hlock : G.TICK_LOCK < 2 ^ 24 := by decide
  unfold rkey at heq
  omega)

/-- A register whose key is not that of the lock. -/
theorem setNum (h : SideFrame s t) {i k n : Nat} (hk : k % 2 ^ 24 ≠ G.TICK_LOCK) :
    SideFrame s (t.setNum i k n) :=
  h.trans ⟨fun _ => rfl, State.num_setNum_ne t n (rkey_ne_lock hk)⟩

theorem bump (h : SideFrame s t) {i k n : Nat} (hk : k % 2 ^ 24 ≠ G.TICK_LOCK) : SideFrame s (t.bump i k n) :=
  h.trans ⟨(EventFrame.bump t i k n).cmd, State.bump_num_ne t n (rkey_ne_lock hk).symm⟩

theorem bumpNode (h : SideFrame s t) {k n : Nat} (hk : k % 2 ^ 24 ≠ G.TICK_LOCK) :
    SideFrame s (t.bumpNode k n) := h.bump hk

theorem charge (h : SideFrame s t) {i k n : Nat} : SideFrame s (t.charge i k n) := .ite h (h.modInset rfl)

/-! ### Storage and events -/

theorem markDirty (h : SideFrame s t) {st : Nat} : SideFrame s (t.markDirty st) := .ite h.mem h

theorem dropCkpt (h : SideFrame s t) {i : Nat} : SideFrame s (t.dropCkpt i) := by
  unfold State.dropCkpt
  dsimp only
  refine .setNum (.setNum ?_ ?_) ?_
  · exact h.mem.modInset rfl
  · decide
  · decide

theorem saveGroup (h : SideFrame s t) (st : Nat) : SideFrame s (t.saveGroup st).1 := by
  unfold State.saveGroup
  split
  · exact h
  split
  · exact h
  dsimp only
  split
  · exact h
  split
  · exact h
  split
  · dsimp only
    refine .setNum (.bump ?_ ?_) ?_
    · exact h.setInset rfl
    · decide
    · decide
  · exact h.dropCkpt

theorem storeWord (h : SideFrame s t) (w : Nat) (cells : Tab Byte) : SideFrame s (t.storeWord w cells).1 := by
  unfold State.storeWord
  dsimp only
  refine .ite (.bumpNode (h.saveGroup _).mem.markDirty ?_) (h.saveGroup _).mem.markDirty
  split <;> decide

theorem storeWords (h : SideFrame s t) (ws : List (Nat × Tab Byte)) : SideFrame s (t.storeWords ws).1 := by
  have hfold : ∀ (l : List (Nat × Tab Byte)) (acc : State × Bool × List Nat), SideFrame s acc.1 →
      SideFrame s (l.foldl (fun acc c =>
        let (s, bad, ab) := acc.1.storeWord c.1 c.2
        (s, acc.2.1 || bad, acc.2.2 ++ ab.toList)) acc).1 := by
    intro l
    induction l with
    | nil => exact fun acc hacc => hacc
    | cons c l ih =>
      intro acc hacc
      rw [List.foldl_cons]
      exact ih _ (hacc.storeWord c.1 c.2)
  exact hfold ws (t, false, []) h

theorem interrupt (h : SideFrame s t) {i src : Nat} : SideFrame s (t.interrupt i src) := by
  unfold State.interrupt State.fireVector
  dsimp only
  refine .ite h (.ite ?_ (.emit ?_))
  · exact h.modInset rfl
  · exact h.modInset rfl

theorem eventFull (h : SideFrame s t) {i code detail addr : Nat} {reh : Bool} :
    SideFrame s (t.eventFull i code detail addr reh) := by
  unfold State.eventFull
  dsimp only
  generalize hu : (if t.num i G.EVENT_RING_BYTES / 32 = 0 then t else _) = u
  have hring : SideFrame s u := by
    subst hu
    exact .ite h (.modInset (.foldl (.storeWords (.ite (h.bump (by decide)) h) _) (fun _ _ => .bump (.refl _) (by decide)) _) rfl)
  split
  · exact .interrupt (.ite hring.clk hring)
  · exact .ite hring.clk hring

theorem event (h : SideFrame s t) {i code detail addr : Nat} : SideFrame s (t.event i code detail addr) := h.eventFull

theorem nodeEvent (h : SideFrame s t) {code detail addr : Nat} : SideFrame s (t.nodeEvent code detail addr) :=
  h.foldl (fun _ _ => .event (.refl _)) _

theorem storeBytes (h : SideFrame s t) {a : Nat} {b : Bytes} : SideFrame s (t.storeBytes a b) :=
  (h.storeWords _).foldl (fun _ _ => .event (.bump (.refl _) (by decide))) _

/-! ### Messages and leases -/

theorem bumpFlow (h : SideFrame s t) {flow k n : Nat} (hk : k % 2 ^ 24 ≠ G.TICK_LOCK) :
    SideFrame s (t.bumpFlow flow k n) := by
  unfold State.bumpFlow
  split
  · exact h.bump hk
  · exact h

theorem release (h : SideFrame s t) {f b : Nat} (hu : t.release f b = some u) : SideFrame s u := by
  rw [State.eq_of_release hu]
  exact h.tm

theorem enqueue (h : SideFrame s t) {flow units : Nat} {what : Out} : SideFrame s (t.enqueue flow units what) := by
  unfold State.enqueue
  dsimp only
  generalize hu : (if (t.flow flow).queue.isEmpty = true ∧ (t.flow flow).deficit ≠ 0 then _ else t) = u
  have hlost : SideFrame s u := by
    subst hu
    exact .ite (h.bumpFlow (by decide)) h
  split
  · rename_i v hv
    split at hv
    · cases hv
    · exact (hlost.release hv).tm
  · exact hlost.tm.bumpFlow (by decide)

theorem routeMsg (h : SideFrame s t) {tag hdr : Nat} {payload : Bytes} : SideFrame s (t.routeMsg tag hdr payload) := by
  unfold State.routeMsg
  dsimp only
  split
  · exact h
  · exact .ite h.enqueue h.nodeEvent

theorem sendCtl (h : SideFrame s t) {mtype tag dest xfer : Nat} {payload : Bytes} :
    SideFrame s (t.sendCtl mtype tag dest xfer payload) := h.routeMsg

theorem syncSend (h : SideFrame s t) {mtype dest obj op inset idx : Nat} {more : Bytes} :
    SideFrame s (t.syncSend mtype dest obj op inset idx more) := by
  unfold State.syncSend
  split
  · exact h.sendCtl
  · exact h

theorem returnLease (h : SideFrame s t) {i : Nat} {c : Cmd} : SideFrame s (t.returnLease i c) := by
  have hfree : ∀ o, SideFrame s (t.leaseFree o) := fun o => h.trans (of_eq rfl rfl)
  exact .ite (.ite (hfree _) (hfree _).syncSend) h

/-! ### Samples and void records -/

theorem pushSample (h : SideFrame s t) {rec : Nat} : SideFrame s (t.pushSample rec) := by
  unfold State.pushSample
  exact .ite (h.bumpNode (by decide)) (.setNum (.ctr (.ite (h.bumpNode (by decide)) h)) (by decide))

theorem sampleCmd (h : SideFrame s t) {r : CmdRef} {sh : Sheet} {c : Cmd} {drain : Nat} :
    SideFrame s (t.sampleCmd r sh c drain) := by
  unfold State.sampleCmd
  exact .ite (.pushSample h.ctr) (.ite (.pushSample h.ctr) (.ite (.pushSample h.ctr) (.ite (.pushSample h.ctr) h.ctr)))

theorem chargeCmd (h : SideFrame s t) {i : Nat} {c : Cmd} {now : Nat} : SideFrame s (t.chargeCmd i c now) :=
  .ite h.charge (.ite h.charge (.ite h.charge (.ite h.charge (.ite h.charge h))))

theorem countBytes (h : SideFrame s t) {event unit inst port dir n : Nat} :
    SideFrame s (t.countBytes event unit inst port dir n) :=
  h.trans (of_eq (congrArg _ (State.countBytes_sched ..)) (State.countBytes_gaz ..))

theorem putPage (h : SideFrame s t) {ppn lpn kind : Nat} {bytes : Bytes} : SideFrame s (t.putPage ppn lpn kind bytes) := by
  unfold State.putPage State.flashBytes
  exact .flash (.charge (.countBytes h))

theorem voidRecord (h : SideFrame s t) {pk : Nat} {seqs : List Nat} : SideFrame s (t.voidRecord pk seqs) := by
  unfold State.voidRecord
  dsimp only
  refine .bumpNode (.flash ?_) ?_
  · exact .putPage h
  · decide

theorem voidPages (h : SideFrame s t) {ppns : List Nat} : SideFrame s (t.voidPages ppns) :=
  h.foldl (fun _ _ => .voidRecord (.refl _)) _

/-! ### Completions -/

theorem setBinding (h : SideFrame s t) {i : Nat} {b : Binding} : SideFrame s (t.setBinding i b) := h.host

theorem setQueue (h : SideFrame s t) {fn q : Nat} {p : QueuePair} : SideFrame s (t.setQueue fn q p) := h.host

theorem logCompletion (h : SideFrame s t) {i e : Nat} {c : Completion} : SideFrame s (t.logCompletion i e c) := by
  unfold State.logCompletion
  dsimp only
  refine .ite h (.interrupt (.bump (.setBinding ?_) ?_))
  · exact h.storeBytes
  · decide

theorem ringCompletion (h : SideFrame s t) {i e : Nat} {q : QueuePair} {c : Completion} :
    SideFrame s (t.ringCompletion i e q c).1 := by
  unfold State.ringCompletion
  dsimp only
  split
  · dsimp only
    refine .bump ?_ ?_
    · exact h.logCompletion
    · decide
  · exact .interrupt (.enqueue h)

theorem complete (h : SideFrame s t) {i e : Nat} {c : Completion} : SideFrame s (t.complete i e c) := by
  unfold State.complete
  dsimp only
  split
  · exact .setBinding (.ringCompletion h)
  · split
    · exact .setQueue (.ringCompletion h)
    · exact .logCompletion h

theorem closeRequests (h : SideFrame s t) {i code : Nat} {void : Bool} {stream : Option Nat} :
    SideFrame s (t.closeRequests i code void stream).1 := by
  unfold State.closeRequests State.freeLanding State.freeSlots
  dsimp only
  refine .torus (.setNum (.search ?_) ?_)
  · refine SideFrame.modInset ?_ ?_
    · exact h.foldl (fun _ _ => .complete (.refl _)) _
    · rfl
  · decide

theorem reportDone (h : SideFrame s t) {i seq bound : Nat} : SideFrame s (t.reportDone i seq bound) := by
  unfold State.reportDone
  split
  · exact h
  · exact .ite h.tick h.sendCtl

end SideFrame

/-! ### Killing (R35) -/

/-- The record of a command that is killed: one that has ended or drains stays as it is. -/
def Cmd.killedBy (code : Nat) (x : Cmd) : Cmd :=
  if x.phase = .pending ∨ x.phase.live = true then
    { x with phase := .killed, code := code, writes := [], poison := [], onCommit := [], onDrain := [] }
  else x

theorem Cmd.killedBy_of_open {code : Nat} {x : Cmd} (h : x.phase = .pending ∨ x.phase.live = true) :
    x.killedBy code
      = { x with phase := .killed, code := code, writes := [], poison := [], onCommit := [], onDrain := [] } := if_pos h

theorem Cmd.killedBy_of_not_open {code : Nat} {x : Cmd} (h : ¬ (x.phase = .pending ∨ x.phase.live = true)) :
    x.killedBy code = x := if_neg h

/-- A command dies once. -/
theorem Cmd.killedBy_killedBy (code : Nat) (x : Cmd) : (x.killedBy code).killedBy code = x.killedBy code := by
  by_cases h : x.phase = .pending ∨ x.phase.live = true
  · rw [Cmd.killedBy_of_open h]
    exact Cmd.killedBy_of_not_open (by simp [Phase.live])
  · rw [Cmd.killedBy_of_not_open h, Cmd.killedBy_of_not_open h]

/-- What a kill does beside the command's record touches no record (R35). -/
theorem State.killAlone_frame {s : State} {r : CmdRef} {x : Cmd} (code detail : Nat) (hx : s.cmd r = some x)
    (hopen : x.phase = .pending ∨ x.phase.live = true) :
    SideFrame (s.modCmd r (fun _ => x.killedBy code)) (s.killAlone r code detail) := by
  obtain ⟨sh, hsh, hget⟩ := State.sheet_of_cmd hx
  have hof : s.sheetOf r = some sh := hsh
  unfold State.killAlone
  rw [hx, hof]
  dsimp only
  rw [if_pos hopen, ← Cmd.killedBy_of_open hopen]
  generalize s.modCmd r (fun _ => x.killedBy code) = u
  generalize hv : (if x.engine = 0x0C ∧ x.opcode = 0x20 ∧ sh.cmds.any (fun x => CmdW.ckptMark x.word) = true then _
    else u.returnLease r.inset x) = v
  have hlease : SideFrame u (u.returnLease r.inset x) := .returnLease (.refl u)
  have hlost : SideFrame u v := by
    subst hv
    refine .ite ?_ hlease
    refine hlease.modInset ?_
    rw [Option.map_map]
    rfl
  generalize hw : (if x.engine = 9 ∧ x.opcode = 2 then v.voidPages x.progress else v) = w
  have hvoid : SideFrame u w := by
    subst hw
    exact .ite hlost.voidPages hlost
  exact .ite (.chargeCmd (.sampleCmd hvoid.eventFull)) hvoid.eventFull

theorem State.killAlone_of_not_open {s : State} {r : CmdRef} (code detail : Nat)
    (h : ∀ x, s.cmd r = some x → ¬ (x.phase = .pending ∨ x.phase.live = true)) : s.killAlone r code detail = s := by
  unfold State.killAlone
  split
  · rename_i x sh hx hsh
    exact if_neg (h x hx)
  · rfl

theorem State.cmd_killAlone (s : State) (r q : CmdRef) (code detail : Nat) :
    (s.killAlone r code detail).cmd q = if q = r then (s.cmd q).map (Cmd.killedBy code) else s.cmd q := by
  by_cases h : ∃ x, s.cmd r = some x ∧ (x.phase = .pending ∨ x.phase.live = true)
  · obtain ⟨x, hx, hopen⟩ := h
    rw [(State.killAlone_frame code detail hx hopen).cmd, State.cmd_modCmd]
    by_cases hq : q = r
    · rw [if_pos hq, if_pos hq, hq, hx]
      rfl
    · rw [if_neg hq, if_neg hq]
  · rw [State.killAlone_of_not_open code detail fun x hx ho => h ⟨x, hx, ho⟩]
    by_cases hq : q = r
    · rw [if_pos hq, hq]
      cases hx : s.cmd r with
      | none => rfl
      | some x => rw [Option.map_some, Cmd.killedBy_of_not_open fun ho => h ⟨x, hx, ho⟩]
    · rw [if_neg hq]

theorem State.lock_killAlone (s : State) (r : CmdRef) (code detail : Nat) :
    (s.killAlone r code detail).lock = s.lock := by
  by_cases h : ∃ x, s.cmd r = some x ∧ (x.phase = .pending ∨ x.phase.live = true)
  · obtain ⟨x, hx, hopen⟩ := h
    exact (State.killAlone_frame code detail hx hopen).lock
  · rw [State.killAlone_of_not_open code detail fun x hx ho => h ⟨x, hx, ho⟩]

/-! ### The commands of a Sheet -/

/-- The commands named are killed, each where it stands, and no other. -/
theorem State.cmd_killEach (i code : Nat) (l : List (Nat × Cmd)) (s : State) (k : Nat) :
    (l.foldl (fun s kc => s.killAlone ⟨i, kc.1⟩ code 0) s).cmd ⟨i, k⟩
      = if k ∈ l.map Prod.fst then (s.cmd ⟨i, k⟩).map (Cmd.killedBy code) else s.cmd ⟨i, k⟩ := by
  induction l generalizing s with
  | nil => rfl
  | cons kc l ih =>
    rw [List.foldl_cons, ih, State.cmd_killAlone]
    by_cases hk : k = kc.1
    · have hmap : ((s.cmd ⟨i, k⟩).map (Cmd.killedBy code)).map (Cmd.killedBy code)
          = (s.cmd ⟨i, k⟩).map (Cmd.killedBy code) := by
        rw [Option.map_map]
        exact congrArg (Option.map · _) (funext (Cmd.killedBy_killedBy code))
      subst hk
      simp only [List.map_cons, List.mem_cons, true_or, if_true, hmap, ite_self]
    · have hne : (⟨i, k⟩ : CmdRef) ≠ ⟨i, kc.1⟩ := fun h => hk (congrArg CmdRef.idx h)
      simp only [List.map_cons, List.mem_cons, hk, false_or, if_neg hne]

theorem State.lock_killEach (i code : Nat) (l : List (Nat × Cmd)) (s : State) :
    (l.foldl (fun s kc => s.killAlone ⟨i, kc.1⟩ code 0) s).lock = s.lock := by
  induction l generalizing s with
  | nil => rfl
  | cons kc l ih => rw [List.foldl_cons, ih, State.lock_killAlone]

/-- On a node in lock the end of a Sheet is marked and reported, and no command changes (R43). -/
theorem SideFrame.checkDone {s t : State} (h : SideFrame s t) (hlock : t.lock ≠ 0) (i : Nat) :
    SideFrame s (t.checkDone i) := by
  unfold State.checkDone
  split
  · rename_i sh hsh
    refine .ite ?_ h
    dsimp only
    split
    · refine .reportDone (h.modInset ?_)
      rw [hsh]
      rfl
    · exact absurd hlock ‹_›
  · exact h

/-- The commands of a Sheet that have not reached their commit point. -/
def openCmds (cs : List Cmd) : List (Nat × Cmd) :=
  (mapIdxFrom (fun k c => (k, c)) 0 cs).filter (fun kc => kc.2.phase == .pending || kc.2.phase.live)

theorem mem_mapIdxFrom_pair {cs : List Cmd} {i k : Nat} {x : Cmd} :
    (k, x) ∈ mapIdxFrom (fun k c => (k, c)) i cs ↔ i ≤ k ∧ cs[k - i]? = some x := by
  induction cs generalizing i with
  | nil => simp [mapIdxFrom]
  | cons c cs ih =>
    rw [mapIdxFrom, List.mem_cons, ih, Prod.mk.injEq]
    rcases Nat.lt_trichotomy i k with hlt | rfl | hgt
    · rw [show k - i = k - (i + 1) + 1 by omega, List.getElem?_cons_succ]
      constructor
      · rintro (⟨rfl, rfl⟩ | ⟨hle, hget⟩)
        · omega
        · exact ⟨hlt.le, hget⟩
      · exact fun h => .inr ⟨hlt, h.2⟩
    · simp [eq_comm]
    · constructor
      · rintro (⟨rfl, rfl⟩ | ⟨hle, hget⟩) <;> omega
      · exact fun h => absurd h.1 (by omega)

theorem mem_openCmds {cs : List Cmd} {k : Nat} {x : Cmd} (h : cs[k]? = some x) :
    k ∈ (openCmds cs).map Prod.fst ↔ x.phase = .pending ∨ x.phase.live = true := by
  simp only [openCmds, List.mem_map, List.mem_filter, Prod.exists, mem_mapIdxFrom_pair]
  simp [h]

/-- Every command of the Sheet that had not reached its commit point is killed, and the others are as they were (R49). -/
theorem State.cmd_killAll {s : State} {i k : Nat} {x : Cmd} (code : Nat) (hlock : s.lock ≠ 0) (hx : s.cmd ⟨i, k⟩ = some x) :
    (s.killAll i code).1.cmd ⟨i, k⟩ = some (x.killedBy code) := by
  obtain ⟨sh, hsh, hget⟩ := State.sheet_of_cmd hx
  have hall : (s.killAll i code).1 = ((openCmds sh.cmds).foldl (fun s kc => s.killAlone ⟨i, kc.1⟩ code 0) s).checkDone i := by
    unfold State.killAll
    rw [hsh]
    rfl
  have hdone := SideFrame.checkDone (.refl _)
    (fun h0 => hlock ((State.lock_killEach i code (openCmds sh.cmds) s).symm.trans h0)) i
  rw [hall, hdone.cmd, State.cmd_killEach, hx]
  split
  · rfl
  · rename_i hk
    rw [mem_openCmds hget] at hk
    rw [Cmd.killedBy_of_not_open hk]

/-! ### The abandon -/

theorem execOverrunAbandon_none {s : State} {i : Nat} (hi : i < 16) (h : (s.inset i).sheet = none) :
    execOverrunAbandon i s = .next s := by
  rw [execOverrunAbandon, if_neg (by omega), h]

theorem execOverrunAbandon_sheet {s : State} {i : Nat} {sh : Sheet} (hi : i < 16) (h : (s.inset i).sheet = some sh) :
    execOverrunAbandon i s = if sh.done = true ∨ sh.slips < s.num i G.OVERRUN_LIMIT then .next s
      else .next ((s.killAll i Code.OVERRUN_ABANDON).1.closeRequests i Code.OVERRUN_ABANDON true none).1 := by
  rw [execOverrunAbandon, if_neg (by omega), h]

end Sys2Proof.Machine

open Sys2Proof Sys2Proof.Machine

/-- Settles O32. That the row changes nothing while its cause does not stand is log entry 2; that the abandon falls
at the boundary of the OVERRUN_LIMIT-th slip is entry 107: both are the model's own choice. -/
theorem overrunAbandonKillsOnlyAfterTheLimit : Obligations.OverrunAbandonKillsOnlyAfterTheLimit := by
  refine ⟨fun s i hi h => ?_, fun s i sh hi h => ⟨fun hidle => ?_, fun hd hslips hlock => ?_⟩⟩
  · rw [exec_overrunAbandon, execOverrunAbandon_none hi h]
  · rw [exec_overrunAbandon, execOverrunAbandon_sheet hi h, if_pos hidle]
  · refine ⟨_, ((exec_overrunAbandon i s).trans (execOverrunAbandon_sheet hi h)).trans (if_neg (by simp [hd]; omega)),
      fun k x hx => ?_⟩
    have hcmd := (SideFrame.closeRequests (.refl (s.killAll i Code.OVERRUN_ABANDON).1) (i := i)
      (code := Code.OVERRUN_ABANDON) (void := true) (stream := none)).cmd ⟨i, k⟩
    rw [State.cmd_killAll _ hlock hx] at hcmd
    refine ⟨fun hopen => ⟨_, hcmd, ?_⟩, fun hp hl => ?_⟩
    · rw [Cmd.killedBy_of_open hopen]
      exact ⟨rfl, rfl, rfl⟩
    · rw [hcmd, Cmd.killedBy_of_not_open (by simp [hp, hl])]
end

section
/-!
PROOFS. The lock on the cadence: how it is held, lost and taken over, and what a boundary message leaves on a node in lock.
-/

namespace Sys2Proof.Machine

/-! ### The lock -/

theorem State.lock_setNum (s : State) (n : Nat) : (s.setNum 16 G.TICK_LOCK n).lock = n % typeMod G.TICK_LOCK :=
  State.num_setNum_self s 16 _ n

@[simp] theorem State.lock_becomeMaster (s : State) : s.becomeMaster.lock = 3 := State.lock_setNum _ 3

@[simp] theorem State.tickNo_becomeMaster (s : State) : s.becomeMaster.tickNo = s.tickNo :=
  State.num_setNum_ne _ 3 (by decide)

theorem usCycles_holdover : usCycles 32000 = 76800000 := by decide

theorem execTickUnlock_of_holdover {s : State} {h : Nat} (hat : s.tick.holdoverAt = some h) (hl : s.lock = 2)
    (hs : s.serves = true) :
    execTickUnlock s = if s.clk.cycle < h + 76800000 then .next s else .next (s.leaveLock Code.TICK_UNLOCK) := by
  unfold execTickUnlock
  simp only [hat, hl, hs, usCycles_holdover]
  simp

theorem execTickUnlock_idle {s : State} (h : s.tick.holdoverAt = none ∨ s.lock ≠ 2 ∨ s.serves = false) :
    execTickUnlock s = .next s := by
  unfold execTickUnlock
  split
  · rfl
  · rename_i t ht
    refine if_pos ?_
    rcases h with h | h | h
    · rw [ht] at h
      cases h
    · exact .inl h
    · exact .inr (.inl (by simp [h]))

theorem execMasterWait_of_listed {s : State} {k : Nat} (hk : s.listPos s.nodeId = some k) (hs : s.serves = true)
    (hp : s.profiled = true) (hl : s.lock = 0) (he : s.tick.everLocked = false) (hh : s.sched.halted = false)
    (hf : s.tick.forwarded = none) :
    execMasterWait s = if s.clk.cycle < s.tick.trainedAt.getD s.flash.rebuildAt
        + usCycles (1000 * s.node G.MASTER_WAIT_MS * (k + 1)) then .next s else .next s.becomeMaster := by
  unfold execMasterWait
  simp [hk, hs, hp, hl, he, hh, hf]

theorem execMasterWait_idle {s : State} (h : s.listPos s.nodeId = none ∨ s.serves = false ∨ s.profiled = false ∨ s.lock ≠ 0
    ∨ s.tick.everLocked = true ∨ s.sched.halted = true ∨ s.tick.forwarded.isSome = true) : execMasterWait s = .next s := by
  unfold execMasterWait
  split
  · rfl
  · rename_i k hk
    refine if_pos ?_
    simp only [hk, reduceCtorEq, false_or] at h
    simp only [Bool.not_eq_true']
    tauto

end Sys2Proof.Machine

open Sys2Proof Sys2Proof.Machine

/-- Settles O43. That MASTER_WAIT counts from the end of training, or from its start where no port has trained, is the
model's choice of log entry 109; that a node must be profiled, of entry 93; and that a row whose cause does not stand
changes nothing, of entry 2. -/
theorem lockIsHeldLostAndTakenOver : Obligations.LockIsHeldLostAndTakenOver := by
  intro s
  refine ⟨fun hl hm hs => ⟨_, if_neg (by simp [hl, hs]; omega), State.lock_setNum _ 2, rfl⟩, fun h => if_pos ?_,
    fun h hat hl hs => ?_, execTickUnlock_idle, fun hs hl hm hk => ⟨if_neg ?_, s.lock_becomeMaster, s.tickNo_becomeMaster⟩,
    fun h => if_pos ?_, fun k hk hs hp hl he hh hf => ?_, execMasterWait_idle⟩
  · simpa using h
  · have hrow := execTickUnlock_of_holdover hat hl hs
    exact ⟨fun hlt => hrow.trans (if_pos hlt), fun hle => hrow.trans (if_neg (by omega))⟩
  · rw [Option.isSome_iff_ne_none] at hk
    simp [hs, hk]
    omega
  · simpa using h
  · have hrow := execMasterWait_of_listed hk hs hp hl he hh hf
    exact ⟨fun hlt => hrow.trans (if_pos hlt), fun hle => hrow.trans (if_neg (by omega))⟩
end

section
/-!
PROOFS. A boundary message on a node in lock: it goes out on the other ACTIVE ports, and the next boundary is set from it.
-/

namespace Sys2Proof.Machine

/-- The flits of a flood that leaves one port out, in the order of the ports. -/
theorem State.flood_eq (s : State) (port n period master hops remain : Nat) (decls : List TagDecl) :
    s.flood (some port) n period master hops remain decls = { s with
      out := s.out ++ ((upto nPorts).filter (fun p => (s.port p).train == 6 && p != port)).map fun p =>
        Out.tickFlit p n period master hops remain decls } := by
  have hfold : ∀ (ps : List Nat) (t : State),
      ps.foldl (fun (t : State) p => t.emit (.tickFlit p n period master hops remain decls)) t
        = { t with out := t.out ++ ps.map fun p => Out.tickFlit p n period master hops remain decls } := by
    intro ps
    induction ps with
    | nil => simp
    | cons p ps ih =>
      intro t
      rw [List.foldl_cons, ih]
      simp [State.emit]
  have hports : (fun p => (s.port p).train == 6 && some port != some p) = fun p => (s.port p).train == 6 && p != port := by
    funext p
    rw [Bool.eq_iff_iff, Bool.and_eq_true, Bool.and_eq_true, bne_iff_ne, bne_iff_ne, Ne, Option.some_inj, ne_comm]
  rw [State.flood, hfold, hports]

/-- The message of the known master, taken: the next boundary and the lock, and nothing else. -/
theorem State.takeMessage_of_master {s : State} {m : TickIn} (h : s.tick.master = some m.master) :
    s.takeMessage m = { s with
      tick := { s.tick with
        nextAt := s.clk.cycle + psCycles (m.remainPs - (s.port m.port).delayPs)
        msg := some ⟨m.tickNo, m.periodUs, m.master, m.decls⟩, missed := 0, holdoverAt := none, matched := none }
      gaz := ((s.setNum 16 G.TICK_ERROR_NS (wrapInt 32 m.offsetNs)).setNum 16 G.TICK_LOCK 1).gaz } := by
  simp only [State.takeMessage, h, bne_self_eq_false, Bool.false_eq_true, if_false]
  rfl

theorem State.hearLocked_of_next {s : State} {m : TickIn} (hp : m.periodUs = s.node G.TICK_PERIOD)
    (ho : m.offsetNs.natAbs ≤ 200) (hn : m.tickNo = s.tickNo + 1) : s.hearLocked m = s.takeMessage m := by
  rw [State.hearLocked, if_neg (not_not.2 hp), if_neg (by omega), if_pos hn]

/-- What stands between a boundary message and its use (R24, R301). -/
theorem execBoundaryMessage_serving {s : State} {m : TickIn} (hm : m.port < nPorts) (hph : 6 ≤ s.node G.START_PHASE)
    (hs : s.serves = true) (ha : (s.port m.port).train = 6) :
    execBoundaryMessage m s =
      if s.tick.ignore ≠ 0 then .next { s with tick := { s.tick with ignore := s.tick.ignore - 1 } }
      else if s.tickSeen m then .next s
      else
        let u := { s with tick := { s.tick with forwarded := some m.tickNo } }.flood (some m.port) m.tickNo m.periodUs m.master
          (m.hops + 1) (m.remainPs - (s.port m.port).delayPs - m.residePs) m.decls
        .next (if u.lock = 3 then u.hearMaster m else if u.lock = 0 then u.hearUnlocked m else u.hearLocked m) := by
  rw [execBoundaryMessage, if_neg (by omega), if_neg (by simp [hs, ha]; omega)]

/-- A node in lock takes the first copy of its master's message for the next boundary. -/
theorem execBoundaryMessage_taken {s : State} {m : TickIn} (hm : m.port < nPorts) (hph : 6 ≤ s.node G.START_PHASE)
    (hs : s.serves = true) (ha : (s.port m.port).train = 6) (hi : s.tick.ignore = 0) (hseen : s.tickSeen m = false)
    (hl : s.lock = 1 ∨ s.lock = 2) (hp : m.periodUs = s.node G.TICK_PERIOD) (ho : m.offsetNs.natAbs ≤ 200)
    (hn : m.tickNo = s.tickNo + 1) (hmaster : s.tick.master = some m.master) :
    execBoundaryMessage m s = .next { s with
      tick := { s.tick with
        forwarded := some m.tickNo, nextAt := s.clk.cycle + psCycles (m.remainPs - (s.port m.port).delayPs)
        msg := some ⟨m.tickNo, m.periodUs, m.master, m.decls⟩, missed := 0, holdoverAt := none, matched := none }
      out := s.out ++ ((upto nPorts).filter (fun p => (s.port p).train == 6 && p != m.port)).map (fun p =>
        Out.tickFlit p m.tickNo m.periodUs m.master (m.hops + 1)
          (m.remainPs - (s.port m.port).delayPs - m.residePs) m.decls)
      gaz := ((s.setNum 16 G.TICK_ERROR_NS (wrapInt 32 m.offsetNs)).setNum 16 G.TICK_LOCK 1).gaz } := by
  rw [execBoundaryMessage_serving hm hph hs ha, if_neg (by simp [hi]), if_neg (by simp [hseen])]
  dsimp only
  rw [State.flood_eq]
  generalize hu : ({ s with tick := _, out := _ } : State) = u
  have hlock : u.lock = s.lock := by
    subst hu
    rfl
  rw [if_neg (by omega), if_neg (by omega), State.hearLocked_of_next (by subst hu; exact hp) ho (by subst hu; exact hn),
    State.takeMessage_of_master (by subst hu; exact hmaster)]
  subst hu
  rfl

end Sys2Proof.Machine

open Sys2Proof Sys2Proof.Machine

/-- Settles O42. That the boundary's instant is the arrival plus REMAIN_PS is log entry 34; that a message ends the holdover
and that detector 0x013 counts messages off, entry 109; that TICK_BOUNDARY acts at the block's next boundary, whatever
cycle the command comes in, entry 107: each is the model's own choice. -/
theorem boundaryMessageIsForwardedAndTaken : Obligations.BoundaryMessageIsForwardedAndTaken := by
  refine ⟨fun s m hm => ⟨fun h => ?_, fun hph hs ha => ⟨fun hi => ?_, fun hi hseen => ?_,
    fun hi hseen hl hp ho hn hmaster => ?_⟩⟩, fun s b => ?_⟩
  · rw [exec_boundaryMessage, execBoundaryMessage, if_neg (by omega), if_pos (by simpa using h)]
  · rw [exec_boundaryMessage, execBoundaryMessage_serving hm hph hs ha, if_pos hi]
  · rw [exec_boundaryMessage, execBoundaryMessage_serving hm hph hs ha, if_neg (by simp [hi]), if_pos hseen]
  · refine ⟨_, execBoundaryMessage_taken hm hph hs ha hi hseen hl hp ho hn hmaster, rfl, rfl, rfl, rfl,
      State.num_setNum_self _ 16 _ 1, ?_, rfl, rfl, rfl, rfl, rfl⟩
    exact (State.num_setNum_ne _ 1 (by decide)).trans (State.num_setNum_self s 16 _ _)
  · rw [exec_tickBoundary, execTickBoundary]
    simp only [Bool.not_eq_true']
end

section
/-!
PROOFS. Torus messages for this node: what each type does once its credits are returned.
-/

namespace Sys2Proof.Machine

/-! ### What every message meets first -/

/-- Returned credits change a port and put out one flit. -/
theorem State.returnCredit_eq (s : State) (m : Msg) :
    ∃ ports out, s.returnCredit m = { s with torus := { s.torus with ports := ports }, out := out } := by
  unfold State.returnCredit
  dsimp only
  split
  · exact ⟨_, _, rfl⟩
  · exact ⟨_, _, rfl⟩

theorem State.msgInset_returnCredit (s : State) (m n : Msg) : (s.returnCredit m).msgInset n = s.msgInset n := by
  obtain ⟨ports, out, hu⟩ := s.returnCredit_eq m
  rw [hu]
  rfl

theorem State.nodeId_returnCredit (s : State) (m : Msg) : (s.returnCredit m).nodeId = s.nodeId := by
  obtain ⟨ports, out, hu⟩ := s.returnCredit_eq m
  rw [hu]
  rfl

theorem State.arriveMsg_of_arrives {s : State} {m : Msg} {k i : Nat} (h : Arrives s m k i) (hk : k < 9)
    (act : State → State) : s.arriveMsg k m act = .next (act (s.returnCredit m)) := by
  have hhere : ¬ (MsgW.dest m.hdr ≠ s.nodeId ∨ (!decide (k = 6 ∨ k = 7) && (s.msgInset m).isNone) = true) := by
    rcases h.inset with hm | hm | hm <;> simp [h.dest, hm]
  have hport := h.port
  unfold State.arriveMsg
  dsimp only
  rw [if_neg (by omega), if_neg (by simp [h.active]), h.kind, if_neg (by omega), if_neg (by simp),
    State.nodeId_returnCredit, State.msgInset_returnCredit, if_neg (by simpa using hhere), if_neg (by simp [h.crc])]

/-- The Inset of a message of the data plane. -/
theorem msgInset_of_arrives {s : State} {m : Msg} {k i : Nat} (h : Arrives s m k i) (h6 : k ≠ 6) (h7 : k ≠ 7) :
    s.msgInset m = some i := (h.inset.resolve_left h6).resolve_left h7

/-! ### Landing (R293) -/

section
variable {s : State} {m : Msg} {i : Nat}

theorem State.landMsg_of_seen (hi : s.msgInset m = some i) (hcrc : MsgW.crcOk m.hdr m.payload = true)
    (hseen : s.torus.seen.contains (msgKey i m.hdr) = true) : s.landMsg m = s.bump i G.TORUS_DUP 1 := by
  simp only [State.landMsg, hi, hcrc, hseen, Bool.not_true, Bool.false_eq_true, if_false, if_true]

theorem State.landMsg_of_room (hi : s.msgInset m = some i) (hcrc : MsgW.crcOk m.hdr m.payload = true)
    (hseen : s.torus.seen.contains (msgKey i m.hdr) = false)
    (hroom : s.landUsed i + m.payload.length ≤ s.num i G.TORUS_LAND_BYTES) :
    s.landMsg m = { s.charge i 8 m.payload.length with torus := { s.torus with
      landed := s.torus.landed ++ [⟨i, m.hdr, m.payload⟩], seen := s.torus.seen ++ [msgKey i m.hdr] } } := by
  simp only [State.landMsg, hi, hcrc, hseen, Bool.not_true, Bool.false_eq_true, if_false]
  rw [if_neg (by omega)]

/-! ### Leases (R329) -/

theorem State.leaseTake_of_free {o : Nat} (node inset : Nat) (h : (s.syncObj o).held = false) :
    s.leaseTake o node inset = (s.setSync o { s.syncObj o with
      held := true, holder := node, hInset := inset, renewTick := s.tickNo, renewAt := s.clk.cycle }, true, true) := by
  simp [State.leaseTake, h]

/-! ### The rows -/

theorem exec_landing {k : Nat} {x : Instr} (hx : (k, x) ∈ [(0, Instr.put m), (1, Instr.a2aSlot m)]) :
    exec x s = s.arriveMsg k m (fun s => s.landMsg m) := by
  simp only [List.mem_cons, Prod.mk.injEq, List.not_mem_nil, or_false] at hx
  rcases hx with ⟨rfl, rfl⟩ | ⟨rfl, rfl⟩
  · rw [exec_put, execPut]
  · rw [exec_a2aSlot, execA2aSlot]

theorem landing_kind_lt {k : Nat} {x : Instr} (hx : (k, x) ∈ [(0, Instr.put m), (1, Instr.a2aSlot m)]) : k < 2 := by
  simp only [List.mem_cons, Prod.mk.injEq, List.not_mem_nil, or_false] at hx
  omega

theorem landing_effect {k : Nat} {x : Instr} (hx : (k, x) ∈ [(0, Instr.put m), (1, Instr.a2aSlot m)])
    (h : Arrives s m k i) :
    (s.torus.seen.contains (msgKey i m.hdr) = true → exec x s = .next ((s.returnCredit m).bump i G.TORUS_DUP 1))
    ∧ (s.torus.seen.contains (msgKey i m.hdr) = false →
      s.landUsed i + m.payload.length ≤ s.num i G.TORUS_LAND_BYTES →
      ∃ t, exec x s = .next t ∧ t.torus.landed = s.torus.landed ++ [⟨i, m.hdr, m.payload⟩]
        ∧ t.torus.seen = s.torus.seen ++ [msgKey i m.hdr] ∧ t.mem = s.mem) := by
  have hk := landing_kind_lt hx
  have hrow := (exec_landing hx).trans (State.arriveMsg_of_arrives h (by omega) _)
  have hi := msgInset_of_arrives h (by omega) (by omega)
  obtain ⟨ports, out, hu⟩ := s.returnCredit_eq m
  rw [hu] at hrow ⊢
  exact ⟨fun hseen => hrow.trans (congrArg Host.Outcome.next (State.landMsg_of_seen hi h.crc hseen)), fun hseen hroom =>
    ⟨_, hrow.trans (congrArg Host.Outcome.next (State.landMsg_of_room hi h.crc hseen hroom)), rfl, rfl,
      State.charge_mem _ _ _ _⟩⟩

theorem done_effect (h : Arrives s m 2 i) :
    (s.lock ≠ 3 → exec (.done m) s = .next (s.returnCredit m))
    ∧ (s.lock = 3 → exec (.done m) s = .next { s.returnCredit m with tick := { (s.returnCredit m).tick with
        done := s.tick.done
          ++ [⟨m.tag, MsgW.src m.hdr, sliceNat m.payload 0 8, s.clk.cycle, sliceNat m.payload 8 8⟩] } }) := by
  have hrow : exec (.done m) s = _ := (exec_done m s).trans (State.arriveMsg_of_arrives h (by omega) _)
  obtain ⟨ports, out, hu⟩ := s.returnCredit_eq m
  rw [hu] at hrow ⊢
  exact ⟨fun hl => hrow.trans (congrArg _ (if_neg hl)), fun hl => hrow.trans (congrArg _ (if_pos hl))⟩

theorem token_effect (h : Arrives s m 3 i) :
    let u := s.returnCredit m
    let b := m.payload
    (syncOp b = 0 → exec (.token m) s =
      .next (u.tokenServe (MsgW.xfer m.hdr) (MsgW.src m.hdr) (syncInset b) (syncIdx b)))
    ∧ (syncOp b ≠ 0 → exec (.token m) s =
        .next (u.modCmd ⟨syncInset b, syncIdx b⟩ (fun c =>
          if c.token = 1 then { c with token := if syncOp b = 1 then 2 else 3 } else c))) := by
  have hrow : exec (.token m) s = _ := (exec_token m s).trans (State.arriveMsg_of_arrives h (by omega) _)
  refine ⟨fun hop => hrow.trans (congrArg _ (if_pos hop)), fun hop => hrow.trans (congrArg _ ((if_neg hop).trans ?_))⟩
  simp only [State.tokenAnswer, beq_iff_eq]

theorem lease_effect (h : Arrives s m 4 i) (hhome : (s.syncObj (MsgW.xfer m.hdr)).home = s.nodeId) :
    let u := s.returnCredit m
    let b := m.payload
    let o := MsgW.xfer m.hdr
    let src := MsgW.src m.hdr
    (syncOp b = 0 → (s.syncObj o).held = false →
      exec (.lease m) s = .next ((u.setSync o { s.syncObj o with
        held := true, holder := src, hInset := syncInset b, renewTick := s.tickNo, renewAt := s.clk.cycle }).syncSend
          4 src o 1 (syncInset b) (syncIdx b) []))
    ∧ (syncOp b = 2 → (s.syncObj o).holder = src → (s.syncObj o).hInset = syncInset b →
      ∃ t, exec (.lease m) s = .next t ∧ (t.syncObj o).held = false ∧ ∀ n, n ≠ o → t.syncObj n = s.syncObj n) := by
  have hrow : exec (.lease m) s = _ := (exec_lease m s).trans (State.arriveMsg_of_arrives h (by omega) _)
  obtain ⟨ports, out, hu⟩ := s.returnCredit_eq m
  rw [hu] at hrow ⊢
  generalize hv : ({ s with torus := _, out := out } : State) = v at hrow ⊢
  have hsync : ∀ n, v.syncObj n = s.syncObj n := fun n => by subst hv; rfl
  have hid : v.nodeId = s.nodeId := by subst hv; rfl
  have htick : v.tickNo = s.tickNo := by subst hv; rfl
  have hclk : v.clk = s.clk := by subst hv; rfl
  dsimp only at hrow ⊢
  rw [hsync, hid, if_pos hhome] at hrow
  refine ⟨fun hop hfree => ?_, fun hop hholder hinset => ⟨_, hrow, ?_⟩⟩
  · rw [hrow, if_pos hop, State.leaseTake_of_free _ _ ((congrArg _ (hsync _)).trans hfree), hsync, htick, hclk]
    rfl
  · rw [if_neg (by omega), if_pos ⟨hholder, hinset⟩]
    refine ⟨?_, fun n hn => ?_⟩
    · rw [State.leaseFree, State.syncObj_setSync, if_pos rfl]
    · rw [State.leaseFree, State.syncObj_setSync, if_neg hn, hsync]

theorem barrier_effect (h : Arrives s m 5 i) :
    let u := s.returnCredit m
    let b := m.payload
    let o := MsgW.xfer m.hdr
    (syncOp b = 0 → exec (.barrier m) s = .next (u.barrierArrive o (MsgW.src m.hdr) (syncInset b)))
    ∧ (syncOp b ≠ 0 → exec (.barrier m) s = .next (u.barrierDone o (barrierRanks s.nodeId b))) := by
  have hrow : exec (.barrier m) s = _ := (exec_barrier m s).trans (State.arriveMsg_of_arrives h (by omega) _)
  obtain ⟨ports, out, hu⟩ := s.returnCredit_eq m
  rw [hu] at hrow ⊢
  exact ⟨fun hop => hrow.trans (congrArg _ (if_pos hop)), fun hop => hrow.trans (congrArg _ (if_neg hop))⟩

theorem mgmtReq_effect (h : Arrives s m 6 i) :
    let u := s.returnCredit m
    let b := m.payload
    let src := MsgW.src m.hdr
    let r : GazReq := ⟨.torus src (MsgW.xfer m.hdr % 65536), sliceNat b 0 32, b.drop 32⟩
    (s.mgmtAllowed src = false → exec (.mgmtReq m) s = .next (u.respond r Code.MGMT_DENIED))
    ∧ (s.mgmtAllowed src = true → (s.gaz.queue.filter (fun q => q.path.kind == r.path.kind)).length < 64 →
      exec (.mgmtReq m) s = .next { u with gaz := { s.gaz with queue := s.gaz.queue ++ [r] } }) := by
  have hrow : exec (.mgmtReq m) s = _ := (exec_mgmtReq m s).trans (State.arriveMsg_of_arrives h (by omega) _)
  obtain ⟨ports, out, hu⟩ := s.returnCredit_eq m
  rw [hu] at hrow ⊢
  refine ⟨fun hden => hrow.trans (congrArg _ (if_neg ?_)), fun hall hroom =>
    hrow.trans (congrArg _ ((if_pos hall).trans (if_neg (Nat.not_le.2 hroom))))⟩
  exact Bool.eq_false_iff.1 hden

theorem mgmtRsp_effect (h : Arrives s m 7 i) :
    exec (.mgmtRsp m) s = .next ((s.returnCredit m).emit
      (.gazResp (.torus (MsgW.src m.hdr) 0) (sliceNat m.payload 0 32) (m.payload.drop 32))) :=
  (exec_mgmtRsp m s).trans (State.arriveMsg_of_arrives h (by omega) _)

theorem event_effect (h : Arrives s m 8 i) :
    let e := sliceNat m.payload 0 32
    exec (.event m) s = .next ((s.returnCredit m).eventFull i (bf e 15 0) (bf e 191 128) (bf e 255 192) (bit e 16)) := by
  have hrow : exec (.event m) s = _ := (exec_event m s).trans (State.arriveMsg_of_arrives h (by omega) _)
  rw [hrow, State.msgInset_returnCredit, msgInset_of_arrives h (by omega) (by omega)]

end

end Sys2Proof.Machine

open Sys2Proof Sys2Proof.Machine

/-- Settles O48. The layouts of the payloads are the model's own (log entries 31 and 32), and so are the ring that an EVENT
joins (entry 83) and the path of management messages (entry 74). -/
theorem eachMessageTypeHasItsEffect : Obligations.EachMessageTypeHasItsEffect := fun _ _ _ =>
  ⟨fun _ _ hx h => landing_effect hx h, done_effect, token_effect, lease_effect, barrier_effect, mgmtReq_effect,
    mgmtRsp_effect, event_effect⟩
end

section
/-!
PROOFS. Integer arithmetic of the tiles (R70, R79): two's complement readings and the wrap to 32 bits are congruences, so an
integer MATMUL element and an int32 vector element are their exact values modulo 2^32.
-/

namespace Sys2Proof

/-! ### Readings and wraps of `w` bits -/

theorem sext_eq_bmod (w x : Nat) : sext w x = Int.bmod x (2 ^ w) := by
  have hhalf : (2 ^ w + 1) / 2 = 2 ^ (w - 1) := by
    cases w with
    | zero => rfl
    | succ n => rw [Nat.pow_succ, Nat.add_sub_cancel]; omega
  simp only [sext, Int.bmod_def, ← hhalf]
  norm_cast

theorem sext_modEq (w x : Nat) : sext w x ≡ x [ZMOD (2 ^ w : Nat)] := by
  rw [sext_eq_bmod]
  exact Int.bmod_emod

theorem natCast_wrapInt (w : Nat) (i : Int) : (wrapInt w i : Int) = i % (2 ^ w : Nat) :=
  Int.toNat_of_nonneg (Int.emod_nonneg i (by positivity))

theorem wrapInt_of_modEq {w n : Nat} {i : Int} (h : i ≡ n [ZMOD (2 ^ w : Nat)]) : wrapInt w i = n % 2 ^ w :=
  Int.natCast_inj.1 ((natCast_wrapInt w i).trans h)

/-- A word that is read as an integer and wrapped again is itself. -/
theorem wrapInt_sext {w x : Nat} (h : x < 2 ^ w) : wrapInt w (sext w x) = x :=
  (wrapInt_of_modEq (sext_modEq w x)).trans (Nat.mod_eq_of_lt h)

/-- An integer within 32 bits is what its wrap reads as. -/
theorem sext_wrapInt_of_range {i : Int} (hlo : -2 ^ 31 ≤ i) (hhi : i < 2 ^ 31) : sext 32 (wrapInt 32 i) = i := by
  rw [sext_eq_bmod, natCast_wrapInt, Int.emod_bmod]
  exact Int.bmod_eq_of_le hlo (by omega)

theorem sext_neg_iff {a : Nat} (h : a < 2 ^ 32) : sext 32 a < 0 ↔ 2 ^ 31 ≤ a := by
  simp only [sext, Nat.mod_eq_of_lt h]
  split <;> omega

end Sys2Proof

namespace Sys2Proof.Machine

/-! ### Elements of MATMUL (R70) -/

theorem foldl_add_eq_sum {α : Type} (f : α → Int) (l : List α) (z : Int) :
    l.foldl (fun acc x => acc + f x) z = z + (l.map f).sum := by
  rw [List.sum_eq_foldl, ← List.foldl_assoc (op := fun x y : Int => x + y), add_zero, List.foldl_map]

/-- The accumulator before its wrap: the initial value plus the exact products. -/
theorem matElem_int {fa : Nat} (h : fmtIsInt fa = true) (fb init : Nat) (row col : List Nat) :
    matElem fa fb init row col = wrapInt 32 (sext 32 init
      + ((pairUp row col).map (fun p => sext (fmtBits fa) p.1 * sext (fmtBits fb) p.2)).sum) := by
  rw [matElem, if_pos h, foldl_add_eq_sum]

/-- With good sources a MATMUL without projection ends with no effect beyond its writes, and an integer one counts nothing but
its reads. -/
theorem State.matWork_int_good {s : State} (r : CmdRef) {c : Cmd} (hint : fmtIsInt (MatP.aFmt (leNat c.params)) = true)
    (hproj : MatP.outProj (leNat c.params) = false)
    (hgood : s.firstBad (matReads (tileAddr c.index) (leNat c.params) 0) = none) :
    ∃ ws, s.matWork r c = (s.noteReads (matReads (tileAddr c.index) (leNat c.params) 0), .done (Work.ofWrites ws)) := by
  simp only [State.matWork, hproj, hint, hgood, Bool.false_and, Bool.false_eq_true, if_false, if_true, Bool.not_false]
  split
  · exact ⟨[], rfl⟩
  · exact ⟨_, rfl⟩

/-! ### int32 vector elements (Table 3-8) -/

section VecInt
variable {a b : Nat} (c : Nat)

theorem vecInt_add : vecInt 1 a b c = (a + b) % 2 ^ 32 :=
  wrapInt_of_modEq ((sext_modEq 32 a).add (sext_modEq 32 b))

theorem vecInt_sub (hb : b < 2 ^ 32) : vecInt 2 a b c = (a + 2 ^ 32 - b) % 2 ^ 32 := by
  refine wrapInt_of_modEq (((sext_modEq 32 a).sub (sext_modEq 32 b)).trans ?_)
  rw [Nat.cast_sub (by omega), Nat.cast_add, add_sub_right_comm]
  exact Int.ModEq.symm Int.add_modEq_right

theorem vecInt_mul : vecInt 3 a b c = a * b % 2 ^ 32 :=
  wrapInt_of_modEq (by exact_mod_cast (sext_modEq 32 a).mul (sext_modEq 32 b))

theorem vecInt_min (ha : a < 2 ^ 32) (hb : b < 2 ^ 32) : vecInt 5 a b c = if sext 32 a ≤ sext 32 b then a else b := by
  change wrapInt 32 (min _ _) = _
  rw [min_def, apply_ite (wrapInt 32), wrapInt_sext ha, wrapInt_sext hb]

theorem vecInt_max (ha : a < 2 ^ 32) (hb : b < 2 ^ 32) : vecInt 6 a b c = if sext 32 a ≤ sext 32 b then b else a := by
  change wrapInt 32 (max _ _) = _
  rw [max_def, apply_ite (wrapInt 32), wrapInt_sext ha, wrapInt_sext hb]

theorem wrapInt_neg_sext (ha : a < 2 ^ 32) : wrapInt 32 (-sext 32 a) = (2 ^ 32 - a) % 2 ^ 32 := by
  refine wrapInt_of_modEq ((sext_modEq 32 a).neg.trans ?_)
  rw [Nat.cast_sub ha.le, sub_eq_neg_add]
  exact Int.ModEq.symm Int.add_modEq_right

theorem vecInt_neg (ha : a < 2 ^ 32) : vecInt 8 a b c = (2 ^ 32 - a) % 2 ^ 32 := wrapInt_neg_sext ha

theorem vecInt_abs (ha : a < 2 ^ 32) : vecInt 7 a b c = if a < 2 ^ 31 then a else 2 ^ 32 - a := by
  change wrapInt 32 (if _ then _ else _) = _
  rw [apply_ite (wrapInt 32), wrapInt_sext ha, wrapInt_neg_sext ha]
  simp only [sext_neg_iff ha]
  rcases Nat.lt_or_ge a (2 ^ 31) with h | h
  · rw [if_neg (Nat.not_le.2 h), if_pos h]
  · rw [if_pos h, if_neg (Nat.not_lt.2 h), Nat.mod_eq_of_lt (by omega)]

theorem vecInt_cmpGt : vecInt 0x0A a b c = if sext 32 b < sext 32 a then 1 else 0 := rfl

theorem vecInt_select : vecInt 0x0B a b c = if a ≠ 0 then b else c := rfl

end VecInt

end Sys2Proof.Machine

open Sys2Proof Sys2Proof.Machine

/-- Settles O14. -/
theorem integerMatmulIsExactModulo : Obligations.IntegerMatmulIsExactModulo := by
  refine ⟨fun fa fb init row col hint => ?_, fun s r c hint hproj hgood => ?_⟩
  · rw [matElem_int hint]
    exact ⟨natCast_wrapInt 32 _, sext_wrapInt_of_range⟩
  · obtain ⟨ws, hwork⟩ := State.matWork_int_good r hint hproj hgood
    exact ⟨_, hwork, rfl, rfl, rfl, rfl⟩

/-- Settles O15. -/
theorem integerVectorElementsWrap : Obligations.IntegerVectorElementsWrap := fun _ _ c ha hb _ =>
  ⟨vecInt_add c, vecInt_sub c hb, vecInt_mul c, vecInt_neg c ha, vecInt_min c ha hb, vecInt_max c ha hb, vecInt_abs c ha,
    vecInt_cmpGt c, vecInt_select c⟩
end

section
/-!
PROOFS. A bad word of a tile's buffer (R76): who is killed by it.
-/

namespace Sys2Proof.Machine

/-- With a bad word among its sources a vector command's work ends at the first, before any write. -/
theorem State.vecWork_bad {s : State} {op : Nat} {c : Cmd} {a : Nat}
    (h : s.firstBad (vecReads (tileAddr c.index) (leNat c.params) op) = some a) : s.vecWork op c = (s, .tile a) := by
  simp only [State.vecWork, h]

/-- An engine row whose work meets a bad word leaves only the kills of the word's readers. -/
theorem State.engineRow_tile {s : State} {r : CmdRef} {hw : Hw} {e o : Nat} {data : Cmd → Bool}
    {work : State → Cmd → State × Res} {c : Cmd} {a : Nat} (hr : r.inset < 16) (hc : s.running r e o = some c)
    (hh : s.hwFault r c hw = none) (hf : forcedKill c (data c) = none) (hw' : work s c = (s, .tile a)) :
    s.engineRow r hw e o data work = .next (s.tileWord r c a) := by
  rw [State.engineRow, State.engineStep_run hr hc hh hf, hw']
  rfl

section TileWord
variable {s : State} {c : Cmd} {a : Nat} (r : CmdRef)

theorem State.tileWord_of_one (h : (s.tileCmds c.index (fun x => x.inInputs (a / 64 * 64) 64)).length ≤ 1) :
    s.tileWord r c a = s.kill r Code.OPBUF_UNCORRECTABLE := if_pos h

theorem State.tileWord_of_several (h : 2 ≤ (s.tileCmds c.index (fun x => x.inInputs (a / 64 * 64) 64)).length) :
    s.tileWord r c a = (s.tileCmds c.index (fun x => x.inInputs (a / 64 * 64) 64)).foldl
      (fun s x => s.kill x Code.TILE_SHARED_FAULT) s := if_neg (by omega)

end TileWord

end Sys2Proof.Machine

open Sys2Proof Sys2Proof.Machine

/-- Settles O21. -/
theorem tileWordFaultKillsItsReaders : Obligations.TileWordFaultKillsItsReaders := by
  intro r hw op i hi s c a hr hc hh hf hbad
  have hrow : exec i s = .next (s.tileWord r c a) :=
    (exec_vectorRows r hw s _ hi).trans (State.engineRow_tile hr hc hh hf (State.vecWork_bad hbad))
  dsimp only
  rw [hrow]
  refine ⟨fun hone => ?_, fun hseveral => ?_⟩
  · rw [State.tileWord_of_one r (by rw [hone]; rfl)]
  · rw [State.tileWord_of_several r hseveral]
end

section
/-!
PROOFS. Memory's canonical form through a step, one byte of it, and the two views of the stacks (R210).
-/

namespace Sys2Proof.Machine

theorem State.idleCycle_mem (s : State) : s.idleCycle.mem = s.mem := by rw [State.idleCycle_eq]

/-- Whatever the step runs, memory in canonical form stays so. -/
theorem step_mem_wf {s t : State} (hwf : s.mem.wf = true) (h : step s = .next t) : t.mem.wf = true := by
  cases hq : s.pending with
  | nil =>
    rw [step_nil hq, Host.Outcome.next.injEq] at h
    rw [← h, State.idleCycle_mem]
    exact hwf
  | cons c rest =>
    rw [step_cons hq] at h
    exact (evolves_of_exec h).mem hwf

/-! ### The views of the stacks (R210) -/

/-- The interleaved view of the stacks: channel `j` modulo 8 of the group, by 256-byte pieces. -/
def interleaved (x : Nat) : Nat :=
  (8 * (x / 0x600000000) + x % 0x600000000 / 256 % 8) * channelBytes + 256 * (x % 0x600000000 / 256 / 8) + x % 256

section Views
variable {x y : Nat}

theorem storageOf_pinned (h : x < stackTop) : storageOf x = some x := if_pos h

theorem storageOf_interleaved (h : x < stackTop) : storageOf (interBase + x) = some (interleaved x) := by
  have htop : stackTop = 0xC000000000 := rfl
  have hbase : interBase = 0x10000000000 := rfl
  have hpiece : x % 0x600000000 % 256 = x % 256 := Nat.mod_mod_of_dvd x (by decide)
  unfold storageOf
  rw [if_neg (by omega), if_pos (by omega), Nat.add_sub_cancel_left]
  dsimp only
  rw [hpiece, interleaved]

/-- The channel and the offset in it give the group, the piece and the byte back. -/
theorem channel_interleaved (x : Nat) :
    interleaved x / channelBytes = 8 * (x / 0x600000000) + x % 0x600000000 / 256 % 8
      ∧ interleaved x % channelBytes = 256 * (x % 0x600000000 / 256 / 8) + x % 256 := by
  have hchannel : channelBytes = 0xC0000000 := rfl
  have hoff : 256 * (x % 0x600000000 / 256 / 8) + x % 256 < channelBytes := by omega
  rw [interleaved, Nat.add_assoc, Nat.add_comm, Nat.add_mul_div_right _ _ (by omega), Nat.div_eq_of_lt hoff,
    Nat.add_mul_mod_self_right, Nat.mod_eq_of_lt hoff]
  exact ⟨Nat.zero_add _, rfl⟩

theorem interleaved_injective (h : interleaved x = interleaved y) : x = y := by
  obtain ⟨hxc, hxo⟩ := channel_interleaved x
  obtain ⟨hyc, hyo⟩ := channel_interleaved y
  rw [h] at hxc hxo
  have hc := hxc.symm.trans hyc
  have ho := hxo.symm.trans hyo
  omega

theorem interleaved_lt (h : x < stackTop) : interleaved x < stackTop := by
  have htop : stackTop = 256 * channelBytes := rfl
  have htop' : stackTop = 0xC000000000 := rfl
  have hc := (channel_interleaved x).1
  rw [htop, ← Nat.div_lt_iff_lt_mul (by decide), hc]
  omega

end Views

end Sys2Proof.Machine

open Sys2Proof Sys2Proof.Machine

/-- Settles O6: a command keeps the form (`Evolves`), and an idle cycle leaves memory as it is. -/
theorem memoryStaysCanonical : Obligations.MemoryStaysCanonical := fun _ _ => step_mem_wf

/-- Settles O8. -/
theorem byteReadAfterWrite : Obligations.ByteReadAfterWrite := fun m a x b _ => m.byte_setByte a x b

/-- Settles O9. -/
theorem interleavedViewIsOneToOne : Obligations.InterleavedViewIsOneToOne := by
  refine ⟨fun x => storageOf_pinned, fun x => storageOf_interleaved, fun x y hx hy h => ?_, fun x st hx h => ?_⟩
  · rw [storageOf_interleaved hx, storageOf_interleaved hy, Option.some.injEq] at h
    exact interleaved_injective h
  · rw [storageOf_interleaved hx, Option.some.injEq] at h
    exact h ▸ interleaved_lt hx
end

section
/-!
PROOFS. The check code of a stack word (R229, R230). What the check field says of a word is linear over exclusive or, so an
error's syndrome is that of its flipped bits alone; each of the 539 columns has odd weight and no two are alike, so one flipped
bit is named by its column and two give an even weight, which no column has.
-/

namespace Sys2Proof

/-! ### Bit fields, weights and lists -/

theorem bf_xor (x y hi lo : Nat) : bf (x ^^^ y) hi lo = bf x hi lo ^^^ bf y hi lo := by
  rw [bf, bf, bf, Nat.shiftRight_xor_distrib, Nat.xor_mod_two_pow]

/-- Numbers put side by side: exclusive or acts on each part. -/
theorem xor_add_mul_two_pow {n a b : Nat} (ha : a < 2 ^ n) (hb : b < 2 ^ n) (c d : Nat) :
    (a ^^^ b) + (c ^^^ d) * 2 ^ n = (a + c * 2 ^ n) ^^^ (b + d * 2 ^ n) := by
  have hlow : ((a + c * 2 ^ n) ^^^ (b + d * 2 ^ n)) % 2 ^ n = a ^^^ b := by
    rw [Nat.xor_mod_two_pow, Nat.add_mul_mod_self_right, Nat.add_mul_mod_self_right, Nat.mod_eq_of_lt ha,
      Nat.mod_eq_of_lt hb]
  have hhigh : ((a + c * 2 ^ n) ^^^ (b + d * 2 ^ n)) / 2 ^ n = c ^^^ d := by
    rw [Nat.xor_div_two_pow, Nat.add_mul_div_right _ _ (Nat.two_pow_pos n), Nat.add_mul_div_right _ _ (Nat.two_pow_pos n),
      Nat.div_eq_of_lt ha, Nat.div_eq_of_lt hb, Nat.zero_add, Nat.zero_add]
  rw [← hlow, ← hhigh, Nat.mod_add_div']

/-- The weight of an exclusive or has the parity of the weights' sum. -/
theorem popCount_xor_mod_two (n x y : Nat) : popCount n (x ^^^ y) % 2 = (popCount n x + popCount n y) % 2 := by
  induction n generalizing x y with
  | zero => rfl
  | succ n ih =>
    have hhalf := ih (x / 2) (y / 2)
    have hbit : (x ^^^ y) % 2 = (x + y) % 2 := Nat.xor_mod_two_eq
    rw [← Nat.xor_div_two] at hhalf
    simp only [popCount]
    omega

theorem rangeFrom_eq_range' (a n : Nat) : rangeFrom a n = List.range' a n := by
  induction n generalizing a with
  | zero => rfl
  | succ n ih => rw [rangeFrom, ih, List.range'_succ]

namespace Machine

/-! ### The columns (R229 step 2) -/

/-- The column of bit `p` of the data and CRC bits. -/
def stackColumn (p : Nat) : Nat := nth 0 (hTable.take 528) p

theorem length_hTable_take : (hTable.take 528).length = 528 := by decide +kernel

theorem nodup_hTable_take : (hTable.take 528).Nodup := by
  refine .sublist (List.take_sublist _ _) (.filter _ ?_)
  rw [upto, rangeFrom_eq_range']
  exact List.nodup_range'

section Column
variable {p q : Nat}

theorem getElem?_hTable_take (hp : p < 528) : (hTable.take 528)[p]? = some (stackColumn p) := by
  rw [stackColumn, nth_eq_getD, List.getElem?_eq_getElem (by rwa [length_hTable_take]), Option.getD_some]

theorem popCount_of_mem_hTable {v : Nat} (h : v ∈ hTable.take 528) : popCount 11 v = 3 ∨ popCount 11 v = 5 := by
  simpa using (List.mem_filter.1 (List.mem_of_mem_take h)).2

theorem lt_of_mem_hTable {v : Nat} (h : v ∈ hTable.take 528) : v < 2 ^ 11 :=
  mem_upto.1 (List.mem_filter.1 (List.mem_of_mem_take h)).1

theorem popCount_stackColumn (hp : p < 528) : popCount 11 (stackColumn p) = 3 ∨ popCount 11 (stackColumn p) = 5 :=
  popCount_of_mem_hTable (List.mem_of_getElem? (getElem?_hTable_take hp))

theorem stackColumn_ne (hp : p < 528) (hq : q < 528) (h : p ≠ q) : stackColumn p ≠ stackColumn q := fun heq =>
  h ((List.getElem?_inj (by rwa [length_hTable_take]) nodup_hTable_take).1
    (by rw [getElem?_hTable_take hp, getElem?_hTable_take hq, heq]))

end Column

theorem hPos_of_not_mem {hs : List Nat} {v : Nat} (h : v ∉ hs) (i : Nat) : hPos hs v i = none := by
  induction hs generalizing i with
  | nil => rfl
  | cons c hs ih =>
    rw [List.mem_cons, not_or] at h
    rw [hPos, if_neg (Ne.symm h.1), ih h.2]

theorem hPos_of_getElem? {hs : List Nat} {v p : Nat} (hnodup : hs.Nodup) (h : hs[p]? = some v) (i : Nat) :
    hPos hs v i = some (i + p) := by
  induction hs generalizing p i with
  | nil => simp at h
  | cons c hs ih =>
    obtain ⟨hfresh, hrest⟩ := List.nodup_cons.1 hnodup
    cases p with
    | zero =>
      rw [List.getElem?_cons_zero, Option.some.injEq] at h
      rw [hPos, if_pos h, Nat.add_zero]
    | succ p =>
      rw [List.getElem?_cons_succ] at h
      have hne : c ≠ v := fun heq => hfresh (heq ▸ List.mem_of_getElem? h)
      rw [hPos, if_neg hne, ih hrest h, Nat.add_right_comm, Nat.add_assoc]

theorem hPos_stackColumn {p : Nat} (hp : p < 528) : hPos (hTable.take 528) (stackColumn p) 0 = some p := by
  rw [hPos_of_getElem? nodup_hTable_take (getElem?_hTable_take hp), Nat.zero_add]

/-! ### The h field is linear (R229 step 3) -/

theorem hXor_xor (hs : List Nat) (x y a b : Nat) : hXor hs (x ^^^ y) (a ^^^ b) = hXor hs x a ^^^ hXor hs y b := by
  induction hs generalizing x y a b with
  | nil => rfl
  | cons c hs ih =>
    have hacc : (if (x ^^^ y) % 2 = 1 then (a ^^^ b) ^^^ c else a ^^^ b)
        = (if x % 2 = 1 then a ^^^ c else a) ^^^ (if y % 2 = 1 then b ^^^ c else b) := by
      have hbit : (x ^^^ y) % 2 = (x + y) % 2 := Nat.xor_mod_two_eq
      rcases Nat.mod_two_eq_zero_or_one x with hx | hx <;> rcases Nat.mod_two_eq_zero_or_one y with hy | hy
      · simp [hbit, hx, hy, Nat.add_mod]
      · simp [hbit, hx, hy, Nat.add_mod, Nat.xor_assoc]
      · simp [hbit, hx, hy, Nat.add_mod, Nat.xor_assoc, Nat.xor_comm b c]
      · simp [hbit, hx, hy, Nat.add_mod, Nat.xor_assoc, Nat.xor_comm b c]
    exact (congrArg₂ (hXor hs) Nat.xor_div_two hacc).trans (ih ..)

@[simp] theorem hXor_zero (hs : List Nat) (a : Nat) : hXor hs 0 a = a := by
  induction hs with
  | nil => rfl
  | cons c hs ih => simpa [hXor] using ih

theorem hXor_two_pow (hs : List Nat) (p : Nat) : hXor hs (2 ^ p) 0 = nth 0 hs p := by
  induction hs generalizing p with
  | nil => rfl
  | cons c hs ih =>
    cases p with
    | zero => simp [hXor, nth]
    | succ p =>
      have hodd : 2 ^ (p + 1) % 2 = 0 := by omega
      have hhalf : 2 ^ (p + 1) / 2 = 2 ^ p := by omega
      simp [hXor, nth, hodd, hhalf, ih]

theorem hXor_lt {hs : List Nat} (h : ∀ c ∈ hs, c < 2 ^ 11) {a : Nat} (ha : a < 2 ^ 11) (x : Nat) : hXor hs x a < 2 ^ 11 := by
  induction hs generalizing x a with
  | nil => exact ha
  | cons c hs ih =>
    rw [List.forall_mem_cons] at h
    refine ih h.2 ?_ (x / 2)
    split
    · exact Nat.xor_lt_two_pow ha h.1
    · exact ha

theorem hField_xor {d x : Nat} (hd : d < 2 ^ 512) (hx : x < 2 ^ 512) (r q : Nat) :
    hField (d ^^^ x) (r ^^^ q) = hField d r ^^^ hField x q := by
  rw [hField, xor_add_mul_two_pow hd hx]
  exact hXor_xor _ _ _ 0 0

theorem hField_lt (d r : Nat) : hField d r < 2 ^ 11 := hXor_lt (fun _ => lt_of_mem_hTable) (by decide) _

theorem hField_data (p : Nat) : hField (2 ^ p) 0 = stackColumn p := by
  rw [hField, Nat.zero_mul, Nat.add_zero, hXor_two_pow, stackColumn]

theorem hField_crc (q : Nat) : hField 0 (2 ^ q) = stackColumn (512 + q) := by
  rw [hField, Nat.zero_add, ← Nat.pow_add, Nat.add_comm, hXor_two_pow, stackColumn]

@[simp] theorem hField_zero : hField 0 0 = 0 := by rw [hField, Nat.zero_mul, hXor_zero]

/-! ### The CRC's width -/

theorem crc16Step_lt {r : Nat} (n : Nat) (h : r < 2 ^ 16) : crc16Step n r < 2 ^ 16 := by
  induction n generalizing r with
  | zero => exact h
  | succ n ih =>
    refine ih ?_
    split
    · exact Nat.xor_lt_two_pow (Nat.mod_lt _ (by decide)) (by decide)
    · exact Nat.mod_lt _ (by decide)

theorem crc16_lt (bs : Bytes) {r : Nat} (h : r < 2 ^ 16) : crc16 r bs < 2 ^ 16 := by
  induction bs generalizing r with
  | nil => exact h
  | cons b bs ih => exact ih (crc16Step_lt 8 (Nat.xor_lt_two_pow h (by omega)))

/-- The CRC bits of a word (R229 step 1). -/
def wordCrc (d : Nat) : Nat := crc16 0 (toLe 64 d)

theorem wordCrc_lt (d : Nat) : wordCrc d < 2 ^ 16 := crc16_lt _ (by decide)

theorem checkField_eq (d : Nat) : checkField d = hField d (wordCrc d) + wordCrc d * 2 ^ 11 := rfl

/-! ### Fields of the check field -/

theorem bf_crc_checkField (d : Nat) : bf (checkField d) 26 11 = wordCrc d := by
  have hh := hField_lt d (wordCrc d)
  have hr := wordCrc_lt d
  rw [bf, checkField_eq, Nat.shiftRight_eq_div_pow]
  omega

theorem bf_h_checkField (d : Nat) : bf (checkField d) 10 0 = hField d (wordCrc d) := by
  have hh := hField_lt d (wordCrc d)
  rw [bf, checkField_eq, Nat.shiftRight_eq_div_pow]
  omega

/-- The poison field is the check field with every h bit flipped (R229 step 4). -/
theorem poisonField_eq (d : Nat) : poisonField d = checkField d ^^^ 0x7FF := by
  have h := xor_add_mul_two_pow (hField_lt d (wordCrc d)) (b := 0x7FF) (by decide) (wordCrc d) 0
  rw [Nat.xor_zero, ← checkField_eq, Nat.zero_mul] at h
  exact h

/-! ### The syndrome (R230) -/

/-- What the h field says against the bits received. -/
def stackSyndrome (d e : Nat) : Nat := hField d (bf e 26 11) ^^^ bf e 10 0

theorem stackSyndrome_xor {d x : Nat} (hd : d < 2 ^ 512) (hx : x < 2 ^ 512) (e y : Nat) :
    stackSyndrome (d ^^^ x) (e ^^^ y) = stackSyndrome d e ^^^ stackSyndrome x y := by
  rw [stackSyndrome, bf_xor, bf_xor, hField_xor hd hx, stackSyndrome, stackSyndrome]
  generalize hField d (bf e 26 11) = h, hField x (bf y 26 11) = k
  ac_rfl

@[simp] theorem stackSyndrome_checkField (d : Nat) : stackSyndrome d (checkField d) = 0 := by
  rw [stackSyndrome, bf_crc_checkField, bf_h_checkField, Nat.xor_self]

/-- The syndrome of a word stored and hit by an error is the error's own. -/
theorem stackSyndrome_error {d x : Nat} (hd : d < 2 ^ 512) (hx : x < 2 ^ 512) (y : Nat) :
    stackSyndrome (d ^^^ x) (checkField d ^^^ y) = stackSyndrome x y := by
  rw [stackSyndrome_xor hd hx, stackSyndrome_checkField, Nat.zero_xor]

theorem bf_crc_error (d y : Nat) : bf (checkField d ^^^ y) 26 11 = wordCrc d ^^^ bf y 26 11 := by
  rw [bf_xor, bf_crc_checkField]

theorem stackSyndrome_data (p : Nat) : stackSyndrome (2 ^ p) 0 = stackColumn p := by
  rw [stackSyndrome, show bf 0 26 11 = 0 from rfl, show bf 0 10 0 = 0 from rfl, hField_data, Nat.xor_zero]

/-- An error of the h bits alone is its own syndrome. -/
theorem stackSyndrome_h {y : Nat} (hy : y < 2 ^ 11) : stackSyndrome 0 y = y := by
  have hcrc : bf y 26 11 = 0 := by rw [bf, Nat.shiftRight_eq_div_pow, Nat.div_eq_of_lt hy, Nat.zero_mod]
  have hh : bf y 10 0 = y := Nat.mod_eq_of_lt hy
  rw [stackSyndrome, hcrc, hh, hField_zero, Nat.zero_xor]

theorem bf_two_pow_crc : ∀ q < 16, bf (2 ^ (11 + q)) 26 11 = 2 ^ q ∧ bf (2 ^ (11 + q)) 10 0 = 0 := by decide

theorem bf_two_pow_unchecked : ∀ q < 5, bf (2 ^ (27 + q)) 26 11 = 0 ∧ bf (2 ^ (27 + q)) 10 0 = 0 := by decide

theorem stackSyndrome_crc {q : Nat} (hq : q < 16) : stackSyndrome 0 (2 ^ (11 + q)) = stackColumn (512 + q) := by
  obtain ⟨hcrc, hh⟩ := bf_two_pow_crc q hq
  rw [stackSyndrome, hcrc, hh, hField_crc, Nat.xor_zero]

/-- A bit of the check field is one of the h bits, or one of the CRC bits with a column of the table. -/
theorem stackSyndrome_check {q : Nat} (hq : q < 27) :
    (q < 11 ∧ stackSyndrome 0 (2 ^ q) = 2 ^ q) ∨ (11 ≤ q ∧ stackSyndrome 0 (2 ^ q) = stackColumn (501 + q)) := by
  rcases Nat.lt_or_ge q 11 with h | h
  · exact .inl ⟨h, stackSyndrome_h (pow_lt_pow_right₀ one_lt_two h)⟩
  · obtain ⟨k, rfl⟩ := Nat.exists_eq_add_of_le h
    exact .inr ⟨h, (stackSyndrome_crc (by omega)).trans (congrArg stackColumn (by omega))⟩

/-! ### The columns differ, and all have odd weight -/

theorem popCount_two_pow : ∀ q < 11, popCount 11 (2 ^ q) = 1 := by decide

theorem popCount_check_odd {q : Nat} (hq : q < 27) : popCount 11 (stackSyndrome 0 (2 ^ q)) % 2 = 1 := by
  obtain ⟨hlt, h⟩ | ⟨-, h⟩ := stackSyndrome_check hq
  · rw [h, popCount_two_pow q hlt]
  · have hw := popCount_stackColumn (p := 501 + q) (by omega)
    rw [h]
    omega

theorem popCount_data_odd {p : Nat} (hp : p < 512) : popCount 11 (stackSyndrome (2 ^ p) 0) % 2 = 1 := by
  have hw := popCount_stackColumn (p := p) (by omega)
  rw [stackSyndrome_data]
  omega

theorem popCount_poison : popCount 11 0x7FF = 11 := rfl

theorem check_ne_check {p q : Nat} (hpq : p < q) (hq : q < 27) : stackSyndrome 0 (2 ^ p) ≠ stackSyndrome 0 (2 ^ q) := by
  intro heq
  obtain ⟨hp', hp⟩ | ⟨hp', hp⟩ := stackSyndrome_check (hpq.trans hq)
  · obtain ⟨-, hq'⟩ | ⟨-, hq'⟩ := stackSyndrome_check hq
    · exact hpq.ne (Nat.pow_right_injective (le_refl 2) (hp.symm.trans (heq.trans hq')))
    · have hw := popCount_stackColumn (p := 501 + q) (by omega)
      rw [← hq', ← heq, hp, popCount_two_pow p hp'] at hw
      omega
  · obtain ⟨hlt, -⟩ | ⟨-, hq'⟩ := stackSyndrome_check hq
    · omega
    · exact stackColumn_ne (by omega) (by omega) (by omega) (hp.symm.trans (heq.trans hq'))

theorem data_ne_check {p q : Nat} (hp : p < 512) (hq : q < 27) : stackSyndrome (2 ^ p) 0 ≠ stackSyndrome 0 (2 ^ q) := by
  rw [stackSyndrome_data]
  intro heq
  obtain ⟨hlt, h⟩ | ⟨hge, h⟩ := stackSyndrome_check hq
  · have hw := popCount_stackColumn (p := p) (by omega)
    rw [heq, h, popCount_two_pow q hlt] at hw
    omega
  · exact stackColumn_ne (by omega) (by omega) (by omega) (heq.trans h)

theorem stackColumn_ne_poison {p : Nat} (hp : p < 528) : stackColumn p ≠ 0x7FF := by
  intro heq
  have hw := popCount_stackColumn hp
  rw [heq, popCount_poison] at hw
  omega

theorem stackColumn_ne_zero {p : Nat} (hp : p < 528) : stackColumn p ≠ 0 := by
  intro heq
  have hw := popCount_stackColumn hp
  rw [heq] at hw
  exact absurd hw (by decide)

theorem check_ne_poison {q : Nat} (hq : q < 27) : stackSyndrome 0 (2 ^ q) ≠ 0x7FF := by
  obtain ⟨hlt, h⟩ | ⟨hge, h⟩ := stackSyndrome_check hq
  · intro heq
    have hw := popCount_two_pow q hlt
    rw [← h, heq, popCount_poison] at hw
    omega
  · rw [h]
    exact stackColumn_ne_poison (by omega)

/-! ### Decoding by syndrome (Table 10-12) -/

theorem xor_eq_stackSyndrome (d e : Nat) : Nat.xor (hField d (bf e 26 11)) (bf e 10 0) = stackSyndrome d e := rfl

section Decode
variable {d e : Nat}

theorem decodeWord_of_zero (h : stackSyndrome d e = 0) (hcrc : wordCrc d = bf e 26 11) : decodeWord d e = .clean := by
  simp only [decodeWord, xor_eq_stackSyndrome, h, if_true]
  exact if_pos hcrc

theorem decodeWord_of_poison (h : stackSyndrome d e = 0x7FF) : decodeWord d e = .poisoned := by
  simp only [decodeWord, xor_eq_stackSyndrome, h]
  rfl

theorem decodeWord_of_data {p : Nat} (hp : p < 512) (h : stackSyndrome d e = stackColumn p)
    (hcrc : wordCrc (d ^^^ 2 ^ p) = bf e 26 11) : decodeWord d e = .corrected (d ^^^ 2 ^ p) := by
  have hp' : p < 528 := by omega
  simp only [decodeWord, xor_eq_stackSyndrome, h, if_neg (stackColumn_ne_zero hp'), if_neg (stackColumn_ne_poison hp'),
    hPos_stackColumn hp', if_pos hp]
  exact if_pos hcrc

theorem decodeWord_of_crc {q : Nat} (hq : q < 16) (h : stackSyndrome d e = stackColumn (512 + q))
    (hcrc : wordCrc d = bf e 26 11 ^^^ 2 ^ q) : decodeWord d e = .corrected d := by
  have hq' : 512 + q < 528 := by omega
  simp only [decodeWord, xor_eq_stackSyndrome, h, if_neg (stackColumn_ne_zero hq'), if_neg (stackColumn_ne_poison hq'),
    hPos_stackColumn hq', if_neg (show ¬512 + q < 512 by omega), Nat.add_sub_cancel_left]
  exact if_pos hcrc

/-- A syndrome of weight 1 or of even weight is no column of the table. -/
theorem hPos_of_weight {v : Nat} (h : popCount 11 v = 1 ∨ popCount 11 v % 2 = 0) : hPos (hTable.take 528) v 0 = none :=
  hPos_of_not_mem (fun hmem => by have := popCount_of_mem_hTable hmem; omega) 0

theorem decodeWord_of_h {q : Nat} (hq : q < 11) (h : stackSyndrome d e = 2 ^ q) (hcrc : wordCrc d = bf e 26 11) :
    decodeWord d e = .corrected d := by
  have hw := popCount_two_pow q hq
  have hne : (2 ^ q : Nat) ≠ 0 := by positivity
  have hpoison : (2 ^ q : Nat) ≠ 0x7FF := fun heq => by rw [heq, popCount_poison] at hw; omega
  simp only [decodeWord, xor_eq_stackSyndrome, h, if_neg hne, if_neg hpoison, hPos_of_weight (.inl hw), if_pos hw]
  exact if_pos hcrc

/-- Every column and the poison mark have odd weight, so a syndrome of even weight is of two flipped bits at least. -/
theorem decodeWord_of_even (hne : stackSyndrome d e ≠ 0) (heven : popCount 11 (stackSyndrome d e) % 2 = 0) :
    decodeWord d e = .uncorrectable := by
  have hpoison : stackSyndrome d e ≠ 0x7FF := fun heq => by rw [heq, popCount_poison] at heven; omega
  simp only [decodeWord, xor_eq_stackSyndrome, if_neg hne, if_neg hpoison, hPos_of_weight (.inr heven)]
  exact if_neg (by omega)

end Decode

/-! ### One error and two -/

section Errors
variable {d : Nat} (hd : d < 2 ^ 512)
include hd

theorem decodeWord_data_error {p : Nat} (hp : p < 512) : decodeWord (d ^^^ 2 ^ p) (checkField d) = .corrected d := by
  have hs := stackSyndrome_error hd (pow_lt_pow_right₀ one_lt_two hp) 0
  rw [Nat.xor_zero, stackSyndrome_data] at hs
  have hback : d ^^^ 2 ^ p ^^^ 2 ^ p = d := by rw [Nat.xor_assoc, Nat.xor_self, Nat.xor_zero]
  rw [decodeWord_of_data hp hs (by rw [hback, bf_crc_checkField]), hback]

theorem stackSyndrome_check_error (y : Nat) : stackSyndrome d (checkField d ^^^ y) = stackSyndrome 0 y := by
  have h := stackSyndrome_error hd ((Nat.zero_le d).trans_lt hd) y
  rwa [Nat.xor_zero] at h

theorem decodeWord_check_error {q : Nat} (hq : q < 27) : decodeWord d (checkField d ^^^ 2 ^ q) = .corrected d := by
  have hs := stackSyndrome_check_error hd (2 ^ q)
  rcases Nat.lt_or_ge q 11 with hlt | hge
  · have hlow : (2 ^ q : Nat) < 2 ^ 11 := pow_lt_pow_right₀ one_lt_two hlt
    have hcrc : bf (2 ^ q) 26 11 = 0 := by rw [bf, Nat.shiftRight_eq_div_pow, Nat.div_eq_of_lt hlow, Nat.zero_mod]
    exact decodeWord_of_h hlt (hs.trans (stackSyndrome_h hlow)) (by rw [bf_crc_error, hcrc, Nat.xor_zero])
  · obtain ⟨k, rfl⟩ := Nat.exists_eq_add_of_le hge
    have hk : k < 16 := by omega
    refine decodeWord_of_crc hk (hs.trans (stackSyndrome_crc hk)) ?_
    rw [bf_crc_error, (bf_two_pow_crc k hk).1, Nat.xor_assoc, Nat.xor_self, Nat.xor_zero]

theorem decodeWord_unchecked {q : Nat} (hq : q < 5) : decodeWord d (checkField d ^^^ 2 ^ (27 + q)) = .clean := by
  obtain ⟨hcrc, hh⟩ := bf_two_pow_unchecked q hq
  refine decodeWord_of_zero ((stackSyndrome_check_error hd _).trans ?_) (by rw [bf_crc_error, hcrc, Nat.xor_zero])
  rw [stackSyndrome, hcrc, hh, hField_zero, Nat.xor_zero]

/-- Two errors of odd weight that differ decode as uncorrectable. -/
theorem decodeWord_two_errors {x x' y y' : Nat} (hx : x < 2 ^ 512) (hx' : x' < 2 ^ 512)
    (hodd : popCount 11 (stackSyndrome x y) % 2 = 1) (hodd' : popCount 11 (stackSyndrome x' y') % 2 = 1)
    (hne : stackSyndrome x y ≠ stackSyndrome x' y') :
    decodeWord (d ^^^ x ^^^ x') (checkField d ^^^ y ^^^ y') = .uncorrectable := by
  have hs : stackSyndrome (d ^^^ x ^^^ x') (checkField d ^^^ y ^^^ y') = stackSyndrome x y ^^^ stackSyndrome x' y' := by
    rw [stackSyndrome_xor (Nat.xor_lt_two_pow (n := 512) hd hx) hx', stackSyndrome_error hd hx]
  refine decodeWord_of_even (by rwa [hs, ne_eq, Nat.xor_eq_zero_iff]) ?_
  rw [hs, popCount_xor_mod_two]
  omega

end Errors

end Machine
end Sys2Proof

open Sys2Proof Sys2Proof.Machine

/-- Settles O18. -/
theorem stackWordCodeCorrectsAndDetects : Obligations.StackWordCodeCorrectsAndDetects := by
  intro d hd
  have hbit : ∀ {p}, p < 512 → 2 ^ p < 2 ^ 512 := pow_lt_pow_right₀ one_lt_two
  have hzero := (Nat.zero_le d).trans_lt hd
  have hmark : stackSyndrome 0 0x7FF = 0x7FF := stackSyndrome_h (by decide)
  have hpoison : popCount 11 (stackSyndrome 0 0x7FF) % 2 = 1 := by rw [hmark, popCount_poison]
  refine ⟨?_, ?_, fun p hp => decodeWord_data_error hd hp, fun q hq => decodeWord_check_error hd hq, fun p q hpq hq => ?_,
    fun p q hp hq => ?_, fun p q hpq hq => ?_, fun p hp => ?_, fun q hq => ?_, fun q hlo hhi => ?_⟩
  · exact decodeWord_of_zero (stackSyndrome_checkField d) (bf_crc_checkField d).symm
  · rw [poisonField_eq]
    exact decodeWord_of_poison ((stackSyndrome_check_error hd _).trans hmark)
  · have hne : stackSyndrome (2 ^ p) 0 ≠ stackSyndrome (2 ^ q) 0 := by
      rw [stackSyndrome_data, stackSyndrome_data]
      exact stackColumn_ne (by omega) (by omega) hpq.ne
    simpa only [Nat.xor_zero] using decodeWord_two_errors hd (hbit (hpq.trans hq)) (hbit hq)
      (popCount_data_odd (hpq.trans hq)) (popCount_data_odd hq) hne
  · simpa only [Nat.xor_zero] using decodeWord_two_errors hd (hbit hp) hzero (popCount_data_odd hp) (popCount_check_odd hq)
      (data_ne_check hp hq)
  · simpa only [Nat.xor_zero] using decodeWord_two_errors hd hzero hzero (popCount_check_odd (hpq.trans hq))
      (popCount_check_odd hq)
      (check_ne_check hpq hq)
  · have hne : stackSyndrome (2 ^ p) 0 ≠ stackSyndrome 0 0x7FF := by
      rw [stackSyndrome_data, hmark]
      exact stackColumn_ne_poison (by omega)
    rw [poisonField_eq]
    simpa only [Nat.xor_zero] using decodeWord_two_errors hd (hbit hp) hzero (popCount_data_odd hp) hpoison hne
  · rw [poisonField_eq]
    simpa only [Nat.xor_zero] using decodeWord_two_errors hd hzero hzero hpoison (popCount_check_odd hq)
      (by rw [hmark]; exact (check_ne_poison hq).symm)
  · obtain ⟨k, rfl⟩ := Nat.exists_eq_add_of_le hlo
    exact decodeWord_unchecked hd (by omega)
end

section
/-!
PROOFS. Bank-side units (chapter 10): what counts and refusals leave alone, the operations of a BSU_RUN, a channel's
change of mode, and the aperture queue.
-/

namespace Sys2Proof.Machine

/-! ### Counts -/

/-- Only registers and the counter block differ. -/
structure CountsOnly (s t : State) : Prop where
  eq : t = { s with gaz := t.gaz, ctr := t.ctr }

namespace CountsOnly
variable {a b c : State}

theorem trans (h : CountsOnly a b) (k : CountsOnly b c) : CountsOnly a c := by
  have hc := k.eq
  rw [h.eq] at hc
  exact ⟨hc⟩

theorem bumpNode (s : State) (k n : Nat) : CountsOnly s (s.bumpNode k n) := by
  by_cases hn : n = 0
  · rw [State.bumpNode, State.bump, if_pos hn]
    exact ⟨rfl⟩
  · rw [State.bumpNode, State.bump_eq s 16 k hn]
    exact ⟨rfl⟩

theorem countOp (s : State) (g d : Nat) (o : OpRes) : CountsOnly s (s.countOp g d o) :=
  ((bumpNode ..).trans (bumpNode ..)).trans (bumpNode ..)

theorem mem (h : CountsOnly a b) : b.mem = a.mem := (congrArg State.mem h.eq :)
theorem sched (h : CountsOnly a b) : b.sched = a.sched := (congrArg State.sched h.eq :)

theorem unit (h : CountsOnly a b) (g : Nat) : b.unit g = a.unit g :=
  congrArg (fun t => t.units.get StackUnit.reset g) (congrArg State.bsu h.eq)

end CountsOnly

/-! ### The operations of a BSU_RUN (R220, R221) -/

/-- Operation `k` of command `c` on memory with the command's earlier writes and poison over it. -/
def State.bankOp (s : State) (c : Cmd) (k : Nat) : OpRes :=
  let view := s.staged c.writes
  ({ view with mem := (storageOfAll c.poison).foldl MemState.poisonWord view.mem }).runOp
    (c.channel (OpD.channel (RunP.op (leNat c.params) k))) (RunP.op (leNat c.params) k) false

/-- The command with the record `o` of operation `k` of its block `p` in its staging. -/
def Cmd.withOp (c : Cmd) (p k : Nat) (o : OpRes) : Cmd :=
  let d := RunP.op p k
  { c with
    writes := c.writes ++ o.writes ++
      [(RunP.dst p + OpD.dstOff d, opStatus d (if o.err = 0 then 0 else Code.BSU_UNCORRECTABLE) o ++ o.out)]
    poison := c.poison ++ o.poison, progress := c.progress ++ [k] }

section BankOperation
variable {s : State} {r : CmdRef} {c : Cmd} {k kind : Nat} {hw : Hw}

theorem exec_bankRows {i : Instr} (h : (kind, i) ∈ bankRows r k hw) (s : State) : exec i s = s.opRow r k hw kind := by
  simp only [bankRows, List.mem_cons, List.not_mem_nil, or_false, Prod.mk.injEq] at h
  rcases h with ⟨rfl, rfl⟩ | ⟨rfl, rfl⟩ | ⟨rfl, rfl⟩ | ⟨rfl, rfl⟩ | ⟨rfl, rfl⟩ | ⟨rfl, rfl⟩ | ⟨rfl, rfl⟩
  · exact exec_scoreSketch r k hw s
  · exact exec_dotI8 r k hw s
  · exact exec_l2I8 r k hw s
  · exact exec_cmpSelect r k hw s
  · exact exec_poolRows r k hw s
  · exact exec_fill r k hw s
  · exact exec_copy r k hw s

theorem State.opRow_idle (hr : r.inset < 16) (hc : s.running r 7 2 = some c)
    (h : c.opReady k = false ∨ OpD.op (RunP.op (leNat c.params) k) ≠ kind) : s.opRow r k hw kind = .next s := by
  rw [State.opRow, if_neg (refOk_of_lt hr), hc]
  refine if_pos ?_
  rcases h with h | h <;> simp [h]

theorem State.opRow_ready (hr : r.inset < 16) (hc : s.running r 7 2 = some c) (hready : c.opReady k = true)
    (hkind : OpD.op (RunP.op (leNat c.params) k) = kind) (hh : s.hwFault r c hw = none) :
    s.opRow r k hw kind = .next (s.planOp r k) := by
  rw [State.opRow, if_neg (refOk_of_lt hr), hc]
  refine (if_neg ?_).trans (by rw [hh])
  simp [hready, hkind]

/-- With no detector forced, an operation adds its record to the command and counts the words it met. -/
theorem State.planOp_unforced (hc : s.cmd r = some c) (h : c.rehearsed = 0) :
    s.planOp r k = (s.modCmd r (fun x => x.withOp (leNat c.params) k (s.bankOp c k))).countOp
      (c.channel (OpD.channel (RunP.op (leNat c.params) k))) (RunP.op (leNat c.params) k) (s.bankOp c k) := by
  have hforced : (k == 0 && decide (0 < OpD.count (RunP.op (leNat c.params) k))
      && (c.rehearsed == 0x00A || (c.rehearsed == 0x005 && c.hasT1))) = false := by simp [h]
  unfold State.planOp
  simp only [hc, hforced]
  rfl

end BankOperation

/-! ### Refusals (R226, R227) -/

section Refusal
variable (s : State) {ch g : Nat}

@[simp] theorem State.unit_bumpNode (k n : Nat) : (s.bumpNode k n).unit g = s.unit g := (CountsOnly.bumpNode s k n).unit g

theorem State.unit_apRefuse_self (seq : Nat) : (s.apRefuse ch seq).unit ch =
    { s.unit ch with apCode := Code.BSU_APERTURE_REFUSED, apCodeSeq := seq % 2 ^ 48 } := by
  rw [State.apRefuse, State.unit_bumpNode, State.unit_setUnit_self]

theorem State.unit_apRefuse_ne (seq : Nat) (h : g ≠ ch) : (s.apRefuse ch seq).unit g = s.unit g := by
  rw [State.apRefuse, State.unit_bumpNode, State.unit_setUnit_ne _ _ h]

theorem State.host_apRefuse (seq : Nat) : (s.apRefuse ch seq).host = s.host := State.bumpNode_host ..

/-- A channel's mode and epoch are as they were. -/
structure SameChannel (u v : StackUnit) : Prop where
  mode : v.mode = u.mode
  epoch : v.epoch = u.epoch

/-- Refusals of one channel touch its queue and report alone, no other channel, and no held access. -/
structure Refused (ch : Nat) (s t : State) : Prop where
  own : SameChannel (s.unit ch) (t.unit ch)
  others : ∀ g, g ≠ ch → t.unit g = s.unit g
  host : t.host = s.host

theorem Refused.foldl (l : List (Nat × Nat)) : Refused ch s (l.foldl (fun s e => s.apRefuse ch e.2) s) := by
  induction l generalizing s with
  | nil => exact ⟨⟨rfl, rfl⟩, fun _ _ => rfl, rfl⟩
  | cons e l ih =>
    obtain ⟨hown, hothers, hhost⟩ := ih (s.apRefuse ch e.2)
    rw [State.unit_apRefuse_self] at hown
    exact ⟨⟨hown.mode, hown.epoch⟩, fun g hg => (hothers g hg).trans (s.unit_apRefuse_ne e.2 hg),
      hhost.trans (s.host_apRefuse e.2)⟩

theorem State.unit_apRefuseAll_self : ∃ u : StackUnit, (s.apRefuseAll ch).unit ch = { u with queue := [] }.settled
    ∧ SameChannel (s.unit ch) u :=
  ⟨_, State.unit_setUnit_self .., (Refused.foldl s _).own⟩

theorem State.queue_apRefuseAll : ((s.apRefuseAll ch).unit ch).queue = [] := by
  obtain ⟨u, hu, -⟩ := s.unit_apRefuseAll_self (ch := ch)
  rw [hu]
  rfl

theorem Refused.apRefuseAll : Refused ch s (s.apRefuseAll ch) := by
  obtain ⟨-, hothers, hhost⟩ := Refused.foldl (ch := ch) s (s.unit ch).queue
  obtain ⟨u, hu, hmode, hepoch⟩ := s.unit_apRefuseAll_self (ch := ch)
  exact ⟨⟨by rw [hu]; exact hmode, by rw [hu]; exact hepoch⟩,
    fun g hg => (State.unit_setUnit_ne _ _ hg).trans (hothers g hg), hhost⟩

end Refusal

/-! ### The change of a channel's mode (R214, Table 10-2) -/

/-- A channel with a new mode: no change waits, its query cache is empty and its epoch has advanced. -/
def StackUnit.changed (u : StackUnit) (m cycle : Nat) : StackUnit :=
  { u with mode := m, change := none, qcache := [], epoch := (u.epoch + 1) % 2 ^ 32, procAt := cycle }

section ModeChange
variable {s : State} {ch m : Nat}

theorem execModeChangeSequence_idle (hch : ch < 256)
    (h : (s.unit ch).change = none ∨ s.clk.cycle / 2400 % 4 ≠ ch % 4) : execModeChangeSequence ch s = .next s := by
  rw [execModeChangeSequence, if_neg (by omega)]
  cases hchange : (s.unit ch).change with
  | none => rfl
  | some m => exact if_pos (h.resolve_left (by rw [hchange]; exact Option.some_ne_none m))

/-- A change into PROC, in its turn. -/
theorem execModeChangeSequence_toProc (hch : ch < 256) (hchange : (s.unit ch).change = some m)
    (hturn : s.clk.cycle / 2400 % 4 = ch % 4) (hheld : s.host.held = []) (hm : bit m 0 = true)
    (hmode : bit (s.unit ch).mode 0 = false) : execModeChangeSequence ch s =
      .next ((s.setUnit ch ((s.unit ch).changed m s.clk.cycle)).bumpNode G.BSU_MODE_CHANGES 1) := by
  rw [execModeChangeSequence, if_neg (by omega), hchange]
  simp only [hturn, ne_eq, not_true_eq_false, if_false, hm, if_true, hmode, Bool.false_eq_true]
  exact congrArg _ (State.serveHeld_of_none ((congrArg HostState.held (State.bumpNode_host ..)).trans hheld))

theorem State.chargeProc_clk (s : State) (ch now : Nat) : (s.chargeProc ch now).clk = s.clk := by
  unfold State.chargeProc
  split
  · exact State.charge_clk ..
  · rfl

theorem State.chargeProc_host (s : State) (ch now : Nat) : (s.chargeProc ch now).host = s.host := by
  unfold State.chargeProc
  split
  · exact State.charge_host ..
  · rfl

theorem State.unit_chargeProc (s : State) (ch now g : Nat) : (s.chargeProc ch now).unit g = s.unit g := by
  unfold State.chargeProc
  split
  · exact congrArg (fun t => t.units.get StackUnit.reset g) (State.charge_bsu ..)
  · rfl

/-- A change out of PROC, in its turn: the queue is refused first, and the time in PROC is charged. -/
theorem execModeChangeSequence_toMem {v : State} (hch : ch < 256) (hchange : (s.unit ch).change = some m)
    (hturn : s.clk.cycle / 2400 % 4 = ch % 4) (hheld : s.host.held = []) (hm : bit m 0 = false)
    (hmode : bit (s.unit ch).mode 0 = true) (hv : s.apRefuseAll ch = v) : execModeChangeSequence ch s =
      .next (((v.chargeProc ch v.clk.cycle).setUnit ch ((v.unit ch).changed m v.clk.cycle)).bumpNode
        G.BSU_MODE_CHANGES 1) := by
  obtain ⟨⟨hsame, -⟩, -, hhost⟩ := hv ▸ Refused.apRefuseAll s (ch := ch)
  rw [execModeChangeSequence, if_neg (by omega), hchange]
  simp only [hturn, ne_eq, not_true_eq_false, if_false, hm, hv, hsame, if_true, hmode, Bool.false_eq_true,
    State.chargeProc_clk]
  refine congrArg _ (State.serveHeld_of_none ?_)
  rw [State.bumpNode_host]
  exact (congrArg HostState.held ((State.chargeProc_host ..).trans hhost)).trans hheld

end ModeChange

/-! ### The aperture queue (R226, R227) -/

section Aperture
variable {s : State} {ch : Nat}

theorem State.apEnqueue_mem (slot last : Nat) (hmode : bit (s.unit ch).mode 0 = false) : s.apEnqueue ch slot last = s :=
  if_pos (by simp [hmode])

theorem execApertureEnqueue_eq {slot : Nat} (data : Bytes) (hch : ch < 256) (hslot : slot < 2048) :
    execApertureEnqueue ch slot data s = .next (s.apEnqueue ch slot (leNat (data.take 8))) :=
  if_neg (by omega)

/-- With room in the queue of a channel in PROC, an allowed descriptor goes to its end. -/
theorem State.apEnqueue_taken {slot last : Nat} {slots : Tab Nat} {d : Nat} (hmode : bit (s.unit ch).mode 0 = true)
    (hslots : (s.unit ch).slots.set (4 * slot + 3) last = slots)
    (hd : slots.get 0 (4 * slot) + slots.get 0 (4 * slot + 1) * 2 ^ 64 + slots.get 0 (4 * slot + 2) * 2 ^ 128
      + last * 2 ^ 192 = d)
    (hroom : (s.unit ch).queue.length < 64) (hallowed : s.apAllowed ch d = true) :
    s.apEnqueue ch slot last = s.setUnit ch { s.unit ch with
      slots := slots, apSeq := (s.unit ch).apSeq + 1
      queue := (s.unit ch).queue ++ [(d, (s.unit ch).apSeq + 1)] }.settled := by
  subst hslots hd
  rw [State.apEnqueue, if_neg (by simp [hmode])]
  refine if_neg ?_
  simp only [Bool.or_eq_true, decide_eq_true_eq, Bool.not_eq_true', not_or]
  exact ⟨by omega, ne_false_of_eq_true hallowed⟩

theorem execApFlush_eq (hch : ch < 256) :
    execApFlush ch s = if bit (s.unit ch).mode 0 then .next (s.apRefuseAll ch) else .next s :=
  if_neg (by omega)

theorem execApertureOperation_idle (hw : Hw) (hch : ch < 256)
    (h : (s.unit ch).queue = [] ∨ bit (s.unit ch).mode 0 = false ∨ s.planQueued ch = true) :
    execApertureOperation ch hw s = .next s := by
  rw [execApertureOperation, if_neg (by omega)]
  cases hqueue : (s.unit ch).queue with
  | nil => simp only [hqueue]
  | cons e rest =>
    simp only [hqueue]
    refine if_pos ?_
    rcases h with h | h | h
    · rw [hqueue] at h
      cases h
    · simp [h]
    · simp [h]

/-- The state in which the first queued operation has been taken from the queue. -/
def State.apTaken (s : State) (ch : Nat) (rest : List (Nat × Nat)) : State :=
  s.setUnit ch { s.unit ch with queue := rest }.settled

/-- The record of operation `d` in the channel's result region. -/
def StackUnit.withResult (u : StackUnit) (d : Nat) (o : OpRes) : StackUnit :=
  let bytes := opStatus d (if o.err = 0 then 0 else Code.BSU_UNCORRECTABLE) o ++ o.out
  { u with result := (mapIdxFrom (fun k b => (OpD.dstOff d + k, b)) 0 bytes).foldl (fun x e => x.set e.1 e.2.toNat) u.result }

theorem StackUnit.result_withResult (u : StackUnit) (d : Nat) (o : OpRes) : (u.withResult d o).result =
    (mapIdxFrom (fun k b => (OpD.dstOff d + k, b)) 0
      (opStatus d (if o.err = 0 then 0 else Code.BSU_UNCORRECTABLE) o ++ o.out)).foldl
        (fun x e => x.set e.1 e.2.toNat) u.result := by
  simp only [StackUnit.withResult]

theorem State.unit_countOp_apTaken (s : State) (ch d : Nat) (rest : List (Nat × Nat)) (o : OpRes) :
    ((s.apTaken ch rest).countOp ch d o).unit ch = { s.unit ch with queue := rest }.settled :=
  ((CountsOnly.countOp ..).unit ch).trans (State.unit_setUnit_self ..)

/-- An operation with no bank writes leaves its record in the result region, and the counts of the words it met. -/
theorem execApertureOperation_recorded {d seq : Nat} {rest : List (Nat × Nat)} {v : State} {o : OpRes} (hw : Hw)
    (hch : ch < 256) (hmode : bit (s.unit ch).mode 0 = true) (hplan : s.planQueued ch = false)
    (hqueue : (s.unit ch).queue = (d, seq) :: rest) (hv : s.apTaken ch rest = v)
    (hrows : (v.apRows ch d).all (fun e =>
      Dict.apStorage v.gaz.regs ((Dict.channelOwner v.gaz.regs ch).getD 0) ch e.1 e.2) = true)
    (ho : v.runOp ch d false = o) (hwrites : o.writes = []) (hpoison : o.poison = []) :
    execApertureOperation ch hw s
      = .next ((v.countOp ch d o).setUnit ch (((v.countOp ch d o).unit ch).withResult d o)) := by
  rw [State.apTaken] at hv
  rw [execApertureOperation, if_neg (by omega)]
  simp only [hqueue, hmode, hplan, hv, hrows, ho, hwrites, hpoison, Bool.not_true, Bool.or_self, Bool.false_eq_true,
    if_false, List.foldl_nil]
  rfl

theorem execBsuHoldPoison_eq {h : Held} (hch : ch < 256)
    (hfind : s.host.held.find? (fun h => touches h.addr h.len ch && s.inProc h.addr h.len) = some h) :
    execBsuHoldPoison ch s = if s.clk.cycle < h.at_ + nsCycles (s.node G.BSU_HOLD_BOUND) then .next s
      else .next (({ s with host := { s.host with held := s.host.held.erase h } }).holdPoison h) := by
  rw [execBsuHoldPoison, if_neg (by omega), hfind]

end Aperture

end Sys2Proof.Machine

open Sys2Proof Sys2Proof.Machine

/-- Settles O36. That a row whose operation is not ready, or of another kind, changes nothing is log entry 2; what OUT_COUNT
and the word counters say is log entry 67. -/
theorem bankOperationsStageTheirRecord : Obligations.BankOperationsStageTheirRecord := by
  intro r k hw kind i hi s c hr hc
  obtain ⟨hcmd, -⟩ := State.running_cmd hc
  refine ⟨fun hidle => (exec_bankRows hi s).trans (State.opRow_idle hr hc hidle), fun hready hkind hh hforced => ?_⟩
  have hcounts := CountsOnly.countOp (s.modCmd r (fun x => x.withOp (leNat c.params) k (s.bankOp c k)))
    (c.channel (OpD.channel (RunP.op (leNat c.params) k))) (RunP.op (leNat c.params) k) (s.bankOp c k)
  rw [← State.planOp_unforced hcmd hforced] at hcounts
  refine ⟨s.planOp r k, (exec_bankRows hi s).trans (State.opRow_ready hr hc hready hkind hh), .of_mem hcounts.mem,
    (State.modCmd_only ..).of_sched hcounts.sched, ?_, ?_⟩
  · rw [State.cmd_of_sched hcounts.sched, State.cmd_modCmd, if_pos rfl, hcmd]
    rfl
  · have heq := hcounts.eq
    rw [hcounts.sched]
    exact heq

/-- Settles O39. The rotation slot from the microsecond and the whole sequence at once are log entries 67 and 114; that a
channel with no change, or out of its turn, is left alone is log entry 2. -/
theorem modeChangeTakesEffectInItsTurn : Obligations.ModeChangeTakesEffectInItsTurn := by
  intro s ch hch
  refine ⟨fun hidle => (exec_modeChangeSequence ch s).trans (execModeChangeSequence_idle hch hidle),
    fun m hchange hturn hheld => ⟨fun hm hmode => ?_, fun hm hmode => ?_⟩⟩
  · have hcounts := CountsOnly.bumpNode (s.setUnit ch ((s.unit ch).changed m s.clk.cycle)) G.BSU_MODE_CHANGES 1
    refine ⟨_, (exec_modeChangeSequence ch s).trans (execModeChangeSequence_toProc hch hchange hturn hheld hm hmode),
      (hcounts.unit ch).trans (State.unit_setUnit_self ..),
      fun g hg => (hcounts.unit g).trans (State.unit_setUnit_ne _ _ hg), hcounts.mem, hcounts.sched,
      State.bump_num_self _ 16 _ 1 (by decide)⟩
  · obtain ⟨⟨-, hepoch⟩, hothers, -⟩ := Refused.apRefuseAll s (ch := ch)
    have hexec := execModeChangeSequence_toMem hch hchange hturn hheld hm hmode rfl
    have hown := (State.unit_bumpNode (((s.apRefuseAll ch).chargeProc ch (s.apRefuseAll ch).clk.cycle).setUnit ch
      (((s.apRefuseAll ch).unit ch).changed m (s.apRefuseAll ch).clk.cycle)) G.BSU_MODE_CHANGES 1).trans
        (State.unit_setUnit_self ..)
    refine ⟨_, (exec_modeChangeSequence ch s).trans hexec, ?_, ?_, ?_, ?_, ?_, fun g hg => ?_⟩
    · rw [hown]; rfl
    · rw [hown]; rfl
    · rw [hown]; rfl
    · rw [hown]; exact s.queue_apRefuseAll
    · rw [hown, ← hepoch]; rfl
    · rw [State.unit_bumpNode, State.unit_setUnit_ne _ _ hg, State.unit_chargeProc, hothers g hg]

/-- Settles O40. That AP_DONE follows the queue through `settled` is log entry 66; that an operation with nothing to do
changes nothing is log entry 2. -/
theorem apertureQueueTakesAndRefuses : Obligations.ApertureQueueTakesAndRefuses := by
  intro s ch hch
  refine ⟨fun hmode => ⟨fun slot data hslot => ?_, ?_, fun hw => ?_⟩, fun hmode slot data hslot => ?_, fun hmode => ?_,
    fun hw hidle => ?_, ?_, fun h hfind => ?_⟩
  · rw [exec_apertureEnqueue, execApertureEnqueue_eq data hch hslot, State.apEnqueue_mem _ _ hmode]
  · rw [exec_apFlush, execApFlush_eq hch, if_neg (by simp [hmode])]
  · rw [exec_apertureOperation, execApertureOperation_idle hw hch (.inr (.inl hmode))]
  · intro last slots d hroom hallowed
    rw [exec_apertureEnqueue, execApertureEnqueue_eq data hch hslot, State.apEnqueue_taken hmode rfl rfl hroom hallowed]
  · rw [exec_apFlush, execApFlush_eq hch, if_pos hmode]
  · rw [exec_apertureOperation, execApertureOperation_idle hw hch (hidle.imp id .inr)]
  · intro hw d seq rest hmode hplan hqueue v hrows o hwrites hpoison
    have hcounts := CountsOnly.countOp v ch d o
    refine ⟨_, (exec_apertureOperation ch hw s).trans
      (execApertureOperation_recorded hw hch hmode hplan hqueue rfl hrows rfl hwrites hpoison), hcounts.mem, hcounts.sched,
      ?_, ?_⟩
    · rw [State.unit_setUnit_self, State.unit_countOp_apTaken]
      rfl
    · rw [State.unit_setUnit_self, State.unit_countOp_apTaken, StackUnit.result_withResult]
      rfl
  · rw [exec_bsuHoldPoison, execBsuHoldPoison_eq hch hfind]
end

section
/-!
PROOFS. The ends of flash and Inset maintenance (chapters 11, 12 and 15): a checkpoint's manifest, calibration, a
channel's reset, the rebuild of the map, a restore and a stream switch.
-/

namespace Sys2Proof.Machine

/-! ### Checkpoint manifests (R249) -/

section Manifest
variable {s u : State} {i : Nat} {ok : Bool}

theorem execCkptManifest_idle (hi : i < 16)
    (h : s.num i G.CKPT_STATE ≠ 1 ∨ (s.inset i).ckpt.left ≠ [] ∨ (s.inset i).ckpt.programmed = true) :
    execCkptManifest i ok s = .next s := by
  rw [execCkptManifest, if_neg (by omega), if_pos h]

variable (hi : i < 16) (hstate : s.num i G.CKPT_STATE = 1) (hleft : (s.inset i).ckpt.left = [])
  (hprog : (s.inset i).ckpt.programmed = false)
include hi hstate hleft hprog

theorem execCkptManifest_failed : execCkptManifest i false s = .next (s.abortCkpt i Code.CKPT_FLASH_FAIL) := by
  rw [execCkptManifest, if_neg (by omega), if_neg (by simp [hstate, hleft, hprog]), if_pos (by simp)]

/-- The manifest's pages go to the area that the committed manifest does not use. -/
theorem execCkptManifest_programmed (hu : s.programPages i (mapIdxFrom (fun j b => (Dict.manifestLpn s.gaz.regs i
    (if (s.inset i).ckpt.area = 0 then 1 else 0) j, b)) 0 (s.manifest i)) = some u) :
    execCkptManifest i true s
      = .next (u.modInset i (fun x => { x with ckpt := { x.ckpt with programmed := true } })) := by
  rw [execCkptManifest, if_neg (by omega), if_neg (by simp [hstate, hleft, hprog]), if_neg (by simp)]
  dsimp only
  rw [hu]

end Manifest

/-! ### Channels (R254, R255) -/

section Channel
variable {s : State} {ch : Nat}

theorem execZqCal_of_lt (hch : ch < 32) : execZqCal ch s =
    if s.flashUp ch = true ∧ s.inBgWindow ch = true
      ∧ s.flash.zqAt.get 0 ch + s.node G.ZQ_INTERVAL * 2400000 ≤ s.clk.cycle
    then .next { s with flash := { s.flash with zqAt := s.flash.zqAt.set ch s.clk.cycle } } else .next s := by
  rw [execZqCal, if_neg (by omega)]
  simp only [Bool.and_eq_true, decide_eq_true_eq, and_assoc]

/-- The channel with the applied sequence table in use (R255) and the modes that failed in training counted. -/
def State.resetChannel (s : State) (ch falls : Nat) : State :=
  ({ s with flash := { s.flash with seqs := s.flash.seqs.del ch } } : State).bumpNode G.FLASH_MODE_FALLBACK falls

@[simp] theorem State.resetChannel_clk (s : State) (ch falls : Nat) : (s.resetChannel ch falls).clk = s.clk :=
  State.bumpNode_clk ..
@[simp] theorem State.resetChannel_flash (s : State) (ch falls : Nat) :
    (s.resetChannel ch falls).flash = { s.flash with seqs := s.flash.seqs.del ch } := State.bumpNode_flash ..
@[simp] theorem State.resetChannel_mem (s : State) (ch falls : Nat) : (s.resetChannel ch falls).mem = s.mem :=
  State.bumpNode_mem ..

/-- Without a table of its own a channel uses the applied one (R255). -/
theorem State.geo_of_applied (h : Tab.find s.flash.seqs ch = none) : s.geo ch = geoOf (Dict.flashSeq s.gaz.regs) := by
  rw [State.geo, h]

/-- The outcome of training a channel from the target mode of the applied table down (R254). -/
def State.training (s : State) (trained : List Nat) : Option Nat × Nat :=
  trainMode trained (min (s.node G.FLASH_MODE_TARGET) (geoOf (Dict.flashSeq s.gaz.regs)).modeMax) 0

variable {trained : List Nat} {falls : Nat}

/-- The row trains under the applied table, since it puts the channel's own table away first. -/
theorem State.trainMode_of_applied (s : State) (ch : Nat) (trained : List Nat) :
    let u := { s with flash := { s.flash with seqs := s.flash.seqs.del ch } }
    trainMode trained (min (u.node G.FLASH_MODE_TARGET) (u.geo ch).modeMax) 0 = s.training trained := by
  dsimp only
  rw [State.geo_of_applied (Tab.find_del_self ..)]
  rfl

theorem execFlashChannelReset_trained {m : Nat} (hch : ch < 32) (hr : s.training trained = (some m, falls)) :
    execFlashChannelReset ch trained s = .next { s.resetChannel ch falls with
      flash := { s.flash with seqs := s.flash.seqs.del ch, modes := s.flash.modes.set ch m
                              zqAt := s.flash.zqAt.set ch s.clk.cycle } } := by
  rw [execFlashChannelReset, if_neg (by omega)]
  dsimp only
  rw [State.trainMode_of_applied, hr]
  dsimp only
  rw [← State.resetChannel]
  simp only [State.resetChannel_flash, State.resetChannel_clk]

/-- No mode trains: the channel is down, and beside that only its event happens. -/
theorem execFlashChannelReset_down (hch : ch < 32) (hr : s.training trained = (none, falls)) :
    ∃ t, execFlashChannelReset ch trained s = .next t ∧ EventFrame { s.resetChannel ch falls with
      flash := { s.flash with seqs := s.flash.seqs.del ch, modes := s.flash.modes.del ch } } t := by
  rw [execFlashChannelReset, if_neg (by omega)]
  dsimp only
  rw [State.trainMode_of_applied, hr]
  dsimp only
  rw [← State.resetChannel]
  simp only [State.resetChannel_flash]
  refine ⟨_, rfl, ?_⟩
  split
  · exact .event _ _ _ _ _
  · exact .nodeEvent _ _ _ _

end Channel

/-! ### Rebuild (R275) -/

/-- The wear of the planes' erased blocks: only the block table and the wear counts differ. -/
theorem State.wearAll_eq (s : State) :
    ∃ blocks wear, s.wearAll = { s with flash := { s.flash with blocks := blocks, wear := wear } } := by
  have hfold : ∀ (planes : List Nat) (f : State → Nat → State),
      (∀ u pk, ∃ blocks wear, f u pk = { u with flash := { u.flash with blocks := blocks, wear := wear } }) → ∀ u,
      ∃ blocks wear, planes.foldl f u = { u with flash := { u.flash with blocks := blocks, wear := wear } } := by
    intro planes f hf
    induction planes with
    | nil => exact fun u => ⟨_, _, rfl⟩
    | cons pk planes ih =>
      intro u
      obtain ⟨blocks, wear, hu⟩ := hf u pk
      rw [List.foldl_cons, hu]
      exact ih _
  exact hfold _ _ (fun _ _ => ⟨_, _, rfl⟩) s

theorem execRebuild_idle {s : State} (phys : List FlashRead) (h : s.flash.rebuilt ≠ 2) :
    execRebuild phys s = .next s := if_pos h

theorem execRebuild_running {s : State} (phys : List FlashRead) (h : s.flash.rebuilt = 2) :
    ∃ t, execRebuild phys s = .next t ∧ t.flash.rebuilt = 1 ∧ t.flash.mapBad = [] ∧ t.flash.pages = s.flash.pages
      ∧ t.mem = s.mem := by
  rw [execRebuild, if_neg (not_not.2 h)]
  dsimp only
  generalize hu : ({ s with flash := _ } : State) = u
  obtain ⟨blocks, wear, hw⟩ := u.wearAll_eq
  refine ⟨_, rfl, ?_⟩
  simp only [State.setNum_flash, State.setNum_mem, hw]
  subst hu
  exact ⟨rfl, rfl, rfl, rfl⟩

/-! ### What events and messages change of an Inset (R333) -/

/-- An Inset without what an event may change: the checkpoint, the vectors fired and gathered, and the count of events. -/
def InsetSt.besideEvents (x : InsetSt) : InsetSt := { x with ckpt := Ckpt.idle, fired := [], gathered := [], events := 0 }

/-- Of every Inset at most what an event may change differs: a stream switch among the rest stays as it was. -/
structure InsetFrame (s t : State) : Prop where
  beside : ∀ j, (t.inset j).besideEvents = (s.inset j).besideEvents

namespace InsetFrame
variable {s t u : State}

theorem refl (s : State) : InsetFrame s s := ⟨fun _ => rfl⟩

theorem trans (h : InsetFrame s t) (k : InsetFrame t u) : InsetFrame s u :=
  ⟨fun j => (k.beside j).trans (h.beside j)⟩

theorem switch (h : InsetFrame s t) (j : Nat) : (t.inset j).switch = (s.inset j).switch :=
  (congrArg InsetSt.switch (h.beside j) :)

theorem ite {p : Prop} [Decidable p] (h : InsetFrame s t) (k : InsetFrame s u) : InsetFrame s (if p then t else u) := by
  split <;> assumption

theorem foldl {α : Type} {f : State → α → State} (h : InsetFrame s t) (hf : ∀ u a, InsetFrame u (f u a)) (l : List α) :
    InsetFrame s (l.foldl f t) := by
  induction l generalizing t with
  | nil => exact h
  | cons a l ih => exact ih (h.trans (hf _ a))

/-- The Insets are those of the scheduler's table. -/
theorem of_insets (h : InsetFrame s t) (hu : u.sched.insets = t.sched.insets) : InsetFrame s u :=
  h.trans ⟨fun j => by rw [State.inset, hu, ← State.inset]⟩

theorem setInset (h : InsetFrame s t) {i : Nat} {x : InsetSt} (hx : x.besideEvents = (t.inset i).besideEvents) :
    InsetFrame s (t.setInset i x) := by
  refine h.trans ⟨fun j => ?_⟩
  by_cases hj : j = i
  · rw [hj, State.inset_setInset_self, hx]
  · rw [State.inset_setInset_ne _ _ hj]

theorem modInset (h : InsetFrame s t) {i : Nat} {f : InsetSt → InsetSt} (hf : ∀ x, (f x).besideEvents = x.besideEvents) :
    InsetFrame s (t.modInset i f) := h.setInset (hf _)

theorem mem (h : InsetFrame s t) {m : MemState} : InsetFrame s { t with mem := m } := h.of_insets rfl

theorem clk (h : InsetFrame s t) {x : ClkState} : InsetFrame s { t with clk := x } := h.of_insets rfl

theorem tick (h : InsetFrame s t) {x : TickState} : InsetFrame s { t with tick := x } := h.of_insets rfl

theorem tm (h : InsetFrame s t) {x : TmState} : InsetFrame s { t with tm := x } := h.of_insets rfl

theorem emit (h : InsetFrame s t) {o : Out} : InsetFrame s (t.emit o) := h.of_insets rfl

theorem bump (h : InsetFrame s t) {i k n : Nat} : InsetFrame s (t.bump i k n) := h.of_insets (by rw [State.bump_sched])

theorem setNum (h : InsetFrame s t) {i k n : Nat} : InsetFrame s (t.setNum i k n) := h.of_insets rfl

theorem dropCkpt (h : InsetFrame s t) (i : Nat) : InsetFrame s (t.dropCkpt i) := by
  unfold State.dropCkpt
  refine .setNum (.setNum (.modInset h.mem ?_))
  exact fun _ => rfl

theorem saveGroup (h : InsetFrame s t) (st : Nat) : InsetFrame s (t.saveGroup st).1 := by
  unfold State.saveGroup
  split
  · exact h
  split
  · exact h
  dsimp only
  split
  · exact h
  split
  · exact h
  split
  · refine .setNum (.bump (h.setInset ?_))
    rfl
  · exact h.dropCkpt _

theorem storeWord (h : InsetFrame s t) (w : Nat) (cells : Tab Byte) : InsetFrame s (t.storeWord w cells).1 := by
  unfold State.storeWord
  dsimp only
  have hput : ∀ m st, InsetFrame s (State.markDirty { (t.saveGroup (w * 64)).1 with mem := m } st) := fun m st =>
    .ite (h.saveGroup _).mem.mem (h.saveGroup _).mem
  exact .ite (hput _ _).bump (hput _ _)

theorem storeWords (h : InsetFrame s t) (ws : List (Nat × Tab Byte)) : InsetFrame s (t.storeWords ws).1 := by
  have hfold : ∀ (l : List (Nat × Tab Byte)) (acc : State × Bool × List Nat), InsetFrame s acc.1 →
      InsetFrame s (l.foldl (fun acc c =>
        let (s, bad, ab) := acc.1.storeWord c.1 c.2
        (s, acc.2.1 || bad, acc.2.2 ++ ab.toList)) acc).1 := by
    intro l
    induction l with
    | nil => exact fun acc hacc => hacc
    | cons c l ih =>
      intro acc hacc
      rw [List.foldl_cons]
      exact ih _ (hacc.storeWord c.1 c.2)
  exact hfold ws (t, false, []) h

theorem interrupt (h : InsetFrame s t) {i src : Nat} : InsetFrame s (t.interrupt i src) := by
  unfold State.interrupt State.fireVector
  dsimp only
  refine .ite h (.ite (h.modInset ?_) (.emit (h.modInset ?_)))
  · exact fun _ => rfl
  · exact fun _ => rfl

theorem event (h : InsetFrame s t) {i code detail addr : Nat} : InsetFrame s (t.event i code detail addr) := by
  unfold State.event State.eventFull
  dsimp only
  generalize hu : (if t.num i G.EVENT_RING_BYTES / 32 = 0 then t else _) = u
  have hring : InsetFrame s u := by
    subst hu
    split
    · exact h
    refine .modInset ?_ ?_
    · exact .foldl (.storeWords (.ite h.bump h) _) (fun _ _ => .bump (.refl _)) _
    · exact fun _ => rfl
  split
  · exact .interrupt (.ite hring.clk hring)
  · exact .ite hring.clk hring

theorem nodeEvent (h : InsetFrame s t) {code detail addr : Nat} : InsetFrame s (t.nodeEvent code detail addr) :=
  h.foldl (fun _ _ => .event (.refl _)) _

theorem bumpFlow (h : InsetFrame s t) {flow k n : Nat} : InsetFrame s (t.bumpFlow flow k n) := by
  unfold State.bumpFlow
  split
  · exact h.bump
  · exact h

theorem release (h : InsetFrame s t) {f b : Nat} (hu : t.release f b = some u) : InsetFrame s u := by
  rw [State.eq_of_release hu]
  exact h.tm

theorem enqueue (h : InsetFrame s t) {flow units : Nat} {what : Out} : InsetFrame s (t.enqueue flow units what) := by
  unfold State.enqueue
  dsimp only
  generalize hu : (if (t.flow flow).queue.isEmpty = true ∧ (t.flow flow).deficit ≠ 0 then _ else t) = u
  have hlost : InsetFrame s u := by
    subst hu
    exact .ite h.bumpFlow h
  split
  · rename_i v hv
    split at hv
    · cases hv
    · exact (hlost.release hv).tm
  · exact .bumpFlow hlost.tm

theorem routeMsg (h : InsetFrame s t) {tag hdr : Nat} {payload : Bytes} : InsetFrame s (t.routeMsg tag hdr payload) := by
  unfold State.routeMsg
  dsimp only
  split
  · exact h
  · exact .ite h.enqueue h.nodeEvent

theorem reportDone (h : InsetFrame s t) {i seq bound : Nat} : InsetFrame s (t.reportDone i seq bound) := by
  unfold State.reportDone
  split
  · exact h
  · exact .ite h.tick h.routeMsg

end InsetFrame

/-! ### Restores (R251, R252) -/

section Restore
variable {s : State} {i : Nat}

/-- An interrupt notes its vector and puts it out: the registers are as they were. -/
theorem State.num_interrupt (s : State) (i src j k : Nat) : (s.interrupt i src).num j k = s.num j k := by
  unfold State.interrupt State.fireVector
  dsimp only
  split
  · rfl
  split <;> rfl

theorem State.ckpt_interrupt (s : State) (i src j : Nat) : ((s.interrupt i src).inset j).ckpt = (s.inset j).ckpt := by
  have hmod : ∀ f : InsetSt → InsetSt, (∀ x, (f x).ckpt = x.ckpt) → ((s.modInset i f).inset j).ckpt = (s.inset j).ckpt := by
    intro f hf
    by_cases hj : j = i
    · rw [hj, State.inset_modInset_self, hf]
    · rw [State.inset_modInset_ne _ _ hj]
  unfold State.interrupt State.fireVector
  dsimp only
  split
  · rfl
  split
  · refine hmod _ ?_
    exact fun _ => rfl
  · rw [State.inset, State.emit_sched, ← State.inset]
    refine hmod _ ?_
    exact fun _ => rfl

theorem State.insets_foldl {α : Type} {f : State → α → State} (hf : ∀ u a, (f u a).sched.insets = u.sched.insets)
    (l : List α) (s : State) : (l.foldl f s).sched.insets = s.sched.insets := by
  induction l generalizing s with
  | nil => rfl
  | cons a l ih => rw [List.foldl_cons, ih, hf]

theorem State.insets_freeSlots (s : State) (i : Nat) (stream : Option Nat) :
    (s.freeSlots i stream).sched.insets = s.sched.insets := rfl

theorem State.insets_freeLeases (s : State) (i : Nat) : (s.freeLeases i).sched.insets = s.sched.insets := by
  refine State.insets_foldl (fun u n => ?_) _ s
  dsimp only
  split <;> rfl

theorem execRestoreEnd_idle (phys : List FlashRead) (hi : i < 16) (h : (s.inset i).ckpt.restoring = none) :
    execRestoreEnd i phys s = .next s := by
  rw [execRestoreEnd, if_neg (by omega), h]

/-- The last steps of a restore from area `area` with header `h`, once memory is restored: no checkpoint is under way, the
registers are the header's, and slots and leases are free (R252). -/
def State.restoredAs (s : State) (i area h : Nat) : State :=
  let s := s.modInset i (fun t => { t with ckpt := { Ckpt.idle with area := area } })
  let q := bf h 127 64
  let s := (((s.setNum i G.SHEET_SEQ q).setNum i G.DATUM_SEQ q).setNum i G.SHEET_ENTRY (bf h 143 128)).setNum i
    G.ATLAS_GEN (bf h 319 256)
  let s := (s.freeSlots i none).freeLeases i
  let s := (upto 16).foldl (fun s k => s.setNum i (G.OLDEST_LIVE_DATUM + k) (2 ^ 64 - 1)) s
  s.setNum i G.CKPT_LAST_SEQ q

theorem State.ckpt_restoredAs (s : State) (i area h : Nat) :
    ((s.restoredAs i area h).inset i).ckpt = { Ckpt.idle with area := area } := by
  unfold State.restoredAs
  dsimp only
  rw [State.inset, State.setNum_sched, State.insets_foldl fun _ _ => by rw [State.setNum_sched], State.insets_freeLeases,
    State.insets_freeSlots]
  simp only [State.setNum_sched]
  rw [← State.inset, State.inset_modInset_self]

theorem execRestoreEnd_restoring (phys : List FlashRead) {area : Nat} (hi : i < 16)
    (h : (s.inset i).ckpt.restoring = some area) :
    ∃ u hdr, execRestoreEnd i phys s = .next (((State.restoredAs u i area hdr).setNum i G.CKPT_STATE 0).interrupt i 11) := by
  rw [execRestoreEnd, if_neg (by omega), h]
  exact ⟨_, _, rfl⟩

end Restore

/-! ### Stream switches (R325) -/

section Switch
variable {s : State} {i : Nat}

theorem execSwitchEnd_idle (hi : i < 16)
    (h : (s.inset i).switch = none ∨ ∃ w, (s.inset i).switch = some w ∧ w.reported = true) :
    execSwitchEnd i s = .next s := by
  rw [execSwitchEnd, if_neg (by omega)]
  obtain h | ⟨w, h, hw⟩ := h
  · rw [h]
  · rw [h]
    exact if_pos hw

/-- The switch is marked as reported and then reported, which is the last that it meets. -/
theorem execSwitchEnd_open {w : Switch} (hi : i < 16) (h : (s.inset i).switch = some w) (hw : w.reported = false) :
    ∃ t, execSwitchEnd i s = .next t ∧ (t.inset i).switch = some { w with reported := true } := by
  rw [execSwitchEnd, if_neg (by omega), h]
  dsimp only
  rw [if_neg (by simp [hw])]
  generalize State.loadT0 _ i w.target = u
  refine ⟨_, rfl, ?_⟩
  rw [(InsetFrame.interrupt (.reportDone (.refl _))).switch, State.inset_modInset_self]

end Switch

end Sys2Proof.Machine

open Sys2Proof Sys2Proof.Machine

/-- Settles O60. When a rebuild acts and which pages it reads is log entry 72; what a restore takes over of an open
checkpoint and of unmapped pages, entries 75 and 76; what a switch saves and that its end is reported, entry 84; that a
row whose cause does not stand changes nothing, entry 2: each is the model's own choice. -/
theorem flashAndInsetMaintenanceComplete : Obligations.FlashAndInsetMaintenanceComplete := by
  refine ⟨fun s i ok hi => ⟨fun h => ?_, fun hstate hleft hprog => ⟨?_, fun u hu => ?_⟩⟩,
    fun s ch hch => ⟨fun h => ?_, fun h => ?_, fun trained m falls hr => ?_, fun trained falls hr => ?_⟩,
    fun s phys => ⟨fun h => ?_, fun h => ?_⟩,
    fun s i hi => ⟨fun phys h => ?_, fun phys area h => ?_, fun h => ?_, fun w h hw => ?_⟩⟩
  · rw [exec_ckptManifest, execCkptManifest_idle hi h]
  · rw [exec_ckptManifest, execCkptManifest_failed hi hstate hleft hprog]
  · refine ⟨_, (exec_ckptManifest ..).trans (execCkptManifest_programmed hi hstate hleft hprog hu), ?_, rfl, rfl⟩
    rw [State.inset_modInset_self]
  · rw [exec_zqCal, execZqCal_of_lt hch, if_neg h]
  · rw [exec_zqCal, execZqCal_of_lt hch, if_pos h]
  · exact ⟨_, (exec_flashChannelReset ..).trans (execFlashChannelReset_trained hch hr), Tab.get_set_self ..,
      Tab.get_set_self .., rfl, s.resetChannel_mem ch falls⟩
  · obtain ⟨t, ht, hframe⟩ := execFlashChannelReset_down hch hr
    refine ⟨t, (exec_flashChannelReset ..).trans ht, ?_⟩
    rw [hframe.flash]
    exact Tab.find_del_self s.flash.modes ch
  · rw [exec_rebuild, execRebuild_idle phys h]
  · rw [exec_rebuild]
    exact execRebuild_running phys h
  · rw [exec_restoreEnd, execRestoreEnd_idle phys hi h]
  · obtain ⟨u, hdr, hu⟩ := execRestoreEnd_restoring phys hi h
    refine ⟨_, (exec_restoreEnd ..).trans hu, ?_, ?_⟩
    · rw [State.num_interrupt, State.num_setNum_self, Nat.zero_mod]
    · rw [State.ckpt_interrupt, State.inset, State.setNum_sched, ← State.inset, u.ckpt_restoredAs]
  · rw [exec_switchEnd, execSwitchEnd_idle hi h]
  · obtain ⟨t, ht, hswitch⟩ := execSwitchEnd_open hi h hw
    exact ⟨t, _, (exec_switchEnd ..).trans ht, hswitch, rfl⟩
end

section
/-!
PROOFS. Message headers (Table 13-6, R290): each field reads back what was put into it, cut to its width, and the CRC leaves
out the two fields that are not the sender's to fix, itself and RETRIED.
-/

namespace Sys2Proof.Machine

theorem crcReflStep_lt {poly r : Nat} (n : Nat) (hp : poly < 2 ^ 32) (hr : r < 2 ^ 32) : crcReflStep poly n r < 2 ^ 32 := by
  induction n generalizing r with
  | zero => exact hr
  | succ n ih =>
    have hhalf : r / 2 < 2 ^ 32 := by omega
    refine ih ?_
    split
    · exact Nat.xor_lt_two_pow hhalf hp
    · exact hhalf

theorem crc32c_lt (bs : Bytes) : crc32c bs < 2 ^ 32 := by
  have hfold : ∀ (l : Bytes) (r : Nat), r < 2 ^ 32 →
      l.foldl (fun r b => crcReflStep 0x82F63B78 8 (Nat.xor r b.toNat)) r < 2 ^ 32 := by
    intro l
    induction l with
    | nil => exact fun _ hr => hr
    | cons b l ih =>
      exact fun r hr => ih _ (crcReflStep_lt 8 (by decide) (Nat.xor_lt_two_pow hr (b.isLt.trans (by decide))))
  exact Nat.xor_lt_two_pow (by decide) (hfold bs _ (by decide))

section Header
variable (ty cls late dest src len addr xfer slot stamp : Nat) (payload : Bytes)

/-- The fields of Table 13-6 below MSG_CRC, each in its place and RETRIED 0. -/
def headerFields : Nat :=
  ty % 16 + (cls % 4) * 2 ^ 4 + (late % 2) * 2 ^ 7 + (dest % 4096) * 2 ^ 8 + (src % 4096) * 2 ^ 20
    + (len % 2 ^ 32) * 2 ^ 32 + (addr % 2 ^ 64) * 2 ^ 64 + (xfer % 2 ^ 32) * 2 ^ 128 + (slot % 65536) * 2 ^ 160
    + (stamp % 2 ^ 42) * 2 ^ 176

theorem msgHeader_eq : msgHeader ty cls late dest src len addr xfer slot stamp payload =
    headerFields ty cls late dest src len addr xfer slot stamp
      + crc32c (toLe 32 (headerFields ty cls late dest src len addr xfer slot stamp) ++ payload) * 2 ^ 224 := rfl

theorem headerFields_lt : headerFields ty cls late dest src len addr xfer slot stamp < 2 ^ 224 := by
  rw [headerFields]
  omega

theorem retried_headerFields : bf (headerFields ty cls late dest src len addr xfer slot stamp) 6 6 = 0 := by
  rw [bf, Nat.shiftRight_eq_div_pow, headerFields]
  omega

/-- Whatever the MSG_CRC above them, the fields read back. -/
theorem reads_headerFields (crc : Nat) :
    let h := headerFields ty cls late dest src len addr xfer slot stamp + crc * 2 ^ 224
    MsgW.mtype h = ty % 16 ∧ MsgW.cls h = cls % 4 ∧ MsgW.late h = (late % 2 == 1) ∧ MsgW.retried h = false
    ∧ MsgW.dest h = dest % 4096 ∧ MsgW.src h = src % 4096 ∧ MsgW.len h = len % 2 ^ 32 ∧ MsgW.addr h = addr % 2 ^ 64
    ∧ MsgW.xfer h = xfer % 2 ^ 32 ∧ MsgW.slot h = slot % 65536 ∧ MsgW.stamp h = stamp % 2 ^ 42 := by
  have hlate (x : Nat) : MsgW.late x = (x / 2 ^ 7 % 2 == 1) := by rw [MsgW.late, bit, Nat.shiftRight_eq_div_pow]
  have hretried (x : Nat) : MsgW.retried x = (x / 2 ^ 6 % 2 == 1) := by rw [MsgW.retried, bit, Nat.shiftRight_eq_div_pow]
  simp only [MsgW.mtype, MsgW.cls, hlate, hretried, MsgW.dest, MsgW.src, MsgW.len, MsgW.addr, MsgW.xfer, MsgW.slot,
    MsgW.stamp, bf, Nat.shiftRight_eq_div_pow, headerFields]
  refine ⟨by omega, by omega, congrArg (· == 1) (by omega), beq_false_of_ne (by omega), by omega, by omega, by omega,
    by omega, by omega, by omega, by omega⟩

end Header

/-- What a forwarding node changes, RETRIED, is no part of what the CRC covers (R290). -/
theorem MsgW.crcOk_setRetried (h : Nat) (payload : Bytes) : MsgW.crcOk (setBf h 6 6 1) payload = MsgW.crcOk h payload := by
  have hcrc : bf (setBf h 6 6 1) 255 224 = bf h 255 224 := by
    simp only [setBf, bf, Nat.shiftRight_eq_div_pow]
    omega
  have hrest : setBf (setBf (setBf h 6 6 1) 255 224 0) 6 6 0 = setBf (setBf h 255 224 0) 6 6 0 := by
    simp only [setBf, bf, Nat.shiftRight_eq_div_pow]
    omega
  rw [MsgW.crcOk, hcrc, hrest, ← MsgW.crcOk]

/-- Fields with RETRIED 0, under the CRC of them and the payload, pass the receiver's check. -/
theorem MsgW.crcOk_of_fields {f : Nat} (hf : f < 2 ^ 224) (hretried : bf f 6 6 = 0) (payload : Bytes) :
    MsgW.crcOk (f + crc32c (toLe 32 f ++ payload) * 2 ^ 224) payload = true := by
  have hlt := crc32c_lt (toLe 32 f ++ payload)
  generalize hc : crc32c (toLe 32 f ++ payload) = c at hlt
  have hcrc : bf (f + c * 2 ^ 224) 255 224 = c := by
    rw [bf, Nat.shiftRight_eq_div_pow]
    omega
  have hbelow : setBf (f + c * 2 ^ 224) 255 224 0 = f := by
    rw [setBf, hcrc]
    omega
  have hclear : setBf f 6 6 0 = f := by
    rw [setBf, hretried]
    omega
  rw [MsgW.crcOk, hbelow, hclear, hc, hcrc, beq_self_eq_true]

end Sys2Proof.Machine

open Sys2Proof Sys2Proof.Machine

/-- Settles O16: the fields lie side by side below MSG_CRC, and the check leaves out MSG_CRC itself and RETRIED. -/
theorem messageHeaderReadsBack : Obligations.MessageHeaderReadsBack := by
  intro ty cls late dest src len addr xfer slot stamp payload hty hcls hlate hdest hsrc hlen haddr hxfer hslot hstamp
  have hreads := reads_headerFields ty cls late dest src len addr xfer slot stamp
    (crc32c (toLe 32 (headerFields ty cls late dest src len addr xfer slot stamp) ++ payload))
  have hcrc := MsgW.crcOk_of_fields (headerFields_lt ty cls late dest src len addr xfer slot stamp)
    (retried_headerFields ..) payload
  dsimp only
  rw [MsgW.crcOk_setRetried, msgHeader_eq]
  simp only [hcrc, and_true]
  simpa only [Nat.mod_eq_of_lt, hty, hcls, hlate, hdest, hsrc, hlen, haddr, hxfer, hslot, hstamp] using hreads
end

section
/-!
PROOFS. The torus commands (R294 to R297): what stops a TORUS_WAIT and a TORUS_A2A, their ends, and the one message of a
TORUS_PUT.
-/

namespace Sys2Proof.Machine

section
variable {s : State} {r : CmdRef} {sh : Sheet} {x : Cmd}

/-- A command that has its messages: the cause its consumers count when late, its results, and nothing else (R35, R298). -/
theorem State.finish_landed (hx : s.cmd r = some x) (cause : Nat) (w : Work) :
    let t := (s.modCmd r (fun k => { k with lateCause := cause })).finish r w
    OnlyCmd s t r ∧ t = { s with sched := t.sched } ∧ t.cmd r = some ({ x with lateCause := cause }.withResults w) := by
  refine ⟨(s.modCmd_only r _).trans (State.modCmd_only _ r _), rfl, State.finish_cmd w ?_⟩
  rw [State.cmd_modCmd, if_pos rfl, hx]
  rfl

/-- The landed messages that a TORUS_WAIT of the Sheet takes (R296). -/
def State.waitedFor (s : State) (r : CmdRef) (sh : Sheet) (p : Nat) : List Landed :=
  s.landedFor r.inset 0 (TorP.xfer p) (sh.seq % 2 ^ 42) (TorP.seqBack p)

/-- The work of a TORUS_WAIT that takes these messages. -/
def waitWork (ms : List Landed) : Work :=
  { Work.ofWrites ((sortBy landedLe ms).map (fun m => (MsgW.addr m.hdr, m.payload))) with onDrain := ms.map Landed.free }

theorem execTorusWait_unforced (hr : r.inset < 16) (hx : s.running r 0x0A 2 = some x) (hsh : s.sheetOf r = some sh)
    (hreal : x.rehearsed ≠ 0x00D) :
    let p := leNat x.params
    let ms := s.waitedFor r sh p
    execTorusWait r s =
      if TorP.len p < (ms.map (fun m => m.payload.length)).sum then .next (s.kill r Code.TORUS_OVERFLOW)
      else if (nub (ms.map (fun m => (MsgW.src m.hdr, MsgW.slot m.hdr)))).length < TorP.count p then .next s
      else if ms.any (fun m => !x.inOutputs (MsgW.addr m.hdr) m.payload.length) then .next (s.kill r Code.TORUS_DEST)
      else .next ((s.modCmd r (fun k => { k with lateCause := lateCauseOf ms })).finish r (waitWork ms)) := by
  rw [execTorusWait, if_neg (refOk_of_lt hr), hx, hsh]
  exact if_neg fun h => hreal h.1

/-- The other nodes of an A2A's list, each with its place in it. -/
def State.a2aOthers (s : State) (p : Nat) : List (Nat × Nat) :=
  (mapIdxFrom (fun k n => (k, n)) 0 (s.a2aList p)).filter (fun kn => kn.2 != s.nodeId)

/-- The pieces that have landed for an A2A of the Sheet, each with its sender's place in the list (R297). -/
def State.a2aGot (s : State) (r : CmdRef) (sh : Sheet) (p : Nat) : List (Nat × Landed) :=
  (s.a2aOthers p).filterMap (fun kn => ((s.landedFor r.inset 1 (TorP.xfer p) (sh.seq % 2 ^ 42) false).find?
    (fun m => MsgW.src m.hdr == kn.2)).map (fun m => (kn.1, m)))

/-- The work of a TORUS_A2A that collects these pieces beside its own. -/
def a2aWork (p : Nat) (own : List (Nat × Bytes)) (got : List (Nat × Landed)) : Work :=
  { Work.ofWrites (own ++ got.map (fun km => (TorP.dst p + km.1 * TorP.inStride p, km.2.payload))) with
    onDrain := got.map (fun km => km.2.free) }

theorem execTorusA2a_first (hr : r.inset < 16) (hx : s.running r 0x0A 3 = some x) (hsh : s.sheetOf r = some sh)
    (h : x.progress = []) : execTorusA2a r s = .next (s.a2aSend r x sh) := by
  rw [execTorusA2a, if_neg (refOk_of_lt hr), hx, hsh]
  exact if_pos h

theorem execTorusA2a_unforced (hr : r.inset < 16) (hx : s.running r 0x0A 3 = some x) (hsh : s.sheetOf r = some sh)
    (hsent : x.progress ≠ []) (hreal : x.rehearsed ≠ 0x00D) :
    let p := leNat x.params
    let got := s.a2aGot r sh p
    execTorusA2a r s =
      if got.any (fun km => decide (TorP.inStride p < km.2.payload.length)) then .next (s.kill r Code.TORUS_OVERFLOW)
      else if x.progress.headD 0 < (s.a2aOthers p).length ∨ got.length < (s.a2aOthers p).length then .next s
      else .next ((s.modCmd r (fun k => { k with lateCause := lateCauseOf (got.map (·.2)) })).finish r
        (a2aWork p x.writes got)) := by
  rw [execTorusA2a, if_neg (refOk_of_lt hr), hx, hsh]
  exact (if_neg hsent).trans (if_neg fun h => hreal h.1)

/-- The state in which a TORUS_PUT has read its source and its bytes are charged; its progress waits for the first hop. -/
def State.putRead (s : State) (r : CmdRef) (src len : Nat) : State :=
  ((s.noteRead src len).charge r.inset 8 (s.readBytes src len).length).modCmd r (fun k => { k with progress := [] })

theorem execTorusPut_refused {f : Res} (hr : r.inset < 16) (hx : s.running r 0x0A 1 = some x)
    (hforced : forcedKill x true = none)
    (hf : s.exportFault x [(TorP.src (leNat x.params), TorP.len (leNat x.params))] = some f) :
    execTorusPut r s = .next (s.settle r x f) := by
  rw [execTorusPut, State.engineRowOpen, State.engineStep_run hr hx rfl hforced]
  dsimp only
  rw [hf]

theorem execTorusPut_sent (hr : r.inset < 16) (hx : s.running r 0x0A 1 = some x) (hsh : s.sheetOf r = some sh)
    (hforced : forcedKill x true = none)
    (hf : s.exportFault x [(TorP.src (leNat x.params), TorP.len (leNat x.params))] = none) :
    let p := leNat x.params
    let data := s.readBytes (TorP.src p) (TorP.len p)
    let u := s.putRead r (TorP.src p) (TorP.len p)
    execTorusPut r s = .next ((match Dict.tagOf s.gaz.regs r.inset with
      | some t => u.routeMsg t (msgHeader 0 (TorP.cls p) (x.issuedLate sh) (TorP.dest p) s.nodeId data.length (TorP.dst p)
          (TorP.xfer p) (TorP.slot p) sh.seq data) data
      | none => u).finish r Work.none) := by
  rw [execTorusPut]
  refine State.engineRowOpen_done hr hx rfl hforced ?_
  obtain ⟨rel, hread⟩ : ∃ rel, s.noteRead (TorP.src (leNat x.params)) (TorP.len (leNat x.params)) = { s with rel := rel } :=
    ⟨_, s.noteRead_eq _ _⟩
  dsimp only
  rw [hf, hsh, State.putRead, hread, State.modCmd_gaz, State.charge_gaz]
  rfl
end

end Sys2Proof.Machine

open Sys2Proof Sys2Proof.Machine

/-- Settles O33. The writes stand in ascending SRC and SLOT (R296), in whatever order the messages landed. -/
theorem torusWaitTakesItsMessages : Obligations.TorusWaitTakesItsMessages := by
  intro s r sh x hr hx hsh hreal p ms size senders
  have hrow : exec (.torusWait r) s = _ := (exec_torusWait r s).trans (execTorusWait_unforced hr hx hsh hreal)
  have hany : ms.any (fun m => !x.inOutputs (MsgW.addr m.hdr) m.payload.length)
      = !ms.all (fun m => x.inOutputs (MsgW.addr m.hdr) m.payload.length) := List.not_all_eq_any_not.symm
  refine ⟨fun hover => hrow.trans (if_pos hover), fun hfit hfew => ?_, fun hfit hcount => ?_⟩
  · exact hrow.trans ((if_neg (Nat.not_lt.2 hfit)).trans (if_pos hfew))
  · have hready := hrow.trans ((if_neg (Nat.not_lt.2 hfit)).trans (if_neg (Nat.not_lt.2 hcount)))
    exact ⟨fun hout => hready.trans (if_pos (hany.trans (congrArg (!·) hout))), fun hin =>
      ⟨_, hready.trans (if_neg (Bool.eq_false_iff.1 (hany.trans (congrArg (!·) hin)))),
        State.finish_landed (State.running_cmd hx).1 _ _⟩⟩

/-- Settles O34. -/
theorem torusA2aSendsThenCollects : Obligations.TorusA2aSendsThenCollects := by
  intro s r sh x hr hx hsh p others ms got
  refine ⟨fun h => (exec_torusA2a r s).trans (execTorusA2a_first hr hx hsh h), fun hsent hreal => ?_⟩
  have hrow : exec (.torusA2a r) s = _ := (exec_torusA2a r s).trans (execTorusA2a_unforced hr hx hsh hsent hreal)
  have hany : got.any (fun km => decide (TorP.inStride p < km.2.payload.length)) = true
      ↔ ∃ km ∈ got, TorP.inStride p < km.2.payload.length := by
    simp only [List.any_eq_true, decide_eq_true_eq]
  refine ⟨fun hlong => hrow.trans (if_pos (hany.2 hlong)), fun hfit => ?_⟩
  have hready := hrow.trans (if_neg fun hlong => by
    obtain ⟨km, hkm, hlt⟩ := hany.1 hlong
    exact Nat.not_le.2 hlt (hfit km hkm))
  exact ⟨fun hwait => hready.trans (if_pos hwait), fun hleft hlanded =>
    ⟨_, hready.trans (if_neg (not_or.2 ⟨Nat.not_lt.2 hleft, Nat.not_lt.2 hlanded⟩)),
      State.finish_landed (State.running_cmd hx).1 _ _⟩⟩

/-- Settles O35. The header is the one of R290, a source that may not be exported the fault of Table 18-3; that an Inset
without a tag sends nothing is the model's own choice. -/
theorem torusPutSendsOneMessage : Obligations.TorusPutSendsOneMessage := by
  intro s r sh x hr hx hsh hhw hforced p data
  rw [exec_torusPut]
  exact ⟨fun f => execTorusPut_refused hr hx hforced, execTorusPut_sent hr hx hsh hforced⟩
end

section
/-!
PROOFS. What stops a torus message before its row (R286, R290, Tables 13-7 and 13-8): one lemma per check that
`State.arriveMsg` makes, in their order.
-/

namespace Sys2Proof.Machine

theorem exec_messageRows {m : Msg} {k : Nat} {i : Instr} (h : (k, i) ∈ messageRows m) :
    k < 9 ∧ ∃ act, ∀ s, exec i s = s.arriveMsg k m act := by
  simp only [messageRows, List.mem_cons, Prod.mk.injEq, List.not_mem_nil, or_false] at h
  rcases h with ⟨rfl, rfl⟩ | ⟨rfl, rfl⟩ | ⟨rfl, rfl⟩ | ⟨rfl, rfl⟩ | ⟨rfl, rfl⟩ | ⟨rfl, rfl⟩ | ⟨rfl, rfl⟩ | ⟨rfl, rfl⟩ | ⟨rfl, rfl⟩
  · exact ⟨by omega, _, fun s => exec_put m s⟩
  · exact ⟨by omega, _, fun s => exec_a2aSlot m s⟩
  · exact ⟨by omega, _, fun s => exec_done m s⟩
  · exact ⟨by omega, _, fun s => exec_token m s⟩
  · exact ⟨by omega, _, fun s => exec_lease m s⟩
  · exact ⟨by omega, _, fun s => exec_barrier m s⟩
  · exact ⟨by omega, _, fun s => exec_mgmtReq m s⟩
  · exact ⟨by omega, _, fun s => exec_mgmtRsp m s⟩
  · exact ⟨by omega, _, fun s => exec_event m s⟩

section
variable {s : State} {m : Msg} {k : Nat} (act : State → State)

theorem State.arriveMsg_inactive (hp : m.port < 6) (ha : s.portActive m.port = false) : s.arriveMsg k m act = .next s := by
  rw [State.arriveMsg, if_neg (by omega), if_pos (by simp [ha])]

theorem State.arriveMsg_unlisted (hp : m.port < 6) (ha : s.portActive m.port = true) (h : 9 ≤ MsgW.mtype m.hdr) :
    s.arriveMsg k m act = .next ((s.returnCredit m).bumpNode G.TORUS_BAD_MSG 1) := by
  rw [State.arriveMsg, if_neg (by omega), if_neg (by simp [ha])]
  exact if_pos h

theorem State.arriveMsg_otherKind (hp : m.port < 6) (ha : s.portActive m.port = true) (h : MsgW.mtype m.hdr < 9)
    (hk : MsgW.mtype m.hdr ≠ k) : s.arriveMsg k m act = .next s := by
  rw [State.arriveMsg, if_neg (by omega), if_neg (by simp [ha])]
  exact (if_neg (Nat.not_le.2 h)).trans (if_pos hk)

theorem State.arriveMsg_elsewhere (hp : m.port < 6) (ha : s.portActive m.port = true) (hlt : k < 9)
    (hk : MsgW.mtype m.hdr = k) (h : MsgW.dest m.hdr ≠ s.nodeId ∨ (k ≠ 6 ∧ k ≠ 7 ∧ s.msgInset m = none)) :
    s.arriveMsg k m act = .next ((s.returnCredit m).forward m) := by
  rw [State.arriveMsg, if_neg (by omega), if_neg (by simp [ha])]
  dsimp only
  rw [hk, if_neg (by omega), if_neg (by simp), State.nodeId_returnCredit, State.msgInset_returnCredit]
  refine if_pos ?_
  rcases h with h | ⟨h6, h7, h⟩
  · simp [h]
  · simp [h6, h7, h]

theorem State.arriveMsg_damaged {j : Nat} (hp : m.port < 6) (ha : s.portActive m.port = true) (hlt : k < 9) (h2 : 2 ≤ k)
    (hk : MsgW.mtype m.hdr = k) (hdest : MsgW.dest m.hdr = s.nodeId) (hj : s.msgInset m = some j)
    (hcrc : MsgW.crcOk m.hdr m.payload = false) :
    s.arriveMsg k m act = .next ((s.returnCredit m).bump j G.TORUS_CRC_DROP 1) := by
  rw [State.arriveMsg, if_neg (by omega), if_neg (by simp [ha])]
  dsimp only
  rw [hk, if_neg (by omega), if_neg (by simp), State.nodeId_returnCredit, State.msgInset_returnCredit, hj,
    if_neg (by simp [hdest]), if_pos (by simp [hcrc, h2])]
end

end Sys2Proof.Machine

open Sys2Proof Sys2Proof.Machine

/-- Settles O47. That a row on a port that is not ACTIVE, or of another type, changes nothing is log entry 2; that a row
carries a whole message with its credits, entry 114: each is the model's own choice. -/
theorem messagesAreForwardedOrDiscarded : Obligations.MessagesAreForwardedOrDiscarded := by
  intro m k i hi s hp
  obtain ⟨hk, act, hrow⟩ := exec_messageRows hi
  simp only [hrow]
  refine ⟨State.arriveMsg_inactive act hp, fun ha => ⟨State.arriveMsg_unlisted act hp ha,
    State.arriveMsg_otherKind act hp ha, State.arriveMsg_elsewhere act hp ha hk, fun hkind h2 hdest hinset hcrc => ?_⟩⟩
  obtain ⟨j, hj⟩ := Option.isSome_iff_exists.1 hinset
  exact ⟨_, j, hj, State.arriveMsg_damaged act hp ha hk h2 hkind hdest hj hcrc, rfl⟩
end

section
/-!
PROOFS. Port training (R281, R282, R299, R300): what a port that sees 16 lanes becomes, by the neighbour it finds, and when
training starts again.
-/

namespace Sys2Proof.Machine

/-- The ports are a part of the torus state alone. -/
theorem State.port_of_torus {s t : State} (h : t.torus = s.torus) (q : Nat) : t.port q = s.port q := by
  rw [State.port, h]
  rfl

theorem State.logicalOf_of_torus {s t : State} (h : t.torus = s.torus) (q : Nat) : t.logicalOf q = s.logicalOf q := by
  rw [State.logicalOf, h]
  rfl

theorem mapIdxFrom_rangeFrom {α β : Type} (f : Nat → α → β) (g : Nat → α) (a n : Nat) :
    mapIdxFrom f a ((rangeFrom a n).map g) = (rangeFrom a n).map (fun l => f l (g l)) := by
  induction n generalizing a with
  | zero => rfl
  | succ n ih => simp only [rangeFrom, List.map_cons, mapIdxFrom, ih]

section Training
variable {s : State} {port : Nat} {t : TrainIn}

/-- The lanes that a training report may put into traffic. -/
def State.goodLanes (s : State) (port : Nat) (t : TrainIn) : List Nat :=
  t.lanes.filter (fun l => decide (l < nLanes) && !(s.port port).failed.contains l)

/-- The presets that a training report asks for, and those that policy leaves of them (R282). -/
def askedPresets (t : TrainIn) : List Nat := (upto nLanes).map (fun l => nth 0 t.presets l)
def State.keptPresets (s : State) (port : Nat) (t : TrainIn) : List Nat :=
  mapIdxFrom (fun l c => s.eqPolicy (nLanes * port + l) c) 0 (askedPresets t)

theorem State.keptPresets_eq : s.keptPresets port t
    = (upto nLanes).map (fun l => s.eqPolicy (nLanes * port + l) (nth 0 t.presets l)) := mapIdxFrom_rangeFrom _ _ 0 nLanes

/-- The state in which a training ends: presets that policy held are counted, and the instant is kept for R435. -/
def State.trained (s : State) (port : Nat) (t : TrainIn) : State :=
  let u := s.bumpNode G.EQ_POLICY_HOLD
    ((pairUp (askedPresets t) (s.keptPresets port t)).filter (fun x => x.1 != x.2)).length
  { u with tick := { u.tick with trainedAt := some s.clk.cycle } }

theorem State.trained_torus : (s.trained port t).torus = s.torus := State.bumpNode_torus ..
theorem State.trained_mem : (s.trained port t).mem = s.mem := State.bumpNode_mem ..
theorem State.trained_out : (s.trained port t).out = s.out := State.bumpNode_out ..
theorem State.trained_sched : (s.trained port t).sched = s.sched := State.bumpNode_sched ..

theorem State.node_trained {k : Nat} (h : rkey 16 G.EQ_POLICY_HOLD ≠ rkey 16 k) : (s.trained port t).node k = s.node k :=
  s.bump_num_ne _ h

/-- The neighbour that a port finds is not the one its coordinates name. -/
def State.wrongNeighbour (s : State) (port : Nat) (t : TrainIn) : Bool :=
  match s.logicalOf port with
  | some l => neighbour (s.node G.TORUS_DIMS) s.nodeId l != some t.node
  | none => false

theorem State.wrongNeighbour_iff : s.wrongNeighbour port t = true
    ↔ ∃ l, s.logicalOf port = some l ∧ neighbour (s.node G.TORUS_DIMS) s.nodeId l ≠ some t.node := by
  unfold State.wrongNeighbour
  cases s.logicalOf port <;> simp

theorem State.wrongNeighbour_trained : (s.trained port t).wrongNeighbour port t = s.wrongNeighbour port t := by
  simp only [State.wrongNeighbour, State.logicalOf_of_torus State.trained_torus, State.nodeId,
    State.node_trained (k := G.TORUS_DIMS) (by decide), State.node_trained (k := G.NODE_ID) (by decide)]

/-- A port whose training ended on the neighbour that the report names. -/
def State.activePort (s : State) (port : Nat) (t : TrainIn) (credits : Tab Int) : Port :=
  { s.port port with
    train := 6, restarts := 0, stateAt := s.clk.cycle, lanes := (s.goodLanes port t).take 16, polarity := t.polarity
    presets := s.keptPresets port t, farNode := t.node, farPort := t.farPort, fecRun := 0, credits := credits }

/-- A port that found another neighbour. -/
def State.mismatchedPort (s : State) (port : Nat) (t : TrainIn) : Port :=
  { s.port port with train := 0, stateAt := s.clk.cycle, farNode := t.node, farPort := t.farPort }

theorem execPortTraining_idle (hp : port < nPorts) (h : (s.port port).train = 0 ∨ (s.port port).train = 6
      ∨ s.clk.refBad = true ∨ s.portUsed port = false ∨ (s.goodLanes port t).length < 16) :
    execPortTraining port t s = .next s := by
  rw [execPortTraining, if_neg (by omega)]
  exact if_pos (by simpa [State.goodLanes] using h)

/-- Training with 16 lanes ends, and the neighbour found decides how. -/
theorem execPortTraining_ends (hp : port < nPorts) (h0 : (s.port port).train ≠ 0) (h6 : (s.port port).train ≠ 6)
    (href : s.clk.refBad = false) (hused : s.portUsed port = true) (hlanes : 16 ≤ (s.goodLanes port t).length) :
    ∃ credits, execPortTraining port t s = .next (if s.wrongNeighbour port t then
      ((s.trained port t).setPort port (s.mismatchedPort port t)).nodeEvent Code.NEIGHBOUR_MISMATCH port 0
      else (s.trained port t).setPort port (s.activePort port t credits)) := by
  rw [execPortTraining, if_neg (by omega), if_neg (by simpa [State.goodLanes, h0, h6, href, hused] using hlanes),
    ← State.wrongNeighbour_trained]
  exact ⟨_, (apply_ite Host.Outcome.next _ _ _).symm⟩

end Training

end Sys2Proof.Machine

open Sys2Proof Sys2Proof.Machine

/-- Settles O44. That one row performs a whole training, and that every training state lasts at most 1 ms, is log entry
114; that a row whose conditions do not hold changes nothing, entry 2: each is the model's own choice. -/
theorem trainingMakesAPortActive : Obligations.TrainingMakesAPortActive := by
  intro s port hp p
  refine ⟨fun t => ?_, fun h => ?_, fun h0 h6 hdue => ?_, fun h => ?_, fun h => ?_⟩
  · intro lanes
    refine ⟨fun h => (exec_portTraining port t s).trans (execPortTraining_idle hp h),
      fun h0 h6 href hused hlanes => ?_⟩
    obtain ⟨credits, hrow⟩ := execPortTraining_ends hp h0 h6 href hused hlanes
    rw [exec_portTraining, hrow]
    refine ⟨fun hright => ?_, fun l hl hwrong => ?_⟩
    · rw [if_neg fun h => ?_]
      · refine ⟨_, rfl, ?_⟩
        rw [State.port_setPort_self]
        exact ⟨rfl, rfl, rfl, rfl, rfl, rfl, rfl, State.keptPresets_eq, rfl, rfl, rfl,
          fun q hq => (State.port_setPort_ne _ _ hq).trans (State.port_of_torus State.trained_torus q),
          State.trained_mem, State.trained_out, State.trained_sched⟩
      · obtain ⟨l, hl, hne⟩ := State.wrongNeighbour_iff.1 h
        exact hne (hright l hl)
    · rw [if_pos (State.wrongNeighbour_iff.2 ⟨l, hl, hwrong⟩)]
      refine ⟨_, rfl, ?_, fun q hq => ?_⟩
      · rw [State.port_of_torus (EventFrame.nodeEvent ..).torus, State.port_setPort_self]
        rfl
      · rw [State.port_of_torus (EventFrame.nodeEvent ..).torus, State.port_setPort_ne _ _ hq,
          State.port_of_torus State.trained_torus]
  · rw [exec_trainingTimeout, execTrainingTimeout, if_neg (Nat.not_le.2 hp)]
    exact if_pos h
  · rw [exec_trainingTimeout, execTrainingTimeout, if_neg (Nat.not_le.2 hp)]
    exact if_neg (not_or.2 ⟨h0, not_or.2 ⟨h6, Nat.not_lt.2 hdue⟩⟩)
  · rw [exec_retrain, execRetrain, if_neg (Nat.not_le.2 hp)]
    exact if_pos h
  · rw [exec_retrain, execRetrain, if_neg (Nat.not_le.2 hp)]
    exact if_neg h
end

section
/-!
PROOFS. Flits (R283 to R287): what an ACTIVE port answers to a codeword that it cannot use, and to one that it takes.
-/

namespace Sys2Proof.Machine


/-- An acknowledgement of nothing new changes nothing. -/
theorem State.takeAck_of_none {s : State} {port next : Nat} (h : seqDist (s.port port).txAcked next = 0) :
    s.takeAck port next = s := if_pos (.inl h)

/-- Distances are taken modulo 4,096, so one from a SEQ at no distance from another is the other's. -/
theorem seqDist_of_zero {a b : Nat} (h : seqDist a b = 0) (c : Nat) : seqDist b c = seqDist a c := by
  unfold seqDist at h ⊢
  omega

theorem State.sendNak_setPort (s : State) (port : Nat) (p : Port) :
    (s.setPort port p).sendNak port = (s.setPort port p).emit (.ctrlFlit port 1 [p.rxNext]) := by
  rw [State.sendNak, State.port_setPort_self]

section Receive
variable {s : State} {port : Nat} {f : FlitIn} {h : Nat} {payload : Bytes}

/-- A codeword that corrects ends the run of those that did not. -/
def State.runEnded (s : State) (port : Nat) : State := s.setPort port { s.port port with fecRun := 0 }

/-- The port takes the sequenced flit that it expected, and owes a credit for it (R284, R287). -/
def State.takeFlit (s : State) (port h : Nat) : State :=
  (s.modPort port (fun p => { p with
    rxNext := (p.rxNext + 1) % 4096, owed := p.owed.upd 0 (· + 1) (8 * FlitW.dom h + FlitW.vc h) })).countBytes
      0x7101 port 16 port 1 256

theorem execFlitReceive_inactive (hp : port < nPorts) (ha : (s.port port).train ≠ 6) : execFlitReceive port f s = .next s := by
  rw [execFlitReceive, if_neg (by omega)]
  exact if_pos ha

section
variable (hp : port < nPorts) (ha : (s.port port).train = 6) (ht : s.timedEntry 0x010 port = none)
include hp ha ht

theorem execFlitReceive_uncorrectable (hf : f.body = none) :
    execFlitReceive port f s =
      if 4 ≤ (s.port port).fecRun + 1 then
        .next ((s.bumpNode G.FEC_UNCORR 1).setPort port ((s.port port).restart s.clk.cycle 0))
      else .next (((s.bumpNode G.FEC_UNCORR 1).setPort port { s.port port with fecRun := (s.port port).fecRun + 1 }).sendNak
        port) := by
  rw [execFlitReceive, if_neg (by omega), if_neg (by simp [ha]), ht, hf]
  dsimp only
  rw [State.bumpNode_clk]

theorem execFlitReceive_refused (hf : f.body = some (h, payload)) (hbad : FlitW.crcOk h payload = false ∨ 4 < FlitW.ftype h) :
    execFlitReceive port f s = .next ((s.runEnded port).sendNak port) := by
  rw [execFlitReceive, if_neg (by omega), if_neg (by simp [ha]), ht, hf]
  exact if_pos (by simpa using hbad)

/-- A good flit that acknowledges nothing new and returns no credits: its type and its SEQ decide. -/
theorem execFlitReceive_good (hf : f.body = some (h, payload)) (hcrc : FlitW.crcOk h payload = true)
    (htype : FlitW.ftype h ≤ 4) (hack : seqDist (s.port port).txAcked (FlitW.ack h + 1) = 0) (hcr : FlitW.crN h = 0) :
    execFlitReceive port f s =
      if FlitW.ftype h ≠ 1 ∧ FlitW.ftype h ≠ 2 then .next (s.runEnded port)
      else if FlitW.seq h ≠ (s.port port).rxNext then .next ((s.runEnded port).sendNak port)
      else .next ((s.runEnded port).takeFlit port h) := by
  have hport : (s.runEnded port).port port = { s.port port with fecRun := 0 } := State.port_setPort_self ..
  have hacked : (s.runEnded port).takeAck port (FlitW.ack h + 1) = s.runEnded port :=
    State.takeAck_of_none (by rw [hport]; exact hack)
  rw [execFlitReceive, if_neg (by omega), if_neg (by simp [ha]), ht, hf]
  dsimp only
  rw [if_neg (by simp [hcrc]; omega), if_pos hcr, ← State.runEnded, hacked, hport]
  rfl
end
end Receive

theorem execNak_inactive {s : State} {port : Nat} (seq : Nat) (hp : port < nPorts) (ha : (s.port port).train ≠ 6) :
    execNak port seq s = .next s := by
  rw [execNak, if_neg (by omega), if_pos ha]

theorem execNak_resends {s : State} {port seq : Nat} (hp : port < nPorts) (ha : (s.port port).train = 6)
    (hack : seqDist (s.port port).txAcked seq = 0) (hmore : 0 < seqDist seq (s.port port).txSeq) :
    execNak port seq s = .next (s.resendFrom port (seq % 4096)) := by
  rw [execNak, if_neg (by omega), if_neg (by simp [ha]), State.takeAck_of_none hack]
  refine if_neg ?_
  rw [seqDist_of_zero hack] at hmore ⊢
  omega

end Sys2Proof.Machine

open Sys2Proof Sys2Proof.Machine

/-- Settles O45. The header fields are those of Table 13-4. That a flit on a port that is not ACTIVE changes nothing is log
entry 2, and that message rows carry whole messages beside the flits, entry 114: each is the model's own choice. -/
theorem flitsAreTakenInOrderAndResent : Obligations.FlitsAreTakenInOrderAndResent := by
  intro s port hp p
  refine ⟨fun ha f => (exec_flitReceive port f s).trans (execFlitReceive_inactive hp ha),
    fun ha ht => ⟨fun f hf => ?_, fun f h payload hf => ⟨fun hbad => ?_, fun hcrc htype hack hcr => ?_⟩⟩,
    fun seq ha => (exec_nak port seq s).trans (execNak_inactive seq hp ha),
    fun seq ha hack hmore => (exec_nak port seq s).trans (execNak_resends hp ha hack hmore)⟩
  · have hrow := (exec_flitReceive port f s).trans (execFlitReceive_uncorrectable hp ha ht hf)
    by_cases hrun : 4 ≤ p.fecRun + 1
    · refine ⟨_, hrow.trans (if_pos hrun), s.bump_num_self 16 _ 1 (by decide), fun h => by omega,
        fun _ => ⟨State.bumpNode_out .., ?_⟩, fun q hq => ?_, State.bumpNode_mem .., State.bumpNode_sched ..⟩
      · rw [State.port_setPort_self]
        rfl
      · rw [State.port_setPort_ne _ _ hq, State.port_of_torus (State.bumpNode_torus ..)]
    · rw [if_neg hrun, State.sendNak_setPort] at hrow
      refine ⟨_, hrow, s.bump_num_self 16 _ 1 (by decide), fun _ => ⟨?_, State.port_setPort_self ..⟩, fun h => by omega,
        fun q hq => ?_, State.bumpNode_mem .., State.bumpNode_sched ..⟩
      · exact congrArg (· ++ _) (State.bumpNode_out ..)
      · exact (State.port_setPort_ne _ _ hq).trans (State.port_of_torus (State.bumpNode_torus ..) q)
  · rw [exec_flitReceive, execFlitReceive_refused hp ha ht hf hbad, State.runEnded, State.sendNak_setPort]
  · have hrow := (exec_flitReceive port f s).trans (execFlitReceive_good hp ha ht hf hcrc htype hack hcr)
    refine ⟨fun h1 h2 => hrow.trans (if_pos ⟨h1, h2⟩), fun hseq hne => ?_, fun hseq heq => ?_⟩
    · rw [hrow, if_neg (by omega), if_pos hne, State.runEnded, State.sendNak_setPort]
    · rw [if_neg (by omega), if_neg (not_not.2 heq)] at hrow
      refine ⟨_, hrow, ?_, fun q hq => ?_, State.countBytes_mem .., State.countBytes_out .., State.countBytes_sched ..⟩
      · rw [State.takeFlit, State.port_of_torus (State.countBytes_torus ..), State.port_modPort_self, State.runEnded, State.port_setPort_self]
      · rw [State.takeFlit, State.port_of_torus (State.countBytes_torus ..)]
        exact (State.port_setPort_ne _ _ hq).trans (State.port_setPort_ne _ _ hq)
end

section
/-!
PROOFS. Spares in operation and link delay (R282, R299 to R301, R381, R385): lane and port swaps, what a rehearsed lane swap
returns to, presets, and the exchanges that measure a link.
-/

namespace Sys2Proof.Machine

/-! ### Lanes -/

section Lanes
variable {s : State} {port l : Nat}

/-- The error rate of a lane's window is over LANE_SER_LIMIT. -/
def State.overLimit (s : State) (errors symbols : Nat) : Bool :=
  ((f32 (s.node G.LANE_SER_LIMIT)).mul (Fl.ofNat symbols)).lt (Fl.ofNat errors)

theorem execLaneSerWindow_inactive (e n : Nat) (lost : Bool) (hp : port < nPorts) (hl : l < nLanes)
    (ha : (s.port port).train ≠ 6) : execLaneSerWindow port l e n lost s = .next s := by
  rw [execLaneSerWindow, if_neg (by omega)]
  exact if_pos (.inl ha)

/-- A traffic lane of an ACTIVE port on which no rehearsal is due. -/
structure InTraffic (s : State) (port l : Nat) : Prop where
  port_lt : port < nPorts
  lane_lt : l < nLanes
  active : (s.port port).train = 6
  traffic : (s.port port).lanes.contains l = true
  unarmed : s.timedEntry 0x011 (nLanes * port + l) = none

theorem InTraffic.ref (h : InTraffic s port l) : ¬ (port ≥ nPorts ∨ l ≥ nLanes) :=
  not_or.2 ⟨Nat.not_le.2 h.port_lt, Nat.not_le.2 h.lane_lt⟩

theorem InTraffic.execLaneSerWindow_good {e n : Nat} {lost : Bool} (h : InTraffic s port l) (hover : s.overLimit e n = false)
    (hlost : lost = false) : execLaneSerWindow port l e n lost s = .next s := by
  rw [State.overLimit] at hover
  rw [execLaneSerWindow, if_neg h.ref]
  exact if_pos (by simp [hover, hlost, h.unarmed])

theorem InTraffic.execLaneSerWindow_bad {e n : Nat} {lost : Bool} (h : InTraffic s port l)
    (hbad : s.overLimit e n = true ∨ lost = true) :
    (∀ sp, (s.port port).spareLane = some sp →
      execLaneSerWindow port l e n lost s = .next (s.emit (.ctrlFlit port 2 [l, sp])))
    ∧ ((s.port port).spareLane = none → execLaneSerWindow port l e n lost s = .next (s.failPort port)) := by
  have hrow : ((s.overLimit e n || lost) = true) := by simpa using hbad
  rw [execLaneSerWindow, if_neg h.ref]
  dsimp only
  rw [← State.overLimit, if_neg (by simp only [h.active, h.traffic, hrow, Bool.true_or]; decide)]
  refine ⟨fun sp hsp => ?_, fun hsp => ?_⟩
  · rw [hsp]
  · rw [hsp, if_pos hrow]

theorem execLaneSwap_inactive {sp : Nat} (w : Nat) (hp : port < nPorts) (hl : l < nLanes) (hsp : sp < nLanes)
    (ha : (s.port port).train ≠ 6) : execLaneSwap port l sp w s = .next s := by
  rw [execLaneSwap, if_neg (by omega)]
  exact if_pos (.inl ha)

/-- The port with a lane failed and the spare in its place. -/
def Port.swapLane (p : Port) (l sp : Nat) : Port :=
  { p with lanes := p.lanes.map (fun x => if x = l then sp else x), failed := p.failed ++ [l] }

/-- The swap of a lane, counted and reported, before its repair is listed. -/
def State.laneSwapped (s : State) (port l sp : Nat) : State :=
  ((s.setPort port ((s.port port).swapLane l sp)).bumpNode G.LANE_SWAPS 1).nodeEvent Code.LANE_SWAPPED port l

theorem State.laneSwapped_frame (sp : Nat) :
    EventFrame (s.setPort port ((s.port port).swapLane l sp)) (s.laneSwapped port l sp) :=
  (EventFrame.bump ..).trans (EventFrame.nodeEvent ..)

theorem InTraffic.execLaneSwap_spare {sp : Nat} (w : Nat) (h : InTraffic s port l) (hsp : sp < nLanes)
    (hout : (s.port port).lanes.contains sp = false) (hgood : (s.port port).failed.contains sp = false) :
    execLaneSwap port l sp w s = .next ((s.laneSwapped port l sp).addRepair 7 port l sp) := by
  rw [execLaneSwap, if_neg (by have := h.ref; omega)]
  dsimp only
  rw [if_neg (by simp only [h.active, h.traffic, hout, hgood]; decide), h.unarmed]
  rfl

theorem execPresetReq_inactive {k : Nat} (w : Nat) (hp : port < nPorts) (hl : l < nLanes) (hk : k < 16)
    (ha : (s.port port).train ≠ 6) : execPresetReq port l k w s = .next s := by
  rw [execPresetReq, if_neg (by omega), if_pos ha]

theorem execPresetReq_active {k : Nat} (w : Nat) (hp : port < nPorts) (hl : l < nLanes) (hk : k < 16)
    (ha : (s.port port).train = 6) :
    execPresetReq port l k w s = .next ((s.modPort port (fun p =>
      { p with presets := modNth (fun _ => s.eqPolicy (nLanes * port + l) k) p.presets l })).bumpNode G.EQ_POLICY_HOLD
        (flagBit (s.eqPolicy (nLanes * port + l) k != k))) := by
  rw [execPresetReq, if_neg (by omega), if_neg (by simp [ha])]

theorem execRehearsalSwapReturn_none (hp : port < nPorts) (h : (s.port port).rehearse = none) :
    execRehearsalSwapReturn port s = .next s := by
  rw [execRehearsalSwapReturn, if_neg (by omega)]
  dsimp only
  rw [h]

/-- A rehearsed lane swap returns at its time (R385). -/
theorem execRehearsalSwapReturn_lane {a b w : Nat} (hp : port < nPorts) (h : (s.port port).rehearse = some (a, b, w, false)) :
    execRehearsalSwapReturn port s =
      if s.clk.cycle < w then .next s
      else .next (s.setPort port { s.port port with
        rehearse := none, lanes := (s.port port).lanes.map (fun l => if l = b then a else l) }) := by
  rw [execRehearsalSwapReturn, if_neg (by omega)]
  dsimp only
  rw [h]
  rfl

end Lanes

/-! ### Link delay (R301) -/

section Delay
variable {s : State} {port : Nat}

theorem execProbe_inactive (a b c d : Nat) (hp : port < nPorts) (ha : (s.port port).train ≠ 6) :
    execProbe port a b c d s = .next s := by
  rw [execProbe, if_neg (by omega)]
  exact if_pos ha

theorem execProbe_active (a b c d : Nat) (hp : port < nPorts) (ha : (s.port port).train = 6) :
    execProbe port a b c d s =
      if (s.port port).probe = some a then
        .next (s.setPort port { s.port port with
          probe := none, delays := ((d - a - (c - b)) / 2 :: (s.port port).delays).take 8 })
      else .next (s.emit (.ctrlFlit port 4 [a, b, c])) := by
  rw [execProbe, if_neg (by omega)]
  exact if_neg (not_not.2 ha)

theorem execDelayProbe_inactive (a : Nat) (hp : port < nPorts) (ha : (s.port port).train ≠ 6) :
    execDelayProbe port a s = .next s := by
  rw [execDelayProbe, if_neg (by omega)]
  exact if_pos (.inl ha)

theorem execDelayProbe_active (a : Nat) (hp : port < nPorts) (ha : (s.port port).train = 6) :
    execDelayProbe port a s =
      if s.clk.cycle < (s.port port).probeAt + usCycles (s.node G.DELAY_INTERVAL) then .next s
      else .next ((s.setPort port { s.port port with probe := some a, probeAt := s.clk.cycle }).emit
        (.ctrlFlit port 4 [a, 0, 0])) := by
  rw [execDelayProbe, if_neg (by omega)]
  simp only [ha, ne_eq, not_true_eq_false, false_or]

end Delay

/-! ### Ports -/

section Ports
variable {s : State} {port : Nat}

theorem execLinkDown_unarmed (hp : port < 6) (ht : s.timedEntry 0x012 (s.physical port) = none) :
    execLinkDown port s =
      if (s.port (s.physical port)).train = 0 then .next s else .next (s.failPort (s.physical port)) := by
  rw [execLinkDown, if_neg (by omega)]
  dsimp only
  rw [ht]

theorem execPortSwap_idle {sp : Nat} (hp : port < 6) (hsp : sp < nPorts) (ht : s.timedEntry 0x012 (s.physical port) = none)
    (h : s.replacement port ≠ some sp ∨ (s.port (s.physical port)).train = 6) : execPortSwap port sp s = .next s := by
  rw [execPortSwap, if_neg (by omega)]
  dsimp only
  by_cases hr : s.replacement port = some sp
  · rw [if_neg (not_not.2 hr), ht]
    exact if_pos (h.resolve_left (not_not.2 hr))
  · exact if_pos hr

theorem execPortSwap_moves {sp : Nat} (hp : port < 6) (hsp : sp < nPorts) (ht : s.timedEntry 0x012 (s.physical port) = none)
    (hr : s.replacement port = some sp) (ha : (s.port (s.physical port)).train ≠ 6) :
    execPortSwap port sp s = .next ((((s.movePort port sp).bumpNode G.PORT_SWAPS 1).nodeEvent Code.PORT_SWAPPED port
      sp).addRepair 8 (s.physical port) (s.physical port) sp) := by
  rw [execPortSwap, if_neg (by omega)]
  dsimp only
  rw [if_neg (not_not.2 hr), ht]
  exact if_neg ha

end Ports

/-! ### The statements' two halves -/

section
variable {s : State} {port : Nat}

theorem laneSwap_effect {l sp : Nat} (w : Nat) (h : InTraffic s port l) (hsp : sp < nLanes)
    (hout : (s.port port).lanes.contains sp = false) (hgood : (s.port port).failed.contains sp = false) :
    ∃ t, execLaneSwap port l sp w s = .next t ∧ t.port port = (s.port port).swapLane l sp
      ∧ (∀ q, q ≠ port → t.port q = s.port q) ∧ t.rel.spares = s.rel.spares ++ [(7, port, l, sp)]
      ∧ t.rel.pendingRepairs.length = s.rel.pendingRepairs.length + 1 := by
  have hframe := s.laneSwapped_frame (port := port) (l := l) sp
  refine ⟨_, h.execLaneSwap_spare w hsp hout hgood, ?_, fun q hq => ?_, ?_, ?_⟩
  · exact (State.port_of_torus hframe.torus port).trans (State.port_setPort_self ..)
  · exact (State.port_of_torus hframe.torus q).trans (State.port_setPort_ne _ _ hq)
  · exact congrArg (fun (r : RelState) => r.spares ++ _) hframe.rel
  · refine (List.length_append ..).trans (congrArg (· + 1) ?_)
    exact congrArg (fun (r : RelState) => r.pendingRepairs.length) hframe.rel

theorem presetReq_effect {l k : Nat} (w : Nat) (hp : port < nPorts) (hl : l < nLanes) (hk : k < 16)
    (ha : (s.port port).train = 6) :
    ∃ t, execPresetReq port l k w s = .next t
      ∧ t.port port = { s.port port with
        presets := modNth (fun _ => s.eqPolicy (nLanes * port + l) k) (s.port port).presets l }
      ∧ (∀ q, q ≠ port → t.port q = s.port q) ∧ t.mem = s.mem ∧ t.out = s.out := by
  refine ⟨_, execPresetReq_active w hp hl hk ha, ?_, fun q hq => ?_, State.bumpNode_mem .., State.bumpNode_out ..⟩
  · exact (State.port_of_torus (State.bumpNode_torus ..) port).trans (State.port_modPort_self ..)
  · exact (State.port_of_torus (State.bumpNode_torus ..) q).trans (State.port_setPort_ne _ _ hq)
end

end Sys2Proof.Machine

open Sys2Proof Sys2Proof.Machine

/-- Settles O46. That one row judges a whole window or performs a whole swap is log entry 114; that a row whose conditions
do not hold changes nothing, entry 2: each is the model's own choice. -/
theorem sparesAndDelayProbesFollowTheirRules : Obligations.SparesAndDelayProbesFollowTheirRules := by
  refine ⟨fun s port hp => ⟨fun ha => ⟨fun l e n k hl => ?_, fun l sp w hl hsp => ?_, fun a b c d => ?_, fun a => ?_,
      fun l k w hl hk => ?_⟩,
    fun ha => ⟨fun l e n lost hl hin ht => ⟨fun hover hlost => ?_, fun hbad => ?_⟩,
      fun l sp w hl hsp hin hout hgood ht => ?_, fun a b c d => ?_, fun a => ?_, fun l k w hl hk => ?_⟩,
    fun h => ?_, fun a b w h => ?_⟩, fun s port hp ht => ⟨fun h0 => ?_, fun h0 => ?_, fun sp hsp h => ?_,
      fun sp hsp hr ha => ?_⟩⟩
  · rw [exec_laneSerWindow, execLaneSerWindow_inactive e n k hp hl ha]
  · rw [exec_laneSwap, execLaneSwap_inactive w hp hl hsp ha]
  · rw [exec_probe, execProbe_inactive a b c d hp ha]
  · rw [exec_delayProbe, execDelayProbe_inactive a hp ha]
  · rw [exec_presetReq, execPresetReq_inactive w hp hl hk ha]
  · rw [exec_laneSerWindow, InTraffic.execLaneSerWindow_good ⟨hp, hl, ha, hin, ht⟩ hover hlost]
  · rw [exec_laneSerWindow]
    exact InTraffic.execLaneSerWindow_bad ⟨hp, hl, ha, hin, ht⟩ hbad
  · rw [exec_laneSwap]
    exact laneSwap_effect w ⟨hp, hl, ha, hin, ht⟩ hsp hout hgood
  · rw [exec_probe, execProbe_active a b c d hp ha]
  · rw [exec_delayProbe, execDelayProbe_active a hp ha]
  · rw [exec_presetReq]
    exact presetReq_effect w hp hl hk ha
  · rw [exec_rehearsalSwapReturn, execRehearsalSwapReturn_none hp h]
  · rw [exec_rehearsalSwapReturn, execRehearsalSwapReturn_lane hp h]
  · rw [exec_linkDown, execLinkDown_unarmed hp ht, if_pos h0]
  · rw [exec_linkDown, execLinkDown_unarmed hp ht, if_neg h0]
  · rw [exec_portSwap, execPortSwap_idle hp hsp ht h]
  · rw [exec_portSwap, execPortSwap_moves hp hsp ht hr ha]
end

section
/-!
PROOFS. The traffic manager's own events (R309, R312 to R315): shaper releases by kind of flow, the choice of an egress item by
gate class and deficit round robin, and the step of a time gate.
-/

namespace Sys2Proof

/-- A fold of minima is the least value of the list, and one that the list has. -/
theorem foldl_min_least {α : Type} (f : α → Nat) (a : α) (l : List α) :
    (∃ b ∈ a :: l, f b = l.foldl (fun m x => min m (f x)) (f a))
      ∧ ∀ b ∈ a :: l, l.foldl (fun m x => min m (f x)) (f a) ≤ f b := by
  induction l generalizing a with
  | nil => simp
  | cons x l ih =>
    have hstep : ∀ y, min (f a) (f x) = f y → (y = a ∨ y = x) →
        (∃ b ∈ a :: x :: l, f b = (x :: l).foldl (fun m x => min m (f x)) (f a))
          ∧ ∀ b ∈ a :: x :: l, (x :: l).foldl (fun m x => min m (f x)) (f a) ≤ f b := by
      intro y hy hmem
      obtain ⟨⟨b, hb, hmin⟩, hle⟩ := ih y
      rw [List.foldl_cons, hy]
      have hhead := hle y List.mem_cons_self
      refine ⟨⟨b, ?_, hmin⟩, fun c hc => ?_⟩
      · simp only [List.mem_cons] at hb ⊢
        rcases hb with rfl | hb
        · exact hmem.imp_right .inl
        · exact .inr (.inr hb)
      · simp only [List.mem_cons] at hc
        rcases hc with rfl | rfl | hc
        · omega
        · omega
        · exact hle c (List.mem_cons_of_mem _ hc)
    rcases min_choice (f a) (f x) with h | h
    · exact hstep a h (.inl rfl)
    · exact hstep x h (.inr rfl)

theorem mem_nub {α : Type} [BEq α] [LawfulBEq α] {a : α} {l : List α} : a ∈ nub l ↔ a ∈ l := by
  induction l with
  | nil => rfl
  | cons b l ih =>
    by_cases h : a = b <;> simp [nub, ih, h]

theorem mem_insertBy {α : Type} {le : α → α → Bool} {a x : α} {l : List α} : x ∈ insertBy le a l ↔ x = a ∨ x ∈ l := by
  induction l with
  | nil => simp [insertBy]
  | cons b l ih =>
    rw [insertBy]
    split
    · simp
    · rw [List.mem_cons, ih, List.mem_cons, or_left_comm]

theorem mem_sortBy {α : Type} {le : α → α → Bool} {x : α} {l : List α} : x ∈ sortBy le l ↔ x ∈ l := by
  induction l with
  | nil => rfl
  | cons b l ih => rw [sortBy, mem_insertBy, ih, List.mem_cons]

end Sys2Proof

namespace Sys2Proof.Machine

/-! ### Shaper releases (R309) -/

section Release
variable {s u : State} {f i : Nat}

/-- A submission of a flow that its shaper has not released. -/
def SubMark.waits (f : Nat) (m : SubMark) : Bool := m.flow == f && !m.released

theorem execShaperRelease_submission (hlo : 4096 ≤ f) (hhi : f < 1048576) :
    (s.host.subs.any (SubMark.waits f) = false ∨ s.release f 1 = none → execShaperRelease f s = .next s)
    ∧ (∀ u, s.host.subs.any (SubMark.waits f) = true → s.release f 1 = some u →
      execShaperRelease f s = .next (u.setSubs
        (modFirst (SubMark.waits f) (fun m => { m with released := true }) u.host.subs))) := by
  rw [execShaperRelease, if_neg (by omega), if_pos hlo]
  refine ⟨fun h => ?_, fun u hany hu => (if_pos hany).trans (by rw [hu]; rfl)⟩
  by_cases hany : s.host.subs.any (SubMark.waits f) = true
  · exact (if_pos hany).trans (by rw [h.resolve_left (by simp [hany])])
  · exact if_neg hany

theorem execShaperRelease_host (hi : i < 16) :
    (∀ h u, s.host.waiting.find? (fun h => h.inset == i) = some h → s.release (1024 + i) 1 = some u →
      execShaperRelease (1024 + i) s =
        .next (({ u with host := { u.host with waiting := u.host.waiting.erase h } }).arrive h))
    ∧ (s.host.waiting.find? (fun h => h.inset == i) = none ∨ s.release (1024 + i) 1 = none →
      execShaperRelease (1024 + i) s = .next s) := by
  rw [execShaperRelease, if_neg (by omega), if_neg (by omega), if_pos (by omega), Nat.add_sub_cancel_left]
  refine ⟨fun h u hfirst hu => by rw [hfirst, hu], fun h => ?_⟩
  cases hfirst : s.host.waiting.find? (fun h => h.inset == i) with
  | none => rfl
  | some x => rw [h.resolve_left (by simp [hfirst])]

/-- The item of a flow that has waited longest for its shaper. -/
def Flow.oldest (x : Flow) : Option Item := x.queue.find? (fun it => !it.released)

theorem execShaperRelease_none (hf : f < 1024 ∨ (1040 ≤ f ∧ f < 4096)) (h : (s.flow f).oldest = none) :
    execShaperRelease f s = .next s := by
  rw [Flow.oldest] at h
  rw [execShaperRelease, if_neg (by omega), if_neg (by omega), if_neg (by omega), h]

theorem execShaperRelease_held {it : Item} (hf : f < 1024 ∨ (1040 ≤ f ∧ f < 4096)) (hit : (s.flow f).oldest = some it)
    (h : s.release f it.units = none) : execShaperRelease f s = .next s := by
  rw [Flow.oldest] at hit
  rw [execShaperRelease, if_neg (by omega), if_neg (by omega), if_neg (by omega), hit]
  dsimp only
  rw [h]

theorem execShaperRelease_item {it : Item} (hf : f < 1024 ∨ (1040 ≤ f ∧ f < 4096)) (hne : f ≠ 1056)
    (hit : (s.flow f).oldest = some it) (hu : s.release f it.units = some u) :
    execShaperRelease f s = .next (u.setFlow f { u.flow f with
      queue := modFirst (fun x => !x.released) (fun x => { x with released := true }) (u.flow f).queue }) := by
  rw [Flow.oldest] at hit
  rw [execShaperRelease, if_neg (by omega), if_neg (by omega), if_neg (by omega), hit]
  dsimp only
  rw [hu, beq_false_of_ne hne]

/-- A frame released on the field port's flow goes to the server at once (R364). -/
theorem execShaperRelease_frame {it : Item} {src : Nat} {b : Bytes} (hit : (s.flow 1056).oldest = some it)
    (hframe : it.what = .fieldFrame src b) (hu : s.release 1056 it.units = some u) :
    execShaperRelease 1056 s =
      .next ((u.setFlow 1056 { u.flow 1056 with queue := (u.flow 1056).queue.drop 1 }).serveFrame src b) := by
  rw [Flow.oldest] at hit
  rw [execShaperRelease, if_neg (by decide), if_neg (by decide), if_neg (by decide), hit]
  dsimp only
  rw [hu, hframe]
  rfl

end Release

/-! ### Deficit round robin (R313) -/

/-- A round robin with a queue picks one of its queues: the one visited if its deficit suffices, else one of those that
need the fewest visits. -/
theorem drrPick_of_mem (quantum turn : Nat) {qs : List DrrQ} {x : DrrQ} (hx : x ∈ qs) :
    ∃ q ∈ qs, ∃ after, drrPick quantum turn qs = some (q.id, after) := by
  unfold drrPick
  split
  next q hq => exact ⟨q, List.mem_of_find?_eq_some hq, _, rfl⟩
  next =>
    have hmem : ∀ q, q ∈ qs.filter (fun q => decide (turn ≤ q.id)) ++ qs.filter (fun q => decide (q.id < turn)) ↔ q ∈ qs := by
      intro q
      have := Nat.lt_or_ge q.id turn
      simp only [List.mem_append, List.mem_filter, decide_eq_true_eq]
      tauto
    generalize qs.filter (fun q => decide (turn ≤ q.id)) ++ qs.filter (fun q => decide (q.id < turn)) = order at hmem
    dsimp only
    cases order with
    | nil => exact absurd ((hmem x).2 hx) List.not_mem_nil
    | cons q0 rest =>
      obtain ⟨⟨b, hb, hmin⟩, -⟩ := foldl_min_least (fun q : DrrQ => q.visits quantum) q0 rest
      dsimp only
      rw [← hmin]
      split
      next hnone =>
        exact absurd (beq_self_eq_true (b.visits quantum)) (Bool.eq_false_iff.1 (List.findIdx?_eq_none_iff.1 hnone b hb))
      next w hw =>
        obtain ⟨hlt, -⟩ := List.findIdx?_eq_some_iff_getElem.1 hw
        have hnth : nth q0 (q0 :: rest) w = (q0 :: rest)[w] := by
          rw [nth_eq_getD, List.getElem?_eq_getElem hlt, Option.getD_some]
        exact ⟨_, (hmem _).1 (List.getElem_mem hlt), _, congrArg some (Prod.ext (congrArg DrrQ.id hnth) rfl)⟩

/-! ### The choice of EGRESS_SELECT (R312, R315) -/

section Egress
variable {s u : State} {p : Nat}

/-- The state in which a port chooses: the deferrals of its head items are counted (R315). -/
def State.deferring (s : State) (p : Nat) : State :=
  let late := ((s.cands p).filter (fun c => c.gate == .defer && !(s.gate p).deferred.contains c.flow)).map (·.flow)
  (s.setGate p { s.gate p with deferred := (s.gate p).deferred ++ late }).bumpNode G.GATE_DEFER late.length

/-- A candidate's flow as its service's round robin sees it, and a service as its class's does. -/
def State.flowQueue (s : State) (c : Cand) : DrrQ :=
  ⟨c.flow, FlowW.weight (s.flow c.flow).word, (s.flow c.flow).deficit, c.item.units⟩
def State.serviceQueue (s : State) (x : Nat × Cand × List (Nat × Nat)) : DrrQ :=
  ⟨x.1, SvcW.weight (s.service x.1).word, (s.service x.1).deficit, x.2.1.item.units⟩

/-- What each service would send: the service, its item, and its flows' deficits after it. -/
def State.offers (s : State) (ready : List Cand) : List (Nat × Cand × List (Nat × Nat)) :=
  (nub (ready.map (·.svc))).filterMap (fun sv =>
    (drrPick (s.node G.TM_QUANTUM) (s.service sv).turn ((ready.filter (fun c => c.svc == sv)).map s.flowQueue)).bind (fun r =>
      (ready.find? (fun c => c.flow == r.1)).map (fun c => (sv, c, r.2))))

/-- The services that a class's round robin turns through, in the order of their numbers. -/
def State.serviceQueues (s : State) (xs : List (Nat × Cand × List (Nat × Nat))) : List DrrQ :=
  sortBy (fun a b => decide (a.id ≤ b.id)) (xs.map s.serviceQueue)

/-- An item of a port's choice is sent: the deficits, its queue, its service's turn, the port's busy time, and the item. -/
def State.sendChosen (s : State) (p cls sv : Nat) (sd : List (Nat × Nat)) (c : Cand) (fd : List (Nat × Nat)) : State :=
  let s := sd.foldl (fun s d => s.setService d.1 { s.service d.1 with deficit := d.2 }) s
  let s := fd.foldl (fun s d => s.setFlow d.1 { s.flow d.1 with deficit := d.2 }) s
  let s := s.popItem c.flow (s.flow c.flow).deficit
  let s := s.putService sv (s.service sv).deficit (c.flow + 1)
  let s := if c.gate = .overrun then s.bumpNode G.GATE_OVERRUN 1 else s
  let g := s.gate p
  let s := s.setGate p { g with
    busyTo := s.clk.cycle + ceilDiv (sendTime p c.item) 1250
    deferred := g.deferred.filter (· != c.flow), turn := g.turn.set cls (sv + 1) }
  s.sendItem c.flow c.item

theorem execEgressSelect_busy (hp : p < 12) (h : s.clk.cycle < (s.gate p).busyTo) : execEgressSelect p s = .next s := by
  rw [execEgressSelect, if_neg (by omega)]
  exact if_pos h

theorem execEgressSelect_none (hp : p < 12) (hfree : (s.gate p).busyTo ≤ s.clk.cycle)
    (h : (s.cands p).filter Cand.go = []) : execEgressSelect p s = .next (s.deferring p) := by
  rw [execEgressSelect, if_neg (by omega)]
  dsimp only
  rw [if_neg (by omega), h]
  rfl

/-- The candidates of the least gate class. -/
def ofClass (ready : List Cand) (cls : Nat) : List Cand := ready.filter (fun c => c.cls == cls)

theorem mem_ofClass {ready : List Cand} {cls : Nat} {c : Cand} : c ∈ ofClass ready cls ↔ c ∈ ready ∧ c.cls = cls := by
  rw [ofClass, List.mem_filter, beq_iff_eq]

theorem execEgressSelect_sends {c0 c : Cand} {cs : List Cand} {cls sv sv' : Nat} {sd fd : List (Nat × Nat)} (hp : p < 12)
    (hfree : (s.gate p).busyTo ≤ s.clk.cycle) (hready : (s.cands p).filter Cand.go = c0 :: cs)
    (hcls : cs.foldl (fun m c => min m c.cls) c0.cls = cls)
    (hsv : drrPick ((s.deferring p).node G.TM_QUANTUM) (((s.deferring p).gate p).turn.get 0 cls)
      ((s.deferring p).serviceQueues ((s.deferring p).offers (ofClass (c0 :: cs) cls))) = some (sv, sd))
    (hc : ((s.deferring p).offers (ofClass (c0 :: cs) cls)).find? (fun x => x.1 == sv) = some (sv', c, fd)) :
    execEgressSelect p s = .next ((s.deferring p).sendChosen p cls sv sd c fd) := by
  rw [execEgressSelect, if_neg (by omega)]
  dsimp only
  rw [if_neg (by omega), hready]
  dsimp only
  rw [hcls]
  split
  next hnone => exact absurd (hsv.symm.trans hnone) (Option.some_ne_none _)
  next sv1 sd1 hsome =>
    cases hsv.symm.trans hsome
    split
    next hnone => exact absurd (hc.symm.trans hnone) (Option.some_ne_none _)
    next sv2 c1 fd1 hfound =>
      cases hc.symm.trans hfound
      rfl

/-! ### Some candidate is chosen -/

theorem mem_of_mem_offers {ready : List Cand} {x : Nat × Cand × List (Nat × Nat)} (h : x ∈ u.offers ready) : x.2.1 ∈ ready := by
  obtain ⟨sv, -, hx⟩ := List.mem_filterMap.1 h
  obtain ⟨r, -, hr⟩ := Option.bind_eq_some_iff.1 hx
  obtain ⟨c, hc, rfl⟩ := Option.map_eq_some_iff.1 hr
  exact List.mem_of_find?_eq_some hc

/-- The service of a ready item has an offer. -/
theorem offers_of_mem {ready : List Cand} {c : Cand} (hc : c ∈ ready) : ∃ x, x ∈ u.offers ready := by
  have hmine : u.flowQueue c ∈ (ready.filter (fun d => d.svc == c.svc)).map u.flowQueue :=
    List.mem_map_of_mem (List.mem_filter.2 ⟨hc, beq_self_eq_true _⟩)
  obtain ⟨q, hq, after, hpick⟩ := drrPick_of_mem (u.node G.TM_QUANTUM) (u.service c.svc).turn hmine
  obtain ⟨d, hd, rfl⟩ := List.mem_map.1 hq
  obtain ⟨hd, -⟩ := List.mem_filter.1 hd
  have hfind : (ready.find? (fun e => e.flow == d.flow)).isSome = true :=
    List.find?_isSome.2 ⟨d, hd, beq_self_eq_true _⟩
  obtain ⟨e, he⟩ := Option.isSome_iff_exists.1 hfind
  refine ⟨(c.svc, e, after), List.mem_filterMap.2 ⟨c.svc, mem_nub.2 (List.mem_map_of_mem hc), ?_⟩⟩
  rw [hpick]
  exact congrArg (Option.map _) he

/-- A class with a ready item has a service whose turn it is, and that service an item. -/
theorem chosen_of_mem {ready : List Cand} {c : Cand} (turn : Nat) (hc : c ∈ ready) :
    ∃ sv sd sv' d fd, drrPick (u.node G.TM_QUANTUM) turn (u.serviceQueues (u.offers ready)) = some (sv, sd)
      ∧ (u.offers ready).find? (fun x => x.1 == sv) = some (sv', d, fd) ∧ d ∈ ready := by
  obtain ⟨x, hx⟩ := offers_of_mem (u := u) hc
  have hqueue : u.serviceQueue x ∈ u.serviceQueues (u.offers ready) := mem_sortBy.2 (List.mem_map_of_mem hx)
  obtain ⟨q, hq, sd, hsv⟩ := drrPick_of_mem (u.node G.TM_QUANTUM) turn hqueue
  obtain ⟨y, hy, rfl⟩ := List.mem_map.1 (mem_sortBy.1 hq)
  have hfind : ((u.offers ready).find? (fun z => z.1 == y.1)).isSome = true :=
    List.find?_isSome.2 ⟨y, hy, beq_self_eq_true _⟩
  obtain ⟨⟨sv', d, fd⟩, hd⟩ := Option.isSome_iff_exists.1 hfind
  exact ⟨_, _, _, _, _, hsv, hd, mem_of_mem_offers (List.mem_of_find?_eq_some hd)⟩

/-- Of the items that may start, one of the least gate class is sent. -/
theorem execEgressSelect_ready (hp : p < 12) (hfree : (s.gate p).busyTo ≤ s.clk.cycle) (hgo : ∃ c ∈ s.cands p, c.go = true) :
    ∃ cls sv sd c fd, execEgressSelect p s = .next ((s.deferring p).sendChosen p cls sv sd c fd) ∧ c ∈ s.cands p
      ∧ c.go = true ∧ ∀ d ∈ s.cands p, d.go = true → c.cls ≤ d.cls := by
  have hmem : ∀ c, c ∈ (s.cands p).filter Cand.go ↔ c ∈ s.cands p ∧ c.go = true := fun c => List.mem_filter
  obtain ⟨c, hc, hcgo⟩ := hgo
  have hc := (hmem c).2 ⟨hc, hcgo⟩
  cases hready : (s.cands p).filter Cand.go with
  | nil => exact absurd (hready ▸ hc) List.not_mem_nil
  | cons c0 cs =>
    rw [hready] at hmem
    obtain ⟨⟨b, hb, hmin⟩, hleast⟩ := foldl_min_least Cand.cls c0 cs
    generalize hcls : cs.foldl (fun m c => min m c.cls) c0.cls = cls at hmin hleast
    obtain ⟨sv, sd, sv', d, fd, hsv, hd, hdr⟩ := chosen_of_mem (u := s.deferring p) (((s.deferring p).gate p).turn.get 0 cls)
      (mem_ofClass.2 ⟨hb, hmin⟩)
    obtain ⟨hdr, hdcls⟩ := mem_ofClass.1 hdr
    obtain ⟨hdc, hdgo⟩ := (hmem d).1 hdr
    exact ⟨cls, sv, sd, d, fd, execEgressSelect_sends hp hfree hready hcls hsv hd, hdc, hdgo,
      fun e he hego => hdcls.le.trans (hleast e ((hmem e).2 ⟨he, hego⟩))⟩

/-! ### What the choice leaves -/

/-- Every flow's queue, every port's busy time, the clock and memory are as they were. -/
structure QueueFrame (s t : State) : Prop where
  queue : ∀ f, (t.flow f).queue = (s.flow f).queue
  busyTo : ∀ p, (t.gate p).busyTo = (s.gate p).busyTo
  clk : t.clk = s.clk
  mem : t.mem = s.mem

namespace QueueFrame
variable {t v : State}

theorem refl (s : State) : QueueFrame s s := ⟨fun _ => rfl, fun _ => rfl, rfl, rfl⟩

theorem trans (h : QueueFrame s t) (k : QueueFrame t v) : QueueFrame s v :=
  ⟨fun f => (k.queue f).trans (h.queue f), fun p => (k.busyTo p).trans (h.busyTo p), k.clk.trans h.clk, k.mem.trans h.mem⟩

theorem of_tm (htm : t.tm = s.tm) (hclk : t.clk = s.clk) (hmem : t.mem = s.mem) : QueueFrame s t :=
  ⟨fun f => by rw [State.flow, htm]; rfl, fun p => by rw [State.gate, htm]; rfl, hclk, hmem⟩

theorem foldl {α : Type} {f : State → α → State} (hf : ∀ s a, QueueFrame s (f s a)) (l : List α) (s : State) :
    QueueFrame s (l.foldl f s) := by
  induction l generalizing s with
  | nil => exact refl s
  | cons a l ih => exact (hf s a).trans (ih _)

theorem bump (s : State) (i k n : Nat) : QueueFrame s (s.bump i k n) :=
  of_tm (State.bump_tm ..) (State.bump_clk ..) (State.bump_mem ..)

theorem bumpFlow (s : State) (f k n : Nat) : QueueFrame s (s.bumpFlow f k n) := by
  unfold State.bumpFlow
  split
  · exact bump ..
  · exact refl s

theorem setService (s : State) (n : Nat) (x : Service) : QueueFrame s (s.setService n x) :=
  ⟨fun _ => rfl, fun _ => rfl, rfl, rfl⟩

theorem setDeficit (s : State) (f d : Nat) : QueueFrame s (s.setFlow f { s.flow f with deficit := d }) := by
  refine ⟨fun g => ?_, fun _ => rfl, rfl, rfl⟩
  by_cases hg : g = f
  · rw [hg, State.flow_setFlow_self]
  · rw [State.flow_setFlow_ne _ _ hg]

theorem putService (s : State) (sv deficit turn : Nat) : QueueFrame s (s.putService sv deficit turn) := by
  unfold State.putService
  dsimp only
  split
  · exact (setService ..).trans (bump ..)
  · exact setService ..

theorem sentMsg (s : State) (tag hdr : Nat) : QueueFrame s (s.sentMsg tag hdr) := by
  unfold State.sentMsg
  split
  · exact refl s
  · dsimp only
    split
    · exact refl s
    · exact of_tm (by rw [State.modInset_tm]) rfl rfl

theorem countBytes (s : State) (event unit inst port dir n : Nat) :
    QueueFrame s (s.countBytes event unit inst port dir n) :=
  of_tm (State.countBytes_tm ..) (State.countBytes_clk ..) (State.countBytes_mem ..)

theorem charge (s : State) (i k n : Nat) : QueueFrame s (s.charge i k n) :=
  of_tm (State.charge_tm ..) (State.charge_clk ..) (State.charge_mem ..)

theorem emit (s : State) (o : Out) : QueueFrame s (s.emit o) := of_tm rfl rfl rfl

theorem setPort (s : State) (p : Nat) (q : Port) : QueueFrame s (s.setPort p q) := of_tm rfl rfl rfl

theorem sendItem (s : State) (f : Nat) (it : Item) : QueueFrame s (s.sendItem f it) := by
  unfold State.sendItem
  dsimp only
  split
  · exact ((setPort ..).trans (emit ..)).trans (sentMsg ..)
  · exact ((countBytes ..).trans (charge ..)).trans (emit ..)
  · exact (countBytes ..).trans (emit ..)
  · exact emit ..

end QueueFrame

theorem State.sentMsg_out (s : State) (tag hdr : Nat) : (s.sentMsg tag hdr).out = s.out := by
  unfold State.sentMsg
  split
  · rfl
  · dsimp only
    split
    · rfl
    · rfl

theorem State.mem_out_sendItem (s : State) (f : Nat) (it : Item) : it.what ∈ (s.sendItem f it).out := by
  have hemit : ∀ v : State, it.what ∈ (v.emit it.what).out := fun v => List.mem_append_right _ List.mem_cons_self
  unfold State.sendItem
  dsimp only
  split
  · rw [State.sentMsg_out]
    exact hemit _
  · exact hemit _
  · exact hemit _
  · exact hemit _

theorem State.popItem_queue (s : State) (f d : Nat) : ((s.popItem f d).flow f).queue = (s.flow f).queue.drop 1 := by
  unfold State.popItem
  rw [(QueueFrame.bumpFlow ..).queue, State.flow_setFlow_self]

theorem State.popItem_clk (s : State) (f d : Nat) : (s.popItem f d).clk = s.clk := by
  unfold State.popItem
  exact (QueueFrame.bumpFlow ..).clk

theorem State.popItem_mem (s : State) (f d : Nat) : (s.popItem f d).mem = s.mem := by
  unfold State.popItem
  exact (QueueFrame.bumpFlow ..).mem

/-- A chosen item is put out, has left its queue, and keeps its port busy for its transmit time. -/
theorem State.sendChosen_effect (s : State) (p cls sv : Nat) (sd : List (Nat × Nat)) (c : Cand) (fd : List (Nat × Nat)) :
    let t := s.sendChosen p cls sv sd c fd
    c.item.what ∈ t.out ∧ (t.flow c.flow).queue = (s.flow c.flow).queue.drop 1
      ∧ (t.gate p).busyTo = s.clk.cycle + ceilDiv (sendTime p c.item) 1250 ∧ t.mem = s.mem := by
  have hdeficits : QueueFrame s (fd.foldl (fun s d => s.setFlow d.1 { s.flow d.1 with deficit := d.2 })
      (sd.foldl (fun s d => s.setService d.1 { s.service d.1 with deficit := d.2 }) s)) :=
    (QueueFrame.foldl (fun _ _ => .setService ..) sd s).trans (.foldl (fun _ _ => .setDeficit ..) fd _)
  have hoverrun : ∀ v : State, QueueFrame v (if c.gate = .overrun then v.bumpNode G.GATE_OVERRUN 1 else v) := by
    intro v
    split
    · exact .bump ..
    · exact .refl v
  rw [State.sendChosen]
  generalize fd.foldl _ _ = a at hdeficits
  dsimp only
  set b := a.popItem c.flow (a.flow c.flow).deficit with hb
  have hcounted := (QueueFrame.putService b sv (b.service sv).deficit (c.flow + 1)).trans (hoverrun _)
  generalize (if c.gate = .overrun then _ else _ : State) = d at hcounted
  have hsent := QueueFrame.sendItem (d.setGate p { d.gate p with
    busyTo := d.clk.cycle + ceilDiv (sendTime p c.item) 1250
    deferred := (d.gate p).deferred.filter (· != c.flow), turn := (d.gate p).turn.set cls (sv + 1) }) c.flow c.item
  refine ⟨State.mem_out_sendItem .., ?_, ?_, ?_⟩
  · rw [hsent.queue, ← hdeficits.queue, ← State.popItem_queue, ← hb, ← hcounted.queue]
    rfl
  · rw [hsent.busyTo, State.gate_setGate_self, hcounted.clk, hb, State.popItem_clk, hdeficits.clk]
  · rw [hsent.mem, ← hdeficits.mem, ← State.popItem_mem a c.flow (a.flow c.flow).deficit, ← hb, ← hcounted.mem]
    rfl

theorem State.deferring_flow (s : State) (p f : Nat) : (s.deferring p).flow f = s.flow f := by
  rw [State.deferring, State.flow, State.bumpNode_tm]
  rfl

theorem State.deferring_out (s : State) (p : Nat) : (s.deferring p).out = s.out := State.bumpNode_out ..

theorem State.deferring_mem (s : State) (p : Nat) : (s.deferring p).mem = s.mem := State.bump_mem ..

theorem State.deferring_clk (s : State) (p : Nat) : (s.deferring p).clk = s.clk := State.bump_clk ..

/-! ### Time gates (R314) -/

theorem execGateEntry_advances (hp : p < 12)
    (hpassed : 3000 * (((GateL.entries (s.gate p).cur).take ((s.gate p).entry + 1)).map (·.1)).sum ≤ s.sinceTick)
    (hlt : (s.gate p).entry + 1 < (GateL.entries (s.gate p).cur).length) :
    execGateEntry p s =
      .next (s.setGate p { s.gate p with entry := (s.gate p).entry + 1, startAt := s.clk.cycle }) := by
  rw [execGateEntry, if_neg (by omega)]
  exact if_pos ⟨hlt, hpassed⟩

theorem execGateEntry_stays (hp : p < 12)
    (h : ¬ 3000 * (((GateL.entries (s.gate p).cur).take ((s.gate p).entry + 1)).map (·.1)).sum ≤ s.sinceTick
      ∨ (GateL.entries (s.gate p).cur).length ≤ (s.gate p).entry + 1) : execGateEntry p s = .next s := by
  rw [execGateEntry, if_neg (by omega)]
  exact if_neg fun ⟨hlt, hpassed⟩ => h.elim (· hpassed) hlt.not_ge

end Egress

end Sys2Proof.Machine

open Sys2Proof Sys2Proof.Machine

/-- Settles O52. That one row sends one item, in which order the services take turns, and which flows a head item may wait in
are log entry 119; that a row whose conditions do not hold changes nothing, entry 2: each is the model's own choice. -/
theorem shapersReleaseAndPortsSelectByClass : Obligations.ShapersReleaseAndPortsSelectByClass := by
  refine ⟨fun s f hlo hhi => ?_, fun s i hi => ?_, fun s f hf => ⟨fun h => ?_, fun it hit => ⟨fun h => ?_, fun u hu => ?_⟩⟩,
    fun s u it src b hit hframe hu => (exec_shaperRelease 1056 s).trans (execShaperRelease_frame hit hframe hu),
    fun s p hp => ⟨fun h => (exec_egressSelect p s).trans (execEgressSelect_busy hp h), fun hfree hgo => ?_,
      fun hfree hno => ?_, ?_⟩⟩
  · rw [exec_shaperRelease]
    exact execShaperRelease_submission hlo hhi
  · rw [exec_shaperRelease]
    exact execShaperRelease_host hi
  · rw [exec_shaperRelease, execShaperRelease_none (by omega) h]
  · rw [exec_shaperRelease, execShaperRelease_held (by omega) hit h]
  · rw [exec_shaperRelease, execShaperRelease_item (by omega) (by omega) hit hu]
  · obtain ⟨cls, sv, sd, c, fd, hexec, hc, hcgo, hleast⟩ := execEgressSelect_ready hp hfree hgo
    obtain ⟨hout, hqueue, hbusy, hmem⟩ := State.sendChosen_effect (s.deferring p) p cls sv sd c fd
    rw [State.deferring_flow] at hqueue
    rw [State.deferring_clk] at hbusy
    exact ⟨_, c, (exec_egressSelect p s).trans hexec, hc, hcgo, hleast, hout, hqueue, hbusy,
      hmem.trans (State.deferring_mem s p)⟩
  · have hempty : (s.cands p).filter Cand.go = [] :=
      List.filter_eq_nil_iff.2 fun c hc => Bool.eq_false_iff.1 (hno c hc)
    exact ⟨_, (exec_egressSelect p s).trans (execEgressSelect_none hp hfree hempty), State.deferring_out s p,
      State.deferring_mem s p, State.deferring_flow s p⟩
  · exact ⟨fun hpassed hlt => (exec_gateEntry p s).trans (execGateEntry_advances hp hpassed hlt),
      fun h => (exec_gateEntry p s).trans (execGateEntry_stays hp h)⟩
end

section
/-!
PROOFS. The host port's registers, decoders and mailbox (chapter 16): doorbells, QUEUE_CONFIG by field, HDM_COMMIT, and what the
link and the mailbox answer.
-/

namespace Sys2Proof.Machine

variable {s : State} {fn q v : Nat}

/-! ### Doorbells (R311) -/

theorem execSqTail_idle (hfn : fn < 16) (hq : q < 4) (h : (s.queue fn q).sqLog = 0 ∨ s.alive = false) :
    execSqTail fn q v s = .next s := by
  rw [execSqTail, if_neg (by omega)]
  exact if_pos (h.imp_right fun hdead => by rw [hdead]; rfl)

/-- The ring entries that a doorbell of value `v` makes new, in ring order. -/
def QueuePair.newEntries (p : QueuePair) (v : Nat) : List Nat :=
  (upto ((v % 2 ^ p.sqLog + 2 ^ p.sqLog - p.sqTail) % 2 ^ p.sqLog)).map (fun k => (p.sqTail + k) % 2 ^ p.sqLog)

theorem execSqTail_rings (hfn : fn < 16) (hq : q < 4) (halive : s.alive = true) (h : (s.queue fn q).sqLog ≠ 0) :
    execSqTail fn q v s = .next (((s.queue fn q).newEntries v).foldl (fun s k => s.arriveSub fn q k)
      (s.setQueue fn q { s.queue fn q with sqTail := v % 2 ^ (s.queue fn q).sqLog })) := by
  rw [execSqTail, if_neg (by omega)]
  exact if_neg (not_or.2 ⟨h, by rw [halive]; decide⟩)

/-! ### Queue registers (R341) -/

section Registers
variable {f : Nat}

theorem execQueueConfig_dead (hfn : fn < 16) (hq : q < 4) (hf : f < 6) (h : s.alive = false) :
    execQueueConfig fn q f v s = .next s := by
  rw [execQueueConfig, if_neg (by omega), if_pos (by rw [h]; rfl)]

theorem execQueueConfig_cqHead (hfn : fn < 16) (hq : q < 4) (h : s.alive = true) :
    execQueueConfig fn q 4 v s = .next (s.setQueue fn q { s.queue fn q with cqHead := v % 2 ^ 16 }) := by
  rw [execQueueConfig, if_neg (by omega), if_neg (by rw [h]; decide)]
  rfl

theorem execQueueConfig_xlogHead (hfn : fn < 16) (hq : q < 4) (h : s.alive = true) :
    execQueueConfig fn q 5 v s = .next (s.setBinding fn { s.binding fn with xlogHead := v % 2 ^ 32 }) := by
  rw [execQueueConfig, if_neg (by omega), if_neg (by rw [h]; decide)]
  rfl

/-- The form of a value for a field: a base is aligned and an address, a size a logarithm of at most 15. -/
def registerFormed (f v : Nat) : Prop := if f = 0 ∨ f = 2 then v % 64 = 0 ∧ v < 2 ^ 64 else v ≤ 15

/-- A write that waits, last in its pair's list. -/
def State.waitRegister (s : State) (fn q f v : Nat) : State :=
  s.setQueue fn q { s.queue fn q with pend := (s.queue fn q).pend ++ [(f, v)] }

/-- The row's condition of form is that the value is not formed. -/
theorem not_registerFormed_iff :
    (if f = 0 ∨ f = 2 then v % 64 ≠ 0 ∨ v ≥ 2 ^ 64 else v > 15) ↔ ¬ registerFormed f v := by
  unfold registerFormed
  split <;> omega

open Classical in
theorem execQueueConfig_register (hfn : fn < 16) (hq : q < 4) (hf : f < 4) (halive : s.alive = true) :
    execQueueConfig fn q f v s =
      if ¬ registerFormed f v ∨ s.num fn G.XLOG_BYTES / 64 < (s.waitRegister fn q f v).ringEntries fn
      then .next (s.event fn Code.QUEUE_CONFIG 0 0) else .next (s.waitRegister fn q f v) := by
  rw [execQueueConfig, if_neg (by omega), if_neg (by rw [halive]; decide)]
  dsimp only
  rw [if_neg (by omega), if_neg (by omega)]
  exact if_congr (or_congr not_registerFormed_iff Iff.rfl) rfl rfl

theorem execQueueConfig_waits (hfn : fn < 16) (hq : q < 4) (hf : f < 4) (halive : s.alive = true)
    (hform : registerFormed f v) (hfit : (s.waitRegister fn q f v).ringEntries fn ≤ s.num fn G.XLOG_BYTES / 64) :
    execQueueConfig fn q f v s = .next (s.waitRegister fn q f v) := by
  rw [execQueueConfig_register hfn hq hf halive, if_neg (not_or.2 ⟨not_not.2 hform, hfit.not_gt⟩)]

theorem execQueueConfig_refuses (hfn : fn < 16) (hq : q < 4) (hf : f < 4) (halive : s.alive = true)
    (h : ¬ registerFormed f v ∨ s.num fn G.XLOG_BYTES / 64 < (s.waitRegister fn q f v).ringEntries fn) :
    execQueueConfig fn q f v s = .next (s.event fn Code.QUEUE_CONFIG 0 0) := by
  rw [execQueueConfig_register hfn hq hf halive, if_pos h]

end Registers

/-! ### HDM decoders (R340) -/

section Decoders
variable {d base size ways : Nat}

/-- The conditions on which a decoder commits. -/
def State.hdmOk (s : State) (d base size ways : Nat) : Bool :=
  decide (s.node G.START_PHASE = 6) && ways == 1 && decide (0 < size) && base % Machine.granule == 0 && size % Machine.granule == 0
    && decide (s.node (G.HDM_OWNER + d) < 16) && rangeT1 (s.node (G.HDM_TARGET + d)) size
    && Dict.rangeOwned s.gaz.regs (s.node (G.HDM_OWNER + d)) (s.node (G.HDM_TARGET + d)) size

theorem State.hdmOk_iff : s.hdmOk d base size ways = true ↔
    s.node G.START_PHASE = 6 ∧ ways = 1 ∧ 0 < size ∧ base % 268435456 = 0 ∧ size % 268435456 = 0
      ∧ s.node (G.HDM_OWNER + d) < 16 ∧ rangeT1 (s.node (G.HDM_TARGET + d)) size = true
      ∧ Dict.rangeOwned s.gaz.regs (s.node (G.HDM_OWNER + d)) (s.node (G.HDM_TARGET + d)) size = true := by
  simp only [State.hdmOk, Machine.granule, Bool.and_eq_true, decide_eq_true_eq, beq_iff_eq, and_assoc]

theorem execHdmCommit_dead (hd : d < 4) (h : s.alive = false) : execHdmCommit d base size ways s = .next s := by
  rw [execHdmCommit, if_neg hd.not_ge, if_pos (by rw [h]; rfl)]

theorem execHdmCommit_alive (hd : d < 4) (h : s.alive = true) :
    let ok := s.hdmOk d base size ways
    execHdmCommit d base size ways s = .next
      (({ s with host := { s.host with hdm := s.host.hdm.set d ⟨base, size, ok, !ok⟩ } } : State).emit (.hdmResult d ok)) := by
  rw [execHdmCommit, if_neg hd.not_ge, if_neg (by rw [h]; decide)]
  rfl

end Decoders

/-! ### Link and mailbox (R339, R431) -/

theorem execCxlSnoop_dead (a : Nat) (h : s.alive = false) : execCxlSnoop a s = .next s := by
  rw [execCxlSnoop, h]
  rfl

theorem execCxlSnoop_alive (a : Nat) (h : s.alive = true) : execCxlSnoop a s = .next (s.emit (.cxlRspIHitI a)) := by
  rw [execCxlSnoop, if_pos h]

theorem execCxlConfigRequest_dead (a : Nat) (h : s.alive = false) : execCxlConfigRequest a s = .next s :=
  if_pos (.inr (by rw [h]; rfl))

theorem execCxlConfigRequest_alive (a : Nat) (h : s.alive = true) : execCxlConfigRequest a s =
    if s.node G.START_PHASE < 4 then .next s else .next (s.emit (.cxlConfig a (decide (s.node G.START_PHASE < 6)))) :=
  if_congr (or_iff_left (by rw [h]; decide)) rfl rfl

theorem State.mailbox_dead {code : Nat} {data : Bytes} (hfn : fn < 16) (h : s.alive = false) :
    s.mailbox fn code data = .next s := by
  rw [State.mailbox, if_neg hfn.not_ge, h]
  rfl

theorem State.mailbox_alive {code : Nat} {data : Bytes} (hfn : fn < 16) (h : s.alive = true) :
    s.mailbox fn code data = .next (s.emit (.mailbox fn code data)) := by
  rw [State.mailbox, if_neg hfn.not_ge, if_pos h]

theorem execGetLog_alive (uuid : Bytes) (o n : Nat) (hfn : fn < 16) (h : s.alive = true) :
    execGetLog fn uuid o n s = .next (s.emit (if uuid = Config.celUuid then .mailbox fn 0 (slice Config.commandEffectsLog o n)
      else .mailbox fn mboxUnsupported [])) := by
  unfold execGetLog
  split
  · exact State.mailbox_alive hfn h
  · exact State.mailbox_alive hfn h

/-- The state with its timestamp set. -/
def State.stamped (s : State) (ns : Nat) : State :=
  { s with host := { s.host with stamp := ns % 2 ^ 64, stampAt := s.clk.cycle } }

theorem execSetTimestamp_alive (ns : Nat) (hfn : fn < 16) (h : s.alive = true) :
    execSetTimestamp fn ns s = .next ((s.stamped ns).emit (.mailbox fn 0 [])) := by
  rw [execSetTimestamp, if_pos h]
  exact State.mailbox_alive hfn h

/-- No time has passed since the instant of the set. -/
theorem State.timestamp_stamped {ns : Nat} (h : ns % 2 ^ 64 ≠ 0) : (s.stamped ns).timestamp = ns % 2 ^ 64 := by
  have hset : (s.stamped ns).timestamp = (ns % 2 ^ 64 + (s.clk.cycle - s.clk.cycle) * 5 / 12) % 2 ^ 64 :=
    if_neg fun hzero => h hzero.1
  rw [hset, Nat.sub_self, Nat.zero_mul, Nat.zero_div, Nat.add_zero, Nat.mod_mod]

theorem execMailboxUnsupported_alive {op : Nat} (hop : mailboxListed.contains op = false) (hfn : fn < 16)
    (h : s.alive = true) :
    execMailboxUnsupported fn op s = .next (s.emit (.mailbox fn mboxUnsupported [])) := by
  rw [execMailboxUnsupported, hop]
  exact State.mailbox_alive hfn h

end Sys2Proof.Machine

open Sys2Proof Sys2Proof.Machine

/-- Settles O49. That the rows change nothing on a dead node is log entry 2, that CQ_HEAD and XLOG_HEAD are fields of QUEUE_CONFIG
is entry 77, the mailbox's codes and its unset timestamp are entry 80, and what the rings count against the log is entry 120; that
a malformed value raises QUEUE_CONFIG is in no entry. Each is the model's own choice. -/
theorem queuesMailboxAndDecodersAnswer : Obligations.QueuesMailboxAndDecodersAnswer := by
  refine fun s => ⟨fun h => ⟨fun fn q v hfn hq => ?_, fun fn q f v hfn hq hf => ?_, fun d b z w hd => ?_, fun a => ?_,
    fun a => ?_, fun fn hfn => ?_⟩, fun h => ⟨fun fn q v hfn hq => ⟨fun hlog => ?_, fun hlog => ?_⟩,
    fun fn q v hfn hq => ⟨?_, ?_⟩, fun fn q f v hfn hq hf => ⟨fun hform hfit => ?_, fun hbad => ?_⟩,
    fun d base size ways hd => ?_, fun a => ?_, fun a => ?_,
    fun fn hfn => ⟨?_, fun uuid o n => ?_, ?_, fun ns => ?_, fun op hop => ?_⟩⟩⟩
  · rw [exec_sqTail, execSqTail_idle hfn hq (.inr h)]
  · rw [exec_queueConfig, execQueueConfig_dead hfn hq hf h]
  · rw [exec_hdmCommit, execHdmCommit_dead hd h]
  · rw [exec_cxlSnoop, execCxlSnoop_dead a h]
  · rw [exec_cxlConfigRequest, execCxlConfigRequest_dead a h]
  · rw [exec_getTimestamp, execGetTimestamp, State.mailbox_dead hfn h]
  · rw [exec_sqTail, execSqTail_idle hfn hq (.inl hlog)]
  · exact (exec_sqTail fn q v s).trans (execSqTail_rings hfn hq h hlog)
  · rw [exec_queueConfig, execQueueConfig_cqHead hfn hq h]
  · rw [exec_queueConfig, execQueueConfig_xlogHead hfn hq h]
  · exact (exec_queueConfig fn q f v s).trans (execQueueConfig_waits hfn hq hf h hform hfit)
  · exact (exec_queueConfig fn q f v s).trans (execQueueConfig_refuses hfn hq hf h hbad)
  · exact ⟨_, _, (exec_hdmCommit d base size ways s).trans (execHdmCommit_alive hd h), rfl, rfl, State.hdmOk_iff⟩
  · rw [exec_cxlSnoop, execCxlSnoop_alive a h]
  · rw [exec_cxlConfigRequest, execCxlConfigRequest_alive a h]
  · rw [exec_getSupportedLogs, execGetSupportedLogs, State.mailbox_alive hfn h]
  · rw [exec_getLog, execGetLog_alive uuid o n hfn h]
  · rw [exec_getTimestamp, execGetTimestamp, State.mailbox_alive hfn h]
  · exact ⟨_, (exec_setTimestamp fn ns s).trans (execSetTimestamp_alive ns hfn h), rfl, State.timestamp_stamped, rfl, rfl⟩
  · rw [exec_mailboxUnsupported, execMailboxUnsupported_alive hop hfn h]
end

section
/-!
PROOFS. Samples, field frames and announcements (chapters 14 and 17): a depth sample touches the accumulators alone, TM_SAMPLE
clears them, what becomes of a frame from the field port, and what joining a flow's queue leaves alone.
-/

namespace Sys2Proof.Machine

variable {s : State}

/-! ### Depth samples (R317) -/

/-- The states differ in the accumulators of the queue samples at most. -/
def SampleFrame (s t : State) : Prop := t = { s with tm := { s.tm with acc := t.tm.acc } }

theorem SampleFrame.refl (s : State) : SampleFrame s s := rfl

theorem SampleFrame.sampleDepth {s t : State} (h : SampleFrame s t) (i q : Nat) : SampleFrame s (t.sampleDepth i q) := by
  rw [SampleFrame] at h
  rw [h]
  rfl

/-- Sampling every queue of every Inset. -/
def State.sampleAll (s : State) : State :=
  (upto 16).foldl (fun s i => (s.sampled i).foldl (fun s q => s.sampleDepth i q) s) s

theorem State.sampleAll_frame (s : State) : SampleFrame s s.sampleAll :=
  List.foldlRecOn _ _ (SampleFrame.refl s) fun _ hs i _ =>
    List.foldlRecOn _ _ hs fun _ ht q _ => ht.sampleDepth i q

theorem execDepthSample_early (h : s.clk.cycle < s.tm.depthAt + 1024) : execDepthSample s = .next s := if_pos h

theorem execDepthSample_due (h : s.tm.depthAt + 1024 ≤ s.clk.cycle) :
    execDepthSample s = .next ({ s with tm := { s.tm with depthAt := s.clk.cycle } } : State).sampleAll :=
  if_neg h.not_gt

theorem depthSample_effect (h : s.tm.depthAt + 1024 ≤ s.clk.cycle) :
    ∃ t, execDepthSample s = .next t ∧ t.tm.depthAt = s.clk.cycle ∧ t = { s with tm := t.tm } := by
  have hframe := State.sampleAll_frame { s with tm := { s.tm with depthAt := s.clk.cycle } }
  refine ⟨_, execDepthSample_due h, ?_, ?_⟩
  · rw [hframe]
  · rw [hframe]

/-! ### Sampling intervals (R317) -/

variable {i : Nat}

theorem execTmSample_early (hi : i < 16) (h : s.clk.cycle < s.tm.sampleAt.get 0 i + usCycles (s.num i G.SAMPLE_INTERVAL)) :
    execTmSample i s = .next s := by
  rw [execTmSample, if_neg hi.not_ge, if_pos h]

/-- A new interval of an Inset: its accumulators and its flows' colour counts are gone. -/
def State.newInterval (s : State) (i : Nat) : State :=
  let mine := fun (f : Nat) => Dict.flowInset s.gaz.regs f == some i
  { s with tm := { s.tm with
    acc := s.tm.acc.keep (fun k => k / 2 ^ 32 != i)
    red := s.tm.red.keep (fun f => !mine f)
    yellow := s.tm.yellow.keep (fun f => !mine f)
    sampleAt := s.tm.sampleAt.set i s.clk.cycle } }

theorem execTmSample_no_ring (hi : i < 16)
    (h : s.tm.sampleAt.get 0 i + usCycles (s.num i G.SAMPLE_INTERVAL) ≤ s.clk.cycle)
    (hring : s.num i G.SAMPLE_RING_BYTES < 32) : execTmSample i s = .next (s.newInterval i) := by
  rw [execTmSample, if_neg hi.not_ge, if_neg h.not_gt]
  dsimp only
  rw [if_pos (Nat.div_eq_of_lt hring)]
  rfl

/-- No accumulator of a queue of the Inset remains. -/
theorem State.find_acc_newInterval (s : State) (i : Nat) {q : Nat} (hq : q < 2 ^ 32) :
    Tab.find (s.newInterval i).tm.acc (accKey i q) = none := by
  have hkey : accKey i q / 2 ^ 32 = i := by
    rw [accKey]
    omega
  rw [State.newInterval, Tab.find_keep, hkey, bne_self_eq_false]
  rfl

/-! ### Frames of the field port (R364) -/

section Frames
variable {frame : Bytes} {fcs : Bool}

/-- The state in which a frame is judged: its bytes are counted. -/
def State.frameCounted (s : State) (frame : Bytes) : State := s.countBytes 0xC100 0 16 9 0 (frame.length + 4)

/-- The stations that a frame goes to and comes from. -/
def frameDst (frame : Bytes) : Nat := beNat (slice frame 0 6)
def frameSrc (frame : Bytes) : Nat := beNat (slice frame 6 6)

/-- The EtherType of a frame. -/
def frameType (frame : Bytes) : Nat := beNat (slice frame 12 2)

/-- A good frame of the field port's EtherType for this station. -/
def State.frameAddressed (s : State) (frame : Bytes) (fcs : Bool) : Prop :=
  fcs = true ∧ 14 ≤ frame.length ∧ (frameDst frame = s.mac ∨ frameDst frame = broadcastMac)
    ∧ frameType frame = s.node G.FIELD_ETHERTYPE

/-- A broadcast frame reads an identity entry. -/
def frameBroadcastOk (frame : Bytes) : Prop :=
  let h := sliceNat (frame.drop 14) 0 32
  frameDst frame = broadcastMac → GazH.op h = 1 ∧ 0x1000 ≤ GazH.index h ∧ GazH.index h ≤ 0x10FF

/-- A frame comes from the rack controller, or none is set. -/
def State.frameKnown (s : State) (frame : Bytes) : Prop :=
  s.node G.RACK_CONTROLLER_MAC = 0 ∨ frameSrc frame = s.node G.RACK_CONTROLLER_MAC % 2 ^ 48

/-- A frame that waits for its shaper. -/
def State.holdFrame (s : State) (frame : Bytes) : State :=
  s.setFlow 1056 { s.flow 1056 with
    queue := (s.flow 1056).queue ++ [⟨1, s.clk.cycle, false, false, .fieldFrame (frameSrc frame) (frame.drop 14)⟩] }

theorem State.node_frameCounted (k : Nat) : (s.frameCounted frame).node k = s.node k :=
  congrArg (fun g : GazState => Dict.num g.regs 16 k) (State.countBytes_gaz ..)

theorem State.mac_frameCounted : (s.frameCounted frame).mac = s.mac :=
  congrArg (0x02574B000000 + · % 2 ^ 24) (State.node_frameCounted ..)

theorem State.flow_frameCounted (f : Nat) : (s.frameCounted frame).flow f = s.flow f :=
  congrArg (fun t : TmState => t.flows.get Flow.reset f) (State.countBytes_tm ..)

theorem State.clk_frameCounted : (s.frameCounted frame).clk = s.clk := State.countBytes_clk ..

theorem execFieldFrame_unserved (h : s.serves = false) : execFieldFrame frame fcs s = .next s :=
  if_pos (by rw [h]; rfl)

/-- The row's first condition, in the state in which it judges. -/
theorem State.not_frameAddressed_iff :
    ((!fcs) = true ∨ frame.length < 14
      ∨ (frameDst frame ≠ (s.frameCounted frame).mac ∧ frameDst frame ≠ broadcastMac)
      ∨ frameType frame ≠ (s.frameCounted frame).node G.FIELD_ETHERTYPE) ↔ ¬ s.frameAddressed frame fcs := by
  rw [State.mac_frameCounted, State.node_frameCounted, State.frameAddressed]
  simp only [not_and_or, not_or, Bool.not_eq_true', Bool.not_eq_true, not_le, ne_eq]

/-- The row's second condition. -/
theorem not_frameBroadcastOk_iff :
    (frameDst frame = broadcastMac ∧ (!(GazH.op (sliceNat (frame.drop 14) 0 32) == 1
      && decide (0x1000 ≤ GazH.index (sliceNat (frame.drop 14) 0 32)
        ∧ GazH.index (sliceNat (frame.drop 14) 0 32) ≤ 0x10FF))) = true) ↔ ¬ frameBroadcastOk frame := by
  simp only [frameBroadcastOk, Classical.not_imp, Bool.not_eq_true', Bool.and_eq_false_iff, beq_eq_false_iff_ne,
    decide_eq_false_iff_not, not_and_or, ne_eq]

/-- The row's third condition, in the state in which it judges. -/
theorem State.not_frameKnown_iff :
    ((s.frameCounted frame).node G.RACK_CONTROLLER_MAC ≠ 0
      ∧ frameSrc frame ≠ (s.frameCounted frame).node G.RACK_CONTROLLER_MAC % 2 ^ 48) ↔ ¬ s.frameKnown frame := by
  rw [State.node_frameCounted, State.frameKnown, not_or]

/-- A good frame from a known station: it waits behind others or for its shaper, or is served. -/
def State.takeFrame (s : State) (frame : Bytes) : State :=
  if (s.flow 1056).queue.isEmpty = true then
    ((s.release 1056 1).map (fun v => v.serveFrame (frameSrc frame) (frame.drop 14))).getD (s.holdFrame frame)
  else s.holdFrame frame

open Classical in
/-- The judgements of a frame in their order: dropped before refused (log entry 118). -/
theorem execFieldFrame_served (h : s.serves = true) :
    execFieldFrame frame fcs s =
      if ¬ s.frameAddressed frame fcs then .next ((s.frameCounted frame).bumpNode G.FIELD_DROPPED 1)
      else if ¬ frameBroadcastOk frame then .next ((s.frameCounted frame).bumpNode G.FIELD_DROPPED 1)
      else if ¬ s.frameKnown frame then .next ((s.frameCounted frame).bumpNode G.FIELD_REFUSED 1)
      else .next ((s.frameCounted frame).takeFrame frame) := by
  rw [execFieldFrame, if_neg (by rw [h]; decide)]
  refine if_congr State.not_frameAddressed_iff rfl (if_congr not_frameBroadcastOk_iff rfl
    (if_congr State.not_frameKnown_iff rfl ?_))
  rw [State.takeFrame]
  cases hempty : ((s.frameCounted frame).flow 1056).queue.isEmpty with
  | false => exact if_pos (by rw [← State.frameCounted, hempty]; rfl)
  | true =>
    refine (if_neg (by rw [← State.frameCounted, hempty]; decide)).trans ?_
    rw [← State.frameCounted]
    cases (s.frameCounted frame).release 1056 1 with
    | none => rfl
    | some v => rfl

theorem State.takeFrame_waits (h : (s.flow 1056).queue ≠ [] ∨ s.release 1056 1 = none) :
    s.takeFrame frame = s.holdFrame frame := by
  unfold State.takeFrame
  split
  next hempty => rw [h.resolve_left (not_not.2 (List.isEmpty_iff.1 hempty))]; rfl
  next => rfl

theorem State.takeFrame_serves {v : State} (hempty : (s.flow 1056).queue = []) (hv : s.release 1056 1 = some v) :
    s.takeFrame frame = v.serveFrame (frameSrc frame) (frame.drop 14) := by
  rw [State.takeFrame, if_pos (List.isEmpty_iff.2 hempty), hv]
  rfl

theorem execFieldFrame_drops (h : s.serves = true) (hbad : ¬ s.frameAddressed frame fcs ∨ ¬ frameBroadcastOk frame) :
    execFieldFrame frame fcs s = .next ((s.frameCounted frame).bumpNode G.FIELD_DROPPED 1) := by
  rw [execFieldFrame_served h]
  by_cases ha : s.frameAddressed frame fcs
  · rw [if_neg (not_not.2 ha), if_pos (hbad.resolve_left (not_not.2 ha))]
  · rw [if_pos ha]

theorem execFieldFrame_refuses (h : s.serves = true) (ha : s.frameAddressed frame fcs) (hb : frameBroadcastOk frame)
    (hk : ¬ s.frameKnown frame) :
    execFieldFrame frame fcs s = .next ((s.frameCounted frame).bumpNode G.FIELD_REFUSED 1) := by
  rw [execFieldFrame_served h, if_neg (not_not.2 ha), if_neg (not_not.2 hb), if_pos hk]

theorem execFieldFrame_takes (h : s.serves = true) (ha : s.frameAddressed frame fcs) (hb : frameBroadcastOk frame)
    (hk : s.frameKnown frame) : execFieldFrame frame fcs s = .next ((s.frameCounted frame).takeFrame frame) := by
  rw [execFieldFrame_served h, if_neg (not_not.2 ha), if_neg (not_not.2 hb), if_neg (not_not.2 hk)]

theorem execFieldFrame_holds (h : s.serves = true) (ha : s.frameAddressed frame fcs) (hb : frameBroadcastOk frame)
    (hk : s.frameKnown frame) (hwait : (s.flow 1056).queue ≠ [] ∨ (s.frameCounted frame).release 1056 1 = none) :
    execFieldFrame frame fcs s = .next ((s.frameCounted frame).setFlow 1056 { s.flow 1056 with
      queue := (s.flow 1056).queue ++ [⟨1, s.clk.cycle, false, false, .fieldFrame (frameSrc frame) (frame.drop 14)⟩] }) := by
  rw [← State.flow_frameCounted (frame := frame)] at hwait
  rw [execFieldFrame_takes h ha hb hk, State.takeFrame_waits hwait, State.holdFrame, State.flow_frameCounted,
    State.clk_frameCounted]

theorem execFieldFrame_serves {v : State} (h : s.serves = true) (ha : s.frameAddressed frame fcs) (hb : frameBroadcastOk frame)
    (hk : s.frameKnown frame) (hempty : (s.flow 1056).queue = []) (hv : (s.frameCounted frame).release 1056 1 = some v) :
    execFieldFrame frame fcs s = .next (v.serveFrame (frameSrc frame) (frame.drop 14)) := by
  rw [← State.flow_frameCounted (frame := frame)] at hempty
  rw [execFieldFrame_takes h ha hb hk, State.takeFrame_serves hempty hv]

end Frames

/-! ### Announcements (R364) -/

/-- A release lowers buckets: no queue loses or gains an item. -/
theorem QueueFrame.release {s u : State} {f b : Nat} (h : s.release f b = some u) : QueueFrame s u := by
  have hflow : ∀ k, QueueFrame s (s.setFlow f { (s.flow f).refilled s.clk.cycle with tokC := k }) := by
    refine fun k => ⟨fun g => ?_, fun _ => rfl, rfl, rfl⟩
    by_cases hg : g = f
    · rw [hg, State.flow_setFlow_self]
      rfl
    · rw [State.flow_setFlow_ne _ _ hg]
  unfold State.release at h
  dsimp only at h
  split at h
  · cases h
    split
    · split
      · exact (hflow _).trans (.setService ..)
      · exact .setService ..
    · split
      · exact hflow _
      · exact .refl s
  · cases h

/-- An item that joins a queue stands last in it. -/
theorem State.enqueue_queue (s : State) (f units : Nat) (what : Out) :
    ∃ it, ((s.enqueue f units what).flow f).queue = (s.flow f).queue ++ [it] := by
  unfold State.enqueue
  dsimp only
  generalize hu : (if (s.flow f).queue.isEmpty = true ∧ (s.flow f).deficit ≠ 0 then _ else s) = u
  have hlost : QueueFrame s u := by
    subst hu
    split
    · exact .bumpFlow ..
    · exact .refl s
  rw [← hlost.queue]
  split
  next v hv =>
    split at hv
    · cases hv
    · exact ⟨_, by rw [State.flow_setFlow_self, (QueueFrame.release hv).queue]⟩
  next => exact ⟨_, by rw [(QueueFrame.bumpFlow ..).queue, State.flow_setFlow_self]⟩

/-- A flow that belongs to no Inset has no counters. -/
theorem State.bumpFlow_of_none {f : Nat} (h : Dict.flowInset s.gaz.regs f = none) (k n : Nat) : s.bumpFlow f k n = s := by
  rw [State.bumpFlow, h]

/-- Joining the queue of a flow that belongs to no Inset touches the traffic manager alone. -/
theorem State.enqueue_of_none {f : Nat} (h : ∀ d, Dict.flowInset d f = none) (units : Nat) (what : Out) :
    s.enqueue f units what = { s with tm := (s.enqueue f units what).tm } := by
  unfold State.enqueue
  simp only [State.bumpFlow_of_none (h _), ite_self]
  split
  next v hv =>
    split at hv
    · cases hv
    · rw [State.eq_of_release hv]
      rfl
  next => rfl

/-- The field port's flow of responses belongs to no Inset. -/
theorem flowInset_field (d : Dict) : Dict.flowInset d 1057 = none := rfl

theorem execAnnounce_quiet (h : s.node G.START_PHASE < 6 ∨ (Tab.find s.gaz.regs (rkey 16 G.NODE_ID)).isSome = true
    ∨ s.clk.cycle < s.gaz.announceAt) : execAnnounce s = .next s := if_pos h

/-- The state from which an announcement is sent: a TYPE is drawn and the next second is set. -/
def State.announcing (s : State) : State :=
  { s with draws := s.draws + 1, gaz := { s.gaz with announceAt := s.clk.cycle + 2400000000 } }

theorem execAnnounce_due (hphase : 6 ≤ s.node G.START_PHASE) (hid : (Tab.find s.gaz.regs (rkey 16 G.NODE_ID)).isSome = false)
    (htime : s.gaz.announceAt ≤ s.clk.cycle) :
    ∃ what, execAnnounce s = .next (s.announcing.enqueue 1057 1 what) := by
  have hgo : ¬ (s.node G.START_PHASE < 6 ∨ (Tab.find s.gaz.regs (rkey 16 G.NODE_ID)).isSome = true
      ∨ s.clk.cycle < s.gaz.announceAt) :=
    not_or.2 ⟨hphase.not_gt, not_or.2 ⟨by rw [hid]; decide, htime.not_gt⟩⟩
  exact ⟨_, if_neg hgo⟩

end Sys2Proof.Machine

open Sys2Proof Sys2Proof.Machine

/-- Settles O53. That a row before its time changes nothing is log entry 2; that frames wait in flow 1056, that a frame is
dropped before it is refused, and what ANNOUNCE carries are entry 118; how queues are sampled is entry 119: each is the model's
own choice. -/
theorem samplesFramesAndAnnouncements : Obligations.SamplesFramesAndAnnouncements := by
  refine ⟨fun s => ⟨fun h => ?_, fun h => ?_⟩, fun s i hi => ⟨fun h => ?_, fun h hring => ?_⟩, fun s frame fcs => ?_,
    fun s => ⟨fun h => ?_, fun hphase hid htime => ?_⟩⟩
  · exact (exec_depthSample s).trans (execDepthSample_early h)
  · rw [exec_depthSample]
    exact depthSample_effect h
  · exact (exec_tmSample i s).trans (execTmSample_early hi h)
  · exact ⟨_, (exec_tmSample i s).trans (execTmSample_no_ring hi h hring), rfl, Tab.get_set_self .., fun q hq =>
      s.find_acc_newInterval i hq, rfl⟩
  · rw [exec_fieldFrame]
    exact ⟨execFieldFrame_unserved, fun h => ⟨execFieldFrame_drops (frame := frame) (fcs := fcs) h,
      execFieldFrame_refuses (frame := frame) (fcs := fcs) h, fun ha hb hk =>
        ⟨execFieldFrame_holds (frame := frame) (fcs := fcs) h ha hb hk,
          fun v => execFieldFrame_serves (frame := frame) (fcs := fcs) h ha hb hk⟩⟩⟩
  · exact (exec_announce s).trans (execAnnounce_quiet h)
  · obtain ⟨what, hexec⟩ := execAnnounce_due hphase hid htime
    have htm := s.announcing.enqueue_of_none flowInset_field 1 what
    refine ⟨_, (exec_announce s).trans hexec, ?_, ?_, ?_, s.announcing.enqueue_queue 1057 1 what⟩
    · rw [htm]
      rfl
    · rw [htm]
      rfl
    · rw [htm]
      rfl
end

section
/-!
PROOFS. What a store and an event leave of the counter block: they advance its counts and nothing beside them.
-/

namespace Sys2Proof.Machine

/-- The counter block without its counts: captures, samples and bandwidth windows. -/
def CtrState.besideCounts (t : CtrState) : CtrState := { t with values := [], wrapped := [] }

theorem CtrState.besideCounts_add (t : CtrState) (c n : Nat) : (t.add c n).besideCounts = t.besideCounts := rfl

theorem State.countWith_besideCounts (s : State) (sel : Nat → Bool) (i u n : Nat) :
    (s.countWith sel i u n).ctr.besideCounts = s.ctr.besideCounts := by
  have hfold : ∀ (l : List Nat) (t : CtrState), (l.foldl (fun t c => t.add c n) t).besideCounts = t.besideCounts := by
    intro l
    induction l with
    | nil => exact fun _ => rfl
    | cons c l ih => exact fun t => (ih _).trans (t.besideCounts_add c n)
  unfold State.countWith
  split
  · rfl
  · exact hfold _ _

@[simp] theorem State.bump_besideCounts (s : State) (i k n : Nat) :
    (s.bump i k n).ctr.besideCounts = s.ctr.besideCounts := by
  unfold State.bump
  split
  · rfl
  · exact State.countWith_besideCounts ..

@[simp] theorem State.interrupt_ctr (s : State) (i src : Nat) : (s.interrupt i src).ctr = s.ctr := by
  unfold State.interrupt State.fireVector
  dsimp only
  split
  · rfl
  split <;> rfl

/-! ### Storing words -/

@[simp] theorem State.markDirty_ctr (s : State) (st : Nat) : (s.markDirty st).ctr = s.ctr := by
  unfold State.markDirty
  split <;> rfl

theorem State.saveGroup_besideCounts (s : State) (st : Nat) :
    (s.saveGroup st).1.ctr.besideCounts = s.ctr.besideCounts := by
  unfold State.saveGroup
  split
  · rfl
  split
  · rfl
  dsimp only
  split
  · rfl
  split
  · rfl
  split
  · exact State.bump_besideCounts ..
  · rfl

theorem State.storeWord_besideCounts (s : State) (w : Nat) (cells : Tab Byte) :
    (s.storeWord w cells).1.ctr.besideCounts = s.ctr.besideCounts := by
  have hsave := s.saveGroup_besideCounts (w * 64)
  unfold State.storeWord
  dsimp only
  split
  · rw [State.bumpNode, State.bump_besideCounts, State.markDirty_ctr, hsave]
  · rw [State.markDirty_ctr, hsave]

theorem State.storeWords_besideCounts (s : State) (ws : List (Nat × Tab Byte)) :
    (s.storeWords ws).1.ctr.besideCounts = s.ctr.besideCounts := by
  have hfold : ∀ (l : List (Nat × Tab Byte)) (acc : State × Bool × List Nat),
      (l.foldl (fun acc c =>
        let (s, bad, ab) := acc.1.storeWord c.1 c.2
        (s, acc.2.1 || bad, acc.2.2 ++ ab.toList)) acc).1.ctr.besideCounts = acc.1.ctr.besideCounts := by
    intro l
    induction l with
    | nil => exact fun _ => rfl
    | cons c l ih => exact fun acc => (ih _).trans (acc.1.storeWord_besideCounts c.1 c.2)
  exact hfold ws (s, false, [])

/-! ### Events and stores -/

theorem State.foldl_besideCounts {α : Type} {f : State → α → State}
    (hf : ∀ u a, (f u a).ctr.besideCounts = u.ctr.besideCounts) (l : List α) (s : State) :
    (l.foldl f s).ctr.besideCounts = s.ctr.besideCounts := by
  induction l generalizing s with
  | nil => rfl
  | cons a l ih => exact (ih _).trans (hf s a)

theorem State.event_besideCounts (s : State) (i code detail addr : Nat) :
    (s.event i code detail addr).ctr.besideCounts = s.ctr.besideCounts := by
  unfold State.event State.eventFull
  dsimp only
  generalize hu : (if s.num i G.EVENT_RING_BYTES / 32 = 0 then s else _) = u
  have hring : u.ctr.besideCounts = s.ctr.besideCounts := by
    subst hu
    split
    · rfl
    refine (State.foldl_besideCounts (fun _ _ => State.bump_besideCounts ..) _ _).trans
      ((State.storeWords_besideCounts _ _).trans ?_)
    split
    · exact State.bump_besideCounts ..
    · rfl
  have hlast : ∀ p : Prop, ∀ [Decidable p],
      (if p then { u with clk := { u.clk with lastCode := code } } else u).ctr = u.ctr := by
    intro p _
    split <;> rfl
  split
  · rw [State.interrupt_ctr, hlast, hring]
  · rw [hlast, hring]

theorem State.storeBytes_besideCounts (s : State) (a : Nat) (bs : Bytes) :
    (s.storeBytes a bs).ctr.besideCounts = s.ctr.besideCounts :=
  (State.foldl_besideCounts (fun _ _ => (State.event_besideCounts ..).trans (State.bump_besideCounts ..)) _ _).trans
    (State.storeWords_besideCounts ..)

end Sys2Proof.Machine
end

section
/-!
PROOFS. Dump records (R395), attestation reports (R408, R413) and the revocation of leases (R329).
-/

namespace Sys2Proof.Machine

section
variable {s : State}

/-! ### Dump records (R395) -/

theorem execDumpRecord_empty (h : s.ctr.stages = []) : execDumpRecord s = .next s := by
  rw [execDumpRecord, h]

theorem execDumpRecord_barred {st : DumpStage} {rest : List DumpStage} (h : s.ctr.stages = st :: rest)
    (hbar : s.node G.DUMP_RING_BYTES < st.bytes.length ∨ 16 ≤ s.node G.DUMP_RING_INSET) : execDumpRecord s = .next s := by
  rw [execDumpRecord, h]
  exact if_pos hbar

/-- The state once the oldest capture is a record: the rest stay staged, the next record's number and the mark of skipped
captures advance, the write pointer stands at `wr`, and Inset `i` is interrupted. -/
def State.dumped (s : State) (rest : List DumpStage) (skipped wr i : Nat) : State :=
  (({ s with ctr := { s.ctr with stages := rest, dumpSeq := s.ctr.dumpSeq + 1, skipMark := skipped } }).setNum 16
    G.DUMP_WRITE_PTR wr).interrupt i 15

theorem State.dumped_ctr (rest : List DumpStage) (skipped wr i : Nat) : (s.dumped rest skipped wr i).ctr =
    { s.ctr with stages := rest, dumpSeq := s.ctr.dumpSeq + 1, skipMark := skipped } := State.interrupt_ctr ..

theorem State.dumped_writePtr (rest : List DumpStage) (skipped i : Nat) {wr : Nat} (h : wr < 2 ^ 64) :
    (s.dumped rest skipped wr i).node G.DUMP_WRITE_PTR = wr := by
  have htype : typeMod G.DUMP_WRITE_PTR = 2 ^ 64 := by decide +kernel
  rw [State.dumped, State.node, State.num_interrupt, State.num_setNum_self, htype, Nat.mod_eq_of_lt h]

/-- A record keeps the length of its capture: only the capture's header word is written anew. -/
theorem length_dumpRecord (h : Nat) {bs : Bytes} (hlen : 64 ≤ bs.length) :
    (toLe 64 h ++ bs.drop 64).length = bs.length := by
  rw [List.length_append, length_toLe, List.length_drop]
  omega

theorem execDumpRecord_fits {st : DumpStage} {rest : List DumpStage} (h : s.ctr.stages = st :: rest)
    (hi : s.node G.DUMP_RING_INSET < 16) (hlen : 64 ≤ st.bytes.length)
    (hfit : s.node G.DUMP_WRITE_PTR + st.bytes.length ≤ s.node G.DUMP_RING_BYTES) :
    ∃ (v : State) (skipped : Nat), v.ctr.besideCounts = s.ctr.besideCounts ∧ execDumpRecord s = .next (v.dumped rest skipped
      ((s.node G.DUMP_WRITE_PTR + st.bytes.length) % s.node G.DUMP_RING_BYTES) (s.node G.DUMP_RING_INSET)) := by
  have hgo : ¬ (s.node G.DUMP_RING_BYTES < st.bytes.length ∨ 16 ≤ s.node G.DUMP_RING_INSET) := by omega
  rw [execDumpRecord, h]
  dsimp only
  simp only [if_neg hgo, length_dumpRecord _ hlen, decide_eq_false hfit.not_gt, Bool.false_eq_true, if_false]
  refine ⟨_, _, ?_, rfl⟩
  split
  · exact (State.bump_besideCounts ..).trans (State.storeBytes_besideCounts ..)
  · exact State.storeBytes_besideCounts ..

/-! ### Attestation reports (R408, R413) -/

theorem execAttestReport_idle {i : Nat} (hi : i < 16) (ok : Bool) (h : s.sec.signing = []) :
    execAttestReport i ok s = .next s := by
  rw [execAttestReport, if_neg hi.not_ge, h]

theorem execAttestReport_out_of_turn {i j : Nat} {req : Bytes} {rest : List (Nat × Bytes)} (hi : i < 16) (ok : Bool)
    (h : s.sec.signing = (j, req) :: rest) (hj : j ≠ i) : execAttestReport i ok s = .next s := by
  rw [execAttestReport, if_neg hi.not_ge, h]
  exact if_pos hj

theorem execAttestReport_signed {i : Nat} {req : Bytes} {rest : List (Nat × Bytes)} (hi : i < 16)
    (h : s.sec.signing = (i, req) :: rest) (ht : s.timedEntry 0x101 0 = none) :
    execAttestReport i true s = .next (({ s with sec := { s.sec with signing := rest } }).setReg i G.ATTEST_REPORT
      (.blob (({ s with sec := { s.sec with signing := rest } }).report i req))) := by
  have ht' : ({ s with sec := { s.sec with signing := rest } } : State).timedEntry 0x101 0 = none := ht
  rw [execAttestReport, if_neg hi.not_ge, h]
  dsimp only
  rw [if_neg (not_not.2 rfl), ht']
  rfl

/-! ### Leases (R329) -/

/-- The time after which a lease that is not renewed is revoked, in µs. -/
def State.leaseTimeout (s : State) (n : Nat) : Nat :=
  match Dict.syncOwner s.gaz.regs n with
  | some i => s.num i G.LEASE_TIMEOUT
  | none => 10000

variable {n : Nat}

/-- Where no running command took the lease, detector 0x00E has none to fire on, and the lease's own state decides. -/
theorem execLeaseRevoked_unused (hn : n < 16384) (hunused : ∀ i, i < 16 → s.leaseUsers n i = []) :
    execLeaseRevoked n s =
      if (s.syncObj n).kind ≠ 1 ∨ !(s.syncObj n).held ∨ (s.syncObj n).home ≠ s.nodeId then .next s
      else if s.clk.cycle < (s.syncObj n).renewAt + usCycles (s.leaseTimeout n) then .next s
      else if (s.syncObj n).holder = s.nodeId then .next (s.leaseLost n (s.syncObj n).hInset)
      else .next ((s.leaseFree n).syncSend 4 (s.syncObj n).holder n 3 (s.syncObj n).hInset 0 []) := by
  have hforced : ∀ p : CmdRef → Bool, (upto 16).findSome? (fun i => (s.leaseUsers n i).find? p) = none := fun p =>
    List.findSome?_eq_none_iff.2 fun i hi => by rw [hunused i (mem_upto.1 hi), List.find?_nil]
  rw [execLeaseRevoked, if_neg hn.not_ge]
  dsimp only
  rw [hforced]
  rfl

theorem execLeaseRevoked_stands (hn : n < 16384) (hunused : ∀ i, i < 16 → s.leaseUsers n i = [])
    (h : (s.syncObj n).kind ≠ 1 ∨ (s.syncObj n).held = false ∨ (s.syncObj n).home ≠ s.nodeId
      ∨ s.clk.cycle < (s.syncObj n).renewAt + usCycles (s.leaseTimeout n)) : execLeaseRevoked n s = .next s := by
  rw [execLeaseRevoked_unused hn hunused]
  by_cases hlive : (s.syncObj n).kind ≠ 1 ∨ !(s.syncObj n).held ∨ (s.syncObj n).home ≠ s.nodeId
  · rw [if_pos hlive]
  · have htime : s.clk.cycle < (s.syncObj n).renewAt + usCycles (s.leaseTimeout n) := by
      simp only [Bool.not_eq_true', not_or] at hlive
      obtain ⟨hkind, hheld, hhome⟩ := hlive
      exact ((h.resolve_left hkind).resolve_left hheld).resolve_left hhome
    rw [if_neg hlive, if_pos htime]

theorem execLeaseRevoked_old (hn : n < 16384) (hunused : ∀ i, i < 16 → s.leaseUsers n i = [])
    (hkind : (s.syncObj n).kind = 1) (hheld : (s.syncObj n).held = true) (hhome : (s.syncObj n).home = s.nodeId)
    (hold : (s.syncObj n).renewAt + usCycles (s.leaseTimeout n) ≤ s.clk.cycle) (haway : (s.syncObj n).holder ≠ s.nodeId) :
    execLeaseRevoked n s =
      .next ((s.leaseFree n).syncSend 4 (s.syncObj n).holder n 3 (s.syncObj n).hInset 0 []) := by
  have hlive : ¬ ((s.syncObj n).kind ≠ 1 ∨ !(s.syncObj n).held ∨ (s.syncObj n).home ≠ s.nodeId) := by
    simp [hkind, hheld, hhome]
  rw [execLeaseRevoked_unused hn hunused, if_neg hlive, if_neg hold.not_gt, if_neg haway]

theorem State.held_leaseFree (s : State) (n : Nat) : ((s.leaseFree n).syncObj n).held = false := by
  rw [State.leaseFree, State.syncObj_setSync_self]

end

end Sys2Proof.Machine

open Sys2Proof Sys2Proof.Machine

/-- Settles O59. That a row whose conditions do not hold changes nothing is log entry 2, and that the holder is told by
operation 3 of a LEASE message is entry 32: both are the model's own choice. -/
theorem dumpsReportsAndLeasesEndInTheirRegisters : Obligations.DumpsReportsAndLeasesEndInTheirRegisters := by
  refine ⟨fun s => ⟨fun h => ?_, fun st rest h => ⟨fun hbar => ?_, fun hi hlen hfit hsize => ?_⟩⟩,
    fun s i hi => ⟨fun ok h => ?_, fun j req rest h => ⟨fun hj ok => ?_, ?_⟩⟩,
    fun s n hn hunused => ⟨fun h => ?_, fun hkind hheld hhome hold haway => ⟨?_, s.held_leaseFree n⟩⟩⟩
  · rw [exec_dumpRecord, execDumpRecord_empty h]
  · rw [exec_dumpRecord, execDumpRecord_barred h hbar]
  · obtain ⟨v, skipped, hkept, hexec⟩ := execDumpRecord_fits h hi hlen hfit
    have hseq : v.ctr.dumpSeq = s.ctr.dumpSeq := (congrArg CtrState.dumpSeq hkept :)
    have hwr : (s.node G.DUMP_WRITE_PTR + st.bytes.length) % s.node G.DUMP_RING_BYTES < 2 ^ 64 :=
      (Nat.mod_lt _ (by omega)).trans (hsize.trans (by decide))
    refine ⟨_, (exec_dumpRecord s).trans hexec, ?_, ?_, State.dumped_writePtr rest skipped _ hwr⟩
    · rw [State.dumped_ctr]
    · rw [State.dumped_ctr, hseq]
  · rw [exec_attestReport, execAttestReport_idle hi ok h]
  · rw [exec_attestReport, execAttestReport_out_of_turn hi ok h hj]
  · rintro rfl ht
    exact (exec_attestReport ..).trans (execAttestReport_signed hi h ht)
  · exact (exec_leaseRevoked ..).trans (execLeaseRevoked_stands hn hunused h)
  · exact (exec_leaseRevoked ..).trans (execLeaseRevoked_old hn hunused hkind hheld hhome hold haway)
end

section
/-!
PROOFS. Event records (R333): the fields stand side by side, and each reads back cut to its width.
-/

namespace Sys2Proof.Machine

section
variable (code tick detail addr : Nat) (reh : Bool)

theorem eventRecord_lt : eventRecord code tick detail addr reh < 2 ^ 256 := by
  have hflag : (if reh then 1 else 0) < 2 := by cases reh <;> decide
  rw [eventRecord]
  generalize (if reh then 1 else 0) = flag at hflag
  omega

/-- Shifted down to the foot of a field, the record holds that field and the ones above it: bits [19:17] and [63:24] are 0. -/
theorem eventRecord_div :
    let e := eventRecord code tick detail addr reh
    e / 2 ^ 16 = (if reh then 1 else 0) + 2 ^ 4 * (e / 2 ^ 20)
    ∧ e / 2 ^ 20 = code / 0x1000 % 16 + 2 ^ 44 * (tick % 2 ^ 64 + 2 ^ 64 * (detail % 2 ^ 64 + 2 ^ 64 * (addr % 2 ^ 64)))
    ∧ e / 2 ^ 64 = tick % 2 ^ 64 + 2 ^ 64 * (detail % 2 ^ 64 + 2 ^ 64 * (addr % 2 ^ 64))
    ∧ e / 2 ^ 128 = detail % 2 ^ 64 + 2 ^ 64 * (addr % 2 ^ 64) ∧ e / 2 ^ 192 = addr % 2 ^ 64 := by
  have hflag : (if reh then 1 else 0) < 2 := by cases reh <;> decide
  simp only [eventRecord]
  generalize (if reh then 1 else 0) = flag at hflag
  refine ⟨by omega, by omega, by omega, by omega, by omega⟩

/-- Each field of an event record, the source class being the class digit of the code (log entry 12). -/
theorem reads_eventRecord :
    let e := eventRecord code tick detail addr reh
    bf e 15 0 = code % 2 ^ 16 ∧ bit e 16 = reh ∧ bf e 23 20 = code / 0x1000 % 16 ∧ bf e 127 64 = tick % 2 ^ 64
    ∧ bf e 191 128 = detail % 2 ^ 64 ∧ bf e 255 192 = addr % 2 ^ 64 := by
  obtain ⟨hreh, hclass, htick, hdetail, haddr⟩ := eventRecord_div code tick detail addr reh
  simp only [bf, bit, Nat.shiftRight_eq_div_pow, hreh, hclass, htick, hdetail, haddr]
  refine ⟨?_, ?_, by omega, by omega, by omega, by omega⟩
  · rw [eventRecord]
    omega
  · rw [Nat.pow_succ', Nat.mul_assoc, Nat.add_mul_mod_self_left]
    cases reh <;> rfl

end

end Sys2Proof.Machine

open Sys2Proof Sys2Proof.Machine

/-- Settles O17: a code of 16 bits has a class digit below 16, so that no field is cut. That the source class is this digit is
the model's reading (log entry 12). -/
theorem eventRecordReadsBack : Obligations.EventRecordReadsBack := by
  intro code tick detail addr reh hcode htick hdetail haddr
  have hclass : code / 0x1000 < 16 := by omega
  refine ⟨eventRecord_lt .., ?_⟩
  simpa only [Nat.mod_eq_of_lt, hcode, htick, hdetail, haddr, hclass] using reads_eventRecord code tick detail addr reh
end

section
/-!
PROOFS. The ends of bindings (R347, R350): the switch instant, the loss of the host link and the abort of orphans; and the
holdoff of an interrupt vector (R333).
-/

namespace Sys2Proof.Machine

variable {s : State} {i : Nat}

/-- What a step gives to its own item and never takes from another, the whole fold gives to every item of its list. -/
theorem foldl_establishes {α : Type} {f : State → α → State} {P : State → α → Prop} (hself : ∀ s a, P (f s a) a)
    (hkeep : ∀ s a b, P s b → P (f s a) b) (l : List α) (s : State) (b : α) (h : P s b ∨ b ∈ l) : P (l.foldl f s) b := by
  induction l generalizing s with
  | nil => exact h.resolve_right List.not_mem_nil
  | cons a l ih =>
    refine ih (f s a) ?_
    rcases h with h | h
    · exact .inl (hkeep s a b h)
    · rcases List.mem_cons.1 h with rfl | h
      · exact .inl (hself s b)
      · exact .inr h

theorem State.binding_setBinding_ne (s : State) {n m : Nat} (b : Binding) (h : m ≠ n) :
    (s.setBinding n b).binding m = s.binding m :=
  Tab.get_set_ne _ _ _ h

/-- The pairs of one Inset are apart in the table of pairs. -/
theorem State.queue_setQueue_ne (s : State) (f : Nat) {q r : Nat} (p : QueuePair) (h : r ≠ q) :
    (s.setQueue f q p).queue f r = s.queue f r :=
  Tab.get_set_ne _ _ _ (by omega)

/-! ### Binders -/

/-- The link and the binders of every Inset are as they were. -/
structure BinderFrame (s t : State) : Prop where
  linkUp : t.host.linkUp = s.host.linkUp
  curBound : ∀ j, (t.binding j).curBound = (s.binding j).curBound
  oldBound : ∀ j, (t.binding j).oldBound = (s.binding j).oldBound

namespace BinderFrame
variable {t u : State}

theorem trans (h : BinderFrame s t) (k : BinderFrame t u) : BinderFrame s u :=
  ⟨k.linkUp.trans h.linkUp, fun j => (k.curBound j).trans (h.curBound j), fun j => (k.oldBound j).trans (h.oldBound j)⟩

theorem of_host (h : t.host = s.host) : BinderFrame s t :=
  ⟨by rw [h], fun j => by rw [State.binding, h, ← State.binding], fun j => by rw [State.binding, h, ← State.binding]⟩

theorem setBinding {b : Binding} (hcur : b.curBound = (s.binding i).curBound) (hold : b.oldBound = (s.binding i).oldBound) :
    BinderFrame s (s.setBinding i b) := by
  refine ⟨rfl, fun j => ?_, fun j => ?_⟩ <;> by_cases hj : j = i
  · rw [hj, State.binding_setBinding_self, hcur]
  · rw [State.binding_setBinding_ne _ _ hj]
  · rw [hj, State.binding_setBinding_self, hold]
  · rw [State.binding_setBinding_ne _ _ hj]

theorem event (s : State) (i code detail addr : Nat) : BinderFrame s (s.event i code detail addr) :=
  of_host (EventFrame.event ..).host

/-- Settling an Inset changes its state and its deadline, never who is bound. -/
theorem bindSettle (s : State) (i : Nat) : BinderFrame s (s.bindSettle i) := by
  unfold State.bindSettle
  dsimp only
  split
  · split
    · exact of_host rfl
    · exact setBinding rfl rfl
  split
  · exact of_host rfl
  split
  · exact setBinding rfl rfl
  · refine BinderFrame.trans ?_ (event ..)
    exact setBinding rfl rfl

end BinderFrame

/-! ### The switch instant (R347) -/

theorem execSwitchInstant_grace {t : Nat} (hi : i < 16) (hold : (s.binding i).oldBound = true)
    (ht : (s.binding i).deadline = some t) : execSwitchInstant i s =
      if s.clk.cycle < t then .next s
      else .next ((s.setBinding i { s.binding i with oldBound := false }).bindSettle i) := by
  rw [execSwitchInstant, if_neg hi.not_ge]
  dsimp only
  rw [hold, ht]

/-- Before the end of the grace, or with no old binder, nothing is switched. -/
theorem execSwitchInstant_stands (hi : i < 16) (h : (s.binding i).oldBound = false ∨ (s.binding i).deadline = none
    ∨ ∃ t, (s.binding i).deadline = some t ∧ s.clk.cycle < t) : execSwitchInstant i s = .next s := by
  rw [execSwitchInstant, if_neg hi.not_ge]
  dsimp only
  rcases h with hold | ht | ⟨t, ht, hearly⟩
  · rw [hold]
  · rw [ht]
    cases (s.binding i).oldBound <;> rfl
  · rw [ht]
    cases (s.binding i).oldBound with
    | false => rfl
    | true => exact if_pos hearly

/-! ### The loss of the host link (R350) -/

/-- The Inset has no binder. -/
def State.unbound (s : State) (j : Nat) : Prop := (s.binding j).curBound = false ∧ (s.binding j).oldBound = false

theorem BinderFrame.unbound {s t : State} {j : Nat} (h : BinderFrame s t) (hs : s.unbound j) : t.unbound j := by
  obtain ⟨hcur, hold⟩ := hs
  exact ⟨(h.curBound j).trans hcur, (h.oldBound j).trans hold⟩

/-- Every binder of an Inset is released. -/
def State.releaseBinders (s : State) (i : Nat) : State :=
  if (s.binding i).curBound ∨ (s.binding i).oldBound then
    ((s.setBinding i { s.binding i with curBound := false, oldBound := false }).event i Code.HOST_LINK_LOST 0 0).bindSettle i
  else s

theorem execHostLinkLost_eq (s : State) : execHostLinkLost s =
    .next ((upto 16).foldl State.releaseBinders { s with host := { s.host with linkUp := false } }) := rfl

theorem State.linkUp_releaseBinders (s : State) (i : Nat) : (s.releaseBinders i).host.linkUp = s.host.linkUp := by
  unfold State.releaseBinders
  split
  · exact ((BinderFrame.event ..).trans (.bindSettle ..)).linkUp
  · rfl

/-- An Inset is unbound after its own release, and remains so through those of others. -/
theorem State.unbound_releaseBinders {j : Nat} (h : s.unbound j ∨ j = i) : (s.releaseBinders i).unbound j := by
  unfold State.releaseBinders
  split
  · refine ((BinderFrame.event ..).trans (.bindSettle ..)).unbound ?_
    rw [State.unbound]
    by_cases hj : j = i
    · rw [hj, State.binding_setBinding_self]
      exact ⟨rfl, rfl⟩
    · rw [State.binding_setBinding_ne _ _ hj]
      exact h.resolve_right hj
  next hfree =>
    rw [not_or, Bool.not_eq_true, Bool.not_eq_true] at hfree
    rcases h with h | rfl
    · exact h
    · exact hfree

theorem execHostLinkLost_unbinds (s : State) (hi : i < 16) :
    ∃ t, execHostLinkLost s = .next t ∧ t.host.linkUp = false ∧ t.unbound i := by
  refine ⟨_, execHostLinkLost_eq s, ?_, ?_⟩
  · exact List.foldlRecOn (motive := fun t : State => t.host.linkUp = false) _ _ rfl
      fun t ht j _ => (t.linkUp_releaseBinders j).trans ht
  · exact foldl_establishes (P := State.unbound) (fun _ _ => State.unbound_releaseBinders (.inr rfl))
      (fun _ _ _ h => State.unbound_releaseBinders (.inl h)) _ _ i (.inr (mem_upto.2 hi))

/-! ### The abort of orphans (R350) -/

/-- The open requests of an orphan complete into the log, and are counted. -/
def State.closeOrphan (s : State) (i : Nat) : State :=
  (s.closeRequests i Code.ORPHAN_ABORT false none).1.bump i G.ORPHAN_ABORTS
    (s.closeRequests i Code.ORPHAN_ABORT false none).2

/-- The four queue pairs of an Inset return to their defaults. -/
def State.resetQueues (s : State) (i : Nat) : State := (upto 4).foldl (fun s q => s.setQueue i q QueuePair.reset) s

theorem State.queue_resetQueues (s : State) (i : Nat) {q : Nat} (hq : q < 4) :
    (s.resetQueues i).queue i q = QueuePair.reset := by
  refine foldl_establishes (P := fun t q => t.queue i q = QueuePair.reset) (fun t q => t.queue_setQueue_self i q _)
    (fun t r q h => ?_) _ s q (.inr (mem_upto.2 hq))
  by_cases hr : q = r
  · rw [hr, State.queue_setQueue_self]
  · rw [State.queue_setQueue_ne _ _ _ hr, h]

/-- The Inset's waiting submissions are gone, and it is UNBOUND with its log clear. -/
def State.unbindOrphan (s : State) (i : Nat) : State :=
  (s.setSubs (s.host.subs.filter (fun m => m.inset != i))).setBinding i
    { s.binding i with state := 0, deadline := none, xlogHead := 0, xlogTail := 0 }

theorem State.binding_unbindOrphan (s : State) (i : Nat) : (s.unbindOrphan i).binding i =
    { s.binding i with state := 0, deadline := none, xlogHead := 0, xlogTail := 0 } :=
  State.binding_setBinding_self ..

theorem State.queue_unbindOrphan (s : State) (i f q : Nat) : (s.unbindOrphan i).queue f q = s.queue f q := rfl

theorem State.inset_of_mem_subs_unbindOrphan {m : SubMark} (h : m ∈ (s.unbindOrphan i).host.subs) : m.inset ≠ i := by
  obtain ⟨-, hm⟩ := List.mem_filter.1 h
  exact bne_iff_ne.1 hm

theorem execOrphanAbort_no_deadline (hi : i < 16) (h : (s.binding i).deadline = none) : execOrphanAbort i s = .next s := by
  rw [execOrphanAbort, if_neg hi.not_ge]
  dsimp only
  rw [h]

theorem execOrphanAbort_deadline {t : Nat} (hi : i < 16) (ht : (s.binding i).deadline = some t) : execOrphanAbort i s =
    if (s.binding i).state ≠ 3 ∨ (s.binding i).request.isSome ∨ s.tick.lastAt < t then .next s
    else .next (((s.closeOrphan i).resetQueues i).unbindOrphan i) := by
  rw [execOrphanAbort, if_neg hi.not_ge]
  dsimp only
  rw [ht]
  rfl

/-- Only an orphan whose grace is over, and for which no binding has been applied, is aborted. -/
theorem execOrphanAbort_stands (hi : i < 16) (h : (s.binding i).deadline = none ∨ (s.binding i).state ≠ 3
    ∨ (s.binding i).request.isSome = true ∨ ∃ t, (s.binding i).deadline = some t ∧ s.tick.lastAt < t) :
    execOrphanAbort i s = .next s := by
  cases ht : (s.binding i).deadline with
  | none => exact execOrphanAbort_no_deadline hi ht
  | some t =>
    rw [execOrphanAbort_deadline hi ht, if_pos]
    rcases h with h | h | h | ⟨t', ht', h⟩
    · rw [ht] at h
      cases h
    · exact .inl h
    · exact .inr (.inl h)
    · cases ht.symm.trans ht'
      exact .inr (.inr h)

theorem execOrphanAbort_over {t : Nat} (hi : i < 16) (ht : (s.binding i).deadline = some t)
    (hstate : (s.binding i).state = 3) (hreq : (s.binding i).request = none) (hover : t ≤ s.tick.lastAt) :
    execOrphanAbort i s = .next (((s.closeOrphan i).resetQueues i).unbindOrphan i) := by
  rw [execOrphanAbort_deadline hi ht, if_neg]
  simp [hstate, hreq, hover]

/-! ### The holdoff of a vector (R333) -/

theorem execIntHoldoff_eq {v : Nat} (hi : i < 16) (hv : v < 128) : execIntHoldoff i v s =
    if (Tab.find (s.inset i).gathered v).isNone || (s.inset i).masked || s.inHoldoff i v then .next s
    else .next (s.fireVector i v) := by
  rw [execIntHoldoff, if_neg (by omega)]

end Sys2Proof.Machine

open Sys2Proof Sys2Proof.Machine

/-- Settles O51. That a row whose conditions do not hold changes nothing is log entry 2, and that a deadline is a cycle set where
the binders change stands with `State.bindFast` and `State.bindSettle` (entry 81): both are the model's own reading. -/
theorem bindingsEndAtTheirInstants : Obligations.BindingsEndAtTheirInstants := by
  intro s i hi b
  refine ⟨fun h => ?_, fun t hold ht hover => ?_, ?_, fun h => ?_, fun t ht hstate hreq hover => ?_, fun v hv => ?_⟩
  · rw [exec_switchInstant]
    exact execSwitchInstant_stands hi h
  · rw [exec_switchInstant, execSwitchInstant_grace hi hold ht, if_neg hover.not_gt]
  · rw [exec_hostLinkLost]
    exact execHostLinkLost_unbinds s hi
  · rw [exec_orphanAbort]
    exact execOrphanAbort_stands hi h
  · refine ⟨_, (exec_orphanAbort ..).trans (execOrphanAbort_over hi ht hstate hreq hover), ?_⟩
    rw [State.binding_unbindOrphan]
    refine ⟨rfl, rfl, rfl, rfl, fun q hq => ?_, fun m => State.inset_of_mem_subs_unbindOrphan⟩
    rw [State.queue_unbindOrphan, State.queue_resetQueues _ _ hq]
  · rw [exec_intHoldoff, execIntHoldoff_eq hi hv]
end

section
/-!
PROOFS. The rows of the write-only entries (R354 to R356): one form serves all 16, and a good write reaches its entry's action
only behind every check of Table 17-9.
-/

namespace Sys2Proof.Machine

section
variable {s u : State} {r : GazReq} {key c : Nat} {e : EntryRow} {v : Bytes} {act : State → Nat → Bytes → State × Nat}

theorem State.woRow_other (h : r.op ≠ 2 ∨ r.key ≠ key ∨ s.serves = false) : s.woRow r key act = .next s := by
  refine if_neg ?_
  rintro ⟨hop, hkey, hserves⟩
  rcases h with h | h | h
  · exact h hop
  · exact h hkey
  · exact Bool.eq_false_iff.1 h hserves

theorem State.woRow_named (hop : r.op = 2) (hkey : r.key = key) (hserves : s.serves = true) :
    s.woRow r key act = .next (s.actWrite r act) :=
  if_pos ⟨hop, hkey, hserves⟩

/-! ### The outcomes of a write that acts at once -/

theorem State.actWrite_refused (h : (s.unqueue r).entryFor r true = .error c) :
    s.actWrite r act = (s.unqueue r).respond r c := by
  simp only [State.actWrite, h]

theorem State.actWrite_badValue (h : (s.unqueue r).entryFor r true = .ok e) (hv : (s.unqueue r).value r e = (u, .error c)) :
    s.actWrite r act = u.respond r c := by
  simp only [State.actWrite, h, hv]

theorem State.actWrite_partial (h : (s.unqueue r).entryFor r true = .ok e) (hv : (s.unqueue r).value r e = (u, .ok none)) :
    s.actWrite r act = u.respond r 0 := by
  simp only [State.actWrite, h, hv]

/-- A whole value still has to lie in the entry's range, and the header's reserved bits have to be 0, before the action runs. -/
theorem State.actWrite_whole (h : (s.unqueue r).entryFor r true = .ok e) (hv : (s.unqueue r).value r e = (u, .ok (some v))) :
    s.actWrite r act =
      if !e.inRange (leNat v) then u.respond r Code.VALUE_RANGE
      else if !GazH.reservedOk r.hdr then u.respond r Code.RESERVED_SET
      else (act u r.inst v).1.respond r (act u r.inst v).2 := by
  simp only [State.actWrite, h, hv]

end

theorem exec_of_mem_writeOnlyRows {r : GazReq} {key : Nat} {i : Instr} {act : State → Nat → Bytes → State × Nat}
    (h : (key, i, act) ∈ writeOnlyRows r) (s : State) : exec i s = s.woRow r key act := by
  have hrows : ∀ row ∈ writeOnlyRows r, exec row.2.1 s = s.woRow r row.1 row.2.2 := by
    simp only [writeOnlyRows, List.forall_mem_cons]
    exact ⟨exec_flashFormat r s, exec_ckptRestore r s, exec_preempt r s, exec_insetReset r s, exec_bindRelease r s,
      exec_roleChange r s, exec_suspectClear r s, exec_counterClear r s, exec_sampleReset r s, exec_attestNonce r s,
      exec_floorCert r s, exec_ownerKey r s, exec_imageWrite r s, exec_measureExtend r s, exec_debugToken r s,
      exec_insetStart r s, fun _ => nofun⟩
  exact hrows _ h

end Sys2Proof.Machine

open Sys2Proof Sys2Proof.Machine

/-- Settles O54. That any other request changes nothing is log entry 2; the order of the checks and the layouts of the records
that some entries take are the model's reading (log entries 79, 90 and 105). -/
theorem writeOnlyEntriesActOnAGoodWrite : Obligations.WriteOnlyEntriesActOnAGoodWrite := by
  intro r key i act hrow s
  rw [exec_of_mem_writeOnlyRows hrow]
  refine ⟨fun h => State.woRow_other h, fun hop hkey hserves => ?_⟩
  rw [State.woRow_named hop hkey hserves]
  refine ⟨fun c h => ?_, fun e u h => ⟨fun c hv => ?_, fun hv => ?_,
    fun v hv => ⟨fun hout => ?_, fun hin hres => ?_, fun hin hres => ?_⟩⟩⟩
  · rw [State.actWrite_refused h]
  · rw [State.actWrite_badValue h hv]
  · rw [State.actWrite_partial h hv]
  · rw [State.actWrite_whole h hv, hout]
    rfl
  · rw [State.actWrite_whole h hv, hin, hres]
    rfl
  · rw [State.actWrite_whole h hv, hin, hres]
    rfl
end

section
/-!
PROOFS. The staged sets (R354, R357 to R360): what a set holds after another is put, made PENDING or emptied, and what each of
the seven common rows answers on a request of its own operation.
-/

namespace Sys2Proof

/-- Changing every value of a table by `f` changes what is read of it by `f`, where `f` leaves the default as it is. -/
theorem Tab.get_map_value {α : Type} {d : α} {f : α → α} (hd : f d = d) (t : Tab α) (k : Nat) :
    Tab.get d (t.map (fun e => (e.1, f e.2))) k = f (Tab.get d t k) := by
  induction t with
  | nil => exact hd.symm
  | cons e t ih =>
    by_cases hk : k = e.1
    · simp [Tab.get, Tab.find, hk]
    · simpa [Tab.get, Tab.find, hk] using ih

end Sys2Proof

namespace Sys2Proof.Machine

section
variable {s : State} {r : GazReq} {i j : Nat}

/-! ### What a set holds -/

@[simp] theorem State.stageSet_putSet_self (s : State) (i : Nat) (t : StageSet) : (s.putSet i t).stageSet i = t := by
  by_cases ht : t = StageSet.empty
  · simp [State.stageSet, State.putSet, GazState.set, Tab.get, ht]
  · simp [State.stageSet, State.putSet, GazState.set, ht]

theorem State.stageSet_putSet_ne (s : State) (t : StageSet) (h : j ≠ i) : (s.putSet i t).stageSet j = s.stageSet j := by
  by_cases ht : t = StageSet.empty
  · simp [State.stageSet, State.putSet, GazState.set, Tab.get, ht, Tab.find_del_ne _ h]
  · simp [State.stageSet, State.putSet, GazState.set, ht, Tab.get_set_ne _ _ _ h]

/-! ### Reads -/

theorem State.readRow_refused {val : State → EntryRow → GVal} {c : Nat} (h : (s.unqueue r).entryFor r false = .error c) :
    s.readRow r val = (s.unqueue r).respond r c := by
  simp only [State.readRow, h]

theorem State.readRow_answered {val : State → EntryRow → GVal} {e : EntryRow} (h : (s.unqueue r).entryFor r false = .ok e)
    (hres : GazH.reservedOk r.hdr = true) :
    s.readRow r val = (s.unqueue r).answerRead r e (val (s.unqueue r) e) := by
  simp only [State.readRow, h, hres]
  rfl

theorem execRead_taken (hserves : s.serves = true) (hop : r.op = 1) :
    execRead r s = .next (s.readRow r (fun s _ => s.entryValue r.path r.inst r.key)) := by
  rw [execRead, hserves]
  exact if_pos hop

/-- The value that READ_STAGED answers: an RWS entry's staged one first. -/
def State.stagedValue (s : State) (r : GazReq) (e : EntryRow) : GVal :=
  (if e.acc = .rws then Tab.find (s.stageSet r.inst).staged (rkey r.inst r.key) else none).getD
    (s.entryValue r.path r.inst r.key)

theorem execReadStaged_other (h : r.op ≠ 3) : execReadStaged r s = .next s := if_neg fun hrow => h hrow.2

theorem execReadStaged_taken (hserves : s.serves = true) (hop : r.op = 3) :
    execReadStaged r s = .next (s.readRow r (fun s e => s.stagedValue r e)) := by
  rw [execReadStaged, if_pos ⟨hserves, hop⟩]
  congr 2
  funext u e
  rw [State.stagedValue]
  cases (if e.acc = .rws then Tab.find (u.stageSet r.inst).staged (rkey r.inst r.key) else none) <;> rfl

/-! ### WRITE of a staged entry -/

theorem execWrite_other (h : r.op ≠ 2) : execWrite r s = .next s := if_pos (.inr h)

/-- A WRITE that is to be staged: the first failing check is answered, and a good one goes to its set. -/
def State.stageRow (s : State) (r : GazReq) : State :=
  match (s.unqueue r).entryFor r true with
  | .error c => (s.unqueue r).respond r c
  | .ok e => (s.unqueue r).stageWrite r e

theorem State.stageRow_refused {c : Nat} (h : (s.unqueue r).entryFor r true = .error c) :
    s.stageRow r = (s.unqueue r).respond r c := by
  rw [State.stageRow, h]

theorem State.stageRow_good {e : EntryRow} (h : (s.unqueue r).entryFor r true = .ok e) :
    s.stageRow r = (s.unqueue r).stageWrite r e := by
  rw [State.stageRow, h]

theorem execWrite_staged (hserves : s.serves = true) (hop : r.op = 2)
    (hacc : ∀ e, entryOf r.key = some e → e.acc ≠ .wo ∧ e.acc ≠ .rw) :
    execWrite r s = .next (s.stageRow r) := by
  rw [execWrite, if_neg (by simp [hserves, hop])]
  cases hentry : entryOf r.key with
  | none => rfl
  | some e =>
    obtain ⟨hwo, hrw⟩ := hacc e hentry
    simp only [if_neg hwo, if_neg hrw]
    rfl

/-! ### Requests on sets -/

theorem State.setRow_other {op : Nat} {write : Bool} {act : State → Nat → State} (h : r.op ≠ op) :
    s.setRow r op write act = .next s :=
  if_pos (.inr h)

theorem State.setRow_taken {op : Nat} {write : Bool} {act : State → Nat → State} (h : SetRequest s r op write) :
    s.setRow r op write act = .next (act (s.unqueue r) r.inst) := by
  obtain ⟨hserves, hop, hformed, hallowed, hreserved⟩ := h
  simp [State.setRow, hserves, hop, hformed, hallowed, hreserved]

/-! ### CHECK (R357) -/

theorem State.checkSet_refused (s : State) (h : (s.stageSet i).state = 0 ∨ (s.stageSet i).state = 3) :
    s.checkSet r i = s.respond r Code.STAGE_STATE :=
  if_pos h

/-- Set `i` with the outcome of its CHECK: the state that follows, and the record of CHECK_DETAIL. -/
def State.recordCheck (s : State) (i state rec_ : Nat) : State :=
  let u := s.putSet i { s.stageSet i with state := state, stale := false }
  { u with gaz := { u.gaz with details := Tab.set u.gaz.details i rec_ } }

theorem State.stageSet_recordCheck (s : State) (i state rec_ : Nat) :
    (s.recordCheck i state rec_).stageSet i = { s.stageSet i with state := state, stale := false } :=
  s.stageSet_putSet_self i _

theorem State.checkSet_passed (s : State) (hempty : (s.stageSet i).state ≠ 0) (hpending : (s.stageSet i).state ≠ 3)
    (h : (s.candidate i).run = none) : s.checkSet r i = (s.recordCheck i 2 0).answer r 0 id (zeros 32) := by
  rw [State.checkSet, if_neg (not_or.2 ⟨hempty, hpending⟩), h]
  rfl

theorem State.checkSet_failed (s : State) {f : Fail} (hempty : (s.stageSet i).state ≠ 0) (hpending : (s.stageSet i).state ≠ 3)
    (h : (s.candidate i).run = some f) :
    s.checkSet r i = (s.recordCheck i 1 f.record).answer r f.code id (toLe 32 f.record) := by
  rw [State.checkSet, if_neg (not_or.2 ⟨hempty, hpending⟩), h]
  rfl

/-! ### APPLY (R358) -/

theorem State.applyRow_unchecked (s : State) (h : (s.stageSet i).state ≠ 2) : s.applyRow r i = s.respond r Code.STAGE_STATE :=
  if_pos h

theorem State.applyRow_stale (s : State) (h : (s.stageSet i).state = 2) (hstale : (s.stageSet i).stale = true) :
    s.applyRow r i = s.respond r Code.STAGE_STALE := by
  rw [State.applyRow, if_neg (not_not.2 h), if_pos hstale]

theorem State.applyRow_late (s : State) (h : (s.stageSet i).state = 2) (hstale : (s.stageSet i).stale = false)
    (hlate : s.tooLate (GazH.arg r.hdr) = true ∨ s.tickNo + 2 ^ 32 < GazH.arg r.hdr) :
    s.applyRow r i = s.respond r Code.APPLY_LATE := by
  rw [State.applyRow, if_neg (not_not.2 h), if_neg (Bool.eq_false_iff.1 hstale), if_pos hlate]

/-- A set once another is PENDING: its CHECK, where it passed one, is out of date. -/
def StageSet.outdate (t : StageSet) : StageSet := if t.state = 2 then { t with stale := true } else t

/-- Every set with its CHECK out of date. -/
def State.outdateSets (s : State) : State :=
  { s with gaz := { s.gaz with sets := s.gaz.sets.map (fun e => (e.1, e.2.outdate)) } }

theorem State.stageSet_outdateSets (s : State) (j : Nat) : s.outdateSets.stageSet j = (s.stageSet j).outdate :=
  Tab.get_map_value rfl _ _

@[simp] theorem State.stageSet_dropImages (s : State) (i j : Nat) : (s.dropImages i).stageSet j = s.stageSet j := rfl

/-- Set `i` PENDING at boundary `b`. -/
def State.makePending (s : State) (i b : Nat) : State :=
  (s.outdateSets.putSet i { s.stageSet i with state := 3, bound := b, stale := false }).dropImages i

theorem State.applyRow_pends (s : State) (h : (s.stageSet i).state = 2) (hstale : (s.stageSet i).stale = false)
    (hlate : s.tooLate (GazH.arg r.hdr) = false) (hfar : GazH.arg r.hdr ≤ s.tickNo + 2 ^ 32)
    (hfloor : s.floorHolds i = false) (hgate : s.gatePast i (GazH.arg r.hdr) = false) :
    s.applyRow r i = (s.makePending i (GazH.arg r.hdr)).respond r 0 := by
  rw [State.applyRow, if_neg (not_not.2 h), if_neg (Bool.eq_false_iff.1 hstale),
    if_neg (not_or.2 ⟨Bool.eq_false_iff.1 hlate, hfar.not_gt⟩), if_neg (Bool.eq_false_iff.1 hfloor),
    if_neg (Bool.eq_false_iff.1 hgate)]
  rfl

theorem State.stageSet_makePending_self (s : State) (i b : Nat) :
    (s.makePending i b).stageSet i = { s.stageSet i with state := 3, bound := b, stale := false } := by
  rw [State.makePending, State.stageSet_dropImages, State.stageSet_putSet_self]

theorem State.stageSet_makePending_ne (s : State) (b : Nat) (h : j ≠ i) :
    (s.makePending i b).stageSet j = (s.stageSet j).outdate := by
  rw [State.makePending, State.stageSet_dropImages, State.stageSet_putSet_ne _ _ h, State.stageSet_outdateSets]

theorem State.inst_ne_of_mem_dropImages {m : ImageIn} (h : m ∈ (s.dropImages i).gaz.images) : m.inst ≠ i :=
  bne_iff_ne.1 (List.mem_filter.1 h).2

/-! ### DISCARD (R360) -/

/-- Set `i` EMPTY, and its images in progress dropped. -/
def State.emptySet (s : State) (i : Nat) : State := (s.putSet i StageSet.empty).dropImages i

theorem State.stageSet_emptySet_self (s : State) (i : Nat) : (s.emptySet i).stageSet i = StageSet.empty := by
  rw [State.emptySet, State.stageSet_dropImages, State.stageSet_putSet_self]

theorem State.stageSet_emptySet_ne (s : State) (h : j ≠ i) : (s.emptySet i).stageSet j = s.stageSet j := by
  rw [State.emptySet, State.stageSet_dropImages, State.stageSet_putSet_ne _ _ h]

theorem State.discardRow_empty (s : State) (h : (s.stageSet i).state = 0) : s.discardRow r i = s.respond r 0 := if_pos h

theorem State.discardRow_late (s : State) (h : (s.stageSet i).state = 3) (hlate : s.tooLate (s.stageSet i).bound = true) :
    s.discardRow r i = s.respond r Code.APPLY_LATE := by
  rw [State.discardRow, if_neg (by omega), if_pos ⟨h, hlate⟩]

theorem State.discardRow_empties (s : State) (h : (s.stageSet i).state ≠ 0)
    (hlate : (s.stageSet i).state = 3 → s.tooLate (s.stageSet i).bound = false) :
    s.discardRow r i = (s.emptySet i).respond r 0 := by
  rw [State.discardRow, if_neg h, if_neg fun hpend => Bool.eq_false_iff.1 (hlate hpend.1) hpend.2]
  rfl

end

end Sys2Proof.Machine

open Sys2Proof Sys2Proof.Machine

/-- Settles O55. That a row leaves another operation's request alone is log entry 2; that CHECK of an EMPTY or PENDING set is
STAGE_STATE, and a passed one clears the record, entry 105; when a CHECK is out of date and which images are dropped, entries
105 and 106; which rule fails first, entry 101. -/
theorem stagedSetsFollowTheirStates : Obligations.StagedSetsFollowTheirStates := by
  intro s r q set
  rw [exec_readStaged, exec_check, exec_apply, exec_discard, exec_setState, exec_write, exec_read, execCheck, execApply,
    execDiscard, execSetState]
  refine ⟨⟨execReadStaged_other, State.setRow_other, State.setRow_other, State.setRow_other, State.setRow_other,
    execWrite_other⟩, fun hserves => ⟨fun hop => ?_, fun hop e h hres => ?_, fun hop hacc => ?_⟩,
    fun hreq => ?_, fun hreq => ?_, fun hreq => ?_, fun hreq => ?_⟩
  · rw [execRead_taken hserves hop]
    exact ⟨fun c h => by rw [State.readRow_refused h], fun e h hres => by rw [State.readRow_answered h hres]⟩
  · rw [execReadStaged_taken hserves hop, State.readRow_answered h hres]
    rfl
  · rw [execWrite_staged hserves hop hacc]
    exact ⟨fun c h => by rw [State.stageRow_refused h], fun e h => by rw [State.stageRow_good h]⟩
  · rw [State.setRow_taken hreq]
    refine ⟨fun h => congrArg _ (q.checkSet_refused h), fun hempty hpending => ⟨fun hrun => ?_, fun f hrun => ?_⟩⟩
    · exact ⟨_, congrArg _ (q.checkSet_passed hempty hpending hrun), State.stageSet_recordCheck ..⟩
    · exact ⟨_, congrArg _ (q.checkSet_failed hempty hpending hrun), State.stageSet_recordCheck ..⟩
  · rw [State.setRow_taken hreq]
    refine ⟨fun h => congrArg _ (q.applyRow_unchecked h), fun h hstale => congrArg _ (q.applyRow_stale h hstale),
      fun h hstale hlate => congrArg _ (q.applyRow_late h hstale hlate), fun h hstale hlate hfar hfloor hgate => ?_⟩
    exact ⟨_, congrArg _ (q.applyRow_pends h hstale hlate hfar hfloor hgate), State.stageSet_makePending_self ..,
      fun j hj => State.stageSet_makePending_ne _ _ hj, fun m hm => State.inst_ne_of_mem_dropImages hm, rfl, rfl⟩
  · rw [State.setRow_taken hreq]
    refine ⟨fun h => congrArg _ (q.discardRow_empty h), fun h hlate => congrArg _ (q.discardRow_late h hlate),
      fun h hlate => ⟨_, congrArg _ (q.discardRow_empties h hlate), ?_, ?_, fun j hj => ?_, rfl⟩⟩
    · rw [State.stageSet_emptySet_self]
      rfl
    · rw [State.stageSet_emptySet_self]
      rfl
    · rw [State.stageSet_emptySet_ne _ hj]
      rfl
  · exact State.setRow_taken hreq
end

section
/-!
PROOFS. Counters (R392, R393), and what the block holds right after reset (R372, R431).
-/

namespace Sys2Proof.Machine

section
variable {c d : Nat}

theorem CtrState.values_add (t : CtrState) (c n : Nat) :
    (t.add c n).values = t.values.set c ((t.values.get 0 c + n) % 2 ^ 48) := rfl

theorem CtrState.wrapped_add (t : CtrState) (c n : Nat) :
    (t.add c n).wrapped = if 2 ^ 48 ≤ t.values.get 0 c + n then t.wrapped.set c 1 else t.wrapped := rfl

theorem CtrState.wrapped_add_self (t : CtrState) (c n : Nat) : (t.add c n).wrapped.get 0 c =
    if 2 ^ 48 ≤ t.values.get 0 c + n then 1 else t.wrapped.get 0 c := by
  rw [CtrState.wrapped_add]
  split
  · exact Tab.get_set_self ..
  · rfl

theorem CtrState.wrapped_add_ne (t : CtrState) (n : Nat) (h : d ≠ c) :
    (t.add c n).wrapped.get 0 d = t.wrapped.get 0 d := by
  rw [CtrState.wrapped_add]
  split
  · exact Tab.get_set_ne _ _ _ h
  · rfl

end

end Sys2Proof.Machine

open Sys2Proof Sys2Proof.Machine

/-- Settles O13. -/
theorem counterAddsModuloTwoTo48 : Obligations.CounterAddsModuloTwoTo48 := by
  refine ⟨fun t c n => ⟨?_, t.wrapped_add_self c n, fun d hd => ⟨?_, t.wrapped_add_ne n hd⟩⟩,
    fun t c => ⟨Tab.get_set_self .., Tab.get_set_self .., fun d hd => ⟨Tab.get_set_ne _ _ _ hd, Tab.get_set_ne _ _ _ hd⟩⟩⟩
  · rw [CtrState.values_add, Tab.get_set_self]
  · rw [CtrState.values_add, Tab.get_set_ne _ _ _ hd]

namespace Sys2Proof.Machine

theorem MemState.wordState_reset (w : Nat) : MemState.reset.wordState w = .clean := by
  unfold MemState.wordState
  split <;> rfl

/-- With nothing listed every byte reads 0: R372's fills, which the model shows from reset on. -/
theorem MemState.byte_reset (a : Nat) : MemState.reset.byte a = 0 := rfl

theorem MemState.readByte_reset (a : Nat) : MemState.reset.readByte a = 0 :=
  MemState.readByte_clean (MemState.wordState_reset _)

/-- No entry has been set, so each reads its default. -/
theorem State.val_reset (i k : Nat) : Dict.val State.reset.gaz.regs i k = entryDefault k := rfl

theorem State.num_reset (i k : Nat) : State.reset.num i k = (entryDefault k).toNat := rfl

end Sys2Proof.Machine

/-- Settles O7. That the lock, the Sheet and tick numbers start at 0, and that the fills of start-up are seen from reset on, is
the choice of log entry 1. -/
theorem resetStateHoldsItsDefaults : Obligations.ResetStateHoldsItsDefaults := by
  have hphase : entryDefault G.START_PHASE = .num 0 := by decide +kernel
  have hlock : entryDefault G.TICK_LOCK = .num 0 := by decide +kernel
  have hperiod : entryDefault G.TICK_PERIOD = .num 500 := by decide +kernel
  have hseq : entryDefault G.SHEET_SEQ = .num 0 := by decide +kernel
  refine ⟨rfl, fun a => ⟨MemState.byte_reset a, MemState.readByte_reset a, MemState.wordState_reset a⟩, rfl, State.val_reset,
    ?_, ?_, ?_, fun i => ?_, fun _ => rfl, fun _ => rfl, fun _ => rfl, fun _ => rfl, rfl, rfl⟩
  · rw [State.node, State.num_reset, hphase, GVal.toNat]
  · rw [State.lock, State.node, State.num_reset, hlock, GVal.toNat]
  · rw [State.node, State.num_reset, hperiod, GVal.toNat]
  · rw [State.seq, State.num_reset, hseq, GVal.toNat]
end

section
/-!
PROOFS. The core voltage loop (R420, R421), the torus reference (R423) and the temperatures (R428, R429).
-/

namespace Sys2Proof.Machine

/-- What every step of a fold keeps, the fold keeps. -/
theorem State.foldl_keeps {α β : Type} {f : State → α → State} (g : State → β) (h : ∀ s a, g (f s a) = g s) (l : List α)
    (s : State) : g (l.foldl f s) = g s := by
  induction l generalizing s with
  | nil => rfl
  | cons a l ih => exact (ih _).trans (h s a)

section
variable {s : State} {m : Nat}

/-! ### Core voltage (R420, R421) -/

theorem State.marginLow_eq_false (h : s.node G.VMARGIN_FLOOR_PS ≤ m) : s.marginLow m = false := decide_eq_false h.not_gt

theorem State.marginLow_eq_true (h : m < s.node G.VMARGIN_FLOOR_PS) : s.marginLow m = true := decide_eq_true h

/-- What a new setpoint touches. -/
theorem State.setSetpoint_frame (s : State) (mv : Nat) : s.setSetpoint mv =
    { s with clk := { s.clk with setpointMv := (s.setSetpoint mv).clk.setpointMv, setpointAt := (s.setSetpoint mv).clk.setpointAt
                                 setpointSum := (s.setSetpoint mv).clk.setpointSum }
             out := (s.setSetpoint mv).out } := by
  unfold State.setSetpoint
  dsimp only
  split <;> rfl

theorem State.setpointMv_setSetpoint (s : State) (mv : Nat) : (s.setSetpoint mv).clk.setpointMv =
    if s.clk.vrFails.contains 0 then s.clk.setpointMv else mv := by
  unfold State.setSetpoint
  by_cases hlost : s.clk.vrFails.contains 0 = true
  · simp only [hlost, Bool.or_true, if_true]
  · by_cases hmv : mv = s.clk.setpointMv
    · simp only [hmv, decide_true, Bool.true_or, if_true, ite_self]
    · simp only [hmv, hlost, decide_false, Bool.or_self, Bool.false_eq_true, if_false]
      rfl

/-- The state in which the emergency step is counted and the loop is held from the running tick. -/
def State.emergencyHeld (s : State) : State :=
  { s.bumpNode G.VCORE_EMERGENCY 1 with clk := { s.clk with emergencyAt := some s.tickNo, quietTicks := 0 } }

theorem execVcoreEmergency_stands (h : s.serves = false ∨ s.node G.VMARGIN_FLOOR_PS ≤ m) :
    execVcoreEmergency m s = .next s := by
  refine if_pos ?_
  rcases h with h | h
  · rw [h]
    rfl
  · rw [State.marginLow_eq_false h, Bool.not_false, Bool.or_true]

theorem execVcoreEmergency_low (hserves : s.serves = true) (h : m < s.node G.VMARGIN_FLOOR_PS) :
    execVcoreEmergency m s = .next (s.emergencyHeld.setSetpoint (min 820 (s.clk.setpointMv + 5))) := by
  have htick : (s.bumpNode G.VCORE_EMERGENCY 1).tickNo = s.tickNo := State.bump_num_ne s 1 (by decide)
  simp only [execVcoreEmergency, hserves, State.marginLow_eq_true h, Bool.not_true, Bool.or_self, Bool.false_eq_true, if_false,
    htick, State.bumpNode_clk]
  rfl

theorem execVcoreMargin_stands (h : s.serves = false ∨ s.node G.VMARGIN_FLOOR_PS ≤ m) : execVcoreMargin m s = .next s := by
  refine if_neg ?_
  rcases h with h | h
  · simp [h]
  · simp [State.marginLow_eq_false h]

theorem execVcoreMargin_low (hserves : s.serves = true) (h : m < s.node G.VMARGIN_FLOOR_PS) : execVcoreMargin m s =
    if s.vcoreAtTop then .next ((s.nodeEvent Code.VCORE_MARGIN 0 0).nodeFault) else .next s := by
  rw [execVcoreMargin, hserves, State.marginLow_eq_true h]
  rfl

/-! ### The torus reference (R423) -/

variable {ppb cxl : Int} {spread : Nat}

/-- The reference as measured lies outside its limits. -/
def refOut (ppb : Int) (spread : Nat) : Prop := 100000 < ppb.natAbs ∨ 20000 < spread

theorem refOut_iff : (decide (100000 < ppb.natAbs) || decide (20000 < spread)) = true ↔ refOut ppb spread := by
  rw [Bool.or_eq_true, decide_eq_true_iff, decide_eq_true_iff, refOut]

/-- The state in which a check has recorded its measurement. -/
def State.refMeasured (s : State) (ppb cxl : Int) : State :=
  s.setReg 16 G.REF_STATUS (.blob (toLe 4 (wrapInt 32 ppb) ++ toLe 4 (wrapInt 32 cxl)))

/-- The measured state with the reference taken as out, or as in, and `good` good checks in a row. -/
def State.refTaken (s : State) (ppb cxl : Int) (bad : Bool) (good : Nat) : State :=
  { s.refMeasured ppb cxl with clk := { s.clk with refBad := bad, refGoodMs := good } }

theorem execRefclkCheck_dead (h : s.alive = false) : execRefclkCheck ppb spread cxl s = .next s := by
  rw [execRefclkCheck, h]
  rfl

/-- The ports are held and the event raised only by the check that first finds the reference out. -/
theorem execRefclkCheck_out (h : s.alive = true) (hout : refOut ppb spread) : execRefclkCheck ppb spread cxl s =
    .next (if s.clk.refBad then s.refTaken ppb cxl true 0
      else (s.refTaken ppb cxl true 0).holdPorts.nodeEvent Code.REFCLK_OUT 0 0) := by
  rw [execRefclkCheck, h]
  dsimp only
  rw [if_neg (by decide), if_pos (refOut_iff.2 hout)]
  by_cases hheld : s.clk.refBad = true
  · rw [if_pos hheld]
    exact congrArg _ (if_neg (by simp [hheld]))
  · rw [if_neg hheld]
    exact congrArg _ (if_pos (by simp [hheld]))

theorem execRefclkCheck_in (h : s.alive = true) (hin : ¬ refOut ppb spread) : execRefclkCheck ppb spread cxl s =
    if s.clk.refBad then
      if s.clk.refGoodMs + 1 < 100 then
        .next { s.refMeasured ppb cxl with clk := { s.clk with refGoodMs := s.clk.refGoodMs + 1 } }
      else .next (if (s.refTaken ppb cxl false 0).profiled then (s.refTaken ppb cxl false 0).trainPorts
        else s.refTaken ppb cxl false 0)
    else .next (s.refMeasured ppb cxl) := by
  rw [execRefclkCheck, h]
  dsimp only
  rw [if_neg (by decide), if_neg (refOut_iff.not.2 hin)]
  rfl

theorem State.clk_trainPorts (s : State) : s.trainPorts.clk = s.clk := by
  unfold State.trainPorts
  exact State.foldl_keeps State.clk (fun _ _ => State.modPort_clk ..) _ s

/-! ### Temperatures (R428, R429) -/

/-- A temperature is at its trip limit: the die at 110 degrees, or a stack at 100. -/
def tripHeat (temps : TempIn) : Prop := 1760 ≤ nth 0 temps 0 ∨ (temps.drop 1).any (fun x => decide (1600 ≤ x)) = true

theorem State.thermTripN_warnOnce (s : State) (k : Nat) (t limit : Int) :
    (s.warnOnce k t limit).clk.thermTripN = s.clk.thermTripN := by
  unfold State.warnOnce
  dsimp only
  split
  · rw [(EventFrame.nodeEvent ..).clk]
  · rfl

/-- The state once every sensor has been read and its threshold checked, with no sensor forced. -/
def State.heatRead (s : State) (temps : TempIn) : State :=
  (rangeFrom 1 8).foldl (fun (s : State) k => s.warnOnce k (nth 0 temps k) 1440)
    ((s.setReg 16 G.TEMP_MAX (.blob (temps.flatMap (fun t => toLe 2 (wrapInt 16 t))))).warnOnce 0 (nth 0 temps 0)
      ((16 * s.node G.THERMAL_WARN_C : Nat) : Int))

theorem State.thermTripN_heatRead (s : State) (temps : TempIn) : (s.heatRead temps).clk.thermTripN = s.clk.thermTripN :=
  (State.foldl_keeps (fun u => u.clk.thermTripN) (fun u _ => u.thermTripN_warnOnce ..) _ _).trans
    (State.thermTripN_warnOnce ..)

theorem execThermalSample_unserved (temps : TempIn) (h : s.serves = false) : execThermalSample temps s = .next s := by
  rw [execThermalSample, h]
  rfl

open Classical in
theorem execThermalSample_read {temps : TempIn} (hserves : s.serves = true) (hlen : temps.length = 9)
    (hforced : s.timedEntry 0x103 0 = none) : execThermalSample temps s =
      if tripHeat temps ∧ s.clk.thermTripN = false then
        .next (((({ s.heatRead temps with clk := { (s.heatRead temps).clk with thermTripN := true } } : State).nodeEvent
          Code.THERMAL_TRIP 0 0).nodeFault).emit (.thermTrip true))
      else .next (s.heatRead temps) := by
  have hts : (temps ++ List.replicate 9 (0 : Int)).take 9 = temps := List.take_left' hlen
  have htrip : ((decide (1760 ≤ nth 0 temps 0) || (temps.drop 1).any (fun t => decide (1600 ≤ t)))
      && !(s.heatRead temps).clk.thermTripN) = true ↔ tripHeat temps ∧ s.clk.thermTripN = false := by
    rw [State.thermTripN_heatRead, tripHeat, Bool.and_eq_true, Bool.or_eq_true, decide_eq_true_iff, Bool.not_eq_true']
  rw [execThermalSample, hserves, if_neg (by decide)]
  dsimp only
  rw [hts, hforced]
  exact ite_congr (propext htrip) (fun _ => rfl) (fun _ => rfl)

end

end Sys2Proof.Machine

open Sys2Proof Sys2Proof.Machine

/-- Settles O57. That rows whose conditions do not hold change nothing is log entry 2, that any bit of STATUS_WORD is a fault
entry 91, and that the loop holds from the tick of an emergency step entry 92; that every port trains anew once the reference is
good, and that TEMP_MAX is the latest sample, is entry 121. -/
theorem sensorsActOnVoltageHeatAndClock : Obligations.SensorsActOnVoltageHeatAndClock := by
  intro s
  refine ⟨fun m => ⟨fun h => ?_, fun hserves hlow => ⟨?_, fun htop => ?_, fun htop => ?_⟩⟩,
    fun rails => ⟨fun h => ?_, fun h => ?_⟩,
    fun ppb spread cxl => ⟨fun h => ?_, fun h => ⟨fun hout hheld => ?_, fun hout hfree => ?_, fun hin hfree => ?_,
      fun hin hheld hfew => ?_, fun hin hheld hmany => ?_⟩⟩,
    fun temps => ⟨fun h => ?_, fun hserves hlen hforced => ?_⟩⟩
  · exact ⟨(exec_vcoreEmergency ..).trans (execVcoreEmergency_stands h), (exec_vcoreMargin ..).trans (execVcoreMargin_stands h)⟩
  · have hframe := s.emergencyHeld.setSetpoint_frame (min 820 (s.clk.setpointMv + 5))
    refine ⟨_, (exec_vcoreEmergency ..).trans (execVcoreEmergency_low hserves hlow),
      (congrArg (fun t => t.clk.emergencyAt) hframe :), (congrArg (fun t => t.clk.quietTicks) hframe :),
      State.setpointMv_setSetpoint .., ?_, ?_, ?_⟩
    · exact (congrArg (fun t => t.node G.VCORE_EMERGENCY) hframe :).trans (State.bump_num_self s 16 _ 1 (by decide))
    · exact (congrArg State.mem hframe :).trans (State.bumpNode_mem ..)
    · exact (congrArg State.sched hframe :).trans (State.bumpNode_sched ..)
  · rw [exec_vcoreMargin, execVcoreMargin_low hserves hlow, if_pos htop]
  · rw [exec_vcoreMargin, execVcoreMargin_low hserves hlow, if_neg (Bool.eq_false_iff.1 htop)]
  · rw [exec_vrPoll, exec_vrAlert, execVrPoll, execVrAlert, h]
    exact ⟨rfl, rfl⟩
  · rw [exec_vrPoll, exec_vrAlert, execVrPoll, execVrAlert, h]
    exact ⟨rfl, rfl⟩
  · rw [exec_refclkCheck, execRefclkCheck_dead h]
  · rw [exec_refclkCheck, execRefclkCheck_out h hout, if_pos hheld]
    rfl
  · rw [exec_refclkCheck, execRefclkCheck_out h hout, if_neg (Bool.eq_false_iff.1 hfree)]
    rfl
  · rw [exec_refclkCheck, execRefclkCheck_in h hin, if_neg (Bool.eq_false_iff.1 hfree)]
    rfl
  · rw [exec_refclkCheck, execRefclkCheck_in h hin, if_pos hheld, if_pos (by omega)]
    rfl
  · have hclk : (if (s.refTaken ppb cxl false 0).profiled then (s.refTaken ppb cxl false 0).trainPorts
        else s.refTaken ppb cxl false 0).clk = { s.clk with refBad := false, refGoodMs := 0 } := by
      split
      · exact State.clk_trainPorts _
      · rfl
    refine ⟨_, ?_, (congrArg ClkState.refBad hclk :), (congrArg ClkState.refGoodMs hclk :)⟩
    rw [exec_refclkCheck, execRefclkCheck_in h hin, if_pos hheld, if_neg (by omega)]
  · rw [exec_thermalSample, execThermalSample_unserved temps h]
  · rw [exec_thermalSample, execThermalSample_read hserves hlen hforced]
    by_cases htrip : tripHeat temps ∧ s.clk.thermTripN = false
    · rw [if_pos htrip]
      exact ⟨_, rfl, fun _ _ => ⟨_, rfl⟩, fun hdie hstacks =>
        absurd htrip.1 (not_or.2 ⟨hdie.not_ge, Bool.eq_false_iff.1 hstacks⟩)⟩
    · rw [if_neg htrip]
      exact ⟨_, rfl, fun hhot hfirst => absurd ⟨hhot, hfirst⟩ htrip, fun _ _ => s.thermTripN_heatRead temps⟩
end

section
/-!
PROOFS. The scrubber (R374, R375), remaps and spare channels (R376, R377), channel fills (R373) and the Repair Record (R380,
R381).
-/

namespace Sys2Proof.Machine

section
variable {s : State} {mc inst row ch : Nat}

/-! ### Memory made zero (R372, R373) -/

theorem MemState.byte_clear (m : MemState) (lo n x : Nat) :
    (m.clear lo n).byte x = if x < lo ∨ lo + n ≤ x then m.byte x else 0 := by
  have hfind : Tab.find (m.clear lo n).bytes x =
      if (decide (x < lo) || decide (lo + n ≤ x)) = true then Tab.find m.bytes x else none :=
    Tab.find_keep (fun a => decide (a < lo) || decide (lo + n ≤ a)) m.bytes x
  rw [MemState.byte, Tab.get, hfind]
  simp only [Bool.or_eq_true, decide_eq_true_eq]
  split <;> rfl

theorem MemState.wordState_clear_inside (m : MemState) {lo n w : Nat} (hlo : lo ≤ w * 64) (hhi : w * 64 < lo + n) :
    (m.clear lo n).wordState w = .clean := by
  have hgone : (decide (w * 64 < lo) || decide (lo + n ≤ w * 64)) = false := by simp [hlo, hhi]
  simp only [MemState.wordState, MemState.clear, Tab.find_keep, hgone, Bool.false_eq_true, if_false, ite_self]

/-- Where the range is made of whole words, a word outside it keeps its bytes and its check field. -/
theorem MemState.wordState_clear_outside (m : MemState) {lo n w : Nat} (hlo : 64 ∣ lo) (hn : 64 ∣ n)
    (h : w * 64 < lo ∨ lo + n ≤ w * 64) : (m.clear lo n).wordState w = m.wordState w := by
  have hkept : (decide (w * 64 < lo) || decide (lo + n ≤ w * 64)) = true := by simpa using h
  have hsame : ({ m.clear lo n with t0bad := m.t0bad } : MemState).wordState w = m.wordState w :=
    MemState.wordState_congr (by simp only [MemState.clear, Tab.find_keep, hkept, if_true]) rfl
      fun x hx => (m.byte_clear lo n x).trans (if_pos (by omega))
  rw [← hsame]
  simp only [MemState.wordState, MemState.clear, Tab.find_keep, hkept, if_true]
  rfl

/-! ### The scrubber (R374, R375) -/

/-- The scrubber's position in a unit of `words` words after a read at `now` that found nothing: the next word, or the first
word of a further lap. -/
def Scrub.moved (sc : Scrub) (words now : Nat) : Scrub :=
  if sc.next + 1 < words then { sc with next := sc.next + 1, lastAt := now }
  else { sc with next := 0, lastAt := now, lapMs := (now - sc.lapAt) / 2400000, laps := sc.laps + 1, lapAt := now, ce := [] }

/-- The scrubber's position in a channel or on-die memory. -/
def State.scrubAt (s : State) (mc inst : Nat) : Scrub := s.rel.scrubs.get Scrub.reset (scrubKey mc inst)

def State.putScrub (s : State) (mc inst : Nat) (sc : Scrub) : State :=
  { s with rel := { s.rel with scrubs := s.rel.scrubs.set (scrubKey mc inst) sc } }

theorem execScrubRead_notReady (hinst : inst < instCount mc) (hmc : mc < 3)
    (h : s.scrubReady mc inst (s.scrubAt mc inst) = false) (f : ScrubFound) : execScrubRead mc inst f s = .next s := by
  rw [execScrubRead, if_neg hinst.not_ge, if_neg hmc.ne]
  exact if_pos (by rw [← State.scrubAt, h]; rfl)

theorem execScrubRead_vote_asStored (hinst : inst < instCount 3) : execScrubRead 3 inst .asStored s = .next s := by
  rw [execScrubRead, if_neg hinst.not_ge, if_pos rfl, State.vote]

/-- With no injection due, nothing found and the lap within its limit, the read only moves the scrubber. -/
theorem execScrubRead_clean (hinst : inst < instCount mc) (hmc : mc < 3)
    (h : s.scrubReady mc inst (s.scrubAt mc inst) = true)
    (hdue : mc = 2 ∨ s.timedEntry 0x015 (if mc = 0 then inst else 256 + inst) = none)
    (hfind : findOf (s.storedAt mc inst (s.scrubAt mc inst).next) .asStored = .clean)
    (hslow : (s.scrubAt mc inst).slow = false)
    (hlap : s.clk.cycle ≤ (s.scrubAt mc inst).lapAt + s.node G.SCRUB_LAP_LIMIT_S * 2400000000) :
    execScrubRead mc inst .asStored s =
      .next (s.putScrub mc inst ((s.scrubAt mc inst).moved (instWords mc) s.clk.cycle)) := by
  have hnone : (if mc = 2 then none else s.timedEntry 0x015 (if mc = 0 then inst else 256 + inst)) = none := by
    rcases hdue with h2 | hnone
    · exact if_pos h2
    · rw [hnone, ite_self]
  rw [State.scrubAt] at *
  rw [execScrubRead, if_neg hinst.not_ge, if_neg hmc.ne]
  dsimp only
  rw [h, hnone]
  simp only [hfind, State.scrubAct, hslow, hlap.not_gt, decide_false, Bool.not_true, Bool.and_false, Bool.or_false,
    Bool.false_eq_true, if_false, State.putScrub, Scrub.moved]

/-! ### Remaps and spare channels (R376, R377) -/

/-- What the end of a copy adds to the state in which it has ended: an event, and one entry for the Repair Record (R381). -/
structure RepairNoted (s t : State) : Prop where
  remaps : t.rel.remaps = s.rel.remaps
  remapping : t.rel.remapping = s.rel.remapping
  pending : t.rel.pendingRepairs.length = s.rel.pendingRepairs.length + 1
  unit : ∀ g, t.unit g = s.unit g

theorem RepairNoted.of (s : State) (code detail addr kind unit failed spare : Nat) :
    RepairNoted s ((s.nodeEvent code detail addr).addRepair kind unit failed spare) := by
  have hrel : (s.nodeEvent code detail addr).rel = s.rel := (EventFrame.nodeEvent ..).rel
  have hbsu : (s.nodeEvent code detail addr).bsu = s.bsu := (EventFrame.nodeEvent ..).bsu
  refine ⟨(congrArg RelState.remaps hrel :), (congrArg RelState.remapping hrel :), ?_, fun g => ?_⟩
  · rw [← hrel]
    exact List.length_append
  · exact (congrArg (fun b => b.units.get StackUnit.reset g) hbsu :)

/-- The state in which a copy has ended and its row or line is remapped, before its event and repair entry. -/
def State.remapped (s : State) (mc inst row : Nat) : State :=
  { s with rel := { s.rel with remapping := s.rel.remapping.erase (mc, inst, row)
                               remaps := s.rel.remaps ++ [(mc, inst, row)] } }

theorem execRemapApplied_stands (hinst : inst < instCount mc) (hmc : mc < 3)
    (h : s.rel.remapping.contains (mc, inst, row) = false ∨ (mc = 0 ∧ bit (s.unit inst).mode 0 = true)) :
    execRemapApplied mc inst row s = .next s := by
  rw [execRemapApplied, if_neg (by omega)]
  refine if_pos ?_
  rcases h with h | ⟨rfl, hproc⟩
  · rw [h]
    rfl
  · rw [hproc]
    exact Bool.or_true _

theorem execRemapApplied_asked (hinst : inst < instCount mc) (hmc : mc < 3)
    (h : s.rel.remapping.contains (mc, inst, row) = true) (hmem : mc = 0 → bit (s.unit inst).mode 0 = false) :
    ∃ t, execRemapApplied mc inst row s = .next t ∧ RepairNoted (s.remapped mc inst row) t := by
  have hgo : ¬ (!s.rel.remapping.contains (mc, inst, row) || (mc == 0 && bit (s.unit inst).mode 0)) = true := by
    rw [h]
    simpa using hmem
  rw [execRemapApplied, if_neg (by omega), if_neg hgo]
  exact ⟨_, rfl, .of ..⟩

theorem execChannelSpared_stands (hch : ch < 256) (h : (s.unit ch).sparing = false ∨ bit (s.unit ch).mode 0 = true) :
    execChannelSpared ch s = .next s := by
  rw [execChannelSpared, if_neg hch.not_ge]
  exact if_pos (h.imp_left fun hidle => by rw [hidle]; rfl)

/-- The state in which a channel's sparing has ended: the spare has remap entries of its own. -/
def State.spared (s : State) (ch : Nat) : State :=
  let other := fun (x : Nat × Nat × Nat) => !(x.1 == 0 && x.2.1 == ch)
  { s.setUnit ch { s.unit ch with sparing := false } with
    rel := { s.rel with remaps := s.rel.remaps.filter other, remapping := s.rel.remapping.filter other } }

theorem execChannelSpared_copied (hch : ch < 256) (hsparing : (s.unit ch).sparing = true)
    (hmem : bit (s.unit ch).mode 0 = false) :
    ∃ t, execChannelSpared ch s = .next t ∧ RepairNoted (s.spared ch) t := by
  have hgo : ¬ ((!(s.unit ch).sparing) = true ∨ bit (s.unit ch).mode 0 = true) := by simp [hsparing, hmem]
  rw [execChannelSpared, if_neg hch.not_ge]
  exact ⟨_, if_neg hgo, .of ..⟩

theorem State.unit_spared_self (s : State) (ch : Nat) : (s.spared ch).unit ch = { s.unit ch with sparing := false } :=
  State.unit_setUnit_self s ch _

theorem State.unit_spared_ne (s : State) {g : Nat} (h : g ≠ ch) : (s.spared ch).unit g = s.unit g :=
  State.unit_setUnit_ne s _ h

theorem State.not_of_mem_remaps_spared {x : Nat × Nat × Nat} (h : x ∈ (s.spared ch).rel.remaps) :
    ¬ (x.1 = 0 ∧ x.2.1 = ch) := by
  simpa only [Bool.not_eq_true', Bool.and_eq_false_iff, beq_eq_false_iff_ne, not_and_or] using (List.mem_filter.1 h).2

/-! ### Channel fills (R373) -/

theorem execChannelFill_idle (hch : ch < 256) (h : (s.unit ch).filling = false) : execChannelFill ch s = .next s := by
  rw [execChannelFill, if_neg hch.not_ge, h]
  rfl

/-- The state in which a channel's storage is zero and its fill has ended. -/
def State.filled (s : State) (ch : Nat) : State :=
  ({ s with mem := s.mem.clear (ch * channelBytes) channelBytes }).setUnit ch { s.unit ch with filling := false }

theorem execChannelFill_filling (hch : ch < 256) (h : (s.unit ch).filling = true) :
    execChannelFill ch s = .next (s.filled ch) := by
  rw [execChannelFill, if_neg hch.not_ge, h]
  rfl

theorem State.mem_filled (s : State) (ch : Nat) :
    (s.filled ch).mem = s.mem.clear (ch * 3221225472) 3221225472 := rfl

/-! ### The Repair Record (R380, R381) -/

theorem execRepairRecordWrite_stands (ok : Bool)
    (h : s.rel.pendingRepairs = [] ∨ s.bootWritable = false ∨ s.serves = false) :
    execRepairRecordWrite ok s = .next s := by
  refine if_pos ?_
  rcases h with h | h | h
  · rw [h]
    rfl
  · rw [h, Bool.not_false, Bool.or_true, Bool.true_or]
  · rw [h, Bool.not_false, Bool.or_true]

/-- The Repair Record that takes in the pending repairs. -/
def State.nextRecord (s : State) : Bytes :=
  repairRecord (RepR.generation s.rel.record + 1) (RepR.factory s.rel.record)
    ((RepR.entries s.rel.record ++ s.rel.pendingRepairs).take 4096)

/-- The block of the boot area with the older copy of the record. -/
def State.olderCopy (s : State) : Nat := if RepR.generation (s.boot 14) ≤ RepR.generation (s.boot 15) then 14 else 15

/-- The state in which the next record stands in the older copy and in force. -/
def State.recorded (s : State) : State :=
  let u := s.setBoot s.olderCopy s.nextRecord
  (({ u with rel := { u.rel with record := s.nextRecord, pendingRepairs := [] } }).setNum 16 G.REPAIR_PENDING 0).extendMr 2
    (Config.sha3 s.nextRecord)

theorem execRepairRecordWrite_pending (ok : Bool) (hpending : s.rel.pendingRepairs ≠ []) (hboot : s.bootWritable = true)
    (hserves : s.serves = true) :
    execRepairRecordWrite ok s = .next (if ok then s.recorded else s.nodeEvent Code.REPAIR_WRITE_FAIL 0 0) := by
  have hgo : ¬ (s.rel.pendingRepairs.isEmpty || !s.bootWritable || !s.serves) = true := by
    simp [hpending, hboot, hserves]
  rw [execRepairRecordWrite, if_neg hgo]
  cases ok <;> rfl

theorem State.boot_recorded (s : State) : s.recorded.boot s.olderCopy = s.nextRecord := Tab.get_set_self ..

theorem State.pending_recorded (s : State) : s.recorded.node G.REPAIR_PENDING = 0 :=
  (State.num_setNum_self _ 16 G.REPAIR_PENDING 0).trans (Nat.zero_mod _)

end

end Sys2Proof.Machine

open Sys2Proof Sys2Proof.Machine

/-- Settles O58. That rows whose conditions do not hold change nothing is log entry 2; how the on-die memories are
numbered, and the triplicated words as class 3, are entry 88, the record in force from its write on is entry 89 and its layout entry 90. -/
theorem scrubsAndRepairsFollowTheirRules : Obligations.ScrubsAndRepairsFollowTheirRules := by
  refine ⟨fun s mc inst hinst hmc => ⟨fun h f => ?_, fun h hdue hfind hslow hlap => ?_⟩, fun s inst hinst => ?_,
    fun s mc inst row hinst hmc => ⟨fun h => ?_, fun h hmem => ?_⟩,
    fun s ch hch => ⟨fun h => ?_, fun hsparing hmem => ?_, fun h => ?_, fun h => ?_⟩,
    fun s => ⟨fun ok h => ?_, fun hpending hboot hserves => ⟨?_, ?_⟩⟩⟩
  · exact (exec_scrubRead ..).trans (execScrubRead_notReady hinst hmc h f)
  · exact ⟨_, (exec_scrubRead ..).trans (execScrubRead_clean hinst hmc h hdue hfind hslow hlap), rfl,
      fun k hk => Tab.get_set_ne _ _ _ hk, Tab.get_set_self ..⟩
  · exact (exec_scrubRead ..).trans (execScrubRead_vote_asStored hinst)
  · exact (exec_remapApplied ..).trans (execRemapApplied_stands hinst hmc h)
  · obtain ⟨t, hexec, hnoted⟩ := execRemapApplied_asked hinst hmc h hmem
    exact ⟨t, (exec_remapApplied ..).trans hexec, hnoted.remaps, hnoted.remapping, hnoted.pending⟩
  · exact (exec_channelSpared ..).trans (execChannelSpared_stands hch h)
  · obtain ⟨t, hexec, hnoted⟩ := execChannelSpared_copied hch hsparing hmem
    refine ⟨t, (exec_channelSpared ..).trans hexec, (hnoted.unit ch).trans (s.unit_spared_self ch),
      fun g hg => (hnoted.unit g).trans (s.unit_spared_ne hg), fun x hx => ?_⟩
    rw [hnoted.remaps] at hx
    exact State.not_of_mem_remaps_spared hx
  · exact (exec_channelFill ..).trans (execChannelFill_idle hch h)
  · refine ⟨_, (exec_channelFill ..).trans (execChannelFill_filling hch h), State.unit_setUnit_self .., fun x hlo hhi => ?_,
      fun x hout => ?_⟩
    · rw [State.mem_filled, MemState.byte_clear, if_neg (by omega), MemState.wordState_clear_inside _ (by omega) (by omega)]
      exact ⟨rfl, rfl⟩
    · rw [State.mem_filled, MemState.byte_clear, if_pos (by omega),
        MemState.wordState_clear_outside _ (by omega) (by omega) (by omega)]
      exact ⟨rfl, rfl⟩
  · exact (exec_repairRecordWrite ..).trans (execRepairRecordWrite_stands ok h)
  · exact (exec_repairRecordWrite ..).trans (execRepairRecordWrite_pending false hpending hboot hserves)
  · exact ⟨_, (exec_repairRecordWrite ..).trans (execRepairRecordWrite_pending true hpending hboot hserves), rfl,
      s.pending_recorded, rfl, s.boot_recorded⟩
end
